-- ==== Sys2Proof/Word.lean ====
section
/-!
DEFINITION. The word types of the SWV-4096 and their plainest arithmetic (spec/00: R18, R19, Table 0-3).
Counts, addresses, ticks and indexes are natural numbers; octets of memory are 8-bit words.
-/

namespace Sys2Proof

/-- One octet of HBM, brick SRAM, host memory or an OCTETS value. -/
abbrev Byte := BitVec 8

/-- A sparse store: key and value pairs, keys strictly rising, no pair equal to what an unlisted key reads as. -/
abbrev Store (α : Type) := List (Nat × α)

/-- `x` as an unsigned number of `n` bits. -/
def wrap (n x : Nat) : Nat := x % 2 ^ n

end Sys2Proof
end

