-- ==== Sys2Proof/Syntax.lean ====
section
/-!
DEFINITION. The commands of the block, one constructor per row of spec/opcode_table.json, with the data each carries, and
the messages that those commands bring: mortar messages (spec/05, 07, 08, 11, 12, 13), tide ordered sets (spec/02),
Coastline flits (spec/14), management frames and requests (spec/18) and host accesses (spec/16).
-/

namespace Sys2Proof

/-- An end point of a mortar message (spec/05: Table 5-1, R195). -/
inductive Node where
  /-- Brick at physical course × 64 + position. -/
  | brick (b : Nat)
  /-- The selection unit of a physical course. -/
  | unit (course : Nat)
  /-- The content search array behind the north hub, by bank. -/
  | bank (b : Nat)
  /-- The controller of a pseudo-channel. -/
  | channel (pc : Nat)
  /-- An embedding gather/scatter engine. -/
  | egs (e : Nat)
  /-- The scheduler and its loader, behind the south hub. -/
  | south
deriving DecidableEq, Repr

/-- The traffic classes of Table 5-2. -/
inductive MsgClass where
  | req | rsp | tok | cfg
deriving DecidableEq, Repr

/-- What a mortar message carries (spec/05: Table 5-4; spec/07: Table 7-2; spec/08: Table 8-2; spec/11: Table 11-4;
spec/12: Table 12-5). -/
inductive MsgBody where
  | readReq (off len : Nat)
  | writeReq (off : Nat) (data : List Byte)
  | readData (data : List Byte)
  | writeAccepted (status : Nat)
  | readFailed (status : Nat)
  | token (slot handleIn handle fill : Nat)
  | selGrant (unit : Nat)
  | selData (elems : List (Bool × Nat)) (last : Bool)
  | selResult (off : Nat) (data : List Byte)
  | selDone (fault : Nat)
  | csaGrant (bank : Nat)
  | csaData (elems : List (Bool × Nat)) (last : Bool)
  | csaResult (off : Nat) (data : List Byte)
  | csaDone (fault outcome moves gen : Nat)
  | hbmRead (addr len : Nat)
  | hbmWrite (addr : Nat) (data : List Byte)
  | hbmReadData (data : List Byte)
  | hbmWriteAccepted (status : Nat)
  | hbmReadFailed (status : Nat)
  | listData (data : List Byte)
  | egsResult (off : Nat) (data : List Byte)
  | egsDone (fault unique remote missing : Nat)
  /-- The command block that a SEND brings to a selection unit, a bank or an engine. -/
  | command (block : List Byte)
  /-- A line of a shadow bank. -/
  | bankLine (data : List Byte)
deriving DecidableEq, Repr

/-- What upsets did to a message on its way (R236 to R239): payload words and headers with a single-bit error; an uncorrectable
payload; and, where a header cannot be corrected, how many routers of the route the message had passed before. -/
structure Upset where
  words : Nat := 0
  headers : Nat := 0
  poisoned : Bool := false
  lost : Option Nat := none
deriving DecidableEq, Repr

/-- An uncorrectable word that the scheduler meets at a choice: in the slot of a job, by client and ring count, or in any other of
its state (spec/15: R696). -/
inductive SchedUpset where
  | none
  | slot (client pos : Nat)
  | other
deriving DecidableEq, Repr

/-- A mortar message in flight. `due` is the bc in which a same-brick token changes a counter. -/
structure Msg where
  cls : MsgClass
  src : Node
  dst : Node
  tag : Nat
  parity : Nat
  body : MsgBody
  upset : Upset := {}
  due : Nat := 0
deriving DecidableEq, Repr

/-- The fields of a TIDE-channel ordered set (spec/02: Table 2-3); `reserved` is true when a reserved octet is not 0. -/
structure OrderedSet where
  kind : Nat
  sender : Nat
  master : Nat
  flags : Nat
  hop : Nat
  seq : Nat
  tideAtTx : Nat
  txSub : Nat
  reqRxTide : Nat
  reqRxSub : Nat
  reserved : Bool
deriving DecidableEq, Repr

/-- What a Coastline DATA flit says (spec/14: R603, Table 14-2); `crcOk` tells whether its CRC holds: `vc` 0 REQ, 1 RSP, 2 UPD; 56 payload octets. -/
structure Flit where
  crcOk : Bool
  vc : Nat
  dateline : Nat
  seq : Nat
  last : Bool
  ackSeq : Nat
  payload : List Byte
deriving DecidableEq, Repr

/-- A CREDIT_ACK flit (spec/14: Table 14-5): FREED of REQ D0, REQ D1, RSP D0, RSP D1, UPD D0 and UPD D1 in turn. -/
structure CreditAck where
  crcOk : Bool
  reserved : Bool
  ackSeq : Nat
  nak : Option Nat
  freed : List Nat
deriving DecidableEq, Repr

/-- An IDENT flit (spec/14: Table 14-5). -/
structure Ident where
  crcOk : Bool
  reserved : Bool
  sender : Nat
  senderPort : Nat
  topology : Nat
  dimX : Nat
  dimY : Nat
  goodLanes : Nat
  epoch : Nat
  reachId : Nat
deriving DecidableEq, Repr

/-- Who sends a request: a management-port node by its MAC address, or the host mailbox (spec/18: the lease). -/
inductive Source where
  | port (mac : Nat)
  | mailbox
deriving DecidableEq, Repr

/-- A Shoreline request (spec/18: Tables 18-3 and 18-4): the header fields and the body from SDU offset 8. `length` is
SDU_LENGTH as carried; `reserved` is true when a reserved header field is not 0. -/
structure Request where
  src : Source
  seq : Nat
  version : Nat
  opcode : Nat
  length : Nat
  index : Nat
  sub : Nat
  reserved : Bool
  body : List Byte
deriving DecidableEq, Repr

/-- A frame on the management segment (spec/18: Table 18-3, R817); `length` counts its octets with the FCS, and the body
stops where SDU_LENGTH or the frame ends. -/
structure Frame where
  dest : Nat
  tagged : Bool
  etherType : Nat
  length : Nat
  fcsOk : Bool
  request : Request
deriving DecidableEq, Repr

/-- What a cold start finds outside the device's own state: the straps, the units that its self-tests find failed, the time
it took in µs, and the TCLK edges since the root PLL locked (spec/19: Tables 19-1 and 19-6; spec/20: R954; spec/11: R481). -/
structure ColdStart where
  addr : Nat
  boot : Nat
  secure : Bool
  otpOk : Bool
  courses : List Nat
  srams : List Nat
  routers : List Nat
  units : List Nat
  banks : List Nat
  sensors : List Nat
  channels : List Nat
  micros : Nat
  ticks : Nat
deriving DecidableEq, Repr

/-- The commands: one constructor per row of spec/opcode_table.json, in its order. An operand that says what an error did to the
words a command meets says that none did, where it is not given. -/
inductive Instr where
  | generatorEnable (q : Request)
  | generatorPendingStart (g : Nat)
  | cadenceLaunch (g : Nat)
  | syncSend
  | delayRequestSend
  | sync (port : Nat) (payload : List Byte) (rxSub : Nat)
  | delayRequest (port : Nat) (payload : List Byte) (rxSub : Nat)
  | delayResponse (port : Nat) (payload : List Byte) (rxSub : Nat)
  | tideCorrection
  | masterAdopt
  | slewStep
  | syncTimeout
  | restep
  | ppsEdge (sub : Nat) (high : Nat)
  | ppsTimeout
  | ppsOutPulse
  | pllLockLoss
  | opDispatch (bc brick : Nat)
  | relay (bc brick : Nat)
  | endOp (bc brick : Nat)
  | firingComplete (bc brick : Nat)
  | token (bc : Nat) (m : Msg)
  | jobEnd (failed : List Nat)
  | remoteRead (m : Msg)
  | remoteWrite (m : Msg)
  | readData (m : Msg)
  | writeAccepted (m : Msg)
  | readFailed (m : Msg)
  | bankLine (brick line : Nat) (upset : Upset)
  | retireCourse (q : Request)
  | tablesApply (q : Request)
  | tablesApplyPerform
  | select (course : Nat) (upset : Upset := {})
  | unique (course : Nat) (upset : Upset := {})
  | segReduce (course : Nat) (upset : Upset := {})
  | selGrant (m : Msg)
  | selData (m : Msg)
  | selLastData (m : Msg)
  | selResultWrite (m : Msg)
  | selDone (m : Msg)
  | search (bank : Nat) (upset : Upset := {})
  | insert (bank : Nat) (upset : Upset := {})
  | delete (bank : Nat) (upset : Upset := {})
  | updateData (bank : Nat) (upset : Upset := {})
  | csaRead (bank : Nat) (upset : Upset := {})
  | bulkLoad (bank : Nat) (upset : Upset := {})
  | respace (bank : Nat) (upset : Upset := {})
  | clear (bank : Nat) (upset : Upset := {})
  | csaGrant (m : Msg)
  | csaData (m : Msg)
  | csaLastData (m : Msg)
  | csaResultWrite (m : Msg)
  | csaDone (m : Msg)
  | csaBankset (q : Request)
  | entryUnits (q : Request)
  | priorityMode (q : Request)
  | csaClearingDone (bank : Nat)
  | scrubStep (bank : Nat)
  | throttleSample
  | hbmRead (m : Msg)
  | hbmWrite (m : Msg)
  | hbmReadData (m : Msg)
  | hbmWriteAccepted (m : Msg)
  | hbmReadFailed (m : Msg)
  | refresh (channel : Nat)
  | calWindow
  | patrolRead (channel : Nat)
  | retireBlock (q : Request)
  | regionsApply (q : Request)
  | regionsApplyPerform
  | poolNone (egs : Nat) (upset : Upset := {})
  | poolSum (egs : Nat) (upset : Upset := {})
  | poolMean (egs : Nat) (upset : Upset := {})
  | poolWeightedSum (egs : Nat) (upset : Upset := {})
  | listData (m : Msg)
  | egsRowFetched (egs tag row : Nat)
  | egsResultWrite (m : Msg)
  | egsDone (m : Msg)
  | remoteRowTimeout (egs tag row : Nat)
  | heatDecay
  | embApply (q : Request)
  | embApplyPerform
  | update (egs : Nat) (upset : Upset := {})
  | flipCommit (flip : Nat)
  | reclaim (egs : Nat)
  | updRingTail (value : Nat)
  | putRow
  | removeRow
  | retier
  | replicate
  | unreplicate
  | dataFlit (port : Nat) (octets : List Byte)
  | creditAck (port : Nat) (octets : List Byte)
  | controlFlitDue (port : Nat)
  | ident (port : Nat) (octets : List Byte) (lanes : Nat)
  | trainingTimeout (port : Nat)
  | laneLoss (port lanes : Nat)
  | retrainDone (port lanes : Nat)
  | reserveWindow (port : Nat)
  | messageForward (port upset : Nat)
  | rowReq (port upset : Nat)
  | rowData (port upset : Nat)
  | rowNak (port upset : Nat)
  | grad (port upset : Nat)
  | replicaPut (port upset : Nat)
  | replicaRemove (port upset : Nat)
  | updCredit (port upset : Nat)
  | updCreditTimer (member : Nat)
  | discard (port upset : Nat)
  | probe (port upset : Nat)
  | probeAck (port upset : Nat)
  | probeTimer (member : Nat)
  | launchReady (port upset : Nat)
  | launchWaitExpiry (job : Nat)
  | launchGo (port upset : Nat)
  | reachStart
  | launchAbort (port upset : Nat)
  | reachTeardown (port upset : Nat)
  | reachHoldTimeout
  | sqTail (client value : Nat)
  | descriptorFetch (client : Nat) (data : List Byte) (status : Nat)
  | fetchTimeout (client : Nat)
  | jobSelect (upset : SchedUpset := .none)
  | loadComplete
  | bulkEligible (client : Nat)
  | deadlineExpiry (client : Nat)
  | runWatchdog
  | cqHead (client value : Nat)
  | enable (client : Nat)
  | stop (client : Nat)
  | disable (client : Nat)
  | resume (client : Nat)
  | resumeFlush (client : Nat)
  | mbDoorbell (value : Nat)
  | bar2Read (off len : Nat) (bufferBad : Bool := false)
  | bar2Write (off : Nat) (data : List Byte) (poisoned : Bool) (bufferBad : Bool := false)
  | bar0Write (bar off size value : Nat) (poisoned : Bool)
  | resetRequest (value : Nat)
  | hostReset (kind : Nat)
  | linkRetrain
  | msixSend (vector : Nat)
  | faultReport (count : Nat) (parityError : Bool := false)
  | reservationExpiry
  | logRecordWrite (crcBad : Bool := false)
  | uartLine
  | frameReceive (f : Frame)
  | read (q : Request)
  | write (q : Request)
  | blockReadInit (q : Request)
  | blockReadSegment (q : Request)
  | blockWriteInit (q : Request)
  | blockWriteSegment (q : Request)
  | blockEnd (q : Request)
  | blockCancel (q : Request)
  | leaseClaim (q : Request)
  | leaseRenew (q : Request)
  | leaseRelease (q : Request)
  | leaseDelegate (q : Request)
  | leaseRecall (q : Request)
  | leaseExpiry
  | identify (q : Request)
  | notifyAck (q : Request)
  | notifySend
  | notifyRetry (seq : Nat)
  | transferAbandon (src : Source)
  | plcaSettingsApply
  | coldReset (c : ColdStart)
  | startRelease (q : Request)
  | nvCommit (q : Request)
  | flashOperationDone (same : Bool)
  | eraseImages (q : Request)
  | restoreFactoryLive (q : Request)
  | warmReset (q : Request)
  | warmResetDone
  | powerActive (q : Request)
  | powerLull (q : Request)
  | powerHold (q : Request)
  | autoWake
  | wakeDone
  | drainDone
  | thermalTrip
  | dispatchSample (power energy : Nat)
  | sensorCalibration (errors : List Int)
  | router (q : Request)
  | brickLogic (q : Request)
  | brickSram (q : Request)
  | selection (q : Request)
  | csaBank (q : Request)
  | sensors (q : Request)
  | function (q : Request)
  | jtagInstruction (code : Nat)
  | sensorReading (temps stackTemps : List Int)
  | porNAssertion
  | railsRemoved
  | perstNDeassertion
  | linkSettled (rate : Nat) (flit : Bool) (width : Nat)
  | bar0Read (bar off size : Nat)
  | skipFlit (port : Nat) (crcOk : Bool) (errors : List Nat)
  | shoreInputEdge (pin : Nat) (level : Bool)
  | uartRxCharacter
  | tachPeriodTimeout (pin : Nat)
  | flashOperationTimeout
deriving DecidableEq, Repr

end Sys2Proof
end

