-- ==== Sys2Proof/Machine/Bits.lean ====
section
/-!
DEFINITION. Bit fields, byte order, two's complement, saturating counts, CRC-32C and the sparse store
(spec/00: R18, R19; spec/06: R281; spec/21: R959, R969, R970).
-/

namespace Sys2Proof.Machine

/-- The field `w[hi:lo]`. -/
def bits (w hi lo : Nat) : Nat := w / 2 ^ lo % 2 ^ (hi + 1 - lo)

/-- Bit `i` of `w`. -/
def bit (w i : Nat) : Bool := w / 2 ^ i % 2 == 1

/-- A Bool as a one-bit number. -/
def b2n (b : Bool) : Nat := if b then 1 else 0

/-- `w` with bit `i` set to `b`. -/
def setBit (w i : Nat) (b : Bool) : Nat :=
  if b then (if bit w i then w else w + 2 ^ i) else (if bit w i then w - 2 ^ i else w)

/-- `w` with the field of `n` bits from `lo` replaced by `v`. -/
def setField (w lo n v : Nat) : Nat :=
  w - (w / 2 ^ lo % 2 ^ n) * 2 ^ lo + (v % 2 ^ n) * 2 ^ lo

/-- `v` as `n` octets, least significant first (R18). -/
def leBytes : Nat → Nat → List Byte
  | 0, _ => []
  | n + 1, v => BitVec.ofNat 8 v :: leBytes n (v / 256)

/-- `v` as `n` octets, most significant first (R19). -/
def beBytes (n v : Nat) : List Byte := (leBytes n v).reverse

/-- The number that octets spell, least significant first (R18). -/
def ofLe : List Byte → Nat
  | [] => 0
  | b :: r => b.toNat + 256 * ofLe r

/-- The number that octets spell, most significant first (R19). -/
def ofBe (l : List Byte) : Nat := ofLe l.reverse

/-- The `n`-octet little-endian field at offset `off` of a structure image. -/
def le (l : List Byte) (off n : Nat) : Nat := ofLe ((l.drop off).take n)

/-- Two's complement reading of an `n`-bit pattern. -/
def toSigned (n x : Nat) : Int :=
  let y := x % 2 ^ n
  if y < 2 ^ (n - 1) then (y : Int) else (y : Int) - (2 ^ n : Nat)

/-- Two's complement pattern of `x` in `n` bits. -/
def ofSigned (n : Nat) (x : Int) : Nat := (x % (2 ^ n : Nat)).toNat

/-- `x` clamped into `lo` to `hi`. -/
def clampInt (lo hi x : Int) : Int := if x < lo then lo else if hi < x then hi else x

/-- A 32-bit count that saturates (R959). -/
def sat32 (x : Nat) : Nat := if x < 2 ^ 32 then x else 2 ^ 32 - 1

/-- A 64-bit count that wraps (R969, R970). -/
def wrap64 (x : Nat) : Nat := x % 2 ^ 64

/-- The set of the bits `i < n` for which `p i` holds. -/
def maskOf (n : Nat) (p : Nat → Bool) : Nat :=
  ((List.range n).filter p).foldl (fun m i => m + 2 ^ i) 0

/-- How many bits of the low `n` bits of `w` are 1. -/
def popCount (n w : Nat) : Nat := ((List.range n).filter (bit w)).length

/-- The indexes below `n` whose bit of `w` is 1, rising. -/
def bitsOf (n w : Nat) : List Nat := (List.range n).filter (bit w)

/-- Bitwise exclusive or of two numbers. -/
def xorN (a b : Nat) : Nat := a ^^^ b

/-- Every octet of a range of a structure is 0. -/
def zeroAt (l : List Byte) (off n : Nat) : Bool := ((l.drop off).take n).all (fun b => b == 0)

/-- One octet into a CRC-32C register, bit by bit, reflected polynomial 82F6_3B78h (R281). -/
def crcBits : Nat → Nat → Nat
  | 0, c => c
  | n + 1, c => crcBits n (if c % 2 = 1 then xorN (c / 2) 0x82F63B78 else c / 2)

/-- CRC-32C over octets from a register value. -/
def crcFold : List Byte → Nat → Nat
  | [], c => c
  | b :: r, c => crcFold r (crcBits 8 (xorN c b.toNat))

/-- CRC-32C with SEED 0 (R281): register FFFF_FFFFh at the start, complemented at the end. -/
def crc32c (l : List Byte) : Nat := xorN (crcFold l 0xFFFFFFFF) 0xFFFFFFFF

/-- What a key of a sparse store reads as. -/
def Store.get {α : Type} (d : Nat → α) : Store α → Nat → α
  | [], k => d k
  | (k', v) :: r, k => if k' = k then v else Store.get d r k

/-- A pair put into a rising list before the first larger key. -/
def Store.place {α : Type} (k : Nat) (v : α) : Store α → Store α
  | [] => [(k, v)]
  | (k', v') :: r => if k < k' then (k, v) :: (k', v') :: r else (k', v') :: Store.place k v r

/-- The store with no pair at key `k`. -/
def Store.erase {α : Type} (l : Store α) (k : Nat) : Store α := l.filter (fun p => p.1 != k)

/-- Write one key, keeping the canonical form: a value that an unlisted key reads as is not listed. -/
def Store.set {α : Type} [DecidableEq α] (d : Nat → α) (l : Store α) (k : Nat) (v : α) : Store α :=
  if v = d k then Store.erase l k else Store.place k v (Store.erase l k)

/-- Every key of `lo` to `hi - 1` back to what an unlisted key reads as. -/
def Store.clear {α : Type} (l : Store α) (lo hi : Nat) : Store α :=
  l.filter (fun p => p.1 < lo || hi ≤ p.1)

/-- The keys strictly rise and no pair repeats what an unlisted key reads as. -/
def Store.wfFrom {α : Type} [DecidableEq α] (d : Nat → α) : Option Nat → Store α → Bool
  | _, [] => true
  | m, (k, v) :: r =>
    (match m with
      | none => true
      | some j => decide (j < k)) && decide (v ≠ d k) && Store.wfFrom d (some k) r

/-- The canonical form of a sparse store. -/
def Store.wf {α : Type} [DecidableEq α] (d : Nat → α) (l : Store α) : Bool := Store.wfFrom d none l

/-- Octets written one after another from address `a`. -/
def Store.setMany {α : Type} [DecidableEq α] (d : Nat → α) : Store α → Nat → List α → Store α
  | m, _, [] => m
  | m, a, b :: r => Store.setMany d (Store.set d m a b) (a + 1) r

/-- `n` entries read from key `a` on. -/
def Store.getMany {α : Type} (d : Nat → α) (m : Store α) (a : Nat) : Nat → List α
  | 0 => []
  | n + 1 => Store.get d m a :: Store.getMany d m (a + 1) n

/-- Exclusive or with a right shift of itself. -/
def xorShift (n x : Nat) : Nat := xorN x (x / 2 ^ n)

/-- One chunk of Swiven mix-64 (R281), modulo 2^64. -/
def mix64Step (h c : Nat) : Nat :=
  let x := xorShift 31 (xorN c h) * 0xA3B195C4E27D0F6B % 2 ^ 64
  let y := xorShift 29 x * 0x5C2FE8A193D74B35 % 2 ^ 64
  xorShift 32 y

/-- Swiven mix-64 of a key of `len` octets given as its 8-octet chunks (R281). -/
def mix64 (seed len : Nat) (chunks : List Nat) : Nat :=
  chunks.foldl mix64Step (xorN seed (len * 0x8F1D3B27C6A4E591 % 2 ^ 64))

/-- One chunk of tabulation hashing (R281); `t i b` is the table entry. -/
def tabStep (t : Nat → Nat → Nat) (h c : Nat) : Nat :=
  (List.range 8).foldl (fun a i => xorN a (t i ((xorN c h) / 256 ^ i % 256))) 0

/-- A list cut into pieces of `n` (the last may be shorter); `fuel` bounds the pieces. -/
def chunked {α : Type} : Nat → Nat → List α → List (List α)
  | 0, _, _ => []
  | _, _, [] => []
  | f + 1, n, l => l.take n :: chunked f n (l.drop n)

/-- Octets as 8-octet little-endian chunks, the last padded with zeros. -/
def wordsOf (l : List Byte) : List Nat := (chunked l.length 8 l).map ofLe

/-- What an unlisted octet of HBM and brick SRAM reads as: 0, by the clearing of R143 and R481. -/
def zeroByte (_ : Nat) : Byte := 0

end Sys2Proof.Machine
end

