-- ==== Sys2Proof/Machine/Catalogue.lean ====
section
/-!
DEFINITION. The catalogue of dictionary objects: index and subindex range, type, access, persistence, kind, size and
factory default of every object, row by row (spec/23: R1021 to R1029, Tables 23-3 to 23-16; spec/18: Table 18-1).
A default that is not one plain number stands in `Obj.default` and `Obj.octDefault`.
-/

namespace Sys2Proof.Machine

/-- The types of Table 18-1 that objects have. -/
inductive ObjType where
  | bool | u8 | u16 | u32 | u64 | i16 | i32 | f32 | str | octets | blob
deriving DecidableEq, Repr

/-- The access codes of Table 18-2 that objects have (R1024: no object is write-only). -/
inductive ObjAccess where
  | ro | rw | rwq | const
deriving DecidableEq, Repr

/-- The field kinds of Table 0-2. -/
inductive ObjKind where
  | ctrl | stat | w1c | count | cmd | forced
deriving DecidableEq, Repr

/-- One row of the catalogue: every object of a range of indexes and of subindexes with the same attributes. -/
structure ObjRow where
  lo : Nat
  hi : Nat
  subLo : Nat
  subHi : Nat
  ty : ObjType
  access : ObjAccess
  persist : Bool
  kind : ObjKind
  size : Nat
  dflt : Nat
deriving DecidableEq, Repr

/-- Objects of 0h, part 1. -/
def catalogue0_0 : List ObjRow :=
  [ ⟨0x0, 0x0, 1, 1, .u16, .const, false, .stat, 2, 0x1⟩,
    ⟨0x0, 0x0, 2, 2, .u8, .const, false, .stat, 1, 0x1⟩,
    ⟨0x0, 0x0, 3, 3, .u16, .const, false, .stat, 2, 0x5D8⟩,
    ⟨0x0, 0x0, 4, 4, .u16, .const, false, .stat, 2, 0x780⟩,
    ⟨0x0, 0x0, 5, 5, .u16, .const, false, .stat, 2, 0x400⟩,
    ⟨0x0, 0x0, 6, 6, .u8, .const, false, .stat, 1, 0x10⟩,
    ⟨0x1, 0x1, 0, 0, .blob, .ro, false, .stat, 65532, 0x0⟩,
    ⟨0x10, 0x10, 1, 4, .str, .const, false, .stat, 255, 0x0⟩,
    ⟨0x10, 0x10, 5, 5, .u8, .ro, false, .stat, 1, 0x0⟩ ]

/-- Objects of 1000h, part 1. -/
def catalogue1_0 : List ObjRow :=
  [ ⟨0x1000, 0x1000, 1, 1, .octets, .const, false, .stat, 6, 0x0⟩,
    ⟨0x1000, 0x1000, 2, 2, .bool, .rw, true, .ctrl, 1, 0x1⟩,
    ⟨0x1000, 0x1000, 3, 3, .u8, .rw, true, .ctrl, 1, 0x0⟩,
    ⟨0x1000, 0x1000, 4, 4, .u8, .rw, true, .ctrl, 1, 0x8⟩,
    ⟨0x1000, 0x1000, 5, 5, .u8, .rw, true, .ctrl, 1, 0x20⟩,
    ⟨0x1000, 0x1000, 6, 6, .u8, .rw, true, .ctrl, 1, 0x0⟩,
    ⟨0x1000, 0x1000, 7, 7, .u8, .rw, true, .ctrl, 1, 0x80⟩,
    ⟨0x1000, 0x1000, 8, 8, .u8, .ro, false, .stat, 1, 0x0⟩,
    ⟨0x1000, 0x1000, 9, 10, .u64, .rw, false, .count, 8, 0x0⟩,
    ⟨0x1000, 0x1000, 11, 13, .u32, .rw, false, .count, 4, 0x0⟩,
    ⟨0x1000, 0x1000, 14, 14, .octets, .rw, true, .ctrl, 6, 0x0⟩,
    ⟨0x1000, 0x1000, 15, 15, .u16, .rw, true, .ctrl, 2, 0x64⟩,
    ⟨0x1000, 0x1000, 16, 16, .u8, .rw, true, .ctrl, 1, 0x8⟩,
    ⟨0x1000, 0x1000, 17, 17, .u64, .rw, false, .count, 8, 0x0⟩,
    ⟨0x1000, 0x1000, 18, 18, .u32, .rw, false, .count, 4, 0x0⟩,
    ⟨0x1000, 0x1000, 19, 19, .u8, .ro, false, .stat, 1, 0x0⟩,
    ⟨0x1010, 0x1010, 1, 1, .u8, .ro, false, .stat, 1, 0x0⟩,
    ⟨0x1010, 0x1010, 2, 2, .octets, .ro, false, .stat, 6, 0x0⟩,
    ⟨0x1010, 0x1010, 3, 3, .bool, .ro, false, .stat, 1, 0x0⟩,
    ⟨0x1010, 0x1010, 4, 4, .u32, .ro, false, .stat, 4, 0x0⟩,
    ⟨0x1010, 0x1010, 5, 5, .u32, .rw, true, .ctrl, 4, 0x2710⟩,
    ⟨0x1010, 0x1010, 6, 6, .bool, .rw, true, .ctrl, 1, 0x0⟩,
    ⟨0x1010, 0x1010, 7, 8, .u32, .rw, false, .count, 4, 0x0⟩ ]

/-- Objects of 2000h, part 1. -/
def catalogue2_0 : List ObjRow :=
  [ ⟨0x2000, 0x2000, 1, 1, .u8, .ro, false, .stat, 1, 0x0⟩,
    ⟨0x2000, 0x2000, 2, 2, .u32, .rw, false, .count, 4, 0x0⟩,
    ⟨0x2010, 0x2010, 0, 0, .u64, .ro, false, .stat, 8, 0x0⟩,
    ⟨0x2011, 0x2011, 1, 1, .u64, .ro, false, .stat, 8, 0x0⟩,
    ⟨0x2011, 0x2011, 2, 2, .u32, .const, false, .stat, 4, 0x10000⟩,
    ⟨0x2011, 0x2011, 3, 3, .u8, .const, false, .stat, 1, 0x2⟩,
    ⟨0x2020, 0x202F, 1, 1, .bool, .rw, true, .ctrl, 1, 0x0⟩,
    ⟨0x2020, 0x202F, 2, 2, .u32, .rw, true, .ctrl, 4, 0xF4240⟩,
    ⟨0x2020, 0x202F, 3, 3, .u16, .rw, true, .ctrl, 2, 0x0⟩,
    ⟨0x2020, 0x202F, 4, 4, .u16, .rw, true, .ctrl, 2, 0x1⟩,
    ⟨0x2020, 0x202F, 5, 5, .u64, .rw, true, .ctrl, 8, 0x0⟩,
    ⟨0x2020, 0x202F, 6, 6, .u32, .rw, true, .ctrl, 4, 0x0⟩,
    ⟨0x2020, 0x202F, 7, 7, .u64, .ro, false, .stat, 8, 0x0⟩,
    ⟨0x2020, 0x202F, 8, 8, .u64, .rw, false, .count, 8, 0x0⟩,
    ⟨0x2020, 0x202F, 9, 9, .u16, .ro, false, .stat, 2, 0x0⟩,
    ⟨0x2020, 0x202F, 10, 10, .u32, .rw, false, .count, 4, 0x0⟩,
    ⟨0x2030, 0x2030, 1, 2, .u8, .ro, false, .stat, 1, 0x0⟩,
    ⟨0x2030, 0x2030, 3, 3, .u8, .ro, false, .stat, 1, 0xFF⟩,
    ⟨0x2030, 0x2030, 4, 4, .i32, .ro, false, .stat, 4, 0x0⟩,
    ⟨0x2030, 0x2030, 5, 8, .u32, .rw, false, .count, 4, 0x0⟩,
    ⟨0x2030, 0x2030, 9, 9, .u8, .ro, false, .stat, 1, 0x0⟩,
    ⟨0x2030, 0x2030, 10, 10, .octets, .ro, false, .stat, 32, 0x0⟩,
    ⟨0x2040, 0x2040, 1, 1, .u64, .rw, false, .ctrl, 8, 0x0⟩,
    ⟨0x2040, 0x2040, 2, 3, .u64, .ro, false, .stat, 8, 0x0⟩,
    ⟨0x2040, 0x2040, 4, 4, .bool, .ro, false, .stat, 1, 0x0⟩ ]

/-- Objects of 2000h, part 2. -/
def catalogue2_1 : List ObjRow :=
  [ ⟨0x2040, 0x2040, 5, 6, .u32, .rw, false, .count, 4, 0x0⟩,
    ⟨0x2050, 0x2050, 1, 1, .u32, .rwq, true, .ctrl, 4, 0x0⟩ ]

/-- Objects of 3000h, part 1. -/
def catalogue3_0 : List ObjRow :=
  [ ⟨0x3000, 0x3000, 1, 1, .u8, .ro, false, .stat, 1, 0x0⟩,
    ⟨0x3000, 0x3000, 2, 2, .u8, .ro, false, .stat, 1, 0xFF⟩,
    ⟨0x3000, 0x3000, 3, 3, .u16, .ro, false, .stat, 2, 0x100⟩,
    ⟨0x3000, 0x3000, 4, 6, .u64, .rw, false, .count, 8, 0x0⟩,
    ⟨0x3100, 0x313F, 1, 1, .bool, .rw, true, .ctrl, 1, 0x0⟩,
    ⟨0x3100, 0x313F, 2, 2, .u8, .rw, true, .ctrl, 1, 0x4⟩,
    ⟨0x3100, 0x313F, 3, 3, .u16, .ro, false, .stat, 2, 0x0⟩,
    ⟨0x3100, 0x313F, 4, 4, .u64, .rwq, true, .ctrl, 8, 0x0⟩,
    ⟨0x3100, 0x313F, 5, 11, .u64, .rw, false, .count, 8, 0x0⟩,
    ⟨0x3100, 0x313F, 12, 12, .u16, .ro, false, .stat, 2, 0x0⟩,
    ⟨0x3100, 0x313F, 13, 13, .bool, .ro, false, .stat, 1, 0x0⟩,
    ⟨0x3100, 0x313F, 14, 15, .u64, .rw, false, .count, 8, 0x0⟩,
    ⟨0x3100, 0x313F, 16, 16, .u32, .ro, false, .stat, 4, 0x0⟩,
    ⟨0x3100, 0x313F, 17, 17, .u8, .ro, false, .stat, 1, 0x0⟩,
    ⟨0x3200, 0x3200, 1, 1, .u32, .ro, false, .stat, 4, 0x0⟩,
    ⟨0x3200, 0x3200, 2, 5, .u32, .rw, false, .count, 4, 0x0⟩,
    ⟨0x3200, 0x3200, 6, 7, .u64, .rw, false, .count, 8, 0x0⟩ ]

/-- Objects of 4000h, part 1. -/
def catalogue4_0 : List ObjRow :=
  [ ⟨0x4000, 0x4000, 1, 1, .u8, .const, false, .stat, 1, 0x44⟩,
    ⟨0x4000, 0x4000, 2, 2, .u8, .const, false, .stat, 1, 0x40⟩,
    ⟨0x4000, 0x4000, 3, 3, .u8, .ro, false, .stat, 1, 0x40⟩,
    ⟨0x4000, 0x4000, 4, 4, .u8, .ro, false, .stat, 1, 0x4⟩,
    ⟨0x4010, 0x4010, 1, 64, .u8, .ro, false, .stat, 1, 0x0⟩,
    ⟨0x4020, 0x4020, 1, 68, .u8, .ro, false, .stat, 1, 0x0⟩,
    ⟨0x4030, 0x4030, 1, 1, .octets, .rwq, true, .ctrl, 9, 0x0⟩,
    ⟨0x4030, 0x4030, 2, 2, .u16, .rw, false, .cmd, 2, 0x0⟩,
    ⟨0x4040, 0x4040, 1, 2, .u32, .rw, false, .count, 4, 0x0⟩,
    ⟨0x4040, 0x4040, 3, 3, .u16, .ro, false, .stat, 2, 0xFFFF⟩,
    ⟨0x4040, 0x4040, 4, 4, .u64, .ro, false, .stat, 8, 0x0⟩,
    ⟨0x4040, 0x4040, 5, 5, .u8, .rw, false, .w1c, 1, 0x0⟩,
    ⟨0x4050, 0x4050, 1, 1, .u8, .ro, false, .stat, 1, 0x0⟩,
    ⟨0x4050, 0x4050, 2, 2, .u8, .ro, false, .stat, 1, 0xFF⟩,
    ⟨0x4050, 0x4050, 3, 4, .u64, .rw, false, .count, 8, 0x0⟩,
    ⟨0x4060, 0x4060, 1, 1, .u64, .rw, false, .count, 8, 0x0⟩,
    ⟨0x4060, 0x4060, 2, 2, .u32, .rw, false, .count, 4, 0x0⟩,
    ⟨0x4060, 0x4060, 3, 3, .u16, .ro, false, .stat, 2, 0x0⟩,
    ⟨0x4060, 0x4060, 4, 4, .u8, .ro, false, .stat, 1, 0xFF⟩,
    ⟨0x4060, 0x4060, 5, 5, .u16, .const, false, .stat, 2, 0x1⟩,
    ⟨0x4070, 0x4070, 1, 3, .u32, .rw, false, .count, 4, 0x0⟩,
    ⟨0x4070, 0x4070, 4, 4, .u16, .ro, false, .stat, 2, 0xFFFF⟩,
    ⟨0x4070, 0x4070, 5, 5, .u64, .ro, false, .stat, 8, 0x0⟩,
    ⟨0x4070, 0x4070, 6, 6, .u8, .rw, false, .w1c, 1, 0x0⟩,
    ⟨0x4071, 0x4071, 1, 1, .u64, .rw, false, .count, 8, 0x0⟩ ]

/-- Objects of 4000h, part 2. -/
def catalogue4_1 : List ObjRow :=
  [ ⟨0x4071, 0x4071, 2, 2, .u32, .rw, false, .count, 4, 0x0⟩,
    ⟨0x4071, 0x4071, 3, 3, .u32, .ro, false, .stat, 4, 0x0⟩,
    ⟨0x4072, 0x4072, 1, 4, .u64, .rw, false, .count, 8, 0x0⟩,
    ⟨0x4073, 0x4073, 1, 1, .u8, .const, false, .stat, 1, 0x10⟩ ]

/-- Objects of 5000h, part 1. -/
def catalogue5_0 : List ObjRow :=
  [ ⟨0x5000, 0x5000, 1, 1, .u8, .const, false, .stat, 1, 0x8⟩,
    ⟨0x5000, 0x5000, 2, 2, .u16, .const, false, .stat, 2, 0x100⟩,
    ⟨0x5000, 0x5000, 3, 3, .u64, .const, false, .stat, 8, 0x3000000000⟩,
    ⟨0x5000, 0x5000, 4, 4, .u64, .ro, false, .stat, 8, 0x2FFC000000⟩,
    ⟨0x5010, 0x5010, 1, 1, .blob, .rw, true, .ctrl, 32768, 0x0⟩,
    ⟨0x5011, 0x5011, 1, 1, .bool, .ro, false, .stat, 1, 0x0⟩,
    ⟨0x5011, 0x5011, 2, 2, .u8, .rw, false, .cmd, 1, 0x0⟩,
    ⟨0x5011, 0x5011, 3, 3, .u16, .rw, false, .ctrl, 2, 0x0⟩,
    ⟨0x5011, 0x5011, 4, 4, .octets, .rw, false, .ctrl, 32, 0x0⟩,
    ⟨0x5020, 0x5020, 1, 1, .u16, .rw, true, .ctrl, 2, 0x400⟩,
    ⟨0x5020, 0x5020, 2, 2, .u64, .rw, false, .count, 8, 0x0⟩,
    ⟨0x5021, 0x5021, 1, 2, .u32, .rw, false, .count, 4, 0x0⟩,
    ⟨0x5021, 0x5021, 3, 4, .u64, .ro, false, .stat, 8, 0x0⟩,
    ⟨0x5021, 0x5021, 5, 5, .u8, .rw, false, .w1c, 1, 0x0⟩,
    ⟨0x5021, 0x5021, 6, 6, .u64, .rw, false, .count, 8, 0x0⟩,
    ⟨0x5021, 0x5021, 7, 7, .u32, .rw, false, .count, 4, 0x0⟩,
    ⟨0x5030, 0x5030, 1, 1, .blob, .rwq, true, .ctrl, 16384, 0x0⟩,
    ⟨0x5030, 0x5030, 2, 2, .blob, .ro, false, .stat, 16384, 0x0⟩,
    ⟨0x5030, 0x5030, 3, 3, .u16, .ro, false, .stat, 2, 0x0⟩,
    ⟨0x5030, 0x5030, 4, 4, .u8, .rw, true, .ctrl, 1, 0x8⟩,
    ⟨0x5030, 0x5030, 5, 5, .u32, .rw, false, .cmd, 4, 0x0⟩,
    ⟨0x5040, 0x5040, 1, 1, .octets, .ro, false, .stat, 256, 0x0⟩,
    ⟨0x5040, 0x5040, 2, 2, .octets, .rwq, true, .ctrl, 32, 0x0⟩,
    ⟨0x5040, 0x5040, 3, 3, .u8, .rw, true, .ctrl, 1, 0x20⟩ ]

/-- Objects of 6000h, part 1. -/
def catalogue6_0 : List ObjRow :=
  [ ⟨0x6000, 0x6000, 1, 1, .u16, .rw, false, .ctrl, 2, 0x0⟩,
    ⟨0x6000, 0x6000, 2, 2, .octets, .rw, false, .ctrl, 128, 0x0⟩,
    ⟨0x6000, 0x6000, 3, 3, .u16, .ro, false, .stat, 2, 0x0⟩,
    ⟨0x6001, 0x6001, 1, 1, .bool, .ro, false, .stat, 1, 0x0⟩,
    ⟨0x6001, 0x6001, 2, 2, .u8, .rw, false, .cmd, 1, 0x0⟩,
    ⟨0x6010, 0x6010, 1, 1, .bool, .rw, true, .ctrl, 1, 0x1⟩,
    ⟨0x6010, 0x6010, 2, 2, .u16, .rw, true, .ctrl, 2, 0x1000⟩,
    ⟨0x6010, 0x6010, 3, 3, .u8, .rw, true, .ctrl, 1, 0x8⟩,
    ⟨0x6010, 0x6010, 4, 4, .u64, .rwq, true, .ctrl, 8, 0x0⟩,
    ⟨0x6010, 0x6010, 5, 5, .u32, .rwq, true, .ctrl, 4, 0x0⟩,
    ⟨0x6010, 0x6010, 6, 7, .u32, .ro, false, .stat, 4, 0x0⟩,
    ⟨0x6010, 0x6010, 8, 8, .u64, .rw, false, .count, 8, 0x0⟩,
    ⟨0x6010, 0x6010, 9, 9, .u32, .rw, false, .count, 4, 0x0⟩,
    ⟨0x6020, 0x6020, 1, 1, .u64, .rwq, true, .ctrl, 8, 0x0⟩,
    ⟨0x6020, 0x6020, 2, 2, .u32, .rwq, true, .ctrl, 4, 0x0⟩,
    ⟨0x6020, 0x6020, 3, 4, .u32, .ro, false, .stat, 4, 0x0⟩,
    ⟨0x6020, 0x6020, 5, 5, .u64, .rw, false, .count, 8, 0x0⟩,
    ⟨0x6020, 0x6020, 6, 6, .u32, .rw, false, .count, 4, 0x0⟩,
    ⟨0x6030, 0x6030, 1, 16, .octets, .rw, true, .ctrl, 32, 0x0⟩,
    ⟨0x6040, 0x6040, 1, 8, .u64, .rw, false, .count, 8, 0x0⟩,
    ⟨0x6040, 0x6040, 9, 10, .u32, .rw, false, .count, 4, 0x0⟩,
    ⟨0x6040, 0x6040, 11, 11, .u16, .ro, false, .stat, 2, 0x0⟩,
    ⟨0x6040, 0x6040, 12, 12, .u8, .rw, false, .w1c, 1, 0x0⟩,
    ⟨0x6050, 0x6050, 1, 1, .u64, .rwq, true, .ctrl, 8, 0x0⟩,
    ⟨0x6050, 0x6050, 2, 2, .bool, .rwq, true, .ctrl, 1, 0x0⟩ ]

/-- Objects of 6000h, part 2. -/
def catalogue6_1 : List ObjRow :=
  [ ⟨0x6050, 0x6050, 3, 3, .u16, .rw, false, .ctrl, 2, 0x0⟩,
    ⟨0x6050, 0x6050, 4, 4, .octets, .rw, false, .ctrl, 48, 0x0⟩,
    ⟨0x6050, 0x6050, 5, 5, .octets, .ro, false, .stat, 36, 0x0⟩,
    ⟨0x6060, 0x6060, 1, 9, .u64, .rw, false, .count, 8, 0x0⟩,
    ⟨0x6060, 0x6060, 10, 12, .u32, .rw, false, .count, 4, 0x0⟩,
    ⟨0x6060, 0x6060, 13, 13, .u8, .rw, false, .w1c, 1, 0x0⟩ ]

/-- Objects of 7000h, part 1. -/
def catalogue7_0 : List ObjRow :=
  [ ⟨0x7000, 0x703F, 1, 1, .u8, .rwq, true, .ctrl, 1, 0x1⟩,
    ⟨0x7000, 0x703F, 2, 2, .u8, .rwq, true, .ctrl, 1, 0x0⟩,
    ⟨0x7000, 0x703F, 3, 3, .u16, .rwq, true, .ctrl, 2, 0x10⟩,
    ⟨0x7000, 0x703F, 4, 4, .u64, .rwq, true, .ctrl, 8, 0x0⟩,
    ⟨0x7000, 0x703F, 5, 5, .u8, .ro, false, .stat, 1, 0x0⟩,
    ⟨0x7000, 0x703F, 6, 6, .u16, .ro, false, .stat, 2, 0x0⟩,
    ⟨0x7000, 0x703F, 7, 7, .u16, .ro, false, .stat, 2, 0x2000⟩,
    ⟨0x7000, 0x703F, 8, 8, .u16, .ro, false, .stat, 2, 0x0⟩,
    ⟨0x7000, 0x703F, 9, 12, .u64, .rw, false, .count, 8, 0x0⟩,
    ⟨0x7000, 0x703F, 13, 13, .u16, .ro, false, .stat, 2, 0x0⟩,
    ⟨0x7000, 0x703F, 14, 14, .u8, .ro, false, .stat, 1, 0xFF⟩,
    ⟨0x7000, 0x703F, 15, 15, .u32, .rw, false, .count, 4, 0x0⟩,
    ⟨0x7000, 0x703F, 16, 16, .u16, .ro, false, .stat, 2, 0x0⟩,
    ⟨0x7100, 0x7100, 1, 1, .bool, .rw, true, .ctrl, 1, 0x1⟩,
    ⟨0x7100, 0x7100, 2, 2, .u16, .rwq, true, .ctrl, 2, 0x100⟩,
    ⟨0x7100, 0x7100, 3, 3, .u64, .rw, false, .count, 8, 0x0⟩,
    ⟨0x7100, 0x7100, 4, 5, .u32, .rw, false, .count, 4, 0x0⟩,
    ⟨0x7100, 0x7100, 6, 6, .u32, .ro, false, .stat, 4, 0x0⟩,
    ⟨0x7100, 0x7100, 7, 7, .u64, .rw, false, .count, 8, 0x0⟩,
    ⟨0x7100, 0x7100, 8, 8, .u32, .ro, false, .stat, 4, 0x0⟩,
    ⟨0x7100, 0x7100, 9, 9, .u8, .rw, true, .ctrl, 1, 0x10⟩,
    ⟨0x7100, 0x7100, 10, 10, .u8, .rw, false, .w1c, 1, 0x0⟩,
    ⟨0x7100, 0x7100, 11, 11, .u64, .const, false, .stat, 8, 0x2FFC000000⟩,
    ⟨0x7110, 0x7110, 1, 1, .octets, .rw, true, .ctrl, 64, 0x0⟩,
    ⟨0x7110, 0x7110, 2, 2, .u8, .ro, false, .stat, 1, 0x0⟩ ]

/-- Objects of 7000h, part 2. -/
def catalogue7_1 : List ObjRow :=
  [ ⟨0x7110, 0x7110, 3, 3, .u8, .rw, false, .forced, 1, 0x0⟩,
    ⟨0x7110, 0x7110, 4, 4, .i16, .ro, false, .stat, 2, 0x0⟩,
    ⟨0x7110, 0x7110, 5, 5, .u64, .rw, false, .count, 8, 0x0⟩,
    ⟨0x7110, 0x7110, 6, 6, .u8, .ro, false, .stat, 1, 0x40⟩,
    ⟨0x7110, 0x7110, 7, 7, .u32, .rw, false, .count, 4, 0x0⟩,
    ⟨0x7120, 0x7120, 1, 1, .u64, .rw, false, .count, 8, 0x0⟩,
    ⟨0x7120, 0x7120, 2, 2, .u32, .rw, false, .count, 4, 0x0⟩,
    ⟨0x7120, 0x7120, 3, 3, .u16, .ro, false, .stat, 2, 0x0⟩,
    ⟨0x7120, 0x7120, 4, 5, .u32, .rw, false, .count, 4, 0x0⟩,
    ⟨0x7120, 0x7120, 6, 6, .u8, .rw, false, .w1c, 1, 0x0⟩,
    ⟨0x7130, 0x7130, 1, 1, .u64, .rwq, true, .ctrl, 8, 0x0⟩ ]

/-- Objects of 8000h, part 1. -/
def catalogue8_0 : List ObjRow :=
  [ ⟨0x8010, 0x8010, 1, 3, .u64, .rw, false, .count, 8, 0x0⟩,
    ⟨0x8010, 0x8010, 4, 4, .u32, .rw, false, .count, 4, 0x0⟩,
    ⟨0x8011, 0x8011, 1, 1, .bool, .ro, false, .stat, 1, 0x0⟩,
    ⟨0x8011, 0x8011, 2, 2, .u8, .rw, false, .cmd, 1, 0x0⟩,
    ⟨0x8011, 0x8011, 3, 3, .bool, .ro, false, .stat, 1, 0x0⟩,
    ⟨0x8011, 0x8011, 4, 4, .u32, .rw, false, .count, 4, 0x0⟩,
    ⟨0x8020, 0x8020, 1, 3, .u64, .rw, false, .count, 8, 0x0⟩,
    ⟨0x8020, 0x8020, 4, 6, .u32, .rw, false, .count, 4, 0x0⟩,
    ⟨0x8020, 0x8020, 7, 7, .u16, .ro, false, .stat, 2, 0x0⟩,
    ⟨0x8020, 0x8020, 8, 8, .u8, .ro, false, .stat, 1, 0xFF⟩,
    ⟨0x8020, 0x8020, 9, 9, .u8, .rw, false, .w1c, 1, 0x0⟩,
    ⟨0x8021, 0x8021, 1, 68, .u8, .ro, false, .stat, 1, 0x0⟩,
    ⟨0x8100, 0x810F, 1, 1, .octets, .rw, true, .ctrl, 16, 0x0⟩,
    ⟨0x8200, 0x823F, 1, 1, .f32, .rw, true, .ctrl, 4, 0x0⟩,
    ⟨0x8200, 0x823F, 2, 2, .f32, .rw, true, .ctrl, 4, 0x3F800000⟩,
    ⟨0x8200, 0x823F, 3, 3, .u8, .rw, true, .ctrl, 1, 0x0⟩,
    ⟨0x8200, 0x823F, 4, 4, .f32, .ro, false, .stat, 4, 0x43800000⟩,
    ⟨0x8200, 0x823F, 5, 5, .blob, .rw, true, .ctrl, 1028, 0x0⟩,
    ⟨0x8300, 0x8307, 1, 1, .u8, .rw, true, .ctrl, 1, 0x2⟩,
    ⟨0x8300, 0x8307, 2, 2, .u8, .rw, true, .ctrl, 1, 0x40⟩,
    ⟨0x8300, 0x8307, 3, 3, .u64, .rw, true, .ctrl, 8, 0x0⟩,
    ⟨0x8300, 0x8307, 4, 4, .blob, .rw, true, .ctrl, 16384, 0x0⟩,
    ⟨0x8400, 0x840F, 1, 1, .u8, .rw, true, .ctrl, 1, 0x0⟩,
    ⟨0x8400, 0x840F, 2, 2, .octets, .rw, true, .ctrl, 256, 0x0⟩,
    ⟨0x8400, 0x840F, 3, 3, .octets, .rw, true, .ctrl, 64, 0x0⟩ ]

/-- Objects of 8000h, part 2. -/
def catalogue8_1 : List ObjRow :=
  [ ⟨0x8400, 0x840F, 4, 4, .blob, .rw, true, .ctrl, 4096, 0x0⟩ ]

/-- Objects of 9000h, part 1. -/
def catalogue9_0 : List ObjRow :=
  [ ⟨0x9000, 0x9000, 1, 1, .u32, .rwq, true, .ctrl, 4, 0x0⟩,
    ⟨0x9000, 0x9000, 2, 2, .u8, .rwq, true, .ctrl, 1, 0x0⟩,
    ⟨0x9000, 0x9000, 3, 4, .u8, .rwq, true, .ctrl, 1, 0x1⟩,
    ⟨0x9000, 0x9000, 5, 5, .u8, .ro, false, .stat, 1, 0x0⟩,
    ⟨0x9000, 0x9000, 6, 6, .u8, .ro, false, .stat, 1, 0x1⟩,
    ⟨0x9000, 0x9000, 7, 7, .u8, .ro, false, .stat, 1, 0x0⟩,
    ⟨0x9000, 0x9000, 8, 8, .u64, .ro, false, .stat, 8, 0x0⟩,
    ⟨0x9000, 0x9000, 9, 9, .u32, .rw, true, .ctrl, 4, 0x800⟩,
    ⟨0x9010, 0x9017, 1, 1, .bool, .rwq, true, .ctrl, 1, 0x1⟩,
    ⟨0x9010, 0x9017, 2, 4, .u8, .ro, false, .stat, 1, 0x0⟩,
    ⟨0x9010, 0x9017, 5, 5, .u16, .ro, false, .stat, 2, 0xFFFF⟩,
    ⟨0x9010, 0x9017, 6, 6, .octets, .rwq, true, .ctrl, 24, 0x0⟩,
    ⟨0x9010, 0x9017, 7, 7, .bool, .rwq, true, .ctrl, 1, 0x0⟩,
    ⟨0x9010, 0x9017, 8, 9, .u64, .rw, false, .count, 8, 0x0⟩,
    ⟨0x9010, 0x9017, 10, 12, .u32, .rw, false, .count, 4, 0x0⟩,
    ⟨0x9010, 0x9017, 13, 13, .octets, .ro, false, .stat, 16, 0x0⟩,
    ⟨0x9010, 0x9017, 14, 14, .u32, .rw, false, .count, 4, 0x0⟩,
    ⟨0x9010, 0x9017, 15, 15, .u16, .rw, true, .ctrl, 2, 0x40⟩,
    ⟨0x9010, 0x9017, 16, 16, .u8, .rw, true, .ctrl, 1, 0xFF⟩,
    ⟨0x9010, 0x9017, 17, 18, .u32, .rw, true, .ctrl, 4, 0x0⟩,
    ⟨0x9010, 0x9017, 19, 19, .u8, .rw, true, .ctrl, 1, 0x7⟩,
    ⟨0x9010, 0x9017, 20, 20, .u8, .rw, false, .w1c, 1, 0x0⟩,
    ⟨0x9020, 0x9020, 1, 2, .u64, .rw, false, .count, 8, 0x0⟩,
    ⟨0x9020, 0x9020, 3, 6, .u32, .rw, false, .count, 4, 0x0⟩ ]

/-- Objects of A000h, part 1. -/
def catalogueA_0 : List ObjRow :=
  [ ⟨0xA000, 0xA000, 1, 1, .u8, .ro, false, .stat, 1, 0x0⟩,
    ⟨0xA000, 0xA000, 2, 2, .u8, .rw, false, .cmd, 1, 0x0⟩,
    ⟨0xA000, 0xA000, 3, 3, .bool, .rw, true, .ctrl, 1, 0x0⟩,
    ⟨0xA000, 0xA000, 4, 4, .u32, .rw, true, .ctrl, 4, 0x1000⟩,
    ⟨0xA000, 0xA000, 5, 5, .bool, .ro, false, .stat, 1, 0x0⟩,
    ⟨0xA000, 0xA000, 6, 6, .u64, .rw, false, .count, 8, 0x0⟩,
    ⟨0xA000, 0xA000, 7, 7, .u32, .rw, false, .count, 4, 0x0⟩,
    ⟨0xA000, 0xA000, 8, 8, .u32, .ro, false, .stat, 4, 0x0⟩,
    ⟨0xA010, 0xA010, 1, 2, .i16, .ro, false, .stat, 2, 0x0⟩,
    ⟨0xA010, 0xA010, 3, 3, .octets, .ro, false, .stat, 64, 0x0⟩,
    ⟨0xA010, 0xA010, 4, 4, .u32, .ro, false, .stat, 4, 0x0⟩,
    ⟨0xA010, 0xA010, 5, 5, .i16, .ro, false, .stat, 2, 0x0⟩,
    ⟨0xA010, 0xA010, 6, 6, .i16, .rw, true, .ctrl, 2, 0x640⟩,
    ⟨0xA010, 0xA010, 7, 7, .octets, .ro, false, .stat, 16, 0x0⟩,
    ⟨0xA010, 0xA010, 8, 8, .u8, .rw, false, .w1c, 1, 0x0⟩,
    ⟨0xA010, 0xA010, 9, 9, .u64, .rw, false, .count, 8, 0x0⟩,
    ⟨0xA020, 0xA020, 1, 1, .octets, .rw, true, .ctrl, 64, 0x0⟩,
    ⟨0xA020, 0xA020, 2, 2, .u8, .ro, false, .stat, 1, 0x0⟩,
    ⟨0xA020, 0xA020, 3, 3, .u8, .rw, false, .forced, 1, 0x0⟩,
    ⟨0xA020, 0xA020, 4, 4, .u64, .rw, false, .count, 8, 0x0⟩,
    ⟨0xA020, 0xA020, 5, 5, .u8, .ro, false, .stat, 1, 0x40⟩,
    ⟨0xA020, 0xA020, 6, 6, .u32, .rw, false, .count, 4, 0x0⟩,
    ⟨0xA030, 0xA030, 1, 1, .u16, .ro, false, .stat, 2, 0x0⟩,
    ⟨0xA030, 0xA030, 2, 2, .u16, .rw, true, .ctrl, 2, 0x0⟩,
    ⟨0xA030, 0xA030, 3, 4, .u64, .rw, false, .count, 8, 0x0⟩ ]

/-- Objects of A000h, part 2. -/
def catalogueA_1 : List ObjRow :=
  [ ⟨0xA040, 0xA040, 1, 1, .bool, .ro, false, .stat, 1, 0x0⟩ ]

/-- Objects of B000h, part 1. -/
def catalogueB_0 : List ObjRow :=
  [ ⟨0xB000, 0xB000, 1, 1, .u32, .ro, false, .stat, 4, 0x0⟩,
    ⟨0xB000, 0xB000, 2, 2, .u32, .rw, false, .ctrl, 4, 0x0⟩,
    ⟨0xB000, 0xB000, 3, 3, .u64, .rw, false, .count, 8, 0x0⟩,
    ⟨0xB000, 0xB000, 4, 4, .u32, .rw, false, .ctrl, 4, 0x0⟩,
    ⟨0xB000, 0xB000, 5, 5, .octets, .ro, false, .stat, 64, 0x0⟩,
    ⟨0xB000, 0xB000, 6, 6, .u64, .rw, false, .count, 8, 0x0⟩,
    ⟨0xB000, 0xB000, 7, 7, .u32, .rw, false, .count, 4, 0x0⟩,
    ⟨0xB000, 0xB000, 8, 8, .u8, .rw, false, .w1c, 1, 0x0⟩,
    ⟨0xB001, 0xB001, 1, 1, .u32, .rw, false, .ctrl, 4, 0x0⟩,
    ⟨0xB001, 0xB001, 2, 2, .octets, .ro, false, .stat, 64, 0x0⟩,
    ⟨0xB002, 0xB002, 1, 1, .u64, .rw, false, .count, 8, 0x0⟩,
    ⟨0xB002, 0xB002, 2, 2, .u16, .ro, false, .stat, 2, 0x0⟩,
    ⟨0xB002, 0xB002, 3, 5, .u32, .rw, false, .count, 4, 0x0⟩,
    ⟨0xB020, 0xB020, 1, 1, .u32, .rw, false, .count, 4, 0x0⟩,
    ⟨0xB020, 0xB020, 2, 2, .u64, .rw, false, .count, 8, 0x0⟩,
    ⟨0xB020, 0xB020, 3, 3, .u32, .rw, false, .count, 4, 0x0⟩,
    ⟨0xB020, 0xB020, 4, 4, .u16, .ro, false, .stat, 2, 0x0⟩,
    ⟨0xB020, 0xB020, 5, 5, .u32, .ro, false, .stat, 4, 0x0⟩,
    ⟨0xB020, 0xB020, 6, 9, .u32, .rw, false, .count, 4, 0x0⟩ ]

/-- Objects of C000h, part 1. -/
def catalogueC_0 : List ObjRow :=
  [ ⟨0xC000, 0xC000, 1, 1, .u8, .ro, false, .stat, 1, 0x0⟩,
    ⟨0xC000, 0xC000, 2, 2, .u32, .ro, false, .stat, 4, 0x0⟩,
    ⟨0xC000, 0xC000, 3, 3, .u8, .ro, false, .stat, 1, 0xFF⟩,
    ⟨0xC000, 0xC000, 4, 5, .u8, .ro, false, .stat, 1, 0x0⟩,
    ⟨0xC000, 0xC000, 6, 7, .u32, .rw, false, .count, 4, 0x0⟩,
    ⟨0xC000, 0xC000, 8, 8, .octets, .ro, false, .stat, 3, 0x0⟩,
    ⟨0xC000, 0xC000, 9, 9, .u32, .ro, false, .stat, 4, 0x0⟩,
    ⟨0xC000, 0xC000, 10, 12, .u8, .ro, false, .stat, 1, 0x0⟩,
    ⟨0xC000, 0xC000, 13, 13, .u8, .rw, false, .w1c, 1, 0x0⟩,
    ⟨0xC000, 0xC000, 14, 14, .bool, .ro, false, .stat, 1, 0x0⟩,
    ⟨0xC001, 0xC001, 0, 0, .u64, .rw, false, .cmd, 8, 0x0⟩,
    ⟨0xC002, 0xC002, 0, 0, .u8, .rw, false, .cmd, 1, 0x0⟩,
    ⟨0xC003, 0xC003, 1, 1, .u16, .rw, false, .cmd, 2, 0x0⟩,
    ⟨0xC003, 0xC003, 2, 2, .bool, .rw, true, .ctrl, 1, 0x1⟩,
    ⟨0xC003, 0xC003, 3, 3, .u8, .rw, false, .cmd, 1, 0x0⟩,
    ⟨0xC003, 0xC003, 4, 4, .u32, .rw, false, .count, 4, 0x0⟩,
    ⟨0xC003, 0xC003, 5, 5, .u32, .ro, false, .stat, 4, 0x0⟩,
    ⟨0xC004, 0xC004, 1, 1, .u8, .rw, false, .ctrl, 1, 0x0⟩,
    ⟨0xC004, 0xC004, 2, 2, .blob, .rw, false, .ctrl, 32768, 0x0⟩,
    ⟨0xC004, 0xC004, 3, 3, .u32, .rw, false, .ctrl, 4, 0x0⟩,
    ⟨0xC005, 0xC005, 1, 1, .octets, .const, false, .stat, 48, 0x0⟩,
    ⟨0xC005, 0xC005, 2, 2, .bool, .const, false, .stat, 1, 0x0⟩ ]

/-- Objects of D000h, part 1. -/
def catalogueD_0 : List ObjRow :=
  [ ⟨0xD000, 0xD000, 0, 0, .u16, .rw, false, .cmd, 2, 0x0⟩,
    ⟨0xD001, 0xD001, 1, 3, .u8, .ro, false, .stat, 1, 0x0⟩,
    ⟨0xD001, 0xD001, 4, 4, .u64, .ro, false, .stat, 8, 0x0⟩,
    ⟨0xD001, 0xD001, 5, 6, .u32, .rw, false, .count, 4, 0x0⟩,
    ⟨0xD001, 0xD001, 7, 7, .u16, .ro, false, .stat, 2, 0x0⟩,
    ⟨0xD001, 0xD001, 8, 8, .u8, .ro, false, .stat, 1, 0x0⟩ ]

/-- Objects of E000h, part 1. -/
def catalogueE_0 : List ObjRow :=
  [ ⟨0xE000, 0xE00F, 1, 2, .u8, .rw, true, .ctrl, 1, 0x0⟩,
    ⟨0xE000, 0xE00F, 3, 3, .bool, .rw, true, .ctrl, 1, 0x0⟩,
    ⟨0xE000, 0xE00F, 4, 4, .u8, .rw, true, .ctrl, 1, 0x2⟩,
    ⟨0xE000, 0xE00F, 5, 5, .u8, .rw, true, .ctrl, 1, 0x0⟩,
    ⟨0xE000, 0xE00F, 6, 6, .bool, .rw, true, .ctrl, 1, 0x0⟩,
    ⟨0xE000, 0xE00F, 7, 8, .u8, .ro, false, .stat, 1, 0x0⟩,
    ⟨0xE000, 0xE00F, 9, 9, .bool, .ro, false, .stat, 1, 0x0⟩,
    ⟨0xE000, 0xE00F, 10, 10, .u64, .rw, false, .count, 8, 0x0⟩,
    ⟨0xE000, 0xE00F, 11, 11, .u32, .ro, false, .stat, 4, 0xFFFFFFFF⟩,
    ⟨0xE000, 0xE00F, 12, 12, .u8, .rw, false, .forced, 1, 0x11⟩,
    ⟨0xE010, 0xE010, 1, 2, .u8, .ro, false, .stat, 1, 0x0⟩,
    ⟨0xE010, 0xE010, 3, 3, .bool, .ro, false, .stat, 1, 0x0⟩,
    ⟨0xE020, 0xE020, 1, 1, .u16, .rw, true, .ctrl, 2, 0xD9⟩,
    ⟨0xE020, 0xE020, 2, 3, .u64, .rw, false, .count, 8, 0x0⟩,
    ⟨0xE020, 0xE020, 4, 4, .u32, .rw, false, .count, 4, 0x0⟩ ]

/-- The rows whose index starts with the hexadecimal digit `d`. -/
def catalogueOf : Nat → List ObjRow
  | 0 => catalogue0_0
  | 1 => catalogue1_0
  | 2 => catalogue2_0 ++ catalogue2_1
  | 3 => catalogue3_0
  | 4 => catalogue4_0 ++ catalogue4_1
  | 5 => catalogue5_0
  | 6 => catalogue6_0 ++ catalogue6_1
  | 7 => catalogue7_0 ++ catalogue7_1
  | 8 => catalogue8_0 ++ catalogue8_1
  | 9 => catalogue9_0
  | 10 => catalogueA_0 ++ catalogueA_1
  | 11 => catalogueB_0
  | 12 => catalogueC_0
  | 13 => catalogueD_0
  | 14 => catalogueE_0
  | _ => []

end Sys2Proof.Machine
end

