-- ==== Sys2Proof/Machine/ObjKeys.lean ====
section
/-!
DEFINITION. The names of the dictionary objects (spec/23: Tables 23-3 to 23-15). An object's key is its index times 256
plus its subindex; the name of a family or of an array takes the number in it, in 8 bits.
-/

namespace Sys2Proof.Machine.Obj

abbrev DICTIONARY_VERSION : Nat := 0x000001
abbrev SHORELINE_VERSION : Nat := 0x000002
abbrev MAX_SDU_PORT : Nat := 0x000003
abbrev MAX_SDU_MAILBOX : Nat := 0x000004
abbrev MAX_SEGMENT : Nat := 0x000005
abbrev MAX_OUTSTANDING : Nat := 0x000006
abbrev OBJECT_LIST : Nat := 0x000100
abbrev VENDOR : Nat := 0x001001
abbrev PART : Nat := 0x001002
abbrev REVISION : Nat := 0x001003
abbrev SERIAL : Nat := 0x001004
abbrev CHIP_ADDR_0010 : Nat := 0x001005
abbrev MAC_ADDRESS : Nat := 0x100001
abbrev PLCA_ENABLE : Nat := 0x100002
abbrev PLCA_NODE_ID : Nat := 0x100003
abbrev PLCA_NODE_COUNT : Nat := 0x100004
abbrev PLCA_TO_TIMER : Nat := 0x100005
abbrev PLCA_BURST_COUNT : Nat := 0x100006
abbrev PLCA_BURST_TIMER : Nat := 0x100007
abbrev PORT_STATUS : Nat := 0x100008
abbrev FRAMES_RECEIVED : Nat := 0x100009
abbrev FRAMES_SENT : Nat := 0x10000A
abbrev FRAMES_DISCARDED : Nat := 0x10000B
abbrev FCS_ERRORS : Nat := 0x10000C
abbrev QUEUE_DROPS : Nat := 0x10000D
abbrev NOTIFY_MAC : Nat := 0x10000E
abbrev NOTIFY_RETRY_MS : Nat := 0x10000F
abbrev NOTIFY_TRIES : Nat := 0x100010
abbrev NOTIFY_SENT : Nat := 0x100011
abbrev NOTIFY_LOST : Nat := 0x100012
abbrev NOTIFY_PENDING : Nat := 0x100013
abbrev LEASE_STATE : Nat := 0x101001
abbrev HOLDER_MAC : Nat := 0x101002
abbrev DELEGATED : Nat := 0x101003
abbrev REMAINING_MS : Nat := 0x101004
abbrev LEASE_DEFAULT_MS : Nat := 0x101005
abbrev MAILBOX_CLAIM_ENABLE : Nat := 0x101006
abbrev LEASE_CHANGES : Nat := 0x101007
abbrev CLAIMS_REFUSED : Nat := 0x101008
abbrev PLL_STATE : Nat := 0x200001
abbrev PLL_LOCK_LOSSES : Nat := 0x200002
abbrev TIDE_NOW : Nat := 0x201000
abbrev EPOCH_NOW : Nat := 0x201101
abbrev EPOCH_LENGTH : Nat := 0x201102
abbrev GRACE_EPOCHS : Nat := 0x201103
abbrev ENABLE (g : Nat) : Nat := (0x2020 + g % 256) * 256 + 0x1
abbrev PERIOD_INT (g : Nat) : Nat := (0x2020 + g % 256) * 256 + 0x2
abbrev NUMERATOR (g : Nat) : Nat := (0x2020 + g % 256) * 256 + 0x3
abbrev DENOMINATOR (g : Nat) : Nat := (0x2020 + g % 256) * 256 + 0x4
abbrev PHASE (g : Nat) : Nat := (0x2020 + g % 256) * 256 + 0x5
abbrev GUARD (g : Nat) : Nat := (0x2020 + g % 256) * 256 + 0x6
abbrev NEXT_LAUNCH (g : Nat) : Nat := (0x2020 + g % 256) * 256 + 0x7
abbrev LAUNCH_COUNT (g : Nat) : Nat := (0x2020 + g % 256) * 256 + 0x8
abbrev ACCUMULATOR (g : Nat) : Nat := (0x2020 + g % 256) * 256 + 0x9
abbrev SKIPPED (g : Nat) : Nat := (0x2020 + g % 256) * 256 + 0xA
abbrev TIDE_STATE : Nat := 0x203001
abbrev MASTER_ADDR : Nat := 0x203002
abbrev UPSTREAM_PORT : Nat := 0x203003
abbrev OFFSET_LAST : Nat := 0x203004
abbrev SOS_RECEIVED : Nat := 0x203005
abbrev SOS_REJECTED : Nat := 0x203006
abbrev CORRECTIONS : Nat := 0x203007
abbrev LOCK_LOSSES : Nat := 0x203008
abbrev HOP_COUNT : Nat := 0x203009
abbrev PORT_DELAY : Nat := 0x20300A
abbrev TAI_NEXT_EDGE : Nat := 0x204001
abbrev TIDE_AT_EDGE : Nat := 0x204002
abbrev TAI_AT_EDGE : Nat := 0x204003
abbrev PPS_LOCK : Nat := 0x204004
abbrev PPS_EDGES : Nat := 0x204005
abbrev PPS_OUT_OF_RANGE : Nat := 0x204006
abbrev HBM_CAL_OFFSET : Nat := 0x205001
abbrev SCHED_STATE : Nat := 0x300001
abbrev CURRENT_CLIENT : Nat := 0x300002
abbrev SLOTS_FREE : Nat := 0x300003
abbrev SELECTIONS : Nat := 0x300004
abbrev IDLE_TT : Nat := 0x300005
abbrev UNPREDICTED_LOADS : Nat := 0x300006
abbrev CLIENT_ENABLE (c : Nat) : Nat := (0x3100 + c % 256) * 256 + 0x1
abbrev CLIENT_PRIORITY (c : Nat) : Nat := (0x3100 + c % 256) * 256 + 0x2
abbrev REGION_SET (c : Nat) : Nat := (0x3100 + c % 256) * 256 + 0x3
abbrev CSA_BANKSET (c : Nat) : Nat := (0x3100 + c % 256) * 256 + 0x4
abbrev CLIENT_WAIT_TOTAL (c : Nat) : Nat := (0x3100 + c % 256) * 256 + 0x5
abbrev CLIENT_WAIT_MAX (c : Nat) : Nat := (0x3100 + c % 256) * 256 + 0x6
abbrev CLIENT_DISPLACED (c : Nat) : Nat := (0x3100 + c % 256) * 256 + 0x7
abbrev CLIENT_REFUSED (c : Nat) : Nat := (0x3100 + c % 256) * 256 + 0x8
abbrev CLIENT_JOBS_RUN (c : Nat) : Nat := (0x3100 + c % 256) * 256 + 0x9
abbrev CLIENT_RUN_TOTAL (c : Nat) : Nat := (0x3100 + c % 256) * 256 + 0xA
abbrev CLIENT_FAULTS (c : Nat) : Nat := (0x3100 + c % 256) * 256 + 0xB
abbrev CLIENT_LAST_FAULT (c : Nat) : Nat := (0x3100 + c % 256) * 256 + 0xC
abbrev CLIENT_HALTED (c : Nat) : Nat := (0x3100 + c % 256) * 256 + 0xD
abbrev CLIENT_EXPIRED (c : Nat) : Nat := (0x3100 + c % 256) * 256 + 0xE
abbrev CLIENT_MISSED (c : Nat) : Nat := (0x3100 + c % 256) * 256 + 0xF
abbrev CLIENT_LAST_SEQUENCE (c : Nat) : Nat := (0x3100 + c % 256) * 256 + 0x10
abbrev RING_STATE (c : Nat) : Nat := (0x3100 + c % 256) * 256 + 0x11
abbrev LINK_STATE : Nat := 0x320001
abbrev HOST_RESETS : Nat := 0x320002
abbrev LINK_RETRAINS : Nat := 0x320003
abbrev AER_CORRECTABLE : Nat := 0x320004
abbrev AER_UNCORRECTABLE : Nat := 0x320005
abbrev FETCHES : Nat := 0x320006
abbrev MSIX_SENT : Nat := 0x320007
abbrev PHYSICAL_COURSES : Nat := 0x400001
abbrev POSITIONS : Nat := 0x400002
abbrev LOGICAL_COURSES : Nat := 0x400003
abbrev SPARES_LEFT : Nat := 0x400004
abbrev LOGICAL_COURSE (i : Nat) : Nat := 0x401001 + i % 256
abbrev COURSE_STATE (i : Nat) : Nat := 0x402001 + i % 256
abbrev RETIRED_SET : Nat := 0x403001
abbrev RETIRE_COURSE : Nat := 0x403002
abbrev SRAM_CORRECTED : Nat := 0x404001
abbrev SRAM_UNCORRECTED : Nat := 0x404002
abbrev LAST_UE_BRICK : Nat := 0x404003
abbrev LAST_UE_TIDE_4040 : Nat := 0x404004
abbrev WALL_STICKY : Nat := 0x404005
abbrev SHADOW_STATE : Nat := 0x405001
abbrev SHADOW_CLIENT : Nat := 0x405002
abbrev SWITCHES_SAME : Nat := 0x405003
abbrev SWITCHES_OWNER : Nat := 0x405004
abbrev BUNDLES_ACCEPTED : Nat := 0x406001
abbrev BUNDLES_REFUSED : Nat := 0x406002
abbrev LAST_REFUSAL_CODE : Nat := 0x406003
abbrev LAST_REFUSAL_CLIENT : Nat := 0x406004
abbrev BUNDLE_VERSION : Nat := 0x406005
abbrev FLIT_CORRECTED : Nat := 0x407001
abbrev FLIT_UNCORRECTED : Nat := 0x407002
abbrev HEADER_CORRECTED : Nat := 0x407003
abbrev LAST_ERROR_ROUTER : Nat := 0x407004
abbrev LAST_ERROR_TIDE : Nat := 0x407005
abbrev MORTAR_STICKY : Nat := 0x407006
abbrev BOOKS_CLOSED : Nat := 0x407101
abbrev BOOKS_UNBALANCED : Nat := 0x407102
abbrev LAST_UNBALANCED_LINK : Nat := 0x407103
abbrev FLITS_REQ : Nat := 0x407201
abbrev FLITS_RSP : Nat := 0x407202
abbrev FLITS_TOK : Nat := 0x407203
abbrev FLITS_CFG : Nat := 0x407204
abbrev CFG_SPACING : Nat := 0x407301
abbrev HBM_STACKS : Nat := 0x500001
abbrev PSEUDO_CHANNELS : Nat := 0x500002
abbrev HBM_BYTES : Nat := 0x500003
abbrev USABLE_BYTES : Nat := 0x500004
abbrev REGION_TABLE : Nat := 0x501001
abbrev REGIONS_PENDING : Nat := 0x501101
abbrev REGIONS_APPLY : Nat := 0x501102
abbrev REGION_INDEX : Nat := 0x501103
abbrev REGION_ENTRY : Nat := 0x501104
abbrev PATROL_INTERVAL : Nat := 0x502001
abbrev PATROL_PASSES : Nat := 0x502002
abbrev HBM_CORRECTED : Nat := 0x502101
abbrev HBM_UNCORRECTED : Nat := 0x502102
abbrev LAST_UE_ADDRESS : Nat := 0x502103
abbrev LAST_UE_TIDE_5021 : Nat := 0x502104
abbrev HBM_STICKY : Nat := 0x502105
abbrev CAL_WINDOWS : Nat := 0x502106
abbrev ONDIE_REPORTS : Nat := 0x502107
abbrev RETIRED_BLOCKS : Nat := 0x503001
abbrev RETIRED_NOW : Nat := 0x503002
abbrev RETIRED_COUNT : Nat := 0x503003
abbrev RETIRE_CE_LIMIT : Nat := 0x503004
abbrev RETIRE_BLOCK : Nat := 0x503005
abbrev PC_STATE : Nat := 0x504001
abbrev PC_DISABLED_SET : Nat := 0x504002
abbrev PC_UE_LIMIT : Nat := 0x504003
abbrev TABLE_INDEX : Nat := 0x600001
abbrev TABLE_ENTRY : Nat := 0x600002
abbrev TABLES_VALID : Nat := 0x600003
abbrev EMB_PENDING : Nat := 0x600101
abbrev EMB_APPLY : Nat := 0x600102
abbrev HEAT_ENABLE : Nat := 0x601001
abbrev HOT_THRESHOLD : Nat := 0x601002
abbrev DECAY_EPOCHS : Nat := 0x601003
abbrev RING_BASE : Nat := 0x601004
abbrev RING_ENTRIES : Nat := 0x601005
abbrev HEAT_HEAD : Nat := 0x601006
abbrev HEAT_TAIL_NOW : Nat := 0x601007
abbrev HEAT_REPORTS : Nat := 0x601008
abbrev HEAT_DROPPED : Nat := 0x601009
abbrev UPD_RING_BASE : Nat := 0x602001
abbrev UPD_RING_ENTRIES : Nat := 0x602002
abbrev UPD_RING_HEAD_NOW : Nat := 0x602003
abbrev UPD_RING_TAIL_NOW : Nat := 0x602004
abbrev RING_ENTRIES_DONE : Nat := 0x602005
abbrev RING_ENTRIES_FAILED : Nat := 0x602006
abbrev UPDATE_RULE (i : Nat) : Nat := 0x603001 + i % 256
abbrev LOOKUPS : Nat := 0x604001
abbrev INDICES : Nat := 0x604002
abbrev UNIQUE_ROWS : Nat := 0x604003
abbrev LOCAL_ROWS : Nat := 0x604004
abbrev REPLICA_ROWS : Nat := 0x604005
abbrev REMOTE_ROWS : Nat := 0x604006
abbrev SERVED_FOR_PEERS : Nat := 0x604007
abbrev MISSING_ROWS : Nat := 0x604008
abbrev LOOKUPS_FAULTED : Nat := 0x604009
abbrev HEADER_MISMATCHES : Nat := 0x60400A
abbrev LAST_LOOKUP_FAULT : Nat := 0x60400B
abbrev EGS_STICKY : Nat := 0x60400C
abbrev WORK_BASE : Nat := 0x605001
abbrev WORK_ENABLE : Nat := 0x605002
abbrev ARENA_TABLE : Nat := 0x605003
abbrev FREE_RINGS : Nat := 0x605004
abbrev ARENA_COUNTS : Nat := 0x605005
abbrev UPDATE_COMMANDS : Nat := 0x606001
abbrev GRADS_MERGED : Nat := 0x606002
abbrev FLIPS : Nat := 0x606003
abbrev FLIP_RETRIES : Nat := 0x606004
abbrev RECLAIMED : Nat := 0x606005
abbrev PENDING_WAITS : Nat := 0x606006
abbrev ARENA_WAITS : Nat := 0x606007
abbrev GRAD_RECORDS_SENT : Nat := 0x606008
abbrev GRAD_RECORDS_APPLIED : Nat := 0x606009
abbrev NONFINITE_UPDATES : Nat := 0x60600A
abbrev REPLICA_REFUSED : Nat := 0x60600B
abbrev SLOTS_LOST : Nat := 0x60600C
abbrev UPDATE_STICKY : Nat := 0x60600D
abbrev ENTRY_UNITS (b : Nat) : Nat := (0x7000 + b % 256) * 256 + 0x1
abbrev PRIORITY_MODE (b : Nat) : Nat := (0x7000 + b % 256) * 256 + 0x2
abbrev HOLE_INTERVAL (b : Nat) : Nat := (0x7000 + b % 256) * 256 + 0x3
abbrev MISS_DATA (b : Nat) : Nat := (0x7000 + b % 256) * 256 + 0x4
abbrev BANK_STATE (b : Nat) : Nat := (0x7000 + b % 256) * 256 + 0x5
abbrev ENTRIES (b : Nat) : Nat := (0x7000 + b % 256) * 256 + 0x6
abbrev HOLES (b : Nat) : Nat := (0x7000 + b % 256) * 256 + 0x7
abbrev BANK_GEN (b : Nat) : Nat := (0x7000 + b % 256) * 256 + 0x8
abbrev SEARCHES (b : Nat) : Nat := (0x7000 + b % 256) * 256 + 0x9
abbrev HITS (b : Nat) : Nat := (0x7000 + b % 256) * 256 + 0xA
abbrev RECORDS (b : Nat) : Nat := (0x7000 + b % 256) * 256 + 0xB
abbrev MOVES (b : Nat) : Nat := (0x7000 + b % 256) * 256 + 0xC
abbrev LONGEST_RIPPLE (b : Nat) : Nat := (0x7000 + b % 256) * 256 + 0xD
abbrev OWNER (b : Nat) : Nat := (0x7000 + b % 256) * 256 + 0xE
abbrev SCRUB_MISMATCHES (b : Nat) : Nat := (0x7000 + b % 256) * 256 + 0xF
abbrev SCRUB_POINTER (b : Nat) : Nat := (0x7000 + b % 256) * 256 + 0x10
abbrev SCRUB_ENABLE : Nat := 0x710001
abbrev UNITS_PER_WINDOW : Nat := 0x710002
abbrev PASSES : Nat := 0x710003
abbrev MISMATCHES : Nat := 0x710004
abbrev SHADOW_UNCORRECTABLE : Nat := 0x710005
abbrev LAST_MISMATCH : Nat := 0x710006
abbrev STEPS_DEFERRED : Nat := 0x710007
abbrev LAST_PASS_TT : Nat := 0x710008
abbrev FAIL_LIMIT : Nat := 0x710009
abbrev SCRUB_STICKY : Nat := 0x71000A
abbrev SHADOW_BASE : Nat := 0x71000B
abbrev THROTTLE_POINTS : Nat := 0x711001
abbrev RATE_NOW : Nat := 0x711002
abbrev THROTTLE_DISABLE : Nat := 0x711003
abbrev CSA_TEMP : Nat := 0x711004
abbrev THROTTLED_TT : Nat := 0x711005
abbrev RATE_MIN : Nat := 0x711006
abbrev FORCINGS : Nat := 0x711007
abbrev CSA_COMMANDS : Nat := 0x712001
abbrev CSA_REFUSED : Nat := 0x712002
abbrev LAST_FAULT : Nat := 0x712003
abbrev DATA_CORRECTED : Nat := 0x712004
abbrev DATA_UNCORRECTED : Nat := 0x712005
abbrev CSA_STICKY : Nat := 0x712006
abbrev DISABLED_SET : Nat := 0x713001
abbrev SAT_OPS : Nat := 0x801001
abbrev NAN_OPS : Nat := 0x801002
abbrev PARSE_BAD_FIELDS : Nat := 0x801003
abbrev TABLE_CORRECTED : Nat := 0x801004
abbrev TABLES_PENDING : Nat := 0x801101
abbrev TABLES_APPLY : Nat := 0x801102
abbrev STAGED_DIFFERS : Nat := 0x801103
abbrev APPLIES : Nat := 0x801104
abbrev SEL_COMMANDS : Nat := 0x802001
abbrev SEL_ELEMENTS : Nat := 0x802002
abbrev SEL_CARRIED : Nat := 0x802003
abbrev SEL_REFUSED : Nat := 0x802004
abbrev LIST_CORRECTED : Nat := 0x802005
abbrev LIST_UNCORRECTED : Nat := 0x802006
abbrev LAST_FAULT_CODE : Nat := 0x802007
abbrev LAST_FAULT_COURSE : Nat := 0x802008
abbrev SEL_STICKY : Nat := 0x802009
abbrev UNIT_STATE (i : Nat) : Nat := 0x802101 + i % 256
abbrev FORMAT_DESCRIPTOR (s : Nat) : Nat := (0x8100 + s % 256) * 256 + 0x1
abbrev X_MIN (n : Nat) : Nat := (0x8200 + n % 256) * 256 + 0x1
abbrev X_MAX (n : Nat) : Nat := (0x8200 + n % 256) * 256 + 0x2
abbrev EDGE_MODE (n : Nat) : Nat := (0x8200 + n % 256) * 256 + 0x3
abbrev INV_STEP (n : Nat) : Nat := (0x8200 + n % 256) * 256 + 0x4
abbrev KNOTS (n : Nat) : Nat := (0x8200 + n % 256) * 256 + 0x5
abbrev KIND (h : Nat) : Nat := (0x8300 + h % 256) * 256 + 0x1
abbrev OUT_BITS (h : Nat) : Nat := (0x8300 + h % 256) * 256 + 0x2
abbrev SEED (h : Nat) : Nat := (0x8300 + h % 256) * 256 + 0x3
abbrev TAB_TABLES (h : Nat) : Nat := (0x8300 + h % 256) * 256 + 0x4
abbrev FIELD_COUNT (t : Nat) : Nat := (0x8400 + t % 256) * 256 + 0x1
abbrev CLASS_MAP (t : Nat) : Nat := (0x8400 + t % 256) * 256 + 0x2
abbrev FIELDS (t : Nat) : Nat := (0x8400 + t % 256) * 256 + 0x3
abbrev TRANSITIONS (t : Nat) : Nat := (0x8400 + t % 256) * 256 + 0x4
abbrev REACH_ID : Nat := 0x900001
abbrev TOPOLOGY : Nat := 0x900002
abbrev DIM_X : Nat := 0x900003
abbrev DIM_Y : Nat := 0x900004
abbrev CHIP_ADDR_9000 : Nat := 0x900005
abbrev REACH_SIZE : Nat := 0x900006
abbrev RESET_EPOCH : Nat := 0x900007
abbrev UNREACHABLE_MASK : Nat := 0x900008
abbrev LAUNCH_LEAD : Nat := 0x900009
abbrev PORT_ENABLE (p : Nat) : Nat := (0x9010 + p % 256) * 256 + 0x1
abbrev PORT_STATE (p : Nat) : Nat := (0x9010 + p % 256) * 256 + 0x2
abbrev WIDTH (p : Nat) : Nat := (0x9010 + p % 256) * 256 + 0x3
abbrev LANE_MASK (p : Nat) : Nat := (0x9010 + p % 256) * 256 + 0x4
abbrev PEER (p : Nat) : Nat := (0x9010 + p % 256) * 256 + 0x5
abbrev TX_EQ (p : Nat) : Nat := (0x9010 + p % 256) * 256 + 0x6
abbrev PRECODE (p : Nat) : Nat := (0x9010 + p % 256) * 256 + 0x7
abbrev FLITS_SENT (p : Nat) : Nat := (0x9010 + p % 256) * 256 + 0x8
abbrev FLITS_RECEIVED (p : Nat) : Nat := (0x9010 + p % 256) * 256 + 0x9
abbrev REPLAYS (p : Nat) : Nat := (0x9010 + p % 256) * 256 + 0xA
abbrev CRC_ERRORS (p : Nat) : Nat := (0x9010 + p % 256) * 256 + 0xB
abbrev RETRAINS (p : Nat) : Nat := (0x9010 + p % 256) * 256 + 0xC
abbrev LANE_BIP (p : Nat) : Nat := (0x9010 + p % 256) * 256 + 0xD
abbrev BUFFER_CORRECTED (p : Nat) : Nat := (0x9010 + p % 256) * 256 + 0xE
abbrev LANE_BIP_LIMIT (p : Nat) : Nat := (0x9010 + p % 256) * 256 + 0xF
abbrev RESERVE_LOG2 (p : Nat) : Nat := (0x9010 + p % 256) * 256 + 0x10
abbrev RESERVE_OFFSET (p : Nat) : Nat := (0x9010 + p % 256) * 256 + 0x11
abbrev RESERVE_LENGTH (p : Nat) : Nat := (0x9010 + p % 256) * 256 + 0x12
abbrev RESERVE_VCS (p : Nat) : Nat := (0x9010 + p % 256) * 256 + 0x13
abbrev PORT_STICKY (p : Nat) : Nat := (0x9010 + p % 256) * 256 + 0x14
abbrev TRANSIT_FLITS : Nat := 0x902001
abbrev LAUNCHES : Nat := 0x902002
abbrev LAUNCH_ABORTS : Nat := 0x902003
abbrev UPD_LOST : Nat := 0x902004
abbrev UPD_STALE : Nat := 0x902005
abbrev RSP_DISCARDED : Nat := 0x902006
abbrev POWER_STATE : Nat := 0xA00001
abbrev POWER_REQUEST : Nat := 0xA00002
abbrev LULL_AUTO : Nat := 0xA00003
abbrev LULL_MIN_GAP : Nat := 0xA00004
abbrev LULL_HELD : Nat := 0xA00005
abbrev LULL_TT : Nat := 0xA00006
abbrev HOLD_ENTRIES : Nat := 0xA00007
abbrev LAST_DRAIN_US : Nat := 0xA00008
abbrev JUNCTION_TEMP : Nat := 0xA01001
abbrev WALL_TEMP : Nat := 0xA01002
abbrev SENSOR_TEMPS : Nat := 0xA01003
abbrev SENSOR_FAULTY : Nat := 0xA01004
abbrev JUNCTION_MAX : Nat := 0xA01005
abbrev ALERT_TEMP : Nat := 0xA01006
abbrev HBM_STACK_TEMPS : Nat := 0xA01007
abbrev SENSOR_STICKY : Nat := 0xA01008
abbrev CALIBRATIONS : Nat := 0xA01009
abbrev DISPATCH_POINTS : Nat := 0xA02001
abbrev DISPATCH_LEVEL : Nat := 0xA02002
abbrev DISPATCH_THROTTLE_DISABLE : Nat := 0xA02003
abbrev DISPATCH_THROTTLED_TT : Nat := 0xA02004
abbrev DISPATCH_LEVEL_MIN : Nat := 0xA02005
abbrev DISPATCH_FORCINGS : Nat := 0xA02006
abbrev POWER_NOW : Nat := 0xA03001
abbrev POWER_LIMIT : Nat := 0xA03002
abbrev ENERGY_J : Nat := 0xA03003
abbrev LIMITED_TT : Nat := 0xA03004
abbrev TRIP_LATCHED : Nat := 0xA04001
abbrev LOG_WRITTEN : Nat := 0xB00001
abbrev LOG_READ : Nat := 0xB00002
abbrev LOG_LOST : Nat := 0xB00003
abbrev RECORD_SEQ : Nat := 0xB00004
abbrev RECORD : Nat := 0xB00005
abbrev SECONDARY_FAULTS : Nat := 0xB00006
abbrev SPILL_DROPPED : Nat := 0xB00007
abbrev LOG_STICKY : Nat := 0xB00008
abbrev SPILL_SEQ : Nat := 0xB00101
abbrev SPILL_RECORD : Nat := 0xB00102
abbrev TEARDOWNS : Nat := 0xB00201
abbrev LAST_TEARDOWN_MC : Nat := 0xB00202
abbrev REACH_TEARDOWNS_SENT : Nat := 0xB00203
abbrev REACH_TEARDOWNS_TAKEN : Nat := 0xB00204
abbrev REACH_TEARDOWNS_IGNORED : Nat := 0xB00205
abbrev IGNORED_STAT_WRITES : Nat := 0xB02001
abbrev REQUESTS : Nat := 0xB02002
abbrev ABORTS : Nat := 0xB02003
abbrev LAST_ABORT : Nat := 0xB02004
abbrev LAST_ABORT_OBJECT : Nat := 0xB02005
abbrev DUPLICATES_RESENT : Nat := 0xB02006
abbrev DUPLICATES_DROPPED : Nat := 0xB02007
abbrev TRANSFERS_ABANDONED : Nat := 0xB02008
abbrev STORAGE_ERRORS : Nat := 0xB02009
abbrev NV_STATE : Nat := 0xC00001
abbrev ACTIVE_SEQUENCE : Nat := 0xC00002
abbrev ACTIVE_SLOT : Nat := 0xC00003
abbrev BOOT_IMAGE : Nat := 0xC00004
abbrev LAST_COMMIT_RESULT : Nat := 0xC00005
abbrev COMMITS : Nat := 0xC00006
abbrev COMMIT_FAILURES : Nat := 0xC00007
abbrev FLASH_ID : Nat := 0xC00008
abbrev FLASH_BYTES : Nat := 0xC00009
abbrev COPY_VALID : Nat := 0xC0000A
abbrev REJECT_A : Nat := 0xC0000B
abbrev REJECT_B : Nat := 0xC0000C
abbrev BOOT_STICKY : Nat := 0xC0000D
abbrev SECURE_BOOT : Nat := 0xC0000E
abbrev NV_COMMIT : Nat := 0xC00100
abbrev RESTORE_FACTORY : Nat := 0xC00200
abbrev WARM_RESET : Nat := 0xC00301
abbrev HOST_RESET_ENABLE : Nat := 0xC00302
abbrev START_RELEASE : Nat := 0xC00303
abbrev WARM_RESETS : Nat := 0xC00304
abbrev START_US : Nat := 0xC00305
abbrev STAGE_WINDOW_INDEX : Nat := 0xC00401
abbrev STAGE_WINDOW : Nat := 0xC00402
abbrev STAGE_LENGTH : Nat := 0xC00403
abbrev KEY_HASH : Nat := 0xC00501
abbrev SECURE_FORCE : Nat := 0xC00502
abbrev SELFTEST_REQUEST : Nat := 0xD00000
abbrev LAST_KIND : Nat := 0xD00101
abbrev LAST_TARGET : Nat := 0xD00102
abbrev LAST_RESULT : Nat := 0xD00103
abbrev LAST_TIDE : Nat := 0xD00104
abbrev TESTS_RUN : Nat := 0xD00105
abbrev TESTS_FAILED : Nat := 0xD00106
abbrev STARTUP_RESULTS : Nat := 0xD00107
abbrev QUEUED : Nat := 0xD00108
abbrev FUNCTION (n : Nat) : Nat := (0xE000 + n % 256) * 256 + 0x1
abbrev PARAM (n : Nat) : Nat := (0xE000 + n % 256) * 256 + 0x2
abbrev OUTPUT_VALUE (n : Nat) : Nat := (0xE000 + n % 256) * 256 + 0x3
abbrev PULL (n : Nat) : Nat := (0xE000 + n % 256) * 256 + 0x4
abbrev DRIVE (n : Nat) : Nat := (0xE000 + n % 256) * 256 + 0x5
abbrev POLARITY (n : Nat) : Nat := (0xE000 + n % 256) * 256 + 0x6
abbrev FUNCTION_NOW (n : Nat) : Nat := (0xE000 + n % 256) * 256 + 0x7
abbrev SWITCH_STATE (n : Nat) : Nat := (0xE000 + n % 256) * 256 + 0x8
abbrev LEVEL (n : Nat) : Nat := (0xE000 + n % 256) * 256 + 0x9
abbrev EDGES (n : Nat) : Nat := (0xE000 + n % 256) * 256 + 0xA
abbrev TACH_PERIOD (n : Nat) : Nat := (0xE000 + n % 256) * 256 + 0xB
abbrev DRIVE_ENABLE (n : Nat) : Nat := (0xE000 + n % 256) * 256 + 0xC
abbrev STRAP_ADDR : Nat := 0xE01001
abbrev STRAP_BOOT : Nat := 0xE01002
abbrev STRAP_SECURE : Nat := 0xE01003
abbrev UART_DIVISOR : Nat := 0xE02001
abbrev UART_LINES : Nat := 0xE02002
abbrev UART_RX_CHARS : Nat := 0xE02003
abbrev UART_DROPPED : Nat := 0xE02004

end Sys2Proof.Machine.Obj
end

