-- ==== Sys2Proof/Machine/State.lean ====
section
/-!
DEFINITION. The state of the block: every register, counter, queue, memory, mode and pin that the spec gives the SWV-4096,
as plain data, with the queue of the commands that wait; the reasons a step can stop; and the state after reset.
A default field value is the value at the end of a cold reset.
-/

namespace Sys2Proof.Machine

/-- A pending start, an edge or a label: the tide and its masters (spec/02). -/
structure Tide where
  /-- 2010h TIDE_NOW: 0 after a cold reset (R86). -/
  now : Nat := 0
  /-- TCLK cycles since the cold reset; the model's own measure for the timers that R79 and R82 leave alone. -/
  clock : Nat := 0
  /-- The last edge of TCLK was a double advance, so that TIDE_NOW passed a value (R56, R60). -/
  double : Bool := false
  /-- Accumulated offset in root cycles (R56). -/
  offset : Int := 0
  /-- Drift between the last two syncs, root cycles over TCLK cycles (R58), and its remainder. -/
  rateNum : Int := 0
  rateDen : Nat := 0
  rateRem : Int := 0
  /-- Offset and clock of the last measured sync, and the corrections made since, in root cycles. -/
  syncOffset : Int := 0
  syncClock : Option Nat := none
  corrSince : Int := 0
  /-- Clock of the last hold or double advance (R57, R81). -/
  lastCorrection : Option Nat := none
  /-- Clock of the last sync from any port, or of the cold reset (Table 2-5). -/
  lastSync : Nat := 0
  /-- Clock at which HOLDOVER was entered (Table 2-5). -/
  holdSince : Nat := 0
  /-- PPS lock of the current master, as its syncs name it (R55). -/
  masterPps : Bool := false
  /-- A lower-ranked master heard and not yet adopted (R64): address and PPS lock. -/
  pending : Option (Nat × Bool) := none
  /-- TIDE_NOW at which it is adopted. -/
  adoptAt : Nat := 0
  /-- Hop count heard from the current master on each port, an unlisted port having heard none (64), and the clock at which it
  was heard. -/
  portHop : Store Nat := []
  portSeen : Store Nat := []
  /-- Outstanding delay request of each port: send stamp in root cycles plus 1; 0 for none. -/
  requestAt : Store Nat := []
  /-- Offset to the master at the last sync, for the restep (R82). -/
  stepOffset : Int := 0
  /-- The chip has been MASTER or LOCKED since its last cold reset (R87). -/
  everAligned : Bool := false
  /-- SEQUENCE of the next sync this chip sends as master (Table 2-3). -/
  seqOut : Nat := 0
  /-- Generators enabled while FREE and not yet started (R1037), as a bit set. -/
  pendingStart : Nat := 0
  /-- First value of TIDE_NOW at which each window of Table 2-4 is next due (R60, R61, R70). -/
  nextSync : Nat := 0
  nextDelay : Nat := 0x800
  nextScrub : Nat := 0x400
  nextCal : Nat := 0
  nextThrottle : Nat := 0
  nextDispatch : Nat := 0
  nextDecay : Nat := 0
  nextSensor : Nat := 0
  /-- After a forward restep no retire record is reclaimed before this tick (R581). -/
  reclaimFrom : Nat := 0
  /-- Forward resteps made: TIDE_NOW before each, its size, and the retire record count of each engine then (R79). -/
  shifts : List (Nat × Nat × Store Nat) := []
  /-- The launch that each generator took last: generator, LCLK cycle, scheduled tick and accumulator before it (R48, R74). -/
  launches : List (Nat × Nat × Nat × Nat) := []
  /-- Generators turned off in the LCLK cycle of a launch tick that is still to be taken (R75), as a bit set. -/
  offDue : Nat := 0
deriving DecidableEq, Repr

/-- PPS and wall time (spec/02: R66 to R69). -/
structure Pps where
  /-- Stamp of the last PPS_IN edge in root cycles. -/
  lastEdge : Option Nat := none
  /-- Consecutive in-range intervals seen. -/
  inRange : Nat := 0
  /-- The label that the next edge takes (R68); the LCLK cycle of its last write plus 1, and the label before that cycle, which
  an edge of that cycle takes (R78). -/
  label : Option Nat := none
  labelCycle : Nat := 0
  labelWas : Option Nat := none
  /-- Root cycles by which corrections have moved the tide since the last edge (R67). -/
  corr : Int := 0
  /-- An edge has been labelled, so the wall-time mapping stands. -/
  mapped : Bool := false
  /-- TAI second of the last PPS_OUT pulse. -/
  lastPulse : Option Nat := none
  /-- PPS_OUT is high up to this tick (R69). -/
  outUntil : Nat := 0
deriving DecidableEq, Repr

/-- A fault-log record (spec/17: Table 17-3). -/
structure LogRec where
  code : Nat
  kind : Nat
  flags : Nat
  seq : Nat
  tide : Nat
  client : Nat
  chip : Nat
  source : Nat
  course : Nat
  pos : Nat
  slot : Nat
  phys : Nat
  jobSeq : Nat
  reachJob : Nat
  detail0 : Nat
  detail1 : Nat
deriving DecidableEq, Repr

/-- A job fault report on its way to the scheduler (spec/17: R765). -/
structure FaultReport where
  code : Nat
  parity : Nat
  source : Nat
  site : Bool
  course : Nat
  pos : Nat
  slot : Nat
  phys : Nat
  detail0 : Nat
  detail1 : Nat
  tide : Nat
  /-- Sender of a REACH_TEARDOWN taken as this report (R784). -/
  remote : Option Nat
  /-- Parity error on the control tree (R801). -/
  treeError : Bool
deriving DecidableEq, Repr

/-- The fault log and the reports waiting (spec/17). -/
structure Faults where
  /-- Records waiting to be written, at most 64 (R788). -/
  queue : List LogRec := []
  /-- The ring of 512 records, by ring position (R789); an empty position holds none. -/
  ring : List (Nat × LogRec) := []
  /-- Ring positions whose RECORD_CRC fails (R799). -/
  ringBad : List Nat := []
  /-- Job fault reports that have not been taken, oldest first. -/
  reports : List FaultReport := []
  /-- A spill drop has been logged since the cold reset (R800). -/
  spillLogged : Bool := false
  /-- A device-level fault stands (R780). -/
  device : Bool := false
deriving DecidableEq, Repr

/-- Status of an input-handle register (spec/04: Table 4-1). -/
inductive InStatus where
  | none | pending | captured
deriving DecidableEq, Repr

/-- An input-handle register (spec/04: Table 4-1, R163). -/
structure InReg where
  status : InStatus := .none
  handle : Nat := 0
  fill : Nat := 0
deriving DecidableEq, Repr

/-- Run-time state of one op slot (spec/04: Table 4-1). -/
structure Slot where
  counter : Nat := 0
  early : Nat := 0
  firingsLeft : Nat := 0
  /-- READY_SINCE, the bc in which COUNTER last reached 0 while firings are left. -/
  ready : Option Nat := none
  in0 : InReg := {}
  in1 : InReg := {}
  executing : Bool := false
  /-- First bc in which a RELAY firing of the slot no longer executes (R161). -/
  busyTo : Nat := 0
  /-- Firings dispatched before in this job (R274). -/
  fired : Nat := 0
  /-- An upset of the slot's parity (R187). -/
  parityBad : Bool := false
deriving DecidableEq, Repr

/-- A buffer handle (spec/03: R113 to R118). -/
structure Handle where
  held : Bool := false
  gen : Nat := 0
  owner : Nat := 0
deriving DecidableEq, Repr

/-- One request of a stream: a merged run of elements at consecutive addresses (R217, R452). -/
structure Segment where
  /-- 0 the first STREAM_IN, 1 the second, 2 the output stream. -/
  stream : Nat
  /-- Far side: HBM, or the SRAM of a brick. -/
  hbm : Bool
  far : Nat
  addr : Nat
  len : Nat
  /-- The tag it holds while outstanding. -/
  tag : Option Nat
  /-- Data read, or data to write. -/
  data : List Byte
  done : Bool
deriving DecidableEq, Repr

/-- How far the executing firing of a brick has come. -/
inductive Phase where
  /-- Waiting for input data. -/
  | gather
  /-- Waiting for the tag of a SEND command (R298, R345, R506). -/
  | waitTag
  /-- Command sent; waiting for the grant. -/
  | waitGrant
  /-- Waiting for writes to be accepted. -/
  | writing
  /-- Every result has left and every write is accepted. -/
  | finished
deriving DecidableEq, Repr

/-- The firing in a brick's pipeline (spec/03, spec/04). -/
structure Firing where
  slot : Nat
  firing : Nat
  /-- bc of its dispatch (R168). -/
  at_ : Nat
  /-- It ends in a SEND to a brick, which is over when its last write request has entered the mortar (R150). -/
  posts : Bool
  in0 : InReg
  in1 : InReg
  /-- Handle value of the output buffer. -/
  outHandle : Option Nat
  segs : List Segment
  phase : Phase
  fill : Nat
  /-- Elements held for a SEND stage until the grant. -/
  elems : List (Bool × Nat)
  faulted : Bool
deriving DecidableEq, Repr

/-- A command that a brick has outstanding at a selection unit, the CSA or an EGS (R298, R345, R506). -/
structure Outstanding where
  tag : Nat
  slot : Nat
  succEn : Bool
  succCourse : Nat
  succPos : Nat
  succSlot : Nat
  /-- SRAM offset of its command block, and the unit, bank or engine that the block names. -/
  block : Nat
  unit : Nat
deriving DecidableEq, Repr

/-- The running part of a brick (spec/04, spec/05). -/
structure Brick where
  firing : Option Firing := none
  /-- First bc in which the pipeline is free again (R168). -/
  freeAt : Nat := 0
  /-- bc of the last dispatch and of the last token, and the tokens applied in that bc (R158, R180). -/
  lastDispatch : Option Nat := none
  tokenBc : Nat := 0
  tokens : Nat := 0
  /-- Commands outstanding at the edge blocks. -/
  out : List Outstanding := []
  /-- Write requests of completed SEND firings that are not yet accepted, with the slot of each (R150, R219). -/
  posted : List (Nat × Segment) := []
deriving DecidableEq, Repr

/-- The wall: courses, SRAM, configuration banks and the running part of every brick (spec/03, spec/04). -/
structure Wall where
  /-- COURSE_STATE of the physical courses: 0 ACTIVE, 1 SPARE, 2 FAILED, 3 RETIRE_PENDING; R94 gives the factory
  states: courses 17, 34, 51 and 67 are SPARE. -/
  courseState : Store Nat := []
  /-- Courses marked RETIRE_PENDING while SPARE, which bring in no replacement (R952). -/
  wasSpare : List Nat := []
  /-- Brick SRAM: key brick × 2^18 + offset; zero after R143. An octet not listed reads as `Wall.sramDefault`. -/
  sram : List (Nat × Byte) := []
  /-- The PARAMS that the last job with PARAMS_EN wrote at offset 3FF80h of every brick of these physical courses (R659): what
  an octet there that `sram` does not list reads as. -/
  params : List Byte := []
  paramsAt : List Nat := []
  /-- Words with a correctable or an uncorrectable error: brick × 2^15 + word. -/
  sramCe : List Nat := []
  sramUe : List Nat := []
  /-- Active and shadow configuration banks: key brick × 2^14 + offset. -/
  active : List (Nat × Byte) := []
  shadow : List (Nat × Byte) := []
  /-- Words of the active and the shadow banks with a correctable or an uncorrectable error: brick × 2048 + word, the brick
  physical for an active bank and logical for a shadow one (R134, R136). -/
  activeCe : List Nat := []
  activeUe : List Nat := []
  shadowCe : List Nat := []
  shadowUe : List Nat := []
  /-- Ticks of the uncorrectable SRAM errors of each brick within 24 hours (R137): brick and tick. -/
  ueTicks : List (Nat × Nat) := []
  /-- Saturation flag of each brick (R102), by brick number. -/
  satFlags : List Nat := []
  /-- Op slots: key brick × 256 + slot. -/
  slots : Store Slot := []
  /-- Buffer handles: key brick × 512 + handle. -/
  handles : Store Handle := []
  /-- Running part of each brick. -/
  bricks : Store Brick := []
  /-- bc since the first in which the job's ops may fire, and the number of that first one counted from the cold reset (R923). -/
  bc : Nat := 0
  base : Nat := 0
  /-- The END op of the job has dispatched (R165). -/
  ended : Bool := false
  /-- CLOSE has been raised: bricks dispatch and inject nothing (Table 17-5). -/
  closed : Bool := true
deriving DecidableEq, Repr

/-- What an octet of brick SRAM that is not listed reads as: the PARAMS of its course, else 0 (R143, R659). -/
def Wall.sramDefault (w : Wall) (k : Nat) : Byte :=
  if 0x3FF80 ≤ k % 2 ^ 18 ∧ w.paramsAt.contains (k / 2 ^ 24) then w.params.getD (k % 128) 0 else 0

/-- The on-chip network (spec/05). -/
structure Mortar where
  /-- Messages in flight, oldest first. -/
  flight : List Msg := []
  /-- JOB_PARITY of the chip (R222), 0 after reset (R243). -/
  parity : Nat := 0
  /-- Link credit counters after the drain: unlisted links stand at 8 (R198, R226). A key names class, port, course and position as
  LAST_UNBALANCED_LINK does (Table 5-10). -/
  credits : Store Nat := []
  /-- 0A40h and 0A41h stand until a warm reset (Table 5-11). -/
  booksFault : Bool := false
  headerFault : Bool := false
deriving DecidableEq, Repr

/-- The chip-wide tables in force, kept beside the staged objects (spec/06). -/
structure Tables where
  /-- In-force numeric fields and octets, under the keys of the staged objects. -/
  num : Store Nat := []
  oct : List (Nat × Byte) := []
  /-- In-force words that are uncorrectable or correctable: object index × 4,096 + word of the canonical image (R288, R289). -/
  ue : List Nat := []
  ce : List Nat := []
  /-- Tables whose uncorrectable word has been read, and which are restored before the next job starts, by object index (R289). -/
  restore : List Nat := []
  /-- A table apply is pending, and the LCLK cycle of its acceptance, counted from 1 (R247). -/
  pending : Bool := false
  asked : Nat := 0
  /-- Tables were applied at the boundary of the job being switched in (R249). -/
  appliedNow : Bool := false
deriving DecidableEq, Repr

/-- An entry of a selection list (spec/07): value bits, element index, count. -/
structure SelEntry where
  value : Nat
  index : Nat
  count : Nat
deriving DecidableEq, Repr

/-- The command that a selection unit runs (spec/07). -/
structure SelRun where
  brick : Nat
  parity : Nat
  block : List Byte
  /-- Elements taken. -/
  taken : Nat
  /-- The list of each row: rank order, or run order in SEG_REDUCE. -/
  rows : Store (List SelEntry)
deriving DecidableEq, Repr

/-- A command on its way to, or stored in, a hub: sending brick, parity, client, command block, tag, and the mc in which it
reaches the hub. -/
structure HubCmd where
  brick : Nat
  parity : Nat
  client : Nat
  block : List Byte
  tag : Nat
  arrival : Nat
deriving DecidableEq, Repr

/-- The selection units (spec/07). -/
structure Sel where
  /-- Stored commands in order of arrival, with the physical course of their unit (R299, R300). -/
  queue : List (Nat × HubCmd) := []
  /-- Running command of each unit, by physical course. -/
  run : List (Nat × SelRun) := []
  /-- List entries with a correctable or an uncorrectable error, as physical course × 512 + place in the unit's 16 lanes of 32, and
  the ticks of the uncorrectable ones of each unit (R327 to R329). -/
  ce : List Nat := []
  ue : List Nat := []
  ueTicks : List (Nat × Nat) := []
  failed : List Nat := []
deriving DecidableEq, Repr

/-- An entry of a CSA bank (spec/08): per unit a value and a care mask, DATA, PRIORITY and the valid bit. -/
structure CsaEntry where
  units : List (Nat × Nat) := []
  data : Nat := 0
  prio : Nat := 0
  valid : Bool := false
deriving DecidableEq, Repr

/-- The command that a CSA bank runs (spec/08). -/
structure CsaRun where
  cmd : HubCmd
  /-- Elements received and not yet part of a whole key or record. -/
  pend : List (Bool × Nat)
  /-- Elements received in all, keys or records done, OUTCOME and MOVES. -/
  elems : Nat
  done : Nat
  outcome : Nat
  moves : Nat
  /-- Rank of the last record of a BULK_LOAD. -/
  lastRank : Option Nat
  /-- Result octets not yet sent, and how many have been sent. -/
  res : List Byte
  sent : Nat
deriving DecidableEq, Repr

/-- The header of a bank's shadow (spec/09: Table 9-2); `crcOk` is false where upsets have made its HEADER_CRC fail. -/
structure CsaHeader where
  units : Nat := 1
  mode : Nat := 0
  hole : Nat := 16
  gen : Nat := 0
  /-- CLEAR_EPOCH: 1 after a cold reset, and 2 once the bank has been cleared by it (R421, R388, R395). -/
  epoch : Nat := 2
  crcOk : Bool := true
deriving DecidableEq, Repr

/-- One bank of the content search array (spec/08, spec/09). -/
structure CsaBank where
  /-- BANK_STATE (Table 8-1). -/
  state : Nat := 0
  /-- Client that last owned the bank (R341); 255 none. -/
  lastOwner : Nat := 255
  gen : Nat := 0
  /-- The header of its shadow, in HBM (R392, R424). -/
  header : CsaHeader := {}
  /-- A clearing asked for in a calibration pause has not begun its work (R397). -/
  clearDue : Bool := false
  run : Option CsaRun := none
  longest : Nat := 0
  scrub : Nat := 0
  /-- Unit, pass and tick of the mismatches of the last 24 hours and of the last two passes (R419). -/
  mismatch : List (Nat × Nat × Nat) := []
  /-- Passes completed, and the tick + 1 of the last step of unit 0. -/
  passes : Nat := 0
  passStart : Nat := 0
  /-- The scrub intervals before this one have been stepped or counted: number of the window, counted from 1 at tick 400h, and of
  the interval in it (R398, R399). -/
  stepWin : Nat := 0
  steps : Nat := 0
  /-- Words with a correctable or an uncorrectable error: twice the entry for its DATA, plus 1 for its PRIORITY (R382). -/
  ce : List Nat := []
  ue : List Nat := []
deriving DecidableEq, Repr

/-- The shadow images of an entry: its unit images and its metadata image, with the metadata's CLEAR_EPOCH (spec/09:
Table 9-1). -/
structure CsaImage where
  entry : CsaEntry := {}
  epoch : Nat := 0
deriving DecidableEq, Repr

/-- The content search array (spec/08, spec/09). -/
structure Csa where
  banks : Store CsaBank := []
  /-- Entries: key bank × 8,192 + address. -/
  entries : Store CsaEntry := []
  /-- The shadow in HBM (R392), under the same keys; no command but the array's own reads that part of HBM. -/
  images : Store CsaImage := []
  /-- Stored commands in order of arrival, with their bank (R346, R347). -/
  queue : List (Nat × HubCmd) := []
  /-- Candidates above the level, newest first (R408). -/
  candidates : List Nat := []
  /-- The scrub window that opened last: its tick, and UNITS_PER_WINDOW as it stood then (R415). -/
  windowAt : Option Nat := none
  windowUnits : Nat := 256
  /-- THROTTLE_DISABLE is being forced to 0 (R410). -/
  forced : Bool := false
deriving DecidableEq, Repr

/-- External memory (spec/11). -/
structure Hbm where
  /-- Octets by device address; 0 after R481. -/
  mem : List (Nat × Byte) := []
  /-- 64-bit words with a correctable or an uncorrectable error, by address ÷ 8. -/
  ce : List Nat := []
  ue : List Nat := []
  /-- Blocks retired in force, rising (R477), and pseudo-channels failed or disabled (1, 2). -/
  retired : List Nat := []
  channels : Store Nat := []
  /-- Ticks of corrected errors by block, and of uncorrectable words by channel, within 24 hours. -/
  ceTicks : List (Nat × Nat) := []
  ueTicks : List (Nat × Nat) := []
  /-- Patrol pointer of each channel, in lines (R465). -/
  patrol : Store Nat := []
  /-- A region apply is pending, and the LCLK cycle of its acceptance, counted from 1 (R447). -/
  regionsPending : Bool := false
  regionsAsked : Nat := 0
  /-- In-force region table: 32,768 octets (R443). -/
  regions : List (Nat × Byte) := []
  /-- Tick at which the last calibration window opened (R462). -/
  calAt : Option Nat := none
  /-- Answers, to mortar messages and to BAR2 reads, of requests that entered their queues in a calibration pause: they leave after
  it (R462, R463). -/
  held : List Msg := []
  heldReplies : List (List (Option Byte)) := []
  /-- ec, counted from the cold reset, at which the next patrol read of each channel may be issued (R465). -/
  patrolDue : Store Nat := []
  /-- Line whose block the last patrol read retired, and its tick (R473). -/
  patrolHit : Option (Nat × Nat) := none
  /-- Refreshes issued, by channel. -/
  refreshes : Store Nat := []
deriving DecidableEq, Repr
/-- Where the read of one unique row stands (spec/12: R512). -/
inductive RowPhase where
  /-- The shard map and the directory or bucket are to be read. -/
  | dir
  /-- The slot that the entry names is to be read. -/
  | slot
  /-- A row request is outstanding on Coastline. -/
  | remote
  | done
deriving DecidableEq, Repr

/-- One unique row of a lookup (spec/12). -/
structure RowWork where
  row : Nat
  phase : RowPhase
  /-- Request number of a remote row (Table 14-4). -/
  req : Nat
  /-- The 16-octet entry read, as a number. -/
  entry : Nat
  /-- 0 local, 1 replica, 2 remote. -/
  via : Nat
  /-- Owner chip of a remote row, and the clock at which it was asked; of a local or replica row, the clock at which its directory line
  was read (R513). -/
  owner : Nat
  askedAt : Nat
  absent : Bool
  version : Nat
  tier : Nat
  /-- The row as binary32 patterns. -/
  elems : List Nat
deriving DecidableEq, Repr

/-- A lookup or update command at an EGS (spec/12, spec/13). -/
structure EgsCmd where
  cmd : HubCmd
  tag : Nat
  /-- Descriptor and rule in force when the EGS took the command (R534, R590). -/
  desc : List Byte
  rule : List Byte
  /-- List reads: `stream` 0 indices, 1 bag offsets, 2 weights, 3 gradients. -/
  lists : List Segment
  rows : List RowWork
  /-- Lines of the shard map, the directory and the replica directory read for the command, each with the clock of its read (R512). -/
  lines : List (Nat × Nat × List Byte) := []
  /-- Counts for done: REMOTE and MISSING. -/
  remote : Nat
  missing : Nat
  sorted : Bool
deriving DecidableEq, Repr

/-- What a flip is to write (spec/13: R542, R554, Table 13-5, R569 to R571). -/
inductive Work where
  | grad (g : List Nat) (lrScale seed : Nat)
  | put (tier : Nat) (elems : List Nat) (rowState : Nat)
  | remove
  | retier (tier : Nat)
  | replicate
  | unreplicate
  | replicaPut (tier : Nat) (slot : List Byte)
  | replicaRemove
deriving DecidableEq, Repr

/-- What asked for a flip. -/
inductive FlipSource where
  | update (tag brick : Nat)
  | grad (chip : Nat)
  | ring (position : Nat)
  | replica (chip : Nat)
deriving DecidableEq, Repr

/-- What a flip waits for (R546, R583, R584). -/
inductive FlipPhase where
  | ready | waitRetire | waitSlot | waitQueue
deriving DecidableEq, Repr

/-- A flip begun and not yet committed (spec/13: R542 to R546, R562). -/
structure Flip where
  /-- Engine that makes it, and the table descriptor and rule it goes by (R590, R646). -/
  egs : Nat
  desc : List Byte
  rule : List Byte
  table : Nat
  row : Nat
  source : FlipSource
  work : Work
  phase : FlipPhase
  /-- Its wait for a slot has been counted (R583). -/
  counted : Bool
  /-- Address of the directory or replica entry, what was read there, and what the conditional write puts there. -/
  entryAddr : Nat
  old : Nat
  new : Nat
  /-- Tier and number of the shadow slot taken. -/
  slot : Option (Nat × Nat)
  /-- Velocity to write after the flip, with its address. -/
  velocity : Option (Nat × List Byte)
  replica : Bool
deriving DecidableEq, Repr

/-- A free ring (spec/13: R547, R548). -/
structure FreeRing where
  base : Nat := 0
  cap : Nat := 0
  head : Nat := 0
  count : Nat := 0
  /-- Slots with PENDING_RETIRE set, and slots taken for flips not yet accepted. -/
  pending : Nat := 0
  inFlight : Nat := 0
deriving DecidableEq, Repr

/-- A ring entry in progress (R575): its position and, once complete, nothing more is owed for it. -/
structure RingEntry where
  position : Nat
  table : Nat
  row : Nat
  complete : Bool
deriving DecidableEq, Repr

/-- The embedding engines (spec/12, spec/13). -/
structure Egs where
  /-- Command stores, in arrival order, with the engine and the tag (R505, R508). -/
  store : List (Nat × Nat × HubCmd) := []
  /-- Commands being worked on, with their engine. -/
  work : List (Nat × EgsCmd) := []
  /-- Heat sketches: key engine × 16,384 + row × 4,096 + counter. -/
  sketch : Store Nat := []
  heatHead : Nat := 0
  heatTail : Nat := 0
  /-- In-force table directory (4,096 × 128 octets), update rules and free-ring declarations; the staged copies. -/
  desc : List (Nat × Byte) := []
  descStaged : List (Nat × Byte) := []
  rules : List (Nat × Byte) := []
  rings : List (Nat × Byte) := []
  ringsStaged : List (Nat × Byte) := []
  pending : Bool := false
  asked : Nat := 0
  free : Store FreeRing := []
  /-- Head and tail of each retire queue. -/
  retireHead : Store Nat := []
  retireTail : Store Nat := []
  flips : List Flip := []
  ringHead : Nat := 0
  ringTail : Nat := 0
  /-- Next ring position to take, and the entries in progress. -/
  ringNext : Nat := 0
  ringWork : List RingEntry := []
  /-- Row-store reservations kept for abandoned remote requests: engine, request number, table, row and clock (R774). -/
  reserved : List (Nat × Nat × Nat × Nat × Nat) := []
deriving DecidableEq, Repr


/-- A Coastline message held in an input buffer, or waiting at a transmitter (spec/14: R621, Table 14-4): the port it came
in on (8: this chip), its VC × 2 + buffer set, its octets from the message header on, and, for a row request or posted record that an
apply has passed, the image of its table's descriptor when it arrived (R534, R646). -/
structure CoastMsg where
  port : Nat
  vcd : Nat
  bytes : List Byte
  desc : Option (List Byte) := none
deriving DecidableEq, Repr

/-- A message at a transmitter: its source port (8: this chip) and the VC × 2 + buffer set that it holds there, its VC and
buffer set on the link, and the payloads still to send. -/
structure TxMsg where
  src : Nat
  held : Nat
  vc : Nat
  dateline : Nat
  payloads : List (List Byte)
  begun : Bool
deriving DecidableEq, Repr

/-- A Coastline port (spec/14). PORT_STATE, WIDTH, LANE_MASK and PEER are objects. -/
structure Port where
  /-- Clock at which this try of training, or this retrain, began; tries failed; retrains failed in a row. -/
  trainFrom : Nat := 0
  attempts : Nat := 0
  retrainFails : Nat := 0
  /-- SEQ of the next DATA flit sent and of the next one expected. -/
  txSeq : Nat := 0
  rxSeq : Nat := 0
  /-- A NAK has been sent for the expected SEQ (R616); the NAK due in the next CONTROL flit. -/
  nakSent : Bool := false
  nakDue : Bool := false
  /-- NAKs received in a row without an advance of ACK_SEQ (R619). -/
  naks : Nat := 0
  /-- Flits held until acknowledged, oldest first (R617). -/
  replay : List Flit := []
  /-- SENT and the FREED last received, by VC × 2 + buffer set (R605). -/
  sent : Store Nat := []
  freedIn : Store Nat := []
  /-- FREED counted here and as last reported (R606), and the clock of the last CONTROL flit. -/
  freedOut : Store Nat := []
  reported : Store Nat := []
  lastControl : Nat := 0
  /-- Payload octets of messages not yet whole, by VC × 2 + buffer set. -/
  assembly : List (Nat × List Byte) := []
  /-- Messages waiting at the transmitter, and the source last served on each VC (R643). -/
  queue : List TxMsg := []
  served : Store Nat := []
  /-- Lanes excluded (R620), and the BIP errors of the last 65,536 tt: lane, clock and errors (R619). -/
  excluded : Nat := 0
  bip : List (Nat × Nat × Nat) := []
  /-- TIDE_NOW at which the reserved window closes; none when no window is open (R635). -/
  windowEnd : Option Nat := none
deriving DecidableEq, Repr

/-- What a chip keeps for another member of the reach (spec/14: posted updates). -/
structure Member where
  sent : Nat := 0
  freed : Nat := 0
  received : Nat := 0
  freedOut : Nat := 0
  reported : Nat := 0
  /-- Clock of the first advance of FREED not yet reported. -/
  advanced : Option Nat := none
  epoch : Nat := 0
  probing : Bool := false
  /-- Clock of the last PROBE, for R631. -/
  probeAt : Nat := 0
deriving DecidableEq, Repr

/-- LAUNCH_READY messages of one reach job at the coordinator (spec/14: R639 to R642, R647). -/
structure Launch where
  job : Nat
  members : List Nat
  first : Nat
deriving DecidableEq, Repr

/-- The Coastline links (spec/14). -/
structure Coast where
  ports : Store Port := []
  members : Store Member := []
  /-- Whole messages in the input buffers, oldest first. -/
  inbox : List CoastMsg := []
  /-- Posted messages that wait for credit of their destination (R624), oldest first: MSG_TYPE and body. -/
  waiting : List (Nat × List Byte) := []
  launches : List Launch := []
  /-- Reach job and START_TIDE of the GO outstanding (R647). -/
  go : Option (Nat × Nat) := none
deriving DecidableEq, Repr

/-- A job descriptor (spec/15: Table 15-1); LAUNCH_TIDE and DEADLINE as read by R45 at the fetch. -/
structure Desc where
  cls : Nat := 0
  flags : Nat := 0
  gen : Nat := 0
  seq : Nat := 0
  bundle : Nat := 0
  launch : Nat := 0
  deadline : Nat := 0
  maxRun : Nat := 0
  reachJob : Nat := 0
  seed : Nat := 0
  userTag : Nat := 0
  params : List Byte := []
deriving DecidableEq, Repr

/-- A job slot (spec/15), or a maintenance job of client 0 (spec/20: R932) with its kind and bank. -/
structure Job where
  client : Nat
  /-- Ring count of the descriptor; the number of the request for a maintenance job. -/
  pos : Nat
  desc : Desc
  maint : Option (Nat × Nat)
  /-- Tick at which it became a candidate, and eligibility tick E. -/
  candAt : Option Nat
  elig : Option Nat
  displaced : Nat
  aborts : Nat
  /-- An uncorrectable word in the slot (R696). -/
  bad : Bool
deriving DecidableEq, Repr

/-- A completion entry not yet written (spec/15: Table 15-2). -/
structure Entry where
  client : Nat
  pos : Nat
  seq : Nat
  outcome : Nat
  indeterminate : Bool
  late : Bool
  reach : Bool
  ownerChange : Bool
  fault : Nat
  start : Nat
  finish : Nat
  displaced : Nat
  userTag : Nat
  interrupt : Bool
  /-- A job that faulted at its fetch: written ahead of its turn (R722). -/
  early : Bool
deriving DecidableEq, Repr

/-- The running job (spec/15: R675). -/
structure Run where
  job : Job
  start : Nat
  ownerChange : Bool
  /-- A host reset fell in the run: no completion entry is written (R787). -/
  mute : Bool
deriving DecidableEq, Repr

/-- The load of a job's configuration into the shadow banks (spec/03: R121 to R133; spec/15: R670 to R673). -/
structure Load where
  client : Nat
  pos : Nat
  /-- Lines delivered, as brick × 256 + line. -/
  lines : List Nat
  ready : Bool
deriving DecidableEq, Repr

/-- A reach hold (spec/15: R679 to R684). -/
structure ReachHold where
  client : Nat
  pos : Nat
  job : Nat
  sentAt : Nat
  start : Option Nat
deriving DecidableEq, Repr

/-- A teardown in progress: the clock of its instant 480, the OUTCOME and code of its entry, and whether the entry waits for the warm
reset (spec/17: Table 17-5, R780, R781). -/
structure Teardown where
  at_ : Nat
  outcome : Nat
  code : Nat
  owed : Bool
deriving DecidableEq, Repr

/-- The scheduler (spec/15). SCHED_STATE, CURRENT_CLIENT and the accounts are objects. -/
structure Sched where
  slots : List Job := []
  run : Option Run := none
  /-- Client that owned the chip last; 255 for none since the reset. -/
  lastOwner : Nat := 255
  load : Option Load := none
  /-- The job chosen and waiting for its load (R673). -/
  chosen : Option (Nat × Nat) := none
  /-- A selection event stands (R669). -/
  event : Bool := false
  hold : Option ReachHold := none
  /-- SEQUENCE that a client's next descriptor must carry, plus 1; 0 accepts any (Table 15-4). -/
  seqNext : Store Nat := []
  /-- The launch that each generator took or skipped last: twice its scheduled tick, plus 1 when taken and plus 2 when
  skipped; 0 for none. -/
  taken : Store Nat := []
  /-- Descriptor fetches outstanding: client and clock of issue. -/
  fetch : List (Nat × Nat) := []
  entries : List Entry := []
  /-- The entry of the job torn down by 0A70h, which the warm reset writes (R781). -/
  owed : Option Entry := none
  /-- Ring count that follows the last job whose entry was written, plus 1 (R759). -/
  written : Store Nat := []
  /-- Number of the next maintenance job. -/
  maintNext : Nat := 0
  /-- Jobs refused by the choice that now waits for its load: client and ring count. -/
  refused : List (Nat × Nat) := []
  /-- Clients halted in an LCLK cycle: client, cycle, and whether it stood halted before that cycle (R692). -/
  halts : List (Nat × Nat × Bool) := []
  /-- The last selection of each client: client, LCLK cycle and wait (R695). -/
  waits : List (Nat × Nat × Nat) := []
  /-- The last LCLK cycle, counted from 1, in which SCHED_STATE changed, with its value before that cycle (R810). -/
  stateWas : Nat × Nat := (0, 0)
  /-- The running job is being torn down (Table 17-5). -/
  tear : Option Teardown := none
deriving DecidableEq, Repr

/-- What the device drives at its ports, oldest first: the model's own record of it. -/
inductive Out where
  | tide (port : Nat) (payload : List Byte)
  /-- A Coastline DATA or CONTROL flit, of 64 octets. -/
  | flit (port : Nat) (octets : List Byte)
  | hostRead (addr len : Nat)
  | hostWrite (addr : Nat) (data : List Byte)
  | msix (vector : Nat)
  /-- The completion of a host read: its octets, a poisoned one as none. -/
  | reply (data : List (Option Byte))
  | frame (dest seq : Nat) (sdu : List Byte)
  | uart (line : List Byte)
deriving DecidableEq, Repr

/-- The host port (spec/16). -/
structure HostPort where
  /-- PERST_N is low; the link is in L0; a configuration request is answered. -/
  perst : Bool := false
  linkUp : Bool := false
  /-- MSI-X: clock + 1 of the last message of a vector, vectors with an event to send, and the pending bits (R726-R728). -/
  sentAt : Store Nat := []
  due : List Nat := []
  pba : List Nat := []
  functionMask : Bool := false
  /-- BAR4 request and response octets, by BAR4 offset; BUSY; RESPONSE_READY; RESPONSE_LENGTH. -/
  mailbox : List (Nat × Byte) := []
  busy : Bool := false
  ready : Bool := false
  respLen : Nat := 0
  /-- The mailbox request taken and not yet answered. -/
  request : Option Request := none
deriving DecidableEq, Repr

/-- What the device keeps for a management-port source (spec/18: R829 to R831). -/
structure SourceState where
  mac : Nat
  last : Nat
  responses : List (Nat × List Byte)
deriving DecidableEq, Repr

/-- An open block transfer (spec/18: R838 to R845). -/
structure Transfer where
  src : Source
  key : Nat
  write : Bool
  total : Nat
  data : List Byte
  /-- Clock of its last request. -/
  at_ : Nat
deriving DecidableEq, Repr

/-- A notification held (spec/18: R846 to R851). -/
structure Note where
  event : Nat
  logSeq : Nat
  tide : Nat
  detail : Nat
  /-- SEQUENCE, once sent; sends made; clock of the last send. -/
  seq : Option Nat
  tries : Nat
  sentAt : Nat
deriving DecidableEq, Repr

/-- What software writes have replaced in an LCLK cycle, as it stood at the end of the commit cycle before (R5, R8): the cycle
plus 1; numbers by key; and octets by the store that holds them (0 objects, 1 the staged table directory, 2 the staged free
rings) and their place, newest first. -/
structure Commit where
  cycle : Nat := 0
  num : List (Nat × Nat) := []
  oct : List (Nat × Nat × List Byte) := []
deriving DecidableEq, Repr

/-- The management port, the lease and the dictionary's own state (spec/18). -/
structure Shore where
  commit : Commit := {}
  /-- Frames awaiting their turn (R834). -/
  queue : List Request := []
  sources : List SourceState := []
  transfers : List Transfer := []
  notes : List Note := []
  noteSeq : Nat := 0
  /-- 1010h:01 LEASE_STATE, holder or delegator, DELEGATED, and the clock at which a MANAGER lease ends. -/
  lease : Nat := 0
  holder : Nat := 0
  /-- The last LCLK cycle, counted from 1, in which the lease changed, with the state and holder before that cycle (R855). -/
  leaseWas : Nat × Nat × Nat := (0, 0, 0)
  /-- The last LCLK cycle, counted from 1, in which a request was taken from the port, and from the mailbox (R833). -/
  portAt : Nat := 0
  /-- The dictionary's numbers as they stood when this LCLK cycle began (R5, R8). -/
  start : Store Nat := []
  mailAt : Nat := 0
  delegated : Bool := false
  leaseEnd : Nat := 0
  /-- PLCA settings in force: 1000h:02 to 1000h:07. -/
  plca : List Nat := [1, 1, 8, 32, 0, 128]
  /-- A changed PLCA setting waits for its response to be transmitted (R867). -/
  plcaDue : Bool := false
deriving DecidableEq, Repr

/-- The OTP (spec/19: R868). Its contents are not given by the spec. -/
structure Otp where
  serial : List Byte := []
  mac : Nat := 0
  keyHash : List Byte := []
  secureForce : Bool := false
  /-- Silicon revision: 0 A0, 1 A1, 2 B0, 3 B1 and so on (R1000). -/
  revision : Nat := 0
  /-- An uncorrectable word (R909). -/
  bad : Bool := false
deriving DecidableEq, Repr

/-- Where a commit or an erase of images stands (spec/19: R892, R896). -/
inductive FlashStep where
  | eraseMarker
  | eraseBlock (n : Nat)
  | page (n : Nat)
  | verify
  | mark
  /-- RESTORE_FACTORY: marker sector of slot 0 or 1. -/
  | eraseImages (slot : Nat)
deriving DecidableEq, Repr

/-- A flash operation in progress: the slot written, the image, its SEQUENCE and the step. -/
structure FlashJob where
  slot : Nat
  image : List Byte
  seq : Nat
  step : FlashStep
deriving DecidableEq, Repr

/-- The non-volatile image and start-up (spec/19). NV_STATE, ACTIVE_SEQUENCE, ACTIVE_SLOT and the rest are objects. -/
structure Nv where
  otp : Otp := {}
  addr : Nat := 0
  boot : Nat := 0
  secure : Bool := false
  /-- Flash octets below 0020_0000h; FFh when erased; its identity and density, and whether SFDP meets R875. -/
  flash : List (Nat × Byte) := []
  flashId : Nat := 0
  flashBytes : Nat := 2097152
  flashOk : Bool := true
  /-- Staged image octets (R895). -/
  stage : List (Nat × Byte) := []
  work : Option FlashJob := none
  /-- Start-up: last completed step of Table 19-6, the hold of R885, READY, and a warm reset in progress (R760). -/
  step : Nat := 9
  hold : Bool := false
  ready : Bool := true
  /-- Time from POR_N to the end of step 8 in µs, and the clock there (C003h:05). -/
  startUs : Nat := 0
  startClock : Nat := 0
  warm : Bool := false
  /-- The LCLK cycle, counted from 1, in which the last warm reset was accepted (R905). -/
  warmAt : Nat := 0
  /-- Routers found failed at start-up: the device stays out of service (R242). -/
  routersFailed : Bool := false
  /-- Clock at which the last warm reset ended (R967). -/
  warmEnd : Option Nat := none
deriving DecidableEq, Repr

/-- The drain into HOLD (spec/20: R934). -/
structure Drain where
  abandon : Bool
  at_ : Nat
deriving DecidableEq, Repr

/-- Power, heat and self-test (spec/20). POWER_STATE, LULL_HELD, the levels and the readings are objects. -/
structure Power where
  /-- A LULL request waits for the running job or reach hold to end. -/
  lullDue : Bool := false
  /-- The LULL now standing was entered by R916. -/
  automatic : Bool := false
  /-- Tick at which WAKING was entered. -/
  wakeAt : Nat := 0
  drain : Option Drain := none
  /-- Newest candidates below, for the rule of R408. -/
  candidates : List Nat := []
  forced : Bool := false
  /-- The power candidate of the last sample lay below the thermal one. -/
  limited : Bool := false
  /-- SENSORS requests queued, each with the tick of its window (R939, R940); the other requests queued stand among the
  scheduler's jobs. -/
  tests : List Nat := []
  /-- The temperature cause of ALERT_N (R931). -/
  hot : Bool := false
  /-- A reading has been taken since the cold reset, so that JUNCTION_MAX holds one. -/
  seen : Bool := false
  /-- Tick at which the calibration of all sensors that a SENSORS request asked for ends (Table 20-6). -/
  calUntil : Nat := 0
deriving DecidableEq, Repr

/-- A SHORE pin (spec/22). FUNCTION_NOW, SWITCH_STATE, LEVEL and the counts are objects. -/
structure Pin where
  /-- Level at the pad as the board drives it. -/
  pad : Bool := false
  /-- Last sample of the function in force; none when it has taken none. At reset the pull-down is sampled low (Table 22-16). -/
  sample : Option Bool := some false
  /-- Clock of X of a change of function in progress (R991). -/
  switchAt : Option Nat := none
  /-- The driver is on. -/
  driving : Bool := false
  /-- Clock at which a CADENCE_MARKER pulse ends. -/
  markerEnd : Nat := 0
  /-- Clock from which launches are marked (R994, R1011). -/
  markerFrom : Nat := 0
  /-- Clock at which FAN_TACH came into force. -/
  tachFrom : Nat := 0
  /-- Clock of the last edge counted under FAN_TACH, and whether it may still begin a period. -/
  tachAt : Option Nat := none
  /-- The board holds the pad against the pin's driver (R1016). -/
  against : Bool := false
deriving DecidableEq, Repr

/-- Reset pins, JTAG and the debug UART (spec/22). -/
structure Pins where
  shore : Store Pin := []
  /-- Rails are absent (OFF); POR_N is low; the root PLL has lost lock (R85); a JTAG instruction holds the device, or has
  held it since the last POR_N (R1002). -/
  off : Bool := false
  por : Bool := false
  pllLost : Bool := false
  jtagHeld : Bool := false
  jtag : Nat := 1
  /-- Boundary-scan cells of the low-speed pins, in the order of `scanLevels`, and AC-coupled test cells of the 16 PCIe and 32 Coastline
  lanes, transmitter and receiver (R1001). -/
  scan : List Bool := List.replicate 42 false
  acCells : List Bool := List.replicate 96 false
  /-- Lines waiting at the debug UART, oldest first (R996). -/
  uart : List (List Byte) := []
deriving DecidableEq, Repr

/-- Why a step stops with a fault. -/
inductive Fault where
  /-- A command names a unit, register or message that the spec does not give the block; raised by the meaning of that
  command. Safe: no sender can form such a command. -/
  | noSuchUnit
deriving DecidableEq, Repr

/-- Why a command has no meaning. -/
inductive Refusal where
  /-- The command has not been modelled; raised by the dispatch. Safe. -/
  | notModelled (mnemonic : String)
deriving DecidableEq, Repr

/-- The whole state. -/
structure State where
  tide : Tide := {}
  pps : Pps := {}
  /-- Objects of the dictionary that hold a number, by key; the catalogue gives what an unlisted one reads as. -/
  obj : Store Nat := []
  /-- Octets of OCTETS and BLOB objects: key × 65,536 + offset. -/
  oct : List (Nat × Byte) := []
  /-- Objects whose stored word is uncorrectable; true once counted (R862). -/
  badObj : List (Nat × Bool) := []
  /-- BAR0 registers that hold a value of their own, by offset. -/
  reg : Store Nat := []
  faults : Faults := {}
  wall : Wall := {}
  mortar : Mortar := {}
  tables : Tables := {}
  sel : Sel := {}
  csa : Csa := {}
  hbm : Hbm := {}
  egs : Egs := {}
  coast : Coast := {}
  sched : Sched := {}
  host : HostPort := {}
  shore : Shore := {}
  nv : Nv := {}
  power : Power := {}
  pins : Pins := {}
  /-- What the device has driven at its ports, oldest first. -/
  out : List Out := []
  /-- Commands that wait, first in, first out. -/
  pending : List Instr := []
deriving DecidableEq, Repr

/-- The machine right after a completed cold reset with every strap at 0, no failed unit, a blank flash of 2 MiB and no power
limit reached (Tables 19-6 and 19-8; log entry 12): the root PLL is locked, ports 0 to 7 train (R651), no slot holds a copy,
so both markers were refused and the factory defaults stand (R880, R908). -/
def State.reset : State :=
  { obj := [(0x200001, 1), (0x901002, 1), (0x901102, 1), (0x901202, 1), (0x901302, 1), (0x901402, 1), (0x901502, 1),
      (0x901602, 1), (0x901702, 1), (0xC00009, 2097152), (0xC0000B, 1), (0xC0000C, 1), (0xC0000D, 2)] }

end Sys2Proof.Machine
end

