-- ==== Sys2Proof/Machine/Objects.lean ====
section
/-!
DEFINITION. Object storage: the catalogue row of an object, its factory default, and reading, writing, counting and marking
stored values (spec/18: R804 to R814, R862; spec/23: R1021 to R1029; spec/00: Table 0-2).
-/

namespace Sys2Proof.Machine

/-- Index and subindex of an object key. -/
def keyIndex (k : Nat) : Nat := k / 256
def keySub (k : Nat) : Nat := k % 256

/-- The catalogue row of an object, with the exceptions of R1026 and R1028 for client 0 and for formats 0 to 11. -/
def rowOf (k : Nat) : Option ObjRow :=
  let i := keyIndex k
  let j := keySub k
  match (catalogueOf (i / 4096)).find?
      (fun r => decide (r.lo ≤ i) && decide (i ≤ r.hi) && decide (r.subLo ≤ j) && decide (j ≤ r.subHi)) with
  | none => none
  | some r =>
    if (i = 0x3100 ∧ (j = 1 ∨ j = 4)) ∨ (0x8100 ≤ i ∧ i ≤ 0x810B) then
      some { r with access := .const, persist := false, kind := .stat }
    else some r

/-- The index holds some object (R1021). -/
def indexExists (i : Nat) : Bool :=
  (catalogueOf (i / 4096)).any (fun r => decide (r.lo ≤ i) && decide (i ≤ r.hi))

/-- The plain objects, whose subindex 00h is the object itself (R1022). -/
def plainObject (i : Nat) : Bool :=
  i == 0x0001 || i == 0x2010 || i == 0xC001 || i == 0xC002 || i == 0xD000

/-- Subindex 00h of a record: the highest subindex given under its index (R1022). -/
def lastSub (i : Nat) : Nat :=
  (catalogueOf (i / 4096)).foldl
    (fun m r => if r.lo ≤ i ∧ i ≤ r.hi ∧ m < r.subHi then r.subHi else m) 0

/-- The binary32 pattern of i ÷ 256, for i from 0 to 256: the factory knots (Table 6-12). -/
def knotDefault (i : Nat) : Nat :=
  if i = 0 then 0 else (Nat.log2 i + 119) * 2 ^ 23 + (i - 2 ^ Nat.log2 i) * 2 ^ (23 - Nat.log2 i)

/-- Factory throttle curve of the CSA as TEMP in °C and RATE (Table 9-6), and that of the wall (Table 20-4). -/
def csaCurve : List (Nat × Nat) :=
  [(0, 64), (80, 64), (82, 60), (84, 56), (86, 52), (88, 48), (90, 40), (92, 32), (94, 24), (96, 16), (98, 12), (100, 8),
   (102, 6), (104, 4), (106, 2), (108, 1)]
def wallCurve : List (Nat × Nat) :=
  [(0, 64), (86, 64), (88, 62), (90, 58), (92, 54), (94, 48), (96, 40), (98, 32), (100, 24), (102, 16), (104, 12),
   (105, 8), (106, 6), (107, 4), (108, 2), (109, 1)]

/-- Octets of a throttle curve: per point TEMP in 1/16 °C, RATE and a reserved octet. -/
def curveImage (l : List (Nat × Nat)) : List Byte :=
  l.flatMap (fun p => leBytes 2 (p.1 * 16) ++ [BitVec.ofNat 8 p.2, 0])

/-- A format descriptor image: CLASS, WIDTH, EXP_BITS, MANT_BITS, BIAS, FLAGS, BLOCK_LOG2, SCALE_KIND (Table 6-1). -/
def formatImage (cls width exp mant bias flags blk scale : Nat) : List Byte :=
  leBytes 1 cls ++ leBytes 1 width ++ leBytes 1 exp ++ leBytes 1 mant ++ leBytes 2 bias ++ leBytes 1 flags ++
    leBytes 1 blk ++ leBytes 1 scale ++ leBytes 7 0

/-- The factory formats (Table 6-2), and the default of a user slot (Table 6-12). -/
def formatDefault : Nat → List Byte
  | 0 => formatImage 0 64 11 52 1023 1 0 0
  | 1 => formatImage 0 32 8 23 127 1 0 0
  | 2 => formatImage 0 16 5 10 15 1 0 0
  | 3 => formatImage 0 16 8 7 127 1 0 0
  | 4 => formatImage 0 8 4 3 7 2 0 0
  | 5 => formatImage 0 8 5 2 15 1 0 0
  | 6 => formatImage 2 4 2 1 1 4 5 1
  | 7 => formatImage 1 64 0 0 0 8 0 0
  | 8 => formatImage 1 32 0 0 0 8 0 0
  | 9 => formatImage 1 16 0 0 0 8 0 0
  | 10 => formatImage 1 8 0 0 0 8 0 0
  | 11 => formatImage 1 4 0 0 0 8 0 0
  | _ => formatImage 3 16 8 0 0 8 0 0

/-- The number that an object holds before anything has been written to it: its factory default (R813, Tables 6-12 and
23-3 to 23-15). -/
def Obj.default (k : Nat) : Nat :=
  let i := keyIndex k
  let j := keySub k
  if 0x8300 ≤ i ∧ i ≤ 0x8307 ∧ j ≤ 3 then
    (if j = 1 then (if i = 0x8300 then 0 else 2) else if j = 2 then (if i = 0x8300 then 32 else 64)
     else if j = 3 then i - 0x8300 else 0)
  else if k = Obj.PLCA_NODE_ID then 1
  else if k = Obj.CLIENT_ENABLE 0 then 1
  else if k = Obj.DISPATCH_LEVEL then 1
  else if k = Obj.RATE_NOW then 1
  else if k = Obj.UNREACHABLE_MASK then 2 ^ 64 - 2
  else match rowOf k with
    | some r => r.dflt
    | none => 0

/-- The octets that an OCTETS or BLOB object holds before anything has been written to it. -/
def Obj.octDefault (x : Nat) : Byte :=
  let k := x / 65536
  let o := x % 65536
  let i := keyIndex k
  if k = Obj.NOTIFY_MAC then 0xFF
  else if k = Obj.THROTTLE_POINTS then (curveImage csaCurve).getD o 0
  else if k = Obj.DISPATCH_POINTS then (curveImage wallCurve).getD o 0
  else if 0x8100 ≤ i ∧ i ≤ 0x810F ∧ keySub k = 1 then (formatDefault (i - 0x8100)).getD o 0
  else if 0x8200 ≤ i ∧ i ≤ 0x823F ∧ keySub k = 5 then (leBytes 4 (knotDefault (o / 4))).getD (o % 4) 0
  else if 0x8300 ≤ i ∧ i ≤ 0x8307 ∧ keySub k = 4 then (leBytes 8 (mix64 0 8 [o / 8])).getD (o % 8) 0
  else if 0x9010 ≤ i ∧ i ≤ 0x9017 ∧ keySub k = 6 then (if o % 6 = 3 then 4 else 0)
  else 0

/-- Reset value of a register: BAR2_SIZE 38 (Table 16-7); an MSI-X vector starts masked, as PCIe has it (log entry 19); 0
elsewhere. BAR4 registers stand at 10000h + offset. -/
def Reg.default (a : Nat) : Nat := if a = 0x18 then 38 else if 0x8000 ≤ a ∧ a < 0x8800 ∧ a % 16 = 12 then 1 else 0

namespace State

/-- The stored number of an object. -/
def num (s : State) (k : Nat) : Nat := Store.get Obj.default s.obj k

/-- An object's stored number set. -/
def setNum (s : State) (k v : Nat) : State := { s with obj := Store.set Obj.default s.obj k v }

/-- The word of an object is uncorrectable (R862). -/
def wordBad (s : State) (k : Nat) : Bool := s.badObj.any (fun p => p.1 == k)

/-- A COUNT object of type U32 raised by `n`: it saturates (R1023); lost while its word is uncorrectable (R862). -/
def inc32 (s : State) (k n : Nat) : State := if s.wordBad k then s else s.setNum k (sat32 (s.num k + n))

/-- A COUNT object of type U64 raised by `n`: it wraps (R969, R970, R1023). -/
def inc64 (s : State) (k n : Nat) : State := if s.wordBad k then s else s.setNum k (wrap64 (s.num k + n))

/-- Bit `i` of an object set: the hardware side of a W1C field. -/
def setSticky (s : State) (k i : Nat) : State := s.setNum k (setBit (s.num k) i true)

/-- `n` octets of an OCTETS or BLOB object from offset `o`. -/
def octs (s : State) (k o n : Nat) : List Byte := Store.getMany Obj.octDefault s.oct (k * 65536 + o) n

/-- Octets of an OCTETS or BLOB object written from offset `o`. -/
def setOcts (s : State) (k o : Nat) (l : List Byte) : State :=
  { s with oct := Store.setMany Obj.octDefault s.oct (k * 65536 + o) l }

/-- A BAR0 or BAR4 register that holds a value of its own; an unlisted one reads as its reset value. -/
def regGet (s : State) (a : Nat) : Nat := Store.get Reg.default s.reg a
def regSet (s : State) (a v : Nat) : State := { s with reg := Store.set Reg.default s.reg a v }

end State

end Sys2Proof.Machine
end

