-- ==== Sys2Proof/Machine/Ops.lean ====
section
/-!
DEFINITION. The operations that every family shares: outcomes, the hold in reset, outputs, the fault log and its records,
notifications, interrupt vectors, fault reports and selection events (spec/17: R764, R788 to R790; spec/18: R846 to R850;
spec/16: R725 to R728; spec/15: R669).
-/

namespace Sys2Proof.Machine

/-- A command on a unit that the block has is carried out; one on a unit it has not is a fault. -/
def act (ok : Bool) (t : State) : Host.Outcome State Fault Refusal :=
  if ok then .next t else .fault .noSuchUnit

namespace State

/-- Every block is held in reset: no rails, POR_N low, root PLL out of lock, or JTAG (R85, R1002). -/
def held (s : State) : Bool := s.pins.off || s.pins.por || s.pins.pllLost || s.pins.jtagHeld

/-- `t` where the condition holds, else `s` unchanged: a command whose condition does not hold does nothing (log entry 2). -/
def when (s : State) (c : Bool) (t : State) : State := if c then t else s

/-- As `when`, and nothing happens while every block is held in reset. -/
def live (s : State) (c : Bool) (t : State) : State := if !s.held && c then t else s

/-- TIDE_NOW. -/
def now (s : State) : Nat := s.tide.now

/-- TCLK cycles since the cold reset. -/
def clock (s : State) : Nat := s.tide.clock

/-- The LCLK cycle, two TCLK cycles long (Table 2-1, R5). -/
def lclk (s : State) : Nat := s.clock / 2

/-- The LCLK cycle, counted from 1, in which an apply was accepted: one accepted while another is pending has no effect (R285, R469,
R489). -/
def askedAt (s : State) (pending : Bool) (asked : Nat) : Nat := if pending then asked else s.lclk + 1

/-- What the state records of this LCLK cycle's writes; nothing where its record is of an earlier cycle. -/
def commitNow (s : State) : Commit :=
  if s.shore.commit.cycle = s.lclk + 1 then s.shore.commit else { cycle := s.lclk + 1 }

/-- A number is about to be written by software: its value before this cycle is kept. -/
def noteNum (s : State) (k : Nat) : State :=
  let c := s.commitNow
  if c.num.any (fun p => p.1 == k) then s
  else { s with shore := { s.shore with commit := { c with num := (k, s.num k) :: c.num } } }

/-- Octets are about to be written by software: those that they replace are kept. -/
def noteOct (s : State) (store at_ : Nat) (old : List Byte) : State :=
  let c := s.commitNow
  { s with shore := { s.shore with commit := { c with oct := (store, at_, old) :: c.oct } } }

/-- Software's values as they stood at the end of the commit cycle before this one (R5). -/
def before (s : State) : State :=
  let c := s.commitNow
  let s1 := c.num.foldl (fun (t : State) p => t.setNum p.1 p.2) s
  c.oct.foldl (fun (t : State) (p : Nat × Nat × List Byte) =>
    if p.1 = 0 then { t with oct := Store.setMany Obj.octDefault t.oct p.2.1 p.2.2 }
    else if p.1 = 1 then { t with egs := { t.egs with descStaged := Store.setMany zeroByte t.egs.descStaged p.2.1 p.2.2 } }
    else { t with egs := { t.egs with ringsStaged := Store.setMany zeroByte t.egs.ringsStaged p.2.1 p.2.2 } }) s1

/-- The launch that a generator has taken in this LCLK cycle: NEXT_LAUNCH holds it until the cycle's commit point (R1033). -/
def launchNow (s : State) (g : Nat) : Option Nat :=
  (s.tide.launches.find? (fun p => p.1 == g && p.2.1 == s.lclk)).map (fun p => p.2.2.1)

/-- The reach address (R608). -/
def addr (s : State) : Nat := s.nv.addr

def emit (s : State) (o : Out) : State := { s with out := s.out ++ [o] }

/-- Members of the reach: DIM_X × DIM_Y (9000h:06). -/
def reachSize (s : State) : Nat := s.num Obj.DIM_X * s.num Obj.DIM_Y

end State

/-- A log record of an event that belongs to no job (Table 17-3). -/
def eventRec (s : State) (code source d0 d1 : Nat) : LogRec :=
  { code := code, kind := 0, flags := 0, seq := 0, tide := s.now, client := 255, chip := s.addr, source := source,
    course := 255, pos := 0, slot := 0, phys := 0, jobSeq := 0, reachJob := 0, detail0 := d0, detail1 := d1 }

/-- Octets 0 to 59 of a record, and the whole record with its CRC (Table 17-3). -/
def LogRec.body (r : LogRec) : List Byte :=
  leBytes 2 r.code ++ leBytes 1 r.kind ++ leBytes 1 r.flags ++ leBytes 4 r.seq ++ leBytes 8 r.tide ++
    leBytes 1 r.client ++ leBytes 1 r.chip ++ leBytes 1 r.source ++ leBytes 1 0 ++ leBytes 1 r.course ++
    leBytes 1 r.pos ++ leBytes 1 r.slot ++ leBytes 1 r.phys ++ leBytes 4 r.jobSeq ++ leBytes 4 r.reachJob ++
    leBytes 8 r.detail0 ++ leBytes 8 r.detail1 ++ leBytes 12 0
def LogRec.bytes (r : LogRec) : List Byte := r.body ++ leBytes 4 (crc32c r.body)

namespace State

/-- LOG_SEQ that a record queued now will have; FFFF_FFFFh when the queue is full (R788). -/
def nextLogSeq (s : State) : Nat :=
  if s.faults.queue.length < 64 then (s.num Obj.LOG_WRITTEN + s.faults.queue.length) % 2 ^ 32 else 0xFFFFFFFF

/-- A record joins the queue of 64, or is dropped and counted (R788). -/
def log (s : State) (r : LogRec) : State :=
  if s.faults.queue.length < 64 then
    { s with faults := { s.faults with queue := s.faults.queue ++ [{ r with seq := s.nextLogSeq }] } }
  else (s.inc64 Obj.LOG_LOST 1).setSticky Obj.LOG_STICKY 0

/-- Octets of NOTIFY_MAC as a number. -/
def notifyMac (s : State) : Nat := ofBe (s.octs Obj.NOTIFY_MAC 0 6)

/-- A notification joins those held, or is dropped and counted (R850); address 0 sends none (Table 18-12). -/
def notify (s : State) (event logSeq detail : Nat) : State :=
  if s.notifyMac = 0 then s
  else if s.shore.notes.length < 32 then
    { s with shore := { s.shore with notes := s.shore.notes ++
        [{ event := event, logSeq := logSeq, tide := s.now, detail := detail, seq := none, tries := 0, sentAt := 0 }] } }
  else s.inc32 Obj.NOTIFY_LOST 1

/-- A record logged and, where a chapter states a notification, notified (R846). -/
def logNote (s : State) (r : LogRec) : State := (s.log r).notify r.code s.nextLogSeq r.detail0

/-- A log-only event. -/
def event (s : State) (code source d0 d1 : Nat) : State := s.log (eventRec s code source d0 d1)

/-- A log-only event that is notified. -/
def eventNote (s : State) (code source d0 d1 : Nat) : State := s.logNote (eventRec s code source d0 d1)

/-- An event is due on an MSI-X vector (R726 to R728): it waits for MSIX_SEND. -/
def raiseVector (s : State) (v : Nat) : State :=
  if s.host.due.contains v then s else { s with host := { s.host with due := s.host.due ++ [v] } }

/-- A global vector of INT_VECTORS raised while its bit of INT_ENABLE is 1 (R725): 0 device, 1 update ring, 2 heat,
3 mailbox. -/
def raiseGlobal (s : State) (i : Nat) : State :=
  if bit (s.regGet 0x24) i then s.raiseVector (s.regGet 0x20 / 256 ^ i % 256) else s

/-- A job fault report on its way to the scheduler (R765). -/
def report (s : State) (r : FaultReport) : State :=
  { s with faults := { s.faults with reports := s.faults.reports ++ [r] } }

def schedState (s : State) : Nat := s.num Obj.SCHED_STATE

/-- SCHED_STATE takes a value; the one before this LCLK cycle is kept (R810). -/
def setSched (s : State) (v : Nat) : State :=
  let w := if s.sched.stateWas.1 = s.lclk + 1 then s.sched.stateWas else (s.lclk + 1, s.schedState)
  { s.setNum Obj.SCHED_STATE v with sched := { s.sched with stateWas := w } }

/-- SCHED_STATE at the end of the LCLK cycle before this one. -/
def schedBefore (s : State) : Nat := if s.sched.stateWas.1 = s.lclk + 1 then s.sched.stateWas.2 else s.schedState

/-- No job owns the chip and none is being switched in: SCHED_STATE is FREE, LOADING or REACH_HOLD. -/
def chipFree (s : State) : Bool := s.sched.run.isNone

def powerState (s : State) : Nat := s.num Obj.POWER_STATE

/-- The chip is in HOLD: stacks in self-refresh, search logic and engines gated (Table 20-1). -/
def asleep (s : State) : Bool := s.powerState == 4

/-- The table-update ring takes entries: not while a drain or a warm reset stands, nor in HOLD (R898, R934). -/
def ringRuns (s : State) : Bool := s.power.drain.isNone && !s.nv.warm && !s.asleep

/-- WAKING is entered (R912). -/
def enterWaking (s : State) : State :=
  { s.setNum Obj.POWER_STATE 2 with power := { s.power with wakeAt := s.now, automatic := false } }

/-- A selection event stands until the scheduler makes its choice; it wakes a chip in automatic LULL (R669, R917, R918). -/
def selectionEvent (s : State) : State :=
  let s1 := { s with sched := { s.sched with event := true } }
  if s.powerState == 1 && s.power.automatic then s1.enterWaking else s1

end State

/-- A fault report without a site (R1032). -/
def plainReport (s : State) (code source parity d0 d1 : Nat) : FaultReport :=
  { code := code, parity := parity, source := source, site := false, course := 255, pos := 0, slot := 0, phys := 0,
    detail0 := d0, detail1 := d1, tide := s.now, remote := none, treeError := false }

/-- One octet of HBM, and octets from an address on. -/
def State.hbmByte (s : State) (a : Nat) : Byte := Store.get zeroByte s.hbm.mem a
def State.hbmBytes (s : State) (a n : Nat) : List Byte := Store.getMany zeroByte s.hbm.mem a n

/-- Octets written to HBM from an address on; a word that is wholly rewritten loses its error mark. -/
def State.hbmPut (s : State) (a : Nat) (l : List Byte) : State :=
  let whole := fun w => decide (a ≤ w * 8) && decide (w * 8 + 8 ≤ a + l.length)
  { s with hbm := { s.hbm with
      mem := Store.setMany zeroByte s.hbm.mem a l
      ce := s.hbm.ce.filter (fun w => !whole w)
      ue := s.hbm.ue.filter (fun w => !whole w) } }

end Sys2Proof.Machine
end

