-- ==== Sys2Proof/Machine/Pins.lean ====
section
/-!
DEFINITION. The SHORE pins, their change of function, the debug UART and the pin commands (spec/22: R982 to R998, R1011 to
R1016).
-/

namespace Sys2Proof.Machine

/-- Functions that turn the driver on (Table 22-4). -/
def outputFunction (f : Nat) : Bool := f == 1 || f == 2 || f == 5 || f == 6 || f == 7

namespace State

def pin (s : State) (n : Nat) : Pin := Store.get (fun _ => ({} : Pin)) s.pins.shore n
def setPin (s : State) (n : Nat) (p : Pin) : State :=
  { s with pins := { s.pins with shore := Store.set (fun _ => ({} : Pin)) s.pins.shore n p } }

/-- Function in force on a pin, and its POLARITY. -/
def pinFn (s : State) (n : Nat) : Nat := s.num (Obj.FUNCTION_NOW n)
def pinPol (s : State) (n : Nat) : Bool := s.num (Obj.POLARITY n) == 1

/-- Some pin has a function in force, or its change to it is under way. -/
def someFn (s : State) (f : Nat) : Option Nat := (List.range 16).find? (fun n => s.pinFn n == f)

/-- The level that the function in force drives (Table 22-4). -/
def outLevel (s : State) (n : Nat) : Bool :=
  let v := match s.pinFn n with
    | 1 => s.num (Obj.OUTPUT_VALUE n) == 1
    | 2 => true
    | 5 => decide (s.clock < (s.pin n).markerEnd)
    | 6 => decide (s.now < s.pps.outUntil)
    | 7 => s.powerState == 4
    | _ => false
  v != s.pinPol n

/-- The driver is on: the function drives and DRIVE_ENABLE is 1 in effect (R991, R1013). -/
def pinDrives (s : State) (n : Nat) : Bool := (s.pin n).driving && bit (s.num (Obj.DRIVE_ENABLE n)) 4

/-- The level at the pad: its driver's, unless the board holds it against that (R1016). -/
def padLevel (s : State) (n : Nat) : Bool := if s.pinDrives n && !(s.pin n).against then s.outLevel n else (s.pin n).pad

/-- LEVEL: the last sample XOR POLARITY (R1016); a pin with no sample yet reads its pad. -/
def pinLevel (s : State) (n : Nat) : Bool :=
  let p := s.pin n
  (if p.switchAt.isNone && s.pinDrives n then s.padLevel n else p.sample.getD p.pad) != s.pinPol n

/-- A rising edge counted under GPIO_IN or FAN_TACH (Table 22-4, R982). -/
def countEdge (s : State) (n : Nat) : State :=
  let s1 := s.inc64 (Obj.EDGES n) 1
  if s.pinFn n = 4 then
    let p := s.pin n
    let s2 := match p.tachAt with
      | some a => s1.setNum (Obj.TACH_PERIOD n) (sat32 (s.clock - a))
      | none => s1
    s2.setPin n { p with tachAt := some s.clock }
  else s1

/-- A pin takes its sample; a rise of the sampled value is counted under GPIO_IN and FAN_TACH. -/
def samplePin (s : State) (n : Nat) : State :=
  let p := s.pin n
  let v := s.padLevel n
  let s1 := s.setPin n { p with sample := some v }
  let pol := s.pinPol n
  if (s.pinFn n == 0 || s.pinFn n == 4) && (p.sample.getD v) == pol && v != pol then s1.countEdge n else s1

/-- A change of function begins at X, the present TCLK edge (R991, R992, R995, R1011, R1012). -/
def changeFunction (s : State) (n f : Nat) : State :=
  let p := s.pin n
  ((s.setNum (Obj.FUNCTION_NOW n) f).setNum (Obj.SWITCH_STATE n) 1).setPin n
    { p with switchAt := some s.clock, driving := false, markerEnd := 0, markerFrom := s.clock + 1, tachAt := none,
             tachFrom := s.clock }

/-- One TCLK edge of a change of function (Table 22-5). -/
def pinTick (s : State) (n : Nat) : State :=
  let p := s.pin n
  match p.switchAt with
  | none => s
  | some x =>
    if s.clock = x + 1 then (s.setNum (Obj.SWITCH_STATE n) 2).setPin n { p with driving := outputFunction (s.pinFn n) }
    else if x + 2 ≤ s.clock then
      let s1 := (s.setNum (Obj.SWITCH_STATE n) 0).setPin n { p with driving := outputFunction (s.pinFn n), switchAt := none }
      s1.setPin n { (s1.pin n) with sample := some (s1.padLevel n) }
    else s

/-- The markers of the pins set to a generator rise at its launch (R53, R994, R1011). -/
def markLaunch (s : State) (g : Nat) : State :=
  (List.range 16).foldl (fun t n =>
    let p := t.pin n
    if t.pinFn n = 5 ∧ t.num (Obj.PARAM n) % 16 = g ∧ p.markerFrom ≤ t.clock then t.setPin n { p with markerEnd := t.clock + 4 }
    else t) s

/-- A change of POLARITY takes effect at once; a value that it makes rise counts as an edge (R993; log entry 23). -/
def polarityChanged (s : State) (n : Nat) (old : Bool) : State :=
  let p := s.pin n
  match p.sample with
  | some v =>
    if p.switchAt.isNone && (s.pinFn n == 0 || s.pinFn n == 4) && v == old && v != s.pinPol n then s.countEdge n
    else s
  | none => s

end State

/-- An uppercase hexadecimal digit as ASCII. -/
def hexUpper (n : Nat) : Byte := BitVec.ofNat 8 (if n < 10 then 48 + n else 55 + n)

/-- A debug UART line of a record (R996). -/
def uartText (r : List Byte) : List Byte :=
  [0x53, 0x57, 0x56] ++ ((chunked 16 4 r).flatMap (fun g =>
    (0x20 : Byte) :: g.flatMap (fun b => [hexUpper (b.toNat / 16), hexUpper (b.toNat % 16)]))) ++ [0x0D, 0x0A]

/-- A written record makes a line while some pin transmits; a line beyond 16 waiting is dropped and counted (R996). -/
def State.uartAdd (s : State) (r : LogRec) : State :=
  if (s.someFn 2).isNone then s
  else if 16 ≤ s.pins.uart.length then s.inc32 Obj.UART_DROPPED 1
  else { s with pins := { s.pins with uart := s.pins.uart ++ [uartText r.bytes] } }

/-- UART_LINE (R996): the oldest waiting line is sent on the UART_TX pin. -/
def execUartLine (s : State) : Host.Outcome State Fault Refusal :=
  match s.pins.uart with
  | [] => .next s
  | l :: r => .next (s.live (s.someFn 2).isSome
      ((({ s with pins := { s.pins with uart := r } }).emit (.uart l)).inc64 Obj.UART_LINES 1))

/-- SHORE_INPUT_EDGE (R982, R991, R992, R1016, Table 22-4): the board changes the level at a pad, long enough for two samples; a pad that
its driver holds otherwise is held against it. -/
def execShoreInputEdge (pin : Nat) (level : Bool) (s : State) : Host.Outcome State Fault Refusal :=
  let s1 := s.setPin pin { (s.pin pin) with pad := level, against := s.pinDrives pin && level != s.outLevel pin }
  act (decide (pin < 16))
    (if s.held then s1 else if (s.pin pin).switchAt.isSome || s.pinDrives pin then s1 else s1.samplePin pin)

/-- UART_RX_CHARACTER (Table 22-4): a character received under UART_RX is counted and discarded. -/
def execUartRxCharacter (s : State) : Host.Outcome State Fault Refusal :=
  .next (s.live (s.someFn 3).isSome (s.inc64 Obj.UART_RX_CHARS 1))

/-- TACH_PERIOD_TIMEOUT (Table 22-17): 67,108,864 tt without an edge under FAN_TACH. -/
def execTachPeriodTimeout (pin : Nat) (s : State) : Host.Outcome State Fault Refusal :=
  let p := s.pin pin
  act (decide (pin < 16))
    (s.live (s.pinFn pin == 4 && decide (p.tachAt.getD p.tachFrom + 67108864 ≤ s.clock))
      (s.setNum (Obj.TACH_PERIOD pin) 0xFFFFFFFF))

end Sys2Proof.Machine
end

