-- ==== Sys2Proof/Machine/Memory.lean ====
section
/-!
DEFINITION. External memory as the blocks reach it: the interleave hash, blocks retired and channels failed, reads and
writes at a controller with their errors, and the region table (spec/11: R439 to R449, R454 to R457, R468, R474 to R480,
R1035).
-/

namespace Sys2Proof.Machine

/-- PC(A) (R442). -/
def pcOf (a : Nat) : Nat := xorN (xorN (xorN (bits a 18 11) (bits a 26 19)) (bits a 34 27)) (bits a 37 35)

/-- Block number A[37:11]. -/
def blockOf (a : Nat) : Nat := a / 2048

/-- End of usable HBM, end of HBM, and the start of the working area of client 0 (Table 11-2). -/
def usableEnd : Nat := 0x2FFC000000
def hbmEnd : Nat := 0x3000000000
def client0Base : Nat := 0x2FFF000000

/-- Twenty-four hours in tt. -/
def dayTt : Nat := 4320000000000

/-- The lines that `n` octets from `a` on touch. -/
def linesOf (a n : Nat) : List Nat :=
  if n = 0 then [] else (List.range ((a + n - 1) / 64 + 1 - a / 64)).map (fun i => a / 64 + i)

/-- The events of the last 24 hours among ticks kept with a number. -/
def recent (l : List (Nat × Nat)) (now : Nat) : List (Nat × Nat) := l.filter (fun p => decide (now < p.2 + dayTt))

namespace State

/-- The first 128 tt of a calibration window: no pseudo-channel serves a request, and no bank works on its shadow (R397, R462). -/
def calPause (s : State) : Bool :=
  match s.hbm.calAt with
  | some t => decide (s.now < t + 128)
  | none => false

def pcState (s : State) (n : Nat) : Nat := Store.get (fun _ => 0) s.hbm.channels n

/-- The address lies in a retired block or a channel out of service (R478). -/
def hbmDead (s : State) (a : Nat) : Bool := s.hbm.retired.contains (blockOf a) || s.pcState (pcOf a) != 0

/-- A pseudo-channel becomes failed (R479). -/
def failChannel (s : State) (n : Nat) : State :=
  if s.pcState n = 1 then s
  else
    let s1 := { s with hbm := { s.hbm with channels := Store.set (fun _ => 0) s.hbm.channels n 1 } }
    (s1.setSticky Obj.HBM_STICKY 3).eventNote 0x0A50 4 0 0

/-- A block retired live, or, with 4,096 retired already, its pseudo-channel failed (R477, R479). -/
def retireBlock (s : State) (b : Nat) : State :=
  if s.hbm.retired.contains b then s
  else if 4096 ≤ s.hbm.retired.length then s.failChannel (pcOf (b * 2048))
  else
    let l := s.hbm.retired
    let s1 := { s with hbm := { s.hbm with retired := l.takeWhile (fun x => x < b) ++ b :: l.dropWhile (fun x => x < b) } }
    (s1.setSticky Obj.HBM_STICKY 2).event 0x0A51 4 b (pcOf (b * 2048))

/-- An uncorrectable word is met: counted, recorded, its block retired and its channel judged (R475, R477, R479). -/
def hbmUe (s : State) (a : Nat) : State :=
  let s1 := (((s.inc32 Obj.HBM_UNCORRECTED 1).setNum Obj.LAST_UE_ADDRESS a).setNum Obj.LAST_UE_TIDE_5021 s.now).setSticky
    Obj.HBM_STICKY 1
  let t := recent (s.hbm.ueTicks ++ [(pcOf a, s.now)]) s.now
  let s2 := ({ s1 with hbm := { s1.hbm with ueTicks := t } }).retireBlock (blockOf a)
  if s.num Obj.PC_UE_LIMIT < (t.filter (fun p => p.1 == pcOf a)).length then s2.failChannel (pcOf a) else s2

/-- A single-bit error is corrected and written back: counted, and its block judged (R474, R477). -/
def hbmCe (s : State) (w : Nat) : State :=
  let b := blockOf (w * 8)
  let t := recent (s.hbm.ceTicks ++ [(b, s.now)]) s.now
  let s0 := (s.inc32 Obj.HBM_CORRECTED 1).setSticky Obj.HBM_STICKY 0
  let s1 := { s0 with hbm := { s0.hbm with ce := s0.hbm.ce.filter (fun x => x != w), ceTicks := t } }
  if s.num Obj.RETIRE_CE_LIMIT ≤ (t.filter (fun p => p.1 == b)).length then s1.retireBlock b else s1

/-- A controller reads lines: their single-bit errors are corrected and their uncorrectable words noted. -/
def readLines (s : State) (l : List Nat) : State :=
  let ce := s.hbm.ce.filter (fun w => l.contains (w / 8))
  let ue := s.hbm.ue.filter (fun w => l.contains (w / 8))
  ue.foldl (fun t w => t.hbmUe (w * 8)) (ce.foldl hbmCe s)

/-- Some line holds an uncorrectable word. -/
def linesBad (s : State) (l : List Nat) : Bool := s.hbm.ue.any (fun w => l.contains (w / 8))

/-- A read at a controller: STATUS of Table 11-4, the data, and the state after it (R475, R478). -/
def memRead (s : State) (a n : Nat) : Nat × List Byte × State :=
  if s.hbmDead a then (2, [], s)
  else
    let l := linesOf a n
    if s.linesBad l then (1, [], s.readLines l) else (0, s.hbmBytes a n, s.readLines l)

/-- The lines that a write covers only in part of an aligned 64-bit word (R457). -/
def mergedLines (a n : Nat) : List Nat :=
  (if a % 8 ≠ 0 then [a / 64] else []) ++ (if (a + n) % 8 ≠ 0 then [(a + n) / 64] else [])

/-- A write at a controller: STATUS, and the state after it (R454, R457, R476, R478). -/
def memWrite (s : State) (a : Nat) (l : List Byte) : Nat × State :=
  if s.hbmDead a then (2, s)
  else
    let m := mergedLines a l.length
    if s.linesBad m then (1, s.readLines m) else (0, (s.readLines m).hbmPut a l)

/-- A read or a write of an embedding engine: nothing above usable HBM is its own (R449); STATUS 3 there. -/
def engineRead (s : State) (a n : Nat) : Nat × List Byte × State := if usableEnd < a + n then (3, [], s) else s.memRead a n
def engineWrite (s : State) (a : Nat) (l : List Byte) : Nat × State := if usableEnd < a + l.length then (3, s) else s.memWrite a l

end State

/-- A region entry in force: its first octet, the octet after its last, CLIENT_MASK and PERM (Table 11-3). -/
structure Region where
  base : Nat
  fin : Nat
  mask : Nat
  perm : Nat
deriving DecidableEq, Repr

/-- The region that 32 octets hold. -/
def parseRegion (l : List Byte) : Region :=
  { base := le l 0 8, fin := le l 8 8 + 4096, mask := le l 16 8, perm := le l 24 1 }

/-- Numbers of the entries of a region table whose VALID bit is set. -/
def validEntries (t : List (Nat × Byte)) : List Nat :=
  (t.filter (fun p => p.1 % 32 == 24 && bit p.2.toNat 3)).map (fun p => p.1 / 32)

namespace State

/-- The VALID entries in force that grant a client. -/
def clientRegions (s : State) (c : Nat) : List Region :=
  ((validEntries s.hbm.regions).map (fun i => parseRegion (Store.getMany zeroByte s.hbm.regions (32 * i) 32))).filter
    (fun r => bit r.mask c)

/-- The fault code of an HBM element of a client, 0 when it passes (Table 11-7, R445, R448, R1035). -/
def elementCode (s : State) (client a n : Nat) (write : Bool) : Nat :=
  if client = 0 then (if client0Base ≤ a ∧ a + n ≤ hbmEnd then 0 else 0x0203)
  else if usableEnd < a + n then 0x0203
  else
    let l := (s.clientRegions client).filter (fun r => decide (r.base ≤ a) && decide (a + n ≤ r.fin))
    if l.any (fun r => bit r.perm (if write then 1 else 0)) then 0
    else if l.isEmpty then 0x0201 else 0x0202

/-- The address of a request of a client is usable (R468). -/
def addressOk (client a n : Nat) : Bool :=
  if client = 0 then decide (client0Base ≤ a ∧ a + n ≤ hbmEnd) else decide (a + n ≤ usableEnd)

/-- The staged region table copied into force (R447). -/
def regionsFrom (s u : State) : State :=
  { s with hbm := { s.hbm with
      regions := (u.oct.filter (fun p => p.1 / 32768 == Obj.REGION_TABLE * 2)).map (fun p => (p.1 % 32768, p.2))
      regionsPending := false } }

/-- A pending apply at a job boundary whose selection falls after the LCLK cycle of its acceptance; writes of the selection's own
cycle stay staged (R447, R469). -/
def regionsApplied (s : State) : State :=
  if s.hbm.regionsPending && decide (s.hbm.regionsAsked < s.lclk + 1) then s.regionsFrom s.before else s

/-- USABLE_BYTES: usable HBM less its retired blocks and the channels out of service (R479; spec/11: Table 11-9). -/
def usableBytes (s : State) : Nat :=
  let dead := (List.range 256).filter (fun n => s.pcState n != 0)
  let blocks := s.hbm.retired.filter (fun b => decide (b < 0x5FF8000) && s.pcState (pcOf (b * 2048)) == 0)
  usableEnd - 2048 * (blocks.length + dead.length * 393088)

end State

end Sys2Proof.Machine
end

