-- ==== Sys2Proof/Machine/CsaBase.lean ====
section
/-!
DEFINITION. The banks of the content search array as other blocks reach them: their state, owner, shadow header, scrub windows,
clearing and failure (spec/08: R338 to R341, R365, R385, R391; spec/09: R392, R393, R395, R397 to R399, R415).
-/

namespace Sys2Proof.Machine

namespace State

def csaBank (s : State) (b : Nat) : CsaBank := Store.get (fun _ => ({} : CsaBank)) s.csa.banks b
def setCsaBank (s : State) (b : Nat) (x : CsaBank) : State :=
  { s with csa := { s.csa with banks := Store.set (fun _ => ({} : CsaBank)) s.csa.banks b x } }
def csaEntry (s : State) (b i : Nat) : CsaEntry := Store.get (fun _ => ({} : CsaEntry)) s.csa.entries (b * 8192 + i)
def csaImage (s : State) (b i : Nat) : CsaImage := Store.get (fun _ => ({} : CsaImage)) s.csa.images (b * 8192 + i)

/-- Units per entry, entries and HOLE_INTERVAL of a bank, and whether its priority is explicit. -/
def csaW (s : State) (b : Nat) : Nat := max 1 (s.num (Obj.ENTRY_UNITS b))
def csaE (s : State) (b : Nat) : Nat := 8192 / s.csaW b
def csaH (s : State) (b : Nat) : Nat := s.num (Obj.HOLE_INTERVAL b)
def csaExplicit (s : State) (b : Nat) : Bool := s.num (Obj.PRIORITY_MODE b) == 1

/-- Client whose set holds a bank (7000h+b:0E); 255 for none. -/
def csaOwner (s : State) (b : Nat) : Nat := ((List.range 64).find? (fun c => bit (s.num (Obj.CSA_BANKSET c)) b)).getD 255

/-! ### The shadow header -/

/-- Octets of a shadow header (Table 9-2); one whose CRC fails is shown with its last bit changed. -/
def headerOctets (h : CsaHeader) : List Byte :=
  let l := leBytes 1 h.units ++ leBytes 1 h.mode ++ leBytes 2 h.hole ++ leBytes 2 h.gen ++ leBytes 2 h.epoch ++
    List.replicate 52 0
  l ++ leBytes 4 (xorN (crc32c l) (b2n (!h.crcOk)))

/-- Address of the header of a bank (Table 9-1). -/
def headerAt (b : Nat) : Nat := 0x2FFD000000 + b * 0x40

/-- A write of the shadow makes the words it covers good again. -/
def shadowWords (s : State) (a n : Nat) : State :=
  let gone := fun w => decide (a / 8 ≤ w) && decide (w < (a + n) / 8)
  { s with hbm := { s.hbm with
    ce := s.hbm.ce.filter (fun w => !gone w), ue := s.hbm.ue.filter (fun w => !gone w) } }

/-- The header of a bank is written: its configuration, its BANK_GEN and a clear epoch (R392, Table 9-2). -/
def putHeader (s : State) (b epoch : Nat) : State :=
  let k := s.csaBank b
  (s.setCsaBank b { k with header :=
    { units := s.num (Obj.ENTRY_UNITS b), mode := s.num (Obj.PRIORITY_MODE b), hole := s.csaH b, gen := k.gen, epoch := epoch,
      crcOk := true } }).shadowWords (headerAt b) 64

/-- BANK_GEN counts on, in the bank and in its header (R339, R393). -/
def genUp (s : State) (b : Nat) : State :=
  let k := s.csaBank b
  (s.setCsaBank b { k with gen := (k.gen + 1) % 65536 }).putHeader b k.header.epoch

/-! ### Scrub windows -/

/-- Scrub windows that have opened, at the ticks with TIDE_NOW[11:0] = 400h (Table 2-4), and the opening tick of the one of a number. -/
def scrubOpen (s : State) : Nat := (s.now + 3072) / 4096
def scrubStart (q : Nat) : Nat := q * 4096 - 3072

/-- UNITS_PER_WINDOW of a window: as it stood at its opening (R415). -/
def windowUnits (s : State) (w : Nat) : Nat :=
  if s.csa.windowAt = some w then s.csa.windowUnits else s.num Obj.UNITS_PER_WINDOW

/-- Intervals of a window; 0 before the first. -/
def scrubUnits (s : State) (q : Nat) : Nat := if q = 0 then 0 else max 1 (s.windowUnits (scrubStart q))

/-- Intervals of the last window that have ended. -/
def scrubEnded (s : State) : Nat :=
  let u := s.scrubUnits s.scrubOpen
  if u = 0 then 0 else min u ((s.now - scrubStart s.scrubOpen) * 12 / (3072 / u))

/-- A bank that makes steps: READY or UNOWNED, with scrubbing enabled and the array not gated (R398, R416, Table 20-1). -/
def scrubbing (s : State) (b : Nat) : Bool :=
  ((s.csaBank b).state == 0 || (s.csaBank b).state == 2) && s.num Obj.SCRUB_ENABLE == 1 && !s.asleep

/-- The intervals of a bank that have ended without their step are counted, where it makes steps (R399). -/
def scrubAccount (s : State) (b : Nat) : State :=
  let k := s.csaBank b
  let q := s.scrubOpen
  let p := s.scrubEnded
  if q < k.stepWin ∨ (q = k.stepWin ∧ p ≤ k.steps) then s
  else
    let n := if q = k.stepWin then p - k.steps
      else (s.scrubUnits k.stepWin - k.steps) + (q - k.stepWin - 1) * s.num Obj.UNITS_PER_WINDOW + p
    let s1 := s.setCsaBank b { k with stepWin := q, steps := p }
    if n = 0 ∨ !s.scrubbing b then s1 else (s1.inc64 Obj.STEPS_DEFERRED n).setSticky Obj.SCRUB_STICKY 2

/-- The same for every bank: before UNITS_PER_WINDOW, SCRUB_ENABLE or the gating of the array changes. -/
def scrubAccounts (s : State) : State := (List.range 64).foldl scrubAccount s

/-- After a restep the banks go on from the interval that the new TIDE_NOW lies in (R82). -/
def scrubRestart (s : State) : State :=
  (List.range 64).foldl (fun (t : State) b => t.setCsaBank b { t.csaBank b with stepWin := t.scrubOpen, steps := t.scrubEnded }) s

/-! ### Clearing and failure -/

/-- The work of a clearing: every entry a hole, BANK_GEN counted, the clear epoch passed on in the header (R339, R365, R395). -/
def clearNow (s : State) (b : Nat) : State :=
  let s1 := { s with csa := { s.csa with entries := Store.clear s.csa.entries (b * 8192) (b * 8192 + 8192) } }
  let k := s1.csaBank b
  (s1.setCsaBank b { k with gen := (k.gen + 1) % 65536, clearDue := false, ce := [], ue := [] }).putHeader b
    (if k.header.epoch = 65535 then 1 else k.header.epoch + 1)

/-- A clearing starts: the bank is CLEARING, a FAILED one stays FAILED; in a calibration pause its work waits (R341, R365, R385, R391,
R397). -/
def startClearing (s : State) (b : Nat) : State :=
  let s0 := s.scrubAccount b
  let k := s0.csaBank b
  let s1 := s0.setCsaBank b { k with state := if k.state = 4 then 4 else 1, clearDue := true }
  if s.calPause then s1 else s1.clearNow b

/-- A bank is declared failed, or fails its self-test (R385). -/
def csaFail (s : State) (b : Nat) : State :=
  let s0 := s.scrubAccount b
  let s1 := s0.setCsaBank b { s0.csaBank b with state := 4 }
  (s1.setSticky Obj.CSA_STICKY 3).eventNote 0x0610 3 0 0

/-- A bank lies in some client's set. -/
def bankOwned (s : State) (b : Nat) : Bool := s.csaOwner b != 255

end State

end Sys2Proof.Machine
end

