-- ==== Sys2Proof/Machine/CoastBase.lean ====
section
/-!
DEFINITION. Coastline as the other blocks reach it: topology and routes, messages and flits, the transmitter of a port, posted
updates and their credits, and taking a message out of an input buffer (spec/14: R603 to R612, R617, R621 to R629, R635, R636,
R643, R649).
-/

namespace Sys2Proof.Machine

/-- The way round a ring of `n` from `a` to `b`: 0 there already, 1 the positive way, 2 the negative (R610). -/
def wayRound (n a b : Nat) : Nat :=
  if a = b then 0 else if 2 * ((b + n - a) % n) ≤ n then 1 else 2

/-- The two ports of a link face each other as +x to −x and +y to −y (Table 14-3). -/
def facingPort (p : Nat) : Nat :=
  match p with
  | 0 => 2 | 2 => 0 | 1 => 3 | 3 => 1 | 4 => 6 | 6 => 4 | 5 => 7 | _ => 5

/-- A port number. -/
def portOk (p : Nat) : Bool := decide (p < 8)

/-- DATA payloads of 56 octets, the last filled with zeros (R621). -/
def payloadsOf (l : List Byte) : List (List Byte) :=
  (chunked l.length 56 l).map (fun x => x ++ List.replicate (56 - x.length) 0)

/-! ### Flits as octets -/

/-- LINK_HDR (Table 14-2). -/
def linkHdr (kind vc dateline seq last ack : Nat) : Nat :=
  kind * 2 ^ 30 + vc * 2 ^ 28 + dateline * 2 ^ 27 + seq * 2 ^ 16 + last * 2 ^ 15 + ack

/-- A flit: LINK_HDR, 56 payload octets and the CRC over both (R603). -/
def sealFlit (hdr : Nat) (payload : List Byte) : List Byte :=
  let l := leBytes 4 hdr ++ payload ++ List.replicate (56 - payload.length) 0
  l ++ leBytes 4 (crc32c l)

/-- The CRC of 64 octets holds (R603). -/
def flitCrcOk (l : List Byte) : Bool := l.length == 64 && le l 60 4 == crc32c (l.take 60)

/-- FLIT_KIND. -/
def flitKind (l : List Byte) : Nat := bits (le l 0 4) 31 30

def flitOctets (f : Flit) : List Byte := sealFlit (linkHdr 0 f.vc f.dateline f.seq (b2n f.last) f.ackSeq) f.payload
def parseFlit (l : List Byte) : Flit :=
  let w := le l 0 4
  { crcOk := flitCrcOk l, vc := bits w 29 28, dateline := bits w 27 27, seq := bits w 26 16, last := bit w 15, ackSeq := bits w 10 0,
    payload := (l.drop 4).take 56 }

/-- CREDIT_ACK (Table 14-5). -/
def creditOctets (c : CreditAck) : List Byte :=
  sealFlit (linkHdr 1 0 0 0 0 c.ackSeq)
    (leBytes 1 1 ++ leBytes 1 (128 * b2n c.nak.isSome) ++ leBytes 2 (c.nak.getD 0) ++ c.freed.flatMap (leBytes 2))

/-- The bits of a LINK_HDR that a CONTROL flit has to leave 0 (Table 14-2). -/
def controlHdrBad (l : List Byte) : Bool := bits (le l 0 4) 29 11 != 0

def parseCredit (l : List Byte) : CreditAck :=
  { crcOk := flitCrcOk l
    reserved := controlHdrBad l || le l 4 1 != 1 || bits (le l 5 1) 6 0 != 0 || bits (le l 6 2) 15 11 != 0 || !zeroAt l 20 40
    ackSeq := bits (le l 0 4) 10 0, nak := if bit (le l 5 1) 7 then some (bits (le l 6 2) 10 0) else none
    freed := (List.range 6).map (fun i => le l (8 + 2 * i) 2) }

/-- IDENT (Table 14-5). -/
def identOctets (i : Ident) : List Byte :=
  sealFlit (linkHdr 1 0 0 0 0 0)
    (leBytes 1 2 ++ leBytes 1 i.sender ++ leBytes 1 i.senderPort ++ leBytes 1 i.topology ++ leBytes 1 i.dimX ++ leBytes 1 i.dimY ++
      leBytes 1 i.goodLanes ++ leBytes 1 i.epoch ++ leBytes 4 i.reachId)
def parseIdent (l : List Byte) : Ident :=
  { crcOk := flitCrcOk l, reserved := controlHdrBad l || le l 4 1 != 2 || bits (le l 10 1) 7 4 != 0 || !zeroAt l 16 44,
    sender := le l 5 1, senderPort := le l 6 1, topology := le l 7 1, dimX := le l 8 1, dimY := le l 9 1,
    goodLanes := bits (le l 10 1) 3 0, epoch := le l 11 1, reachId := le l 12 4 }

/-- Flits of a message (R621). -/
def coastFlits (l : List Byte) : Nat := (l.length + 55) / 56

namespace State

def port (s : State) (p : Nat) : Port := Store.get (fun _ => ({} : Port)) s.coast.ports p
def setPort (s : State) (p : Nat) (c : Port) : State :=
  { s with coast := { s.coast with ports := Store.set (fun _ => ({} : Port)) s.coast.ports p c } }
def member (s : State) (d : Nat) : Member := Store.get (fun _ => ({} : Member)) s.coast.members d
def setMember (s : State) (d : Nat) (m : Member) : State :=
  { s with coast := { s.coast with members := Store.set (fun _ => ({} : Member)) s.coast.members d m } }

def portUp (s : State) (p : Nat) : Bool := s.num (Obj.PORT_STATE p) == 2

/-- Members other than this chip. -/
def others (s : State) : List Nat := (List.range s.reachSize).filter (fun d => d != s.addr)

/-- TOPOLOGY, DIM_X and DIM_Y meet Table 14-3, or are the reach of one chip (R609, R1031). -/
def topologyOk (s : State) : Bool :=
  let t := s.num Obj.TOPOLOGY
  let x := s.num Obj.DIM_X
  let y := s.num Obj.DIM_Y
  if t = 0 then y == 1 && decide (1 ≤ x ∧ x ≤ 64)
  else decide (t ≤ 2 ∧ 2 ≤ x ∧ x ≤ 32 ∧ 2 ≤ y ∧ y ≤ 32 ∧ x * y ≤ 64)

/-- The first port of the route of a message from `src` to `dest`, as this chip sends it on; none when it is there (R610). -/
def routePort (s : State) (src dest : Nat) : Option Nat :=
  let n := s.num Obj.DIM_X
  let wx := wayRound n (s.addr % n) (dest % n)
  let wy := wayRound (s.num Obj.DIM_Y) (s.addr / n) (dest / n)
  let pair := if s.num Obj.TOPOLOGY = 2 ∧ (src + dest) % 2 = 1 then 4 else 0
  if wx ≠ 0 then some ((if wx = 1 then 0 else 2) + pair)
  else if wy ≠ 0 then some ((if wy = 1 then 1 else 3) + pair)
  else none

/-- The link of a port is the wrap link of its row or column (R609). -/
def wrapLink (s : State) (p : Nat) : Bool :=
  let n := s.num Obj.DIM_X
  let y := s.num Obj.DIM_Y
  match p % 4 with
  | 0 => s.addr % n == n - 1
  | 2 => s.addr % n == 0
  | 1 => s.addr / n == y - 1
  | _ => s.addr / n == 0

/-- The neighbour that a port of this chip leads to, and the port of it that faces (Table 14-3); none when the port is not in
use. -/
def neighbour (s : State) (p : Nat) : Option (Nat × Nat) :=
  let n := s.num Obj.DIM_X
  let m := s.num Obj.DIM_Y
  let x := s.addr % n
  let y := s.addr / n
  let used := if s.num Obj.TOPOLOGY = 0 then p == 0 || p == 2 else if s.num Obj.TOPOLOGY = 1 then decide (p < 4) else true
  if !used || decide (s.reachSize ≤ 1) then none
  else
    let d := match p % 4 with
      | 0 => y * n + (x + 1) % n
      | 2 => y * n + (x + n - 1) % n
      | 1 => (y + 1) % m * n + x
      | _ => (y + m - 1) % m * n + x
    some (d, facingPort p)

/-- The buffer set in which a message goes out: D1 from a wrap link on, D0 again when it turns to y (R611). -/
def outSet (s : State) (inPort inSet outPort : Nat) : Nat :=
  if s.wrapLink outPort then 1
  else if inPort < 8 ∧ inPort % 2 = outPort % 2 then inSet else 0

/-! ### The transmitter -/

/-- A new message of a VC may start: no reserved window stands, or it names the VC (R636). -/
def mayStart (s : State) (p vc : Nat) : Bool :=
  (s.port p).windowEnd.isNone || bit (s.num (Obj.RESERVE_VCS p)) vc

/-- SENT − FREED of a buffer set is below 512 (R605). -/
def linkCredit (c : Port) (k : Nat) : Bool :=
  decide ((Store.get (fun _ => 0) c.sent k + 65536 - Store.get (fun _ => 0) c.freedIn k) % 65536 < 512)

/-- The message of a VC that is served next: sources in rotation, the one last served at the back (R643). -/
def nextOfVc (c : Port) (vc : Nat) : Option TxMsg :=
  let last := Store.get (fun _ => 8) c.served vc
  (List.range 9).findSome? (fun i =>
    c.queue.find? (fun t => t.src == (last + 1 + i) % 9 && t.vc == vc && linkCredit c (t.vc * 2 + t.dateline)))

/-- What the transmitter of a port sends next: a message in progress, else a new one, in the order RSP, UPD, REQ; a VC with a
message in progress starts no other (R621, R643). -/
def txChoice (s : State) (p : Nat) : Option TxMsg :=
  let c := s.port p
  let going := fun vc => c.queue.find? (fun t => t.begun && t.vc == vc)
  match [1, 2, 0].findSome? (fun vc =>
      (going vc).filter (fun t => linkCredit c (t.vc * 2 + t.dateline))) with
  | some t => some t
  | none => [1, 2, 0].findSome? (fun vc =>
      if (going vc).isSome || !s.mayStart p vc then none else nextOfVc c vc)

/-- A flit has left a buffer set of an input port (R606). -/
def freedOne (s : State) (p k n : Nat) : State :=
  if 8 ≤ p then s
  else
    let c := s.port p
    s.setPort p { c with freedOut := Store.set (fun _ => 0) c.freedOut k ((Store.get (fun _ => 0) c.freedOut k + n) % 65536) }

/-- The last DATA flit accepted in order, as ACK_SEQ carries it (Table 14-2). -/
def ackSeq (c : Port) : Nat := (c.rxSeq + 2047) % 2048

/-- One DATA flit of a message leaves a port (R603, R605, R617). -/
def sendFlit (s : State) (p : Nat) (t : TxMsg) : State :=
  match t.payloads with
  | [] => s
  | x :: r =>
    let c := s.port p
    let k := t.vc * 2 + t.dateline
    let f : Flit := { crcOk := true, vc := t.vc, dateline := t.dateline, seq := c.txSeq, last := r.isEmpty,
                      ackSeq := ackSeq c, payload := x }
    let rest := if r.isEmpty then [] else [{ t with payloads := r, begun := true }]
    let q := c.queue.takeWhile (fun y => y != t) ++ rest ++ (c.queue.dropWhile (fun y => y != t)).drop 1
    let s1 := s.setPort p { c with
      txSeq := (c.txSeq + 1) % 2048
      replay := c.replay ++ [f]
      sent := Store.set (fun _ => 0) c.sent k ((Store.get (fun _ => 0) c.sent k + 1) % 65536)
      served := Store.set (fun _ => 8) c.served t.vc t.src
      queue := q }
    let s2 := if t.src < 8 then (s1.freedOne t.src t.held 1).inc64 Obj.TRANSIT_FLITS 1 else s1
    (s2.inc64 (Obj.FLITS_SENT p) 1).emit (.flit p (flitOctets f))

/-- The transmitter runs while it may send: the port is UP, fewer than 1,024 flits are unacknowledged, and credit stands
(R605, R617, R643). -/
def transmitGo : Nat → State → Nat → State
  | 0, s, _ => s
  | n + 1, s, p =>
    if s.portUp p && decide ((s.port p).replay.length < 1024) then
      match s.txChoice p with
      | some t => transmitGo n (s.sendFlit p t) p
      | none => s
    else s

def transmit (s : State) (p : Nat) : State :=
  transmitGo ((s.port p).queue.map (fun t => t.payloads.length)).sum s p

/-- A message joins a port's transmitter. -/
def enqueue (s : State) (p src held vc dateline : Nat) (l : List Byte) : State :=
  let c := s.port p
  let t : TxMsg := { src := src, held := held, vc := vc, dateline := dateline, payloads := payloadsOf l, begun := false }
  (s.setPort p { c with queue := c.queue ++ [t] }).transmit p

/-! ### Messages -/

/-- The octets of a message (R621, Table 14-4). -/
def coastMsg (s : State) (dest typ status tag : Nat) (body : List Byte) : List Byte :=
  leBytes 1 dest ++ leBytes 1 s.addr ++ leBytes 1 typ ++ leBytes 1 status ++ leBytes 2 tag ++ leBytes 2 0 ++ body

/-- A message of this chip: to itself through its own input side, else to the first port of its route, where it waits for
the port to be UP. -/
def post (s : State) (vc : Nat) (l : List Byte) : State :=
  let dest := le l 0 1
  match s.routePort s.addr dest with
  | none => { s with coast := { s.coast with inbox := s.coast.inbox ++ [{ port := 8, vcd := vc * 2, bytes := l }] } }
  | some p => s.enqueue p 8 0 vc (s.outSet 8 0 p) l

/-- An RSP message to a member (Table 14-6). -/
def respond (s : State) (dest typ status tag : Nat) (body : List Byte) : State :=
  s.post 1 (s.coastMsg dest typ status tag body)

/-! ### Posted updates -/

/-- Credit for `n` UPD flits to a member (R624, R963). -/
def updRoom (s : State) (d n : Nat) : Bool :=
  let m := s.member d
  decide ((m.sent + 2 ^ 32 - m.freed) % 2 ^ 32 + n ≤ 256)

/-- A posted message for a member may go at once: credit stands and no earlier one waits for it. -/
def updReady (s : State) (d n : Nat) : Bool := s.updRoom d n && !s.coast.waiting.any (fun x => x.1 == d)

/-- A posted message goes to Coastline: SENT_d counts its flits, and it carries the member's reset epoch (R624). -/
def sendUpd (s : State) (d : Nat) (typBody : List Byte) : State :=
  let m := s.member d
  let l := s.coastMsg d (le typBody 0 1) m.epoch 0 (typBody.drop 1)
  (s.setMember d { m with sent := (m.sent + coastFlits l) % 2 ^ 32 }).post 2 l

/-- Waiting posted messages go in order, those of one member up to the first without credit. -/
def updGo : List (Nat × List Byte) → List (Nat × List Byte) → State → State
  | [], kept, s => { s with coast := { s.coast with waiting := kept } }
  | x :: r, kept, s =>
    if kept.any (fun y => y.1 == x.1) || !s.updRoom x.1 (coastFlits (List.replicate (x.2.length + 7) 0)) then updGo r (kept ++ [x]) s
    else updGo r kept (s.sendUpd x.1 x.2)
def updPump (s : State) : State := updGo s.coast.waiting [] s

/-- A posted message for a member: it waits for credit behind earlier ones (R624). -/
def postUpd (s : State) (d typ : Nat) (body : List Byte) : State :=
  { s with coast := { s.coast with waiting := s.coast.waiting ++ [(d, leBytes 1 typ ++ body)] } }.updPump

/-- The same to every other member (R562, Table 13-5). -/
def postAll (s : State) (typ : Nat) (body : List Byte) : State := s.others.foldl (fun t d => t.postUpd d typ body) s

/-- UPD_CREDIT with FREED_s to a member (R625); STATUS carries this chip's reset epoch, which R653 reads. -/
def sendCredit (s : State) (d : Nat) : State :=
  let m := s.member d
  (s.setMember d { m with reported := m.freedOut, advanced := none }).respond d 4 (s.num Obj.RESET_EPOCH) 0 (leBytes 4 m.freedOut)

/-- Records of `n` flits leave the receive buffer of a member (R625). -/
def updFreed (s : State) (d n : Nat) : State :=
  let m := s.member d
  let f := (m.freedOut + n) % 2 ^ 32
  let s1 := s.setMember d { m with freedOut := f, advanced := if m.advanced.isSome then m.advanced else some s.clock }
  if 32 ≤ (f + 2 ^ 32 - m.reported) % 2 ^ 32 then s1.sendCredit d else s1

/-! ### Input buffers -/

/-- The oldest whole message of a VC and type in the input buffers of a port that is addressed to this chip; port 8 is the
chip's own. -/
def inMessage (s : State) (p vc typ : Nat) : Option CoastMsg :=
  s.coast.inbox.find? (fun m => m.port == p && m.vcd / 2 == vc && le m.bytes 2 1 == typ && le m.bytes 0 1 == s.addr)

/-- A message leaves its input buffer (R606). -/
def unbuffer (s : State) (m : CoastMsg) : State :=
  { s with coast := { s.coast with inbox := s.coast.inbox.erase m } }.freedOne m.port m.vcd (coastFlits m.bytes)

/-- DISCARD for a posted message goes to its source (R627). -/
def discardUpd (s : State) (m : CoastMsg) (reason : Nat) : State :=
  s.respond (le m.bytes 1 1) 5 0 0 (leBytes 1 (le m.bytes 0 1) ++ leBytes 1 reason)

/-- A message with an uncorrectable word is discarded: a REQ silently, an RSP counted, an UPD told to its source (R649). -/
def loseMessage (s : State) (m : CoastMsg) : State :=
  let s1 := s.event 0x0808 6 0 0
  match m.vcd / 2 with
  | 1 => s1.inc32 Obj.RSP_DISCARDED 1
  | 2 => s1.discardUpd m 2
  | _ => s1

/-- A message is taken from its buffer with what an upset did to it there: 0 nothing, 1 a single-bit error, 2 or more an
uncorrectable word (R649). -/
def takeMsg (s : State) (m : CoastMsg) (upset : Nat) (k : State → State) : State :=
  let s1 := s.unbuffer m
  if 8 ≤ m.port ∨ upset = 0 then k s1
  else if upset = 1 then k (s1.inc32 (Obj.BUFFER_CORRECTED m.port) 1)
  else s1.loseMessage m

/-- The oldest message of a VC and type of a port is taken, where there is one. -/
def withMsg (s : State) (p vc typ upset : Nat) (k : State → CoastMsg → State) : State :=
  match s.inMessage p vc typ with
  | none => s
  | some m => s.takeMsg m upset (fun t => k t m)

end State

/-- The body of a message (Table 14-4). -/
def CoastMsg.body (m : CoastMsg) : List Byte := m.bytes.drop 8
def CoastMsg.source (m : CoastMsg) : Nat := le m.bytes 1 1
def CoastMsg.status (m : CoastMsg) : Nat := le m.bytes 3 1
def CoastMsg.tag (m : CoastMsg) : Nat := le m.bytes 4 2

/-- The message names a table: a row request or a posted record (Table 14-6). -/
def CoastMsg.namesTable (m : CoastMsg) : Bool :=
  (m.vcd / 2 == 0 && le m.bytes 2 1 == 1) || (m.vcd / 2 == 2 && decide (1 ≤ le m.bytes 2 1 ∧ le m.bytes 2 1 ≤ 3))

/-- A source of Coastline messages: a port, or 8 for the chip itself. -/
def sourceOk (p : Nat) : Bool := decide (p ≤ 8)

end Sys2Proof.Machine
end

