-- ==== Sys2Proof/Machine/EgsBase.lean ====
section
/-!
DEFINITION. Embedding tables as every block sees them: descriptors, slots, free rings, the apply of the staged table directory,
and what the engines abandon when the books close (spec/12: R486 to R497, R535, R541; spec/13: R547, R548, R591; spec/17: R774).
-/

namespace Sys2Proof.Machine

/-- A table descriptor (Table 12-1). -/
structure TableDesc where
  rowsM1 : Nat
  dim : Nat
  bf16 : Bool
  valid : Bool
  missingZero : Bool
  mask : Nat
  dir : Nat
  shard : Nat
  replicaDir : Nat
  replicaLog2 : Nat
  rule : Nat
  arena : List (Nat × Nat)
deriving DecidableEq, Repr

def parseTable (l : List Byte) : TableDesc :=
  { rowsM1 := le l 0 4, dim := le l 4 2, bf16 := le l 6 1 == 3, valid := bit (le l 7 1) 0, missingZero := bit (le l 7 1) 1,
    mask := le l 8 8, dir := le l 16 8, shard := le l 24 8, replicaDir := le l 32 8, replicaLog2 := le l 40 1,
    rule := le l 44 1, arena := (List.range 3).map (fun t => (le l (64 + 16 * t) 8, le l (72 + 16 * t) 4)) }

namespace TableDesc

/-- Octets of an element in FULL_FORMAT. -/
def fullBytes (d : TableDesc) : Nat := if d.bf16 then 2 else 4

/-- Payload octets and SLOT_BYTES of a tier (Table 12-3, R495). -/
def payload (d : TableDesc) (tier : Nat) : Nat :=
  match tier with
  | 0 => d.dim * d.fullBytes
  | 1 => d.dim
  | _ => 72 * ((d.dim + 127) / 128)
def slotBytes (d : TableDesc) (tier : Nat) : Nat := (16 + d.payload tier + 63) / 64 * 64

/-- Address of a slot (R495). -/
def slotAt (d : TableDesc) (tier slot : Nat) : Nat := (d.arena.getD tier (0, 0)).1 + slot * d.slotBytes tier

/-- Address of the shard map entry of a row (R490). -/
def shardAt (d : TableDesc) (row : Nat) : Nat := d.shard + 4 * (row / 65536)

/-- Address of a row's directory entry on its owner (R491). -/
def entryAt (d : TableDesc) (shard row : Nat) : Nat := d.dir + shard * 0x100000 + row % 65536 * 16

/-- Address of the replica bucket of a row of a table (R497). -/
def bucketAt (d : TableDesc) (table row : Nat) : Nat :=
  d.replicaDir + 64 * (mix64 table 4 [row] % 2 ^ d.replicaLog2)

end TableDesc

/-- OWNER of a shard map entry; 255, which is reserved, where a reserved bit of it is set (R490, R17). -/
def shardOwner (v : Nat) : Nat := if bits v 23 16 ≠ 0 then 255 else v / 2 ^ 24

/-- Numbers of the tables that a directory image marks VALID. -/
def validTables (t : List (Nat × Byte)) : List Nat :=
  (t.filter (fun p => p.1 % 128 == 7 && bit p.2.toNat 0)).map (fun p => p.1 / 128)

namespace State

/-- A table's descriptor in force, and its image. -/
def tableImage (s : State) (n : Nat) : List Byte := Store.getMany zeroByte s.egs.desc (128 * n) 128
def tableDesc (s : State) (n : Nat) : TableDesc := parseTable (s.tableImage n)

/-- An update rule in force. -/
def ruleImage (s : State) (i : Nat) : List Byte := Store.getMany zeroByte s.egs.rules (32 * i) 32

/-! ### Free rings -/

def freeRing (s : State) (table tier : Nat) : FreeRing := Store.get (fun _ => ({} : FreeRing)) s.egs.free (table * 4 + tier)
def setFreeRing (s : State) (table tier : Nat) (f : FreeRing) : State :=
  { s with egs := { s.egs with free := Store.set (fun _ => ({} : FreeRing)) s.egs.free (table * 4 + tier) f } }

/-- A slot is taken from the head of a free ring: the slot number, none where the ring's word cannot be read (R592). The ring
must hold one. -/
def freeTake (s : State) (table tier : Nat) : Option Nat × State :=
  let f := s.freeRing table tier
  let r := s.engineRead (f.base + 4 * f.head) 4
  if r.1 ≠ 0 then (none, r.2.2)
  else (some (ofLe r.2.1),
    r.2.2.setFreeRing table tier { f with head := (f.head + 1) % max 1 f.cap, count := f.count - 1, inFlight := f.inFlight + 1 })

/-- A slot returns to the tail of its free ring, from a flip (`pending` false) or from reclamation. -/
def freeReturn (s : State) (table tier slot : Nat) (pending : Bool) : State :=
  let f := s.freeRing table tier
  let w := s.engineWrite (f.base + 4 * ((f.head + f.count) % max 1 f.cap)) (leBytes 4 slot)
  w.2.setFreeRing table tier
    (if pending then { f with count := f.count + 1, pending := f.pending - 1 }
     else { f with count := f.count + 1, inFlight := f.inFlight - 1 })

/-- A flip is given up: its slot returns to its free ring. -/
def dropFlip (s : State) (f : Flip) : State :=
  let s1 := { s with egs := { s.egs with flips := s.egs.flips.erase f } }
  match f.slot with
  | some (t, n) => s1.freeReturn f.table t n false
  | none => s1

/-! ### The apply -/

/-- The staged table directory, update rules and free-ring declarations copied into force (R489, R548). A ring starts at its
declaration when its table becomes VALID or its declaration is new (log entry 32). Messages that have arrived keep the descriptor
of their arrival (R534, R646). -/
def embFrom (s u : State) : State :=
  let old := validTables s.egs.desc
  let now := validTables u.egs.descStaged
  let rules := (List.range 16).foldl (fun (m : List (Nat × Byte)) i =>
    Store.setMany zeroByte m (32 * i) (u.octs (Obj.UPDATE_RULE i) 0 32)) []
  let decl := fun (r : List (Nat × Byte)) (n t : Nat) => Store.getMany zeroByte r (48 * n + 16 * t) 16
  let ring := fun (n t : Nat) =>
    let x := decl u.egs.ringsStaged n t
    let d := parseTable (Store.getMany zeroByte u.egs.descStaged (128 * n) 128)
    if old.contains n && x == decl s.egs.rings n t then s.freeRing n t
    else { base := le x 0 8, cap := (d.arena.getD t (0, 0)).2, count := le x 8 4 }
  let free := now.foldl (fun (m : Store FreeRing) n =>
    (List.range 3).foldl (fun m t => Store.set (fun _ => ({} : FreeRing)) m (n * 4 + t) (ring n t)) m) []
  let keep := fun (m : CoastMsg) =>
    if m.namesTable && m.desc.isNone then { m with desc := some (s.tableImage (le m.body 0 2 % 4096)) } else m
  { s with
    egs := { s.egs with desc := u.egs.descStaged, rules := rules, rings := u.egs.ringsStaged, free := free, pending := false }
    coast := { s.coast with inbox := s.coast.inbox.map keep } }

/-- A pending apply at a job boundary whose selection falls after the LCLK cycle of its acceptance (R489); writes of the selection's
own cycle stay staged, as R469 has it for regions (DEDUCED, log entry 86). -/
def embApplied (s : State) : State :=
  if s.egs.pending && decide (s.egs.asked < s.lclk + 1) then s.embFrom s.before else s

/-! ### Closing the books -/

/-- A flip of an update command of a job (R591). -/
def jobFlip (f : Flip) : Bool :=
  match f.source with
  | .update _ _ => true
  | _ => false

/-- Reservations that the abandoned remote requests of commands leave behind (R774). -/
def reservationsOf (l : List (Nat × EgsCmd)) : List (Nat × Nat × Nat × Nat × Nat) :=
  l.flatMap (fun (w : Nat × EgsCmd) => (w.2.rows.filter (fun r => r.phase == .remote)).map
    (fun r => (w.1, r.req, le w.2.cmd.block 4 2 % 4096, r.row, r.askedAt)))

/-- The engines abandon every command of the job, with its list reads, fetches, remote requests and flips not accepted
(R535, R591). -/
def egsAbandon (s : State) : State :=
  let s1 := (s.egs.flips.filter jobFlip).foldl dropFlip s
  { s1 with egs := { s1.egs with
      store := [], work := [], reserved := s1.egs.reserved ++ reservationsOf s.egs.work } }

/-- Every edge block abandons the work of the job whose books close (R331, R380, R535, R591). -/
def edgeAbandon (s : State) : State :=
  let s1 := s.egsAbandon
  { s1 with
    sel := { s1.sel with queue := [], run := [] }
    csa := { s1.csa with queue := [], banks := (s1.csa.banks.map (fun (p : Nat × CsaBank) => (p.1, { p.2 with run := none }))).filter (fun p => p.2 != {}) } }

/-! ### Reach messages of the scheduler -/

/-- LAUNCH_READY to chip 0 (R679, Table 14-6). -/
def sendReady (s : State) (job : Nat) : State :=
  s.respond 0 0x10 0 0 (leBytes 4 job ++ leBytes 1 (s.num Obj.TIDE_STATE))

/-- REACH_TEARDOWN to every other member (R783, Table 14-6). -/
def sendTeardown (s : State) (job code : Nat) : State :=
  s.others.foldl (fun t d => (t.inc32 Obj.REACH_TEARDOWNS_SENT 1).respond d 0x13 0 0 (leBytes 4 job ++ leBytes 2 code)) s

/-- UPD_RING_TAIL takes a value: the entries up to it are submitted (R575). -/
def updTailWrite (s : State) (v : Nat) : State := { s with egs := { s.egs with ringTail := v % 2 ^ 32 } }

end State

end Sys2Proof.Machine
end

