-- ==== Sys2Proof/Machine/Client.lean ====
section
/-!
DEFINITION. The clients' rings, job slots, candidates and completion entries that the scheduler, the host interface, the
tide and the faults share (spec/15: R655 to R666, R678, R686; spec/16: R706 to R724; spec/17: R764).
-/

namespace Sys2Proof.Machine

/-- The full tide value that a 40-bit field names, received at local value `n` (R45). -/
def tide40 (f n : Nat) : Nat :=
  let d := (f + 2 ^ 40 - n % 2 ^ 40) % 2 ^ 40
  if d < 2 ^ 39 then n + d else if 2 ^ 40 ≤ n + d then n + d - 2 ^ 40 else n + d

/-- Ring count `p` comes before `q`, modulo 2^32. -/
def ringBefore (p q : Nat) : Bool := p != q && decide ((q + 2 ^ 32 - p % 2 ^ 32) % 2 ^ 32 < 2 ^ 31)

/-- Offset of a client page register (Table 16-8). -/
def page (c off : Nat) : Nat := 0x1000 + c * 256 + off

/-- A job descriptor read from its octets at local tide `n` (Table 15-1, R658). -/
def parseDesc (l : List Byte) (n : Nat) : Desc :=
  { cls := le l 0 1, flags := le l 1 1, gen := le l 2 1, seq := le l 4 4, bundle := le l 8 8,
    launch := tide40 (le l 16 5) n, deadline := tide40 (le l 24 5) n, maxRun := le l 32 4, reachJob := le l 36 4,
    seed := le l 40 8, userTag := le l 48 8, params := (l.drop 128).take 128 }

/-- Check 1 of Table 15-4: no reserved encoding of Table 15-1, where a field that is to be 0 holds 0 (log entry 16), and
DEADLINE after LAUNCH_TIDE for a cadence job. -/
def descWellFormed (l : List Byte) (n : Nat) : Bool :=
  let d := parseDesc l n
  let bulk := d.cls == 0
  decide (d.cls ≤ 1) && decide (d.flags < 16) && decide (d.gen ≤ 15) && zeroAt l 3 1 &&
    d.bundle % 64 == 0 && decide (d.bundle < 2 ^ 48) && zeroAt l 21 3 && zeroAt l 29 3 && zeroAt l 56 72 &&
    decide (256 ≤ d.maxRun) && decide (d.maxRun ≤ 2 ^ 31) &&
    (!bulk || (d.gen == 0 && zeroAt l 24 5 && (bit d.flags 2 || zeroAt l 16 5))) &&
    (bulk || (!bit d.flags 2 && decide (d.launch < d.deadline))) &&
    (bit d.flags 0 || d.reachJob == 0) && (bit d.flags 3 || zeroAt l 128 128)

def Desc.reach (d : Desc) : Bool := bit d.flags 0
def Desc.interrupt (d : Desc) : Bool := bit d.flags 1
def Desc.notBefore (d : Desc) : Bool := bit d.flags 2
def Desc.paramsEn (d : Desc) : Bool := bit d.flags 3
def Desc.cadence (d : Desc) : Bool := d.cls == 1

/-- A completion entry as 32 octets (Table 15-2). -/
def Entry.bytes (e : Entry) (phase : Bool) : List Byte :=
  leBytes 4 e.seq ++ leBytes 1 e.outcome ++
    leBytes 1 (b2n phase + 2 * b2n e.indeterminate + 4 * b2n e.late + 8 * b2n e.reach + 16 * b2n e.ownerChange) ++
    leBytes 2 e.fault ++ leBytes 5 e.start ++ leBytes 3 0 ++ leBytes 5 e.finish ++ leBytes 1 e.client ++
    leBytes 2 (if e.displaced < 65536 then e.displaced else 65535) ++ leBytes 8 e.userTag

namespace State

def cReg (s : State) (c off : Nat) : Nat := s.regGet (page c off)
def setCReg (s : State) (c off v : Nat) : State := s.regSet (page c off) v

/-- A bit of CLIENT_STICKY set. -/
def cSticky (s : State) (c i : Nat) : State := s.setCReg c 0x34 (setBit (s.cReg c 0x34) i true)

def sqHead (s : State) (c : Nat) : Nat := s.cReg c 0x18
def sqTail (s : State) (c : Nat) : Nat := s.cReg c 0x14
def cqHead (s : State) (c : Nat) : Nat := s.cReg c 0x1C
def cqTail (s : State) (c : Nat) : Nat := s.cReg c 0x20
def sqLog2 (s : State) (c : Nat) : Nat := bits (s.cReg c 0x10) 3 0
def cqLog2 (s : State) (c : Nat) : Nat := bits (s.cReg c 0x10) 11 8
def sqBase (s : State) (c : Nat) : Nat := s.cReg c 0 + 2 ^ 32 * s.cReg c 4
def cqBase (s : State) (c : Nat) : Nat := s.cReg c 8 + 2 ^ 32 * s.cReg c 0xC
def ringState (s : State) (c : Nat) : Nat := s.num (Obj.RING_STATE c)
def clientHalted (s : State) (c : Nat) : Bool := s.num (Obj.CLIENT_HALTED c) == 1
def clientEnabled (s : State) (c : Nat) : Bool := s.num (Obj.CLIENT_ENABLE c) == 1

/-- The jobs of a client that wait in slots, in ring order. -/
def jobsOf (s : State) (c : Nat) : List Job := s.sched.slots.filter (fun j => j.client == c)

/-- Fetched jobs that a client holds: waiting, running, or with an entry not yet written (R655, Table 16-8). -/
def fetchedOf (s : State) (c : Nat) : Nat :=
  (s.jobsOf c).length + (s.sched.entries.filter (fun e => e.client == c)).length +
    (match s.sched.run with
      | some r => b2n (r.job.client == c)
      | none => 0)

/-- Job slots taken (R655); a maintenance job takes none, as it is not fetched. -/
def slotsTaken (s : State) : Nat :=
  (s.sched.slots.filter (fun j => j.maint.isNone)).length + s.sched.entries.length +
    (match s.sched.run with
      | some r => b2n r.job.maint.isNone
      | none => 0)

/-- The job of a client at a ring count, among those waiting. -/
def jobAt (s : State) (c p : Nat) : Option Job :=
  s.sched.slots.find? (fun j => j.client == c && j.pos == p)

/-- One job of the slots replaced. -/
def setJob (s : State) (j : Job) : State :=
  { s with sched := { s.sched with
      slots := s.sched.slots.map (fun k => if k.client == j.client && k.pos == j.pos then j else k) } }

/-- One job out of the slots. -/
def dropJob (s : State) (j : Job) : State :=
  { s with sched := { s.sched with
      slots := s.sched.slots.filter (fun k => !(k.client == j.client && k.pos == j.pos))
      chosen := if s.sched.chosen = some (j.client, j.pos) then none else s.sched.chosen } }

/-- A job with an earlier place in the ring of the entry's client is still waiting or running (R722). -/
def earlierJob (s : State) (e : Entry) : Bool :=
  (s.jobsOf e.client).any (fun j => ringBefore j.pos e.pos) ||
    (match s.sched.run with
      | some r => r.job.client == e.client && ringBefore r.job.pos e.pos
      | none => false)

/-- The completion ring of a client has no room (R721). -/
def cqFull (s : State) (c : Nat) : Bool :=
  (s.cqTail c + 2 ^ 32 - s.cqHead c) % 2 ^ 32 == 2 ^ s.cqLog2 c

/-- One completion entry written, its vector raised, and CQ_TAIL advanced (R706, R707, R718, R724). -/
def writeEntry (s : State) (e : Entry) : State :=
  let c := e.client
  let n := s.cqTail c
  let s1 := s.emit (.hostWrite (s.cqBase c + 32 * (n % 2 ^ s.cqLog2 c)) (e.bytes (!bit n (s.cqLog2 c))))
  let s2 := s1.setCReg c 0x20 ((n + 1) % 2 ^ 32)
  let s3 := { s2 with sched := { s2.sched with
      written := Store.set (fun _ => 0) s2.sched.written c ((e.pos + 1) % 2 ^ 32 + 1) } }
  if bit (s.cReg c 0x10) 24 && (e.interrupt || e.outcome != 0) then s3.raiseVector (bits (s.cReg c 0x10) 23 16) else s3

/-- Entries taken in turn: one is written unless it must wait for an earlier job's entry, for room, or for the link
(R721, R722, R756); `kept` are those that wait. -/
def flushEntries : State → List Entry → List Entry → State
  | s, kept, [] => { s with sched := { s.sched with entries := kept } }
  | s, kept, e :: r =>
    let wait := !s.host.linkUp ||
      (!e.early && (s.earlierJob e || kept.any (fun k => k.client == e.client && !k.early)))
    if wait then flushEntries s (kept ++ [e]) r
    else if s.cqFull e.client then flushEntries (s.cSticky e.client 1) (kept ++ [e]) r
    else flushEntries (s.writeEntry e) kept r

/-- An entry put in its place: before the entries of later jobs of its client. -/
def addEntry (s : State) (e : Entry) : State :=
  let l := s.sched.entries
  let a := l.takeWhile (fun k => !(k.client == e.client && ringBefore e.pos k.pos))
  { s with sched := { s.sched with entries := a ++ e :: l.drop a.length } }

/-- Fetching is held while the device drains into HOLD or a device-level fault or a warm reset stands (R780, R898, R934). -/
def fetchHeld (s : State) : Bool :=
  s.faults.device || s.nv.warm || !s.nv.ready || s.power.drain.isSome || decide (3 ≤ s.powerState) || !s.host.linkUp

/-- A client's next descriptor may be fetched (R655, R709, R716). -/
def mayFetch (s : State) (c : Nat) : Bool :=
  s.ringState c == 1 && s.clientEnabled c && !s.clientHalted c && !s.fetchHeld &&
    !(s.sched.fetch.any (fun p => p.1 == c)) && s.sqHead c != s.sqTail c && decide (s.fetchedOf c < 8) &&
    decide (s.slotsTaken + s.sched.fetch.length < 256)

/-- The fetch of a client's next descriptor issued where it may be (R706, R715, R716). -/
def tryFetch (s : State) (c : Nat) : State :=
  if s.mayFetch c then
    let s1 := s.emit (.hostRead (s.sqBase c + 256 * (s.sqHead c % 2 ^ s.sqLog2 c)) 256)
    { s1 with sched := { s1.sched with fetch := s1.sched.fetch ++ [(c, s.clock)] } }
  else s

/-- STOPPING becomes STOPPED with no fetched job and no entry left (R741). -/
def tryStopped (s : State) (c : Nat) : State :=
  if s.ringState c == 2 && s.fetchedOf c == 0 then s.setNum (Obj.RING_STATE c) 3 else s

/-- Clients that have any ring state or fetch to look after. -/
def busyClients (s : State) : List Nat := (List.range 64).filter (fun c => c != 0 && s.ringState c != 0)

/-- What follows by itself once jobs or rings have changed: entries are written, stopping rings stop, fetches are issued. -/
def ringsFollow (s : State) : State :=
  let s1 := flushEntries s [] s.sched.entries
  s1.busyClients.foldl (fun t c => (t.tryStopped c).tryFetch c) s1

/-- The entry of a job that ends or is retired at the present tick (R661, R677). -/
def entryOf (s : State) (j : Job) (outcome fault : Nat) : Entry :=
  { client := j.client, pos := j.pos, seq := j.desc.seq, outcome := outcome, indeterminate := false, late := false,
    reach := j.desc.reach, ownerChange := false, fault := fault, start := 0, finish := s.now, displaced := j.displaced,
    userTag := j.desc.userTag, interrupt := j.desc.interrupt, early := false }

/-- A selection event raised by a retirement or an eligibility counts while the chip is free (R669). -/
def eventIfFree (s : State) : State := if s.chipFree then s.selectionEvent else s

/-- The scheduled tick of the launch that a generator took or skipped last, and whether it took it. -/
def launchTaken (s : State) (g : Nat) : Option (Nat × Bool) :=
  match Store.get (fun _ => 0) s.sched.taken g with
  | 0 => none
  | n + 1 => some (n / 2, n % 2 == 0)

/-- What becomes of a job when it becomes a candidate (R663 to R665). -/
inductive Candidacy where
  | eligible | waits | missed
deriving DecidableEq, Repr

def candidacy (s : State) (j : Job) : Candidacy :=
  if j.desc.cadence then
    if s.num (Obj.ENABLE j.desc.gen) == 0 then .missed
    else match s.launchTaken j.desc.gen with
      | none => .waits
      | some (t, took) =>
        if j.desc.launch < t then .missed
        else if t = j.desc.launch then
          (if !took then .missed else if s.now < j.desc.deadline then .eligible else .waits)
        else .waits
  else if j.desc.notBefore && decide (s.now < j.desc.launch) then .waits
  else .eligible

/-- A job retired without having been selected (R665, R666, R740, R744). -/
def retireJob (s : State) (j : Job) (outcome : Nat) : State :=
  let s1 := s.dropJob j
  let s2 := if j.maint.isSome then s1 else s1.addEntry (s.entryOf j outcome 0)
  let s3 := if outcome = 2 then s2.inc64 (Obj.CLIENT_EXPIRED j.client) 1
    else if outcome = 3 then s2.inc64 (Obj.CLIENT_MISSED j.client) 1 else s2
  s3.eventIfFree

/-- A job becomes eligible at the present tick (R663, R664). -/
def makeEligible (s : State) (j : Job) : State := (s.setJob { j with elig := some s.now }).eventIfFree

/-- The first waiting job of a client becomes a candidate, and those behind it while it is retired at once (R656, R665);
`n` bounds the jobs. -/
def promote : Nat → State → Nat → State
  | 0, s, _ => s
  | n + 1, s, c =>
    match s.jobsOf c with
    | [] => s
    | j :: _ =>
      if j.candAt.isSome then s
      else
        let j1 := { j with candAt := some s.now }
        let s1 := s.setJob j1
        match s.candidacy j1 with
        | .eligible => s1.makeEligible j1
        | .waits => s1
        | .missed => promote n (s1.retireJob j1 3) c

/-- A job retired, and the next of its client a candidate. -/
def retire (s : State) (j : Job) (outcome : Nat) : State := promote 9 (s.retireJob j outcome) j.client

/-- A fault of this LCLK cycle has halted the client: whether it stood halted before it (R692). -/
def haltedNow (s : State) (c : Nat) : Option Bool :=
  (s.sched.halts.find? (fun x => x.1 == c && x.2.1 == s.lclk)).map (fun x => x.2.2)

/-- CLIENT_HALTED, CLIENT_FAULTS, CLIENT_LAST_FAULT and the sticky bit of a job fault (R678, Table 16-8). -/
def haltClient (s0 : State) (c code : Nat) : State :=
  if c = 0 then (s0.inc64 (Obj.CLIENT_FAULTS 0) 1).setNum (Obj.CLIENT_LAST_FAULT 0) code
  else
    let s := if (s0.haltedNow c).isSome then s0 else
      { s0 with sched := { s0.sched with
        halts := (c, s0.lclk, s0.clientHalted c) :: s0.sched.halts.filter (fun x => x.1 != c) } }
    (((s.setNum (Obj.CLIENT_HALTED c) 1).inc64 (Obj.CLIENT_FAULTS c) 1).setNum (Obj.CLIENT_LAST_FAULT c) code).cSticky c 0

end State

/-- The log record of a fault of a job that has no context: NOT_RUN, without a site (R769, R1032). -/
def noContextRec (s : State) (j : Job) (code source d0 d1 : Nat) : LogRec :=
  { eventRec s code source d0 d1 with
    kind := 1, flags := 4, client := j.client, jobSeq := j.desc.seq,
    reachJob := if j.desc.reach then j.desc.reachJob else 0 }

namespace State

/-- A job that faults at its fetch or at its loading: it leaves its slot, its client is halted, its entry is FAULTED and
one record with NOT_RUN is logged (R678, R686, R769, R177). -/
def faultUnrun (s : State) (j : Job) (code source d0 : Nat) (early : Bool) : State :=
  let s1 := (s.dropJob j).addEntry { s.entryOf j 1 code with early := early }
  let s2 := (s1.haltClient j.client code).log (noContextRec s j code source d0 0)
  promote 9 s2.eventIfFree j.client

/-- A generator takes the launch scheduled at `t`, or skips it: the candidates that wait for a launch taken become
eligible, and those that wait for an earlier one or for one skipped are retired MISSED (R664, R665). -/
def launchSeen (s : State) (g t : Nat) (took : Bool) : State :=
  let s1 := { s with sched := { s.sched with
    taken := Store.set (fun _ => 0) s.sched.taken g (2 * t + (if took then 1 else 2)) } }
  s1.sched.slots.foldl (fun u j =>
    if j.desc.cadence && j.desc.gen == g && j.candAt.isSome && j.elig.isNone then
      (if j.desc.launch < t ∨ (j.desc.launch = t ∧ !took) then u.retire j 3
       else if j.desc.launch = t then u.makeEligible j else u)
    else u) s1

/-- A generator goes off: the candidates that wait for its launch are retired MISSED (R665). -/
def generatorOff (s : State) (g : Nat) : State :=
  s.sched.slots.foldl (fun u j =>
    if j.desc.cadence && j.desc.gen == g && j.candAt.isSome && j.elig.isNone then u.retire j 3 else u) s

end State

end Sys2Proof.Machine
end

