-- ==== Sys2Proof/Machine/Courses.lean ====
section
/-!
DEFINITION. The courses of the wall: their states, the course map, retirement and sparing (spec/03: R93, R94, R137 to R146;
spec/20: R952).
-/

namespace Sys2Proof.Machine

/-- COURSE_STATE from the factory (R94). -/
def courseDefault (c : Nat) : Nat := if c = 17 ∨ c = 34 ∨ c = 51 ∨ c = 67 then 1 else 0

namespace State

def courseState (s : State) (c : Nat) : Nat := Store.get courseDefault s.wall.courseState c

/-- A course in service: ACTIVE, or RETIRE_PENDING and not a spare. -/
def inService (s : State) (c : Nat) : Bool :=
  s.courseState c == 0 || (s.courseState c == 3 && !s.wall.wasSpare.contains c)

/-- The course map: physical courses of the logical ones, in rising order (R93). -/
def courseMap (s : State) : List Nat := (List.range 68).filter s.inService

def logicalCourses (s : State) : Nat := s.courseMap.length

/-- The physical brick of a logical course and position. -/
def physBrick (s : State) (c p : Nat) : Option Nat := (s.courseMap[c]?).map (fun x => x * 64 + p)

/-- The logical course of a physical one; 255 when it has none. -/
def logicalOf (s : State) (phys : Nat) : Nat :=
  if s.courseMap.contains phys then s.courseMap.idxOf phys else 255

def sparesLeft (s : State) : Nat := ((List.range 68).filter (fun c => s.courseState c == 1)).length

/-- A course changes state, with its record and notification (R141). -/
def setCourse (s : State) (c v : Nat) : State :=
  let old := s.courseState c
  if old = v then s
  else
    let s1 := { s with wall := { s.wall with courseState := Store.set courseDefault s.wall.courseState c v } }
    s1.eventNote 0x0A30 0 (c + 256 * old + 65536 * v) 0

/-- An ACTIVE or SPARE course is marked RETIRE_PENDING; another is left alone (R137, R138, R146, R952). -/
def retirePending (s : State) (c : Nat) : State :=
  match s.courseState c with
  | 0 => s.setCourse c 3
  | 1 =>
    let s1 := s.setCourse c 3
    { s1 with wall := { s1.wall with wasSpare := s1.wall.wasSpare ++ [c] } }
  | _ => s

/-- The SPARE course nearest to a course, the lower on a tie (R139). -/
def nearestSpare (s : State) (c : Nat) : Option Nat :=
  ((List.range 68).filter (fun x => s.courseState x == 1)).foldl (fun best x =>
    match best with
    | none => some x
    | some b => if (max x c - min x c) < (max b c - min b c) then some x else some b) none

/-- One RETIRE_PENDING course becomes FAILED, with a spare in its place where it was ACTIVE (R139, R952). -/
def replaceCourse (s : State) (c : Nat) : State :=
  let s1 := s.setCourse c 2
  if s.wall.wasSpare.contains c then
    { s1 with wall := { s1.wall with wasSpare := s1.wall.wasSpare.filter (fun x => x != c) } }
  else match s1.nearestSpare c with
    | some x => s1.setCourse x 0
    | none => s1

/-- The RETIRE_PENDING courses applied at a job boundary, in ascending order (R139, R140). -/
def coursesApplied (s : State) : State :=
  ((List.range 68).filter (fun c => s.courseState c == 3)).foldl replaceCourse s

end State

end Sys2Proof.Machine
end

