-- ==== Sys2Proof/Machine/Flits.lean ====
section
/-!
DEFINITION. The mortar's mesh and its flits: edges, routes, zero-load latency, the flit header, message types and payload octets,
and the encodings that make a header error (spec/05: R191 to R196, R201 to R205, R214, R220, R229, Tables 5-1, 5-2, 5-4 and 5-8;
spec/07: Table 7-2; spec/08: Table 8-2; spec/11: Table 11-4; spec/12: Table 12-5).
-/

namespace Sys2Proof.Machine

/-! ### Edges and routes -/

/-- DEST_KIND and SRC_KIND of a node: 0 a brick, else the edge that its block lies behind (Tables 5-1 and 5-2). -/
def edgeKind : Node → Nat
  | .brick _ => 0
  | .channel n => if n < 128 then 1 else 2
  | .egs e => if e < 8 then 1 else 2
  | .unit _ => 3
  | .bank _ => 3
  | .south => 4

/-- The router at which a node joins the mesh on its way to or from `peer`, as course and position: a brick's own; behind an edge,
the router of the edge port that the brick at the other end uses (R191, R192, R203, R204). -/
def routerAt (n peer : Node) : Nat × Nat :=
  match n, peer with
  | .brick b, _ => (b / 64, b % 64)
  | e, .brick b => match edgeKind e with
    | 1 => (b / 64, 0)
    | 2 => (b / 64, 63)
    | 3 => (67, b % 64)
    | _ => (0, b % 64)
  | _, _ => (0, 0)

/-- The numbers from `a` towards `b`, both with. -/
def walk (a b : Nat) : List Nat :=
  if a ≤ b then (List.range (b + 1 - a)).map (fun i => a + i) else (List.range (a + 1 - b)).map (fun i => a - i)

/-- The routers that a message crosses, first to last: along its course, then across courses, those of courses out of service with
them (R202 to R205). -/
def routeOf (src dst : Node) : List (Nat × Nat) :=
  let a := routerAt src dst
  let b := routerAt dst src
  (walk a.2 b.2).map (fun p => (a.1, p)) ++ ((walk a.1 b.1).drop 1).map (fun c => (c, b.2))

/-- Hops of a route: between bricks, and to or from an edge the edge port as well (spec/05: Latency and rate). -/
def hopsOf (src dst : Node) : Nat :=
  (routeOf src dst).length - 1 + (if edgeKind src = 0 ∧ edgeKind dst = 0 then 0 else 1)

/-- mc that a message of `n` flits takes with no contention, up to the hub or the last router (R220). -/
def zeroLoad (src dst : Node) (n : Nat) : Nat := 2 + 2 * hopsOf src dst + (n - 1)

/-- [15:8] physical course, [7:0] position (Table 5-10). -/
def routerNumber (r : Nat × Nat) : Nat := r.1 * 256 + r.2

/-- A link as LAST_UNBALANCED_LINK names it: class, port 0 north, 1 east, 2 south, 3 west, 4 local, course and position (R191,
Table 5-10). -/
def linkNumber (cls port course pos : Nat) : Nat := cls * 2 ^ 22 + port * 2 ^ 19 + course * 2 ^ 12 + pos * 2 ^ 6

/-! ### Messages as flits -/

/-- CLASS (Table 5-2). -/
def classCode : MsgClass → Nat
  | .req => 0
  | .rsp => 1
  | .tok => 2
  | .cfg => 3

/-- MSG_TYPE of a message (Tables 5-4, 7-2, 8-2, 11-4 and 12-5). -/
def msgType (dst : Node) : MsgBody → Nat
  | .readReq _ _ => 0
  | .writeReq _ _ => 1
  | .readData _ => 0
  | .writeAccepted _ => 1
  | .readFailed _ => 2
  | .token _ _ _ _ => 0
  | .selGrant _ => 0x10
  | .selData _ last => if last then 0x12 else 0x11
  | .selResult _ _ => 0x11
  | .selDone _ => 0x12
  | .csaGrant _ => 0x20
  | .csaData _ last => if last then 0x22 else 0x21
  | .csaResult _ _ => 0x21
  | .csaDone _ _ _ _ => 0x22
  | .hbmRead _ _ => 0x10
  | .hbmWrite _ _ => 0x11
  | .hbmReadData _ => 0x10
  | .hbmWriteAccepted _ => 0x11
  | .hbmReadFailed _ => 0x12
  | .listData _ => 0
  | .egsResult _ _ => 0x20
  | .egsDone _ _ _ _ => 0x21
  | .command _ => match dst with
    | .unit _ => 0x10
    | _ => 0x20
  | .bankLine _ => 0

/-- One flit of payload: octets, the rest 0. -/
def flit (l : List Byte) : List Byte := l ++ List.replicate (64 - l.length) 0

/-- Data in flits of 64 octets, the last filled with 0 (R214). -/
def dataFlits (l : List Byte) : List (List Byte) := (chunked l.length 64 l).map flit

/-- Elements of `size` octets with their validity bitmap (Tables 7-2 and 8-2). -/
def elemFlit (size : Nat) (l : List (Bool × Nat)) : List Byte :=
  let d := l.flatMap (fun x => leBytes size x.2)
  d ++ List.replicate (56 - d.length) 0 ++ leBytes 8 (maskOf 56 (fun i => (l.getD i (false, 0)).1))

/-- The payload of each flit of a message (Tables 5-4, 7-2, 8-2, 11-4 and 12-5); `size` is that of a selection element. -/
def payloadFlits (size : Nat) : MsgBody → List (List Byte)
  | .readReq o n => [flit (leBytes 4 o ++ leBytes 2 n)]
  | .writeReq o d => flit (leBytes 4 o ++ leBytes 2 d.length) :: dataFlits d
  | .readData d => dataFlits d
  | .writeAccepted st => [flit (leBytes 1 st)]
  | .readFailed st => [flit (leBytes 1 st)]
  | .token slot hi h fill => [flit (leBytes 1 slot ++ leBytes 1 hi ++ leBytes 2 h ++ leBytes 4 fill)]
  | .selGrant u => [flit (leBytes 1 u)]
  | .selData l _ => [elemFlit size l]
  | .selResult o d => [flit (leBytes 4 o ++ leBytes 1 d.length ++ leBytes 3 0 ++ d)]
  | .selDone c => [flit (leBytes 2 c)]
  | .csaGrant b => [flit (leBytes 1 b)]
  | .csaData l _ => [elemFlit 8 l]
  | .csaResult o d => [flit (leBytes 4 o ++ leBytes 1 d.length ++ leBytes 3 0 ++ d)]
  | .csaDone c o m g => [flit (leBytes 4 c ++ leBytes 4 o ++ leBytes 4 m ++ leBytes 2 g)]
  | .hbmRead a n => [flit (leBytes 8 a ++ leBytes 2 n)]
  | .hbmWrite a d => flit (leBytes 8 a ++ leBytes 2 d.length) :: dataFlits d
  | .hbmReadData d => dataFlits d
  | .hbmWriteAccepted st => [flit (leBytes 1 st)]
  | .hbmReadFailed st => [flit (leBytes 1 st)]
  | .listData d => dataFlits d
  | .egsResult o d => flit (leBytes 4 o ++ leBytes 2 d.length) :: dataFlits d
  | .egsDone c u r m => [flit (leBytes 4 c ++ leBytes 4 u ++ leBytes 4 r ++ leBytes 4 m)]
  | .command b => [flit b]
  | .bankLine d => [flit d]

/-- Flits of a message. -/
def msgFlits : MsgBody → Nat
  | .writeReq _ d => 1 + (d.length + 63) / 64
  | .readData d => (d.length + 63) / 64
  | .hbmWrite _ d => 1 + (d.length + 63) / 64
  | .hbmReadData d => (d.length + 63) / 64
  | .listData d => (d.length + 63) / 64
  | .egsResult _ d => 1 + (d.length + 63) / 64
  | _ => 1

/-- The fields of a flit header but its check bits (Table 5-2). -/
structure FlitHeader where
  cls : Nat
  destKind : Nat
  destRow : Nat
  destCol : Nat
  srcRow : Nat
  srcCol : Nat
  msgType : Nat
  tag : Nat
  left : Nat
  parity : Nat
  srcKind : Nat
deriving DecidableEq, Repr

/-- Row and column of a node in a header: an edge's port stands on a course or at a position, the other 0 (Table 5-2). -/
def placeOf (n peer : Node) : Nat × Nat :=
  let r := routerAt n peer
  match edgeKind n with
  | 0 => r
  | 1 => (r.1, 0)
  | 2 => (r.1, 0)
  | _ => (0, r.2)

/-- The header of a flit of a message with `left` flits after it (R195, R222). -/
def headerOf (m : Msg) (left : Nat) : FlitHeader :=
  let d := placeOf m.dst m.src
  let o := placeOf m.src m.dst
  { cls := classCode m.cls, destKind := edgeKind m.dst, destRow := d.1, destCol := d.2, srcRow := o.1, srcCol := o.2,
    msgType := msgType m.dst m.body, tag := m.tag, left := left, parity := if m.cls = .cfg then 0 else m.parity,
    srcKind := edgeKind m.src }

/-- Bits [55:0] of a header (Table 5-2). -/
def FlitHeader.word (h : FlitHeader) : Nat :=
  h.cls * 2 ^ 54 + h.destKind * 2 ^ 51 + h.destRow * 2 ^ 44 + h.destCol * 2 ^ 38 + h.srcRow * 2 ^ 31 + h.srcCol * 2 ^ 25 +
    h.msgType * 2 ^ 19 + h.tag * 2 ^ 11 + h.left * 2 ^ 6 + h.parity * 2 ^ 5 + h.srcKind * 2 ^ 2

/-- The header that bits [55:0] hold. -/
def parseHeader (w : Nat) : FlitHeader :=
  { cls := bits w 55 54, destKind := bits w 53 51, destRow := bits w 50 44, destCol := bits w 43 38, srcRow := bits w 37 31,
    srcCol := bits w 30 25, msgType := bits w 24 19, tag := bits w 18 11, left := bits w 10 6, parity := bits w 5 5,
    srcKind := bits w 4 2 }

/-! ### Header errors -/

/-- A MSG_TYPE that a class gives between these two kinds of node (Tables 5-4, 7-2, 8-2, 11-4 and 12-5). -/
def msgTypeOk (cls kind t : Nat) : Bool :=
  let edge := fun (l : List Nat) => kind != 0 && l.contains t
  match cls with
  | 0 => decide (t ≤ 1) || edge [0x10, 0x11, 0x12, 0x20, 0x21, 0x22]
  | 1 => decide (t ≤ 2) || edge [0x10, 0x11, 0x12, 0x20, 0x21, 0x22]
  | _ => t == 0

/-- The first flit's payload holds no reserved encoding (R214, R229, Tables 5-4, 5-8 and 11-4). -/
def payloadOk (cls kind t : Nat) (l : List Byte) : Bool :=
  let len := fun (o top : Nat) => decide (1 ≤ le l o 2) && decide (le l o 2 ≤ top)
  match cls with
  | 0 =>
    if t ≤ 1 then decide (le l 0 4 < 2 ^ 18) && len 4 256
    else if kind = 3 ∨ 0x12 ≤ t then true else decide (le l 0 8 < 2 ^ 48) && len 8 256
  | 1 =>
    if t = 1 ∨ t = 2 then decide (le l 0 1 ≤ 2)
    else if (t = 0x11 ∨ t = 0x12) ∧ kind ≠ 3 then decide (le l 0 1 ≤ 3) else true
  | 2 => decide (le l 1 1 ≤ 2)
  | _ => true

namespace State

/-- The header and the first payload hold no reserved encoding, and the destination course is ACTIVE (R229, Table 5-8). -/
def msgLegal (s : State) (m : Msg) : Bool :=
  let h := parseHeader (headerOf m (msgFlits m.body - 1)).word
  let edge := if h.destKind = 0 then h.srcKind else h.destKind
  h == headerOf m (msgFlits m.body - 1) && decide (h.destKind ≤ 4) && decide (h.srcKind ≤ 4) && decide (h.destRow < 68) &&
    decide (h.srcRow < 68) && (h.destKind != 0 || s.inService h.destRow) && msgTypeOk h.cls edge h.msgType &&
    payloadOk h.cls edge h.msgType ((payloadFlits 1 m.body).headD [])

/-- A router of the mesh forwards across courses only: its course is out of service (R205). -/
def forwardsOnly (s : State) (r : Nat × Nat) : Bool := !s.inService r.1

end State

end Sys2Proof.Machine
end

