-- ==== Sys2Proof/Config.lean ====
section
/-!
DEFINITION. The values that the spec leaves open. Each is a constant without a body: nothing can be proved about the
number it gives, so a statement that holds, holds whatever the hardware does there. The assumption log names each.
-/

namespace Sys2Proof.Config

/-- The port delay that a chip records when the four time stamps of an exchange give a negative difference: the spec
gives the field as unsigned and states no result (log entry 5). -/
opaque negativeDelay : Int → Nat

/-- Where a SEND stage with TARGET 0 writes: no chapter lays out the operand of that target. From the operand:
logical course, position and SRAM offset of the destination (log entry 6). -/
opaque sendDestination : Nat → Nat × Nat × Nat

/-- A value that the spec does not state, by the place that asks and the operand (log entry 8): an integer DIV or RECIP
outside its format. -/
opaque openResult : Nat → Nat → Nat

/-- The order in which the dense array adds the K products of one output, by K and element width and class; the spec says
only that it depends on K and the format (R101, log entry 10). -/
opaque denseOrder : Nat → Nat → List Nat

end Sys2Proof.Config
end

