-- ==== Sys2Proof/Machine/Numeric.lean ====
section
/-!
DEFINITION. Numbers and formats: format descriptors, exact values, the one conversion rule, and arithmetic on elements
(spec/06: R255 to R275, R1036; spec/03: R102).
-/

namespace Sys2Proof.Machine

/-- A format descriptor (Table 6-1); `exp` holds EXP_BITS, or FRAC_BITS for CLASS 3. -/
structure Fmt where
  cls : Nat
  width : Nat
  exp : Nat
  mant : Nat
  bias : Int
  flags : Nat
deriving DecidableEq, Repr

/-- The descriptor that 16 octets hold. -/
def Fmt.ofBytes (l : List Byte) : Fmt :=
  { cls := le l 0 1, width := le l 1 1, exp := le l 2 1, mant := le l 3 1, bias := toSigned 16 (le l 4 2), flags := le l 6 1 }

def Fmt.hasInf (f : Fmt) : Bool := bit f.flags 0
def Fmt.nanAllOnes (f : Fmt) : Bool := bit f.flags 1
def Fmt.signed (f : Fmt) : Bool := bit f.flags 3
/-- Floating-point or block-scaled. -/
def Fmt.isFloat (f : Fmt) : Bool := f.cls == 0 || f.cls == 2

def fmtF64 : Fmt := { cls := 0, width := 64, exp := 11, mant := 52, bias := 1023, flags := 1 }
def fmtF32 : Fmt := { cls := 0, width := 32, exp := 8, mant := 23, bias := 127, flags := 1 }
def fmtI64 : Fmt := { cls := 1, width := 64, exp := 0, mant := 0, bias := 0, flags := 8 }
def fmtI32 : Fmt := { cls := 1, width := 32, exp := 0, mant := 0, bias := 0, flags := 8 }
/-- The unsigned integer of a lane width: masks and counts (R1036). -/
def fmtUint (w : Nat) : Fmt := { cls := 1, width := w, exp := 0, mant := 0, bias := 0, flags := 0 }

/-- The format as its lanes hold it: INT4 and 4-bit fixed point at 8 bits, MXFP4 as binary32 (R259, R1036). -/
def Fmt.lane (f : Fmt) : Fmt :=
  if f.cls = 2 then fmtF32 else if f.width = 4 then { f with width := 8 } else f

/-- An exact value: (-1)^neg × m × 2^e, an infinity, or NaN. -/
inductive Num where
  | fin (neg : Bool) (m : Nat) (e : Int)
  | inf (neg : Bool)
  | nan
deriving DecidableEq, Repr

/-- Exact value of an integer times 2^e. -/
def Num.ofInt (v e : Int) : Num := .fin (decide (v < 0)) v.natAbs e

/-- The value that a bit pattern of a format denotes. -/
def decodeNum (f : Fmt) (x : Nat) : Num :=
  if f.isFloat then
    let neg := bit x (f.width - 1)
    let ex := x / 2 ^ f.mant % 2 ^ f.exp
    let fr := x % 2 ^ f.mant
    if f.hasInf && ex == 2 ^ f.exp - 1 then (if fr = 0 then .inf neg else .nan)
    else if f.nanAllOnes && ex == 2 ^ f.exp - 1 && fr == 2 ^ f.mant - 1 then .nan
    else if ex = 0 then .fin neg fr (1 - f.bias - f.mant)
    else .fin neg (2 ^ f.mant + fr) (ex - f.bias - f.mant)
  else Num.ofInt (if f.signed then toSigned f.width x else ((x % 2 ^ f.width : Nat) : Int)) (-(f.exp : Int))

/-- Rounding modes (Table 3-5); stochastic rounding carries its 16-bit draw (R274, R275). -/
inductive Round where
  | nearest
  | zero
  | stochastic (r : Nat)
deriving DecidableEq, Repr

/-- `m` ÷ 2^k rounded to an integer. -/
def roundShift (mode : Round) (m k : Nat) : Nat :=
  let q := m / 2 ^ k
  let d := m % 2 ^ k
  match mode with
  | .zero => q
  | .nearest => if 2 ^ k < 2 * d ∨ (2 ^ k = 2 * d ∧ q % 2 = 1) then q + 1 else q
  | .stochastic r => if 65536 ≤ d * 65536 / 2 ^ k + r then q + 1 else q

/-- `m` × 2^e rounded to an integer multiple of 2^q, in units of 2^q. -/
def roundTo (mode : Round) (m : Nat) (e q : Int) : Nat :=
  if q ≤ e then m * 2 ^ (e - q).toNat else roundShift mode m (q - e).toNat

/-- A converted element: its pattern, and whether a saturation or a NaN event arose. -/
structure Conv where
  bits : Nat
  sat : Bool
  nan : Bool
deriving DecidableEq, Repr

/-- Sign bit of a pattern. -/
def signBit (f : Fmt) (neg : Bool) : Nat := if neg then 2 ^ (f.width - 1) else 0

/-- Canonical NaN, infinity and largest finite magnitude of a floating-point format (Table 6-2). -/
def Fmt.nanBits (f : Fmt) : Nat :=
  if f.nanAllOnes then 2 ^ (f.width - 1) - 1 else (2 ^ f.exp - 1) * 2 ^ f.mant + 2 ^ (f.mant - 1)
def Fmt.infBits (f : Fmt) (neg : Bool) : Nat := signBit f neg + (2 ^ f.exp - 1) * 2 ^ f.mant
def Fmt.maxMag (f : Fmt) : Nat :=
  if f.hasInf then (2 ^ f.exp - 1) * 2 ^ f.mant - 1 else if f.nanAllOnes then 2 ^ (f.width - 1) - 2 else 2 ^ (f.width - 1) - 1

/-- The rounded magnitude pattern of a finite value, not yet limited: it may exceed `maxMag`. -/
def floatMag (f : Fmt) (mode : Round) (m : Nat) (e : Int) : Nat :=
  if m = 0 then 0 else
  let lead : Int := (Nat.log2 m : Int) + e
  let q : Int := max lead (1 - f.bias) - f.mant
  let r := roundTo mode m e q
  ((q + f.mant + f.bias - 1).toNat) * 2 ^ f.mant + r

/-- The largest and smallest stored integers of an integer or fixed-point format. -/
def Fmt.hi (f : Fmt) : Int := if f.signed then (2 ^ (f.width - 1) : Nat) - 1 else (2 ^ f.width : Nat) - 1
def Fmt.lo (f : Fmt) : Int := if f.signed then -((2 ^ (f.width - 1) : Nat) : Int) else 0

/-- A stored integer clamped into its format, with a saturation event when it was outside. -/
def clampConv (f : Fmt) (v : Int) : Conv :=
  { bits := ofSigned f.width (clampInt f.lo f.hi v), sat := decide (v < f.lo ∨ f.hi < v), nan := false }

/-- Conversion of an exact value to a format (R266 to R268, Table 6-8). -/
def convertNum (f : Fmt) (mode : Round) (saturate : Bool) (x : Num) : Conv :=
  if f.isFloat then
    match x with
    | .nan => { bits := f.nanBits, sat := false, nan := true }
    | .inf neg =>
      if saturate then { bits := signBit f neg + f.maxMag, sat := true, nan := false }
      else if f.hasInf then { bits := f.infBits neg, sat := false, nan := false }
      else { bits := f.nanBits, sat := false, nan := true }
    | .fin neg m e =>
      let r := floatMag f mode m e
      if r ≤ f.maxMag then { bits := signBit f neg + r, sat := false, nan := false }
      else if saturate || (f.hasInf && mode == .zero) then { bits := signBit f neg + f.maxMag, sat := true, nan := false }
      else if f.hasInf then { bits := f.infBits neg, sat := false, nan := false }
      else { bits := f.nanBits, sat := false, nan := true }
  else
    match x with
    | .nan => { bits := 0, sat := true, nan := false }
    | .inf neg => { (clampConv f (if neg then f.lo else f.hi)) with sat := true }
    | .fin neg m e =>
      let r : Int := roundTo mode m e (-(f.exp : Int))
      clampConv f (if neg then -r else r)

/-- Conversion of an element: a 4-bit target is rounded and limited at 4 bits and held widened (R259). -/
def convertElem (src dst : Fmt) (mode : Round) (saturate : Bool) (x : Nat) : Conv :=
  let c := convertNum dst mode saturate (decodeNum src x)
  if dst.width = 4 ∧ dst.cls ≠ 2 then
    { c with bits := ofSigned 8 (if dst.signed then toSigned 4 c.bits else (c.bits : Int)) }
  else c

/-- The sum of two exact values (R270, R271); NaN where none exists. -/
def Num.add : Num → Num → Num
  | .nan, _ => .nan
  | _, .nan => .nan
  | .inf a, .inf b => if a = b then .inf a else .nan
  | .inf a, _ => .inf a
  | _, .inf b => .inf b
  | .fin a m e, .fin b n g =>
    if m = 0 ∧ n = 0 then .fin (a && b) 0 0
    else
      let q := min e g
      let x : Int := (m * 2 ^ (e - q).toNat : Nat)
      let y : Int := (n * 2 ^ (g - q).toNat : Nat)
      Num.ofInt ((if a then -x else x) + (if b then -y else y)) q

def Num.neg : Num → Num
  | .nan => .nan
  | .inf a => .inf !a
  | .fin a m e => .fin (!a) m e

def Num.abs : Num → Num
  | .nan => .nan
  | .inf _ => .inf false
  | .fin _ m e => .fin false m e

def Num.mul : Num → Num → Num
  | .nan, _ => .nan
  | _, .nan => .nan
  | .inf a, .inf b => .inf (a != b)
  | .inf a, .fin b n _ => if n = 0 then .nan else .inf (a != b)
  | .fin a m _, .inf b => if m = 0 then .nan else .inf (a != b)
  | .fin a m e, .fin b n g => .fin (a != b) (m * n) (e + g)

/-- A quotient with 70 bits more than the divisor and a sticky bit: enough to round once to any format. -/
def Num.div : Num → Num → Num
  | .nan, _ => .nan
  | _, .nan => .nan
  | .inf _, .inf _ => .nan
  | .inf a, .fin b _ _ => .inf (a != b)
  | .fin a _ _, .inf b => .fin (a != b) 0 0
  | .fin a m e, .fin b n g =>
    if n = 0 then (if m = 0 then .nan else .inf (a != b))
    else
      let k := 70 + Nat.log2 n
      let t := m * 2 ^ k
      .fin (a != b) (2 * (t / n) + (if t % n = 0 then 0 else 1)) (e - g - k - 1)

/-- Integer square root, bit by bit from bit `i - 1` down. -/
def isqrtFrom : Nat → Nat → Nat → Nat
  | 0, _, r => r
  | i + 1, n, r => isqrtFrom i n (if (r + 2 ^ i) * (r + 2 ^ i) ≤ n then r + 2 ^ i else r)
def isqrt (n : Nat) : Nat := isqrtFrom (Nat.log2 n / 2 + 1) n 0

def Num.sqrt : Num → Num
  | .nan => .nan
  | .inf neg => if neg then .nan else .inf false
  | .fin neg m e =>
    if m = 0 then .fin neg 0 0
    else if neg then .nan
    else
      let odd := decide (e % 2 ≠ 0)
      let n := (if odd then 2 * m else m) * 2 ^ 140
      let e' := (if odd then e - 1 else e) - 140
      let r := isqrt n
      .fin false (2 * r + (if r * r = n then 0 else 1)) (e' / 2 - 1)

/-- Order of two values that are not NaN, -0 below +0 when `zeros`. -/
def Num.lt (zeros : Bool) : Num → Num → Bool
  | .nan, _ => false
  | _, .nan => false
  | .inf a, .inf b => a && !b
  | .inf a, .fin _ _ _ => a
  | .fin _ _ _, .inf b => !b
  | .fin a m e, .fin b n g =>
    if m = 0 ∧ n = 0 then zeros && a && !b
    else
      let q := min e g
      let x : Int := (m * 2 ^ (e - q).toNat : Nat)
      let y : Int := (n * 2 ^ (g - q).toNat : Nat)
      decide ((if a then -x else x) < (if b then -y else y))

/-- MIN and MAX of R270: the operand that is not NaN when exactly one is. -/
def Num.minMax (isMin : Bool) (a b : Num) : Num :=
  match a, b with
  | .nan, .nan => .nan
  | .nan, _ => b
  | _, .nan => a
  | _, _ => if (Num.lt true b a) = isMin then b else a

/-- Values are equal as numbers (-0 equals +0); NaN equals nothing. -/
def Num.eq (a b : Num) : Bool :=
  match a, b with
  | .nan, _ => false
  | _, .nan => false
  | _, _ => !Num.lt false a b && !Num.lt false b a

/-- A rounded floating-point result of one operation: nearest-even, SATURATE 0 (R270, R271). -/
def roundFloat (f : Fmt) (x : Num) : Conv := convertNum f .nearest false x

/-- One operation in binary32, as a value. -/
def r32 (x : Num) : Num := decodeNum fmtF32 (roundFloat fmtF32 x).bits

/-- ARITH on floating-point elements, opcodes 0 to 7 and 14 to 16 (R270, R271). -/
def arithFloat (op : Nat) (a b c : Num) : Num :=
  match op with
  | 0 => a.add b
  | 1 => a.add b.neg
  | 2 => a.mul b
  | 3 => (a.mul b).add c
  | 4 => Num.minMax true a b
  | 5 => Num.minMax false a b
  | 6 => a.abs
  | 7 => a.neg
  | 14 => a.div b
  | 15 => a.sqrt
  | _ => (Num.fin false 1 0).div a

/-- A signed integer ÷ 2^k rounded by nearest-even on its magnitude. -/
def roundInt (v : Int) (k : Nat) : Int :=
  let r : Int := roundShift .nearest v.natAbs k
  if v < 0 then -r else r

/-- Quotient truncated toward zero. -/
def truncDiv (a b : Int) : Int :=
  let q : Int := (a.natAbs / b.natAbs : Nat)
  if (decide (a < 0)) = (decide (b < 0)) then q else -q

/-- A stored result that R272 states no saturation for: outside the format its value is open (log entry 8). -/
def openConv (f : Fmt) (op : Nat) (v : Int) (operand : Nat) : Conv :=
  if f.lo ≤ v ∧ v ≤ f.hi then { bits := ofSigned f.width v, sat := false, nan := false }
  else { bits := Config.openResult op operand % 2 ^ f.width, sat := false, nan := false }

/-- ARITH on integer and fixed-point elements, by their stored integers, opcodes 0 to 7 and 14 to 16 (R272). -/
def arithInt (f : Fmt) (op : Nat) (a b c : Int) : Conv :=
  match op with
  | 0 => clampConv f (a + b)
  | 1 => clampConv f (a - b)
  | 2 => clampConv f (roundInt (a * b) f.exp)
  | 3 => clampConv f (roundInt (a * b + c * (2 ^ f.exp : Nat)) f.exp)
  | 4 => clampConv f (min a b)
  | 5 => clampConv f (max a b)
  | 6 => clampConv f (a.natAbs : Int)
  | 7 => clampConv f (-a)
  | 14 =>
    if b = 0 then { (clampConv f (if 0 < a then f.hi else if a < 0 then f.lo else 0)) with sat := true }
    else openConv f 14 (truncDiv (a * (2 ^ f.exp : Nat)) b) (a.natAbs + 2 ^ 64 * b.natAbs)
  | 15 =>
    if a < 0 then { bits := 0, sat := true, nan := false }
    else clampConv f ((isqrt (a.natAbs * 2 ^ f.exp) : Nat) : Int)
  | _ =>
    if a = 0 then { (clampConv f f.hi) with sat := true }
    else openConv f 16 (truncDiv ((2 ^ (2 * f.exp) : Nat) : Int) a) a.natAbs

/-- ARITH opcodes 8 to 13 on stored patterns of `w` bits (R272, R426): the count is taken modulo the width. -/
def arithBits (w op a b : Nat) : Nat :=
  match op with
  | 8 => Nat.land a b
  | 9 => Nat.lor a b
  | 10 => xorN a b
  | 11 => a * 2 ^ (b % w) % 2 ^ w
  | 12 => a / 2 ^ (b % w)
  | _ => ofSigned w (toSigned w a / ((2 ^ (b % w) : Nat) : Int))

/-- One ARITH operation on element patterns of a stage format. -/
def arithElem (f : Fmt) (op a b c : Nat) : Conv :=
  if 8 ≤ op ∧ op ≤ 13 then { bits := arithBits f.width op a b, sat := false, nan := false }
  else if f.isFloat then roundFloat f (arithFloat op (decodeNum f a) (decodeNum f b) (decodeNum f c))
  else
    let s := fun x => if f.signed then toSigned f.width x else ((x % 2 ^ f.width : Nat) : Int)
    arithInt f op (s a) (s b) (s c)

/-- A comparison predicate on element patterns (Table 3-5). With a NaN operand only NE holds (log entry 9). -/
def compareElem (f : Fmt) (pred a b : Nat) : Bool :=
  let x := decodeNum f a
  let y := decodeNum f b
  match pred with
  | 0 => x.eq y
  | 1 => !x.eq y
  | 2 => Num.lt false x y
  | 3 => Num.lt false x y || x.eq y
  | 4 => Num.lt false y x
  | 5 => Num.lt false y x || x.eq y
  | _ => false

end Sys2Proof.Machine
end

