-- ==== Sys2Proof/Machine/Lanes.lean ====
section
/-!
DEFINITION. The lane and dense stages of a template as functions of element lists (spec/03: R102, R1038, R1039, Table 3-5;
spec/06: R250 to R253, R259, R269 to R281, R1036, R1042, R1043; spec/10: R426 to R429; spec/04: R1041).
An element is its validity and its bits.
-/

namespace Sys2Proof.Machine

abbrev Elem := Bool × Nat

/-- What stages read beside their elements: formats by slot, lane width, operands, in-force tables, the stochastic draw by
stage and index, and SRAM octets by offset and length. -/
structure PipeEnv where
  fmt : Nat → Fmt
  inFmt : Nat
  outFmt : Nat
  lane : Nat
  operand : Nat → Nat
  tabNum : Nat → Nat
  tabOct : Nat → Nat → Nat → List Byte
  draw : Nat → Nat → Nat
  sram : Nat → Nat → List Byte

/-- An octet with its validity. -/
abbrev Octet := Byte × Bool

/-- A word of an in-force table: its object index × 4,096 + the word of its canonical image (R288, R289). -/
def tableWord (index word : Nat) : Nat := index * 4096 + word

/-- What flows between stages: elements, their stage format, the events so far, bad parse fields, the octets that PACK has
written, and the words of in-force tables read. -/
structure Pipe where
  elems : List Elem
  fmt : Fmt
  /-- The stage format before 4-bit and MXFP4 elements are widened: what DENSE reads (R1036, R1039). -/
  raw : Fmt
  sat : Bool := false
  nan : Bool := false
  bad : Nat := 0
  packed : Option (List Octet) := none
  reads : List Nat := []

/-- An element made by a conversion, with its events added to the pipe's. -/
structure Made where
  elem : Elem
  sat : Bool
  nan : Bool

def Made.ofConv (c : Conv) : Made := { elem := (true, c.bits), sat := c.sat, nan := c.nan }
/-- The invalid element, of value 0 (R251). -/
def Made.invalid : Made := { elem := (false, 0), sat := false, nan := false }

def Pipe.take (p : Pipe) (f : Fmt) (l : List Made) : Pipe :=
  { p with elems := l.map Made.elem, fmt := f, raw := f, sat := p.sat || l.any Made.sat, nan := p.nan || l.any Made.nan }

/-- Little-endian field of width `w` bits. -/
def fieldOf (w x : Nat) : Nat := x % 2 ^ w

/-- E2M1 magnitude in halves: 0, 0.5, 1, 1.5, 2, 3, 4, 6. -/
def e2m1Halves : Nat → Nat
  | 0 => 0 | 1 => 1 | 2 => 2 | 3 => 3 | 4 => 4 | 5 => 6 | 6 => 8 | _ => 12

/-- An MXFP4 element times its block scale, as binary32 (R259). -/
def mxElem (code scale : Nat) : Nat :=
  if scale = 255 then fmtF32.nanBits
  else (roundFloat fmtF32 (.fin (bit code 3) (e2m1Halves (code % 8)) ((scale : Int) - 128))).bits

/-- The 128 elements of an MX line of 72 octets (spec/06: MX and 4-bit layouts). -/
def mxLine (l : List Byte) : List Nat :=
  (List.range 128).map (fun i => mxElem (le l (i / 2) 1 / 16 ^ (i % 2) % 16) (le l (64 + i / 32) 1))

/-- The elements that octets hold in a format, as their lanes hold them; octets short of an element hold none. -/
def elemsOf (f : Fmt) (l : List Byte) : List Nat :=
  if f.cls = 2 then ((chunked l.length 72 l).filter (fun c => c.length == 72)).flatMap mxLine
  else if f.width = 4 then
    let widen := fun (x : Nat) => ofSigned 8 (if f.signed then toSigned 4 x else (x : Int))
    l.flatMap (fun b => [widen (b.toNat % 16), widen (b.toNat / 16)])
  else
    let n := f.width / 8
    ((chunked l.length n l).filter (fun c => c.length == n)).map ofLe

/-- B operand of a stage, converted by value to the stage format (R1036): nearest-even, SATURATE 1. -/
def convertB (src dst : Fmt) (x : Elem) : Made :=
  if !x.1 then .invalid
  else if src = dst then { elem := x, sat := false, nan := false }
  else .ofConv (convertNum dst .nearest true (decodeNum src x.2))

/-- An immediate operand read by the input format (R1041), in its lane format. -/
def immediate (f : Fmt) (v : Nat) : Nat :=
  if f.cls = 2 then v % 2 ^ 32
  else if f.width = 4 then v % 256
  else if f.width ≤ 32 then v % 2 ^ f.width
  else if f.isFloat then (convertNum fmtF64 .nearest false (decodeNum fmtF32 v)).bits
  else if f.signed then ofSigned 64 (toSigned 32 v)
  else v % 2 ^ 32

/-- B operands of a stage as a list as long as its first input: element i of the second input, or the immediate. -/
def bList (env : PipeEnv) (second : List Elem) (dst : Fmt) (source immOp n : Nat) : List Made :=
  let src := (env.fmt env.inFmt).lane
  if source = 0 then
    let l := (second.take n).map (convertB src dst)
    l ++ List.replicate (n - l.length) .invalid
  else List.replicate n (convertB src dst (true, immediate (env.fmt env.inFmt) (env.operand immOp)))

/-- Rounding of a ROUND field, with the draw of R274 for an element. -/
def roundOf (env : PipeEnv) (field stage i : Nat) : Round :=
  if field = 1 then .zero else if field = 2 then .stochastic (env.draw stage i) else .nearest

/-- Elements numbered from 0. -/
def numbered {α : Type} : Nat → List α → List (Nat × α)
  | _, [] => []
  | i, x :: r => (i, x) :: numbered (i + 1) r

/-- CONVERT (R266, R267). -/
def stageConvert (env : PipeEnv) (stage w : Nat) (p : Pipe) : Pipe :=
  let dst := env.fmt (bits w 59 56)
  { p.take dst.lane ((numbered 0 p.elems).map (fun x =>
      if !x.2.1 then .invalid
      else .ofConv (convertElem p.fmt dst (roundOf env (bits w 55 54) stage x.1) (bit w 53) x.2.2))) with raw := dst }

/-- Mask of one lane (R252): IS_NAN and IS_NULL take only the first input. -/
def maskOfLane (f : Fmt) (pred : Nat) (a : Elem) (b : Made) : Bool :=
  if pred = 6 then a.1 && (decodeNum f a.2 == .nan)
  else if pred = 7 then !a.1
  else a.1 && b.elem.1 && compareElem f pred a.2 b.elem.2

/-- COMPARE with OUTPUT mask, compact or count (R252, R427, R428). -/
def stageCompare (env : PipeEnv) (second : List Elem) (w : Nat) (p : Pipe) : Pipe :=
  let pred := bits w 59 56
  let b := bList env second p.fmt (bits w 55 54) (bits w 51 50) p.elems.length
  let m := List.zipWith (maskOfLane p.fmt pred) p.elems b
  let q := if pred < 6 then { p with sat := p.sat || b.any Made.sat, nan := p.nan || b.any Made.nan } else p
  match bits w 53 52 with
  | 0 => { q with elems := m.map (fun x => (true, b2n x)), fmt := fmtUint env.lane, raw := fmtUint env.lane }
  | 1 => { q with elems := ((p.elems.zip m).filter Prod.snd).map Prod.fst }
  | _ =>
    let n := (m.filter id).length
    { q with elems := [(true, min n (2 ^ env.lane - 1))], fmt := fmtUint env.lane, raw := fmtUint env.lane,
             sat := q.sat || decide (2 ^ env.lane ≤ n) }

/-- A reduction over valid elements, one at a time in order (R253, R273). -/
def reduceElems (f : Fmt) (op : Nat) (l : List Elem) : Made :=
  match (l.filter Prod.fst).map Prod.snd with
  | [] => .invalid
  | x :: r => r.foldl (fun a y =>
      let c := arithElem f op a.elem.2 y 0
      { elem := (true, c.bits), sat := a.sat || c.sat, nan := a.nan || c.nan }) { elem := (true, x), sat := false, nan := false }

/-- ARITH opcodes that take one operand: ABS, NEG, SQRT, RECIP. -/
def unaryOp (op : Nat) : Bool := op == 6 || op == 7 || op == 15 || op == 16

/-- ARITH (R270 to R273, R426, R429, R1040). -/
def arithPipe (env : PipeEnv) (second : List Elem) (w : Nat) (p : Pipe) : Pipe :=
  let op := bits w 59 54
  let src := bits w 53 52
  if 17 ≤ op then
    p.take p.fmt [reduceElems p.fmt (if op = 17 then 0 else if op = 18 then 4 else 5) p.elems]
  else if unaryOp op then
    p.take p.fmt (p.elems.map (fun a => if a.1 then .ofConv (arithElem p.fmt op a.2 0 0) else .invalid))
  else
    let n := p.elems.length
    let b := bList env second p.fmt src (bits w 51 50) n
    let c := if op = 3 then bList env second p.fmt (1 - src) (bits w 51 50) n else List.replicate n (.ofConv ⟨0, false, false⟩)
    p.take p.fmt (List.zipWith (fun a bc =>
      let x : Made := bc.1
      let y : Made := bc.2
      if a.1 && x.elem.1 && y.elem.1 then
        let r := arithElem p.fmt op a.2 x.elem.2 y.elem.2
        { elem := (true, r.bits), sat := r.sat || x.sat || y.sat, nan := r.nan || x.nan || y.nan }
      else .invalid) p.elems (b.zip c))

/-- ARITH leaves the stage format as it is (R1036). -/
def stageArith (env : PipeEnv) (second : List Elem) (w : Nat) (p : Pipe) : Pipe := { arithPipe env second w p with raw := p.raw }

/-- Floor of a value that is finite, as an integer. -/
def floorNum : Num → Int
  | .fin neg m e =>
    let x : Int := if neg then -(m : Int) else m
    if 0 ≤ e then x * (2 ^ e.toNat : Nat) else x / ((2 ^ (-e).toNat : Nat) : Int)
  | _ => 0

/-- The parameter t of a curve evaluation on a value in binary32 that is not NaN (R276). -/
def curveParam (xmin inv : Nat) (extend : Bool) (x : Num) : Num :=
  let t0 := r32 ((r32 (x.add (decodeNum fmtF32 xmin).neg)).mul (decodeNum fmtF32 inv))
  if extend then t0 else Num.minMax true (Num.minMax false t0 (.fin false 0 0)) (.fin false 256 0)

/-- The segment i of a parameter (R276). -/
def curveSegment (t : Num) : Nat :=
  match t with
  | .inf neg => if neg then 0 else 255
  | _ => (min (max (floorNum t) 0) 255).toNat

/-- One curve evaluation, every operation in binary32 with nearest-even (R276). -/
def curveElem (xmin inv : Nat) (extend : Bool) (knot : Nat → Nat) (x : Num) : Conv :=
  let k := fun i => decodeNum fmtF32 (knot i)
  let x := r32 x
  if x = .nan then { bits := fmtF32.nanBits, sat := false, nan := true }
  else
    let t := curveParam xmin inv extend x
    let i := curveSegment t
    let f := r32 (t.add (Num.ofInt (i : Int) 0).neg)
    roundFloat fmtF32 ((f.mul (r32 ((k (i + 1)).add (k i).neg))).add (k i))

/-- CURVE (R276): the in-force table of `CURVE_TABLE`; the result is binary32. -/
def stageCurve (env : PipeEnv) (w : Nat) (p : Pipe) : Pipe :=
  let n := bits w 59 54
  let knots := env.tabOct (Obj.KNOTS n) 0 1028
  let extend := env.tabNum (Obj.EDGE_MODE n) == 1
  let used := p.elems.flatMap (fun a =>
    let x := r32 (decodeNum p.fmt a.2)
    if !a.1 || x == .nan then []
    else
      let i := curveSegment (curveParam (env.tabNum (Obj.X_MIN n)) (env.tabNum (Obj.INV_STEP n)) extend x)
      [tableWord (0x8200 + n) ((16 + 4 * i) / 8), tableWord (0x8200 + n) ((20 + 4 * i) / 8)])
  { p.take fmtF32 (p.elems.map (fun a =>
      if a.1 then .ofConv (curveElem (env.tabNum (Obj.X_MIN n)) (env.tabNum (Obj.INV_STEP n)) extend
        (fun i => le knots (4 * i) 4) (decodeNum p.fmt a.2))
      else .invalid)) with reads := p.reads ++ tableWord (0x8200 + n) 0 :: tableWord (0x8200 + n) 1 :: used }

/-- The accumulator format of a DENSE stage (R102, R1036). -/
def denseFmt (f : Fmt) : Fmt :=
  if f.isFloat then (if f.width = 64 then fmtF64 else fmtF32)
  else { cls := f.cls, width := 32, exp := min (2 * f.exp) 31, mant := 0, bias := 0, flags := 8 }

/-- One product added to an accumulator, which starts at +0 (R102); a floating-point product is added exactly and the sum is
rounded once: the spec states neither (DESIGN CHOICE, log entry 157). -/
def denseStep (f : Fmt) (acc : Made) (x w : Nat) : Made :=
  let g := denseFmt f
  let c := if f.isFloat then roundFloat g (((decodeNum f x).mul (decodeNum f w)).add (decodeNum g acc.elem.2))
    else
      let s := fun y => if f.signed then toSigned f.width y else ((y % 2 ^ f.width : Nat) : Int)
      clampConv g (toSigned 32 acc.elem.2 + roundInt (s x * s w) (2 * f.exp - 31))
  { elem := (true, c.bits), sat := acc.sat || c.sat, nan := acc.nan || c.nan }

/-- The order of the K products of an output: by K and the format alone (R101); the order itself is open. -/
def productOrder (k : Nat) (f : Fmt) : List Nat :=
  if k ≤ 1 then List.range k
  else
    let o := Config.denseOrder k (f.width * 4 + f.cls)
    if o.length = k ∧ (List.range k).all (fun i => o.contains i) then o else List.range k

/-- Octets of one row of N weights (R1039). -/
def weightRowBytes (f : Fmt) (n : Nat) : Nat :=
  if f.cls = 2 then (n + 127) / 128 * 72 else if f.width = 4 then (n + 1) / 2 else n * (f.width / 8)

/-- One row of DENSE: N outputs (R1038, R102). -/
def denseRow (f lf : Fmt) (n : Nat) (weights : List (List Nat)) (row : List Elem) : List Made :=
  if row.any (fun x => !x.1) then List.replicate n .invalid
  else (List.range n).map (fun j =>
    (productOrder weights.length f).foldl (fun acc k =>
      match row[k]? with
      | none => acc
      | some x => denseStep lf acc x.2 ((weights.getD k []).getD j 0))
      { elem := (true, 0), sat := false, nan := false })

/-- DENSE (R100 to R102, R1038, R1039). -/
def stageDense (env : PipeEnv) (w : Nat) (p : Pipe) : Pipe :=
  let k := bits w 59 50 + 1
  let n := bits w 49 42 + 1
  let f := p.raw
  let rb := weightRowBytes f n
  let image := env.sram (env.operand (bits w 41 40)) (rb * k)
  let weights := (chunked k rb image).map (fun r => (elemsOf f r).take n)
  p.take (denseFmt p.fmt) ((chunked p.elems.length k p.elems).flatMap (denseRow f p.fmt n weights))

/-- Codes of E2M1 with their values in halves, and the code a magnitude rounds to: x in units of 2^q halves. -/
def e2m1Round (mode : Round) (m : Nat) (e : Int) : Nat :=
  -- the grid is 0.5 up to 2, then 1 up to 4, then 2: floatMag on EXP 2, MANT 1, BIAS 1
  min 7 (floatMag { cls := 0, width := 4, exp := 2, mant := 1, bias := 1, flags := 4 } mode m e)

/-- One block of 32 elements packed as MXFP4: codes, scale, saturation and NaN events (R269). -/
def packBlock (env : PipeEnv) (field stage base : Nat) (f : Fmt) (l : List Elem) : List Nat × Nat × Bool × Bool :=
  let vals := l.map (fun x => if x.1 then decodeNum f x.2 else .fin false 0 0)
  if vals.any (fun v => match v with | .fin _ _ _ => false | _ => true) then (l.map (fun _ => 0), 255, false, true)
  else
    let mags := vals.map Num.abs
    let a := mags.foldl (fun x y => if Num.lt false x y then y else x) (.fin false 0 0)
    let zero := fun (x : Elem × Num) => match x.2 with
      | .fin neg _ _ => if x.1.1 && neg then 8 else 0
      | _ => 0
    match a with
    | .fin _ m e =>
      if m = 0 then ((l.zip vals).map zero, 0, false, false)
      else
        let e0 : Int := (Nat.log2 m : Int) + e - 2
        let ee := clampInt (-127) 127 e0
        let codes := (numbered base (l.zip vals)).map (fun x => match x.2.2 with
          | .fin neg n g =>
            if !x.2.1.1 then 0
            else (if neg then 8 else 0) + e2m1Round (roundOf env field stage x.1) n (g - ee)
          | _ => 0)
        (codes, (ee + 127).toNat, decide (127 < e0), false)
    | _ => (l.map (fun _ => 0), 255, false, true)

/-- Octets of nibbles, two to an octet, the unused half of a last octet 0. -/
def nibbleBytes (l : List Nat) : List Byte :=
  (chunked l.length 2 l).map (fun c => BitVec.ofNat 8 (c.getD 0 0 + 16 * c.getD 1 0))

/-- Validity of the octets that hold nibbles: an octet is valid when each element in it is. -/
def nibbleValid (l : List Bool) : List Bool := (chunked l.length 2 l).map (fun c => c.all id)

/-- An MX line of at most 128 elements in blocks. -/
def mxLineBytes (blocks : List (List Nat × Nat × Bool × Bool)) : List Byte :=
  let codes := blocks.flatMap Prod.fst
  nibbleBytes (codes ++ List.replicate (128 - codes.length) 0) ++
    (List.range 4).map (fun i => BitVec.ofNat 8 ((blocks.map (fun b => b.2.1)).getD i 0)) ++ List.replicate 4 0

/-- `n` rounded up to a multiple of 64. -/
def roundUp64 (n : Nat) : Nat := (n + 63) / 64 * 64

/-- An Arrow bitmap, LSB first, padded with 0 bits to a multiple of 64 octets. -/
def bitmapBytes (l : List Bool) : List Byte :=
  let b := (chunked l.length 8 l).map (fun c => BitVec.ofNat 8 (maskOf 8 (fun i => c.getD i false)))
  b ++ List.replicate (roundUp64 b.length - b.length) 0

/-- PACK (R266 to R269, R1042): elements in OUT_FORMAT and their octets, with the validity bitmap when asked for. -/
def stagePack (env : PipeEnv) (stage w : Nat) (p : Pipe) : Pipe :=
  let dst := env.fmt env.outFmt
  let field := bits w 58 57
  let ok := p.elems.map Prod.fst
  let q : Pipe × List Octet :=
    if dst.cls = 2 then
      let blocks := (numbered 0 (chunked p.elems.length 32 p.elems)).map
        (fun b => packBlock env field stage (32 * b.1) p.fmt b.2)
      ({ p with elems := List.zipWith (fun x c => (x.1, c)) p.elems (blocks.flatMap Prod.fst), fmt := dst, raw := dst,
                sat := p.sat || blocks.any (fun b => b.2.2.1), nan := p.nan || blocks.any (fun b => b.2.2.2) },
       (chunked (blocks.length) 4 (blocks.zip (chunked ok.length 32 ok))).flatMap (fun g =>
         let v := nibbleValid (g.flatMap Prod.snd)
         (mxLineBytes (g.map Prod.fst)).zip (v ++ List.replicate (72 - v.length) true)))
    else
      let r := p.take dst ((numbered 0 p.elems).map (fun x =>
        if x.2.1 then .ofConv (convertNum dst (roundOf env field stage x.1) false (decodeNum p.fmt x.2.2)) else .invalid))
      (r, if dst.width = 4 then (nibbleBytes (r.elems.map Prod.snd)).zip (nibbleValid ok)
          else r.elems.flatMap (fun x => (leBytes (dst.width / 8) x.2).map (fun b => (b, x.1))))
  let v := q.2
  { q.1 with packed := some (if bit w 59 then
      v ++ List.replicate (roundUp64 v.length - v.length) (0, true) ++ (bitmapBytes ok).map (fun b => (b, true)) else v) }

/-- The hash of a key of 8-octet chunks by an in-force descriptor, masked to OUT_BITS (R281). -/
def hashKey (env : PipeEnv) (h len : Nat) (key : List Byte) : Nat :=
  let seed := env.tabNum (Obj.SEED h)
  let x := match env.tabNum (Obj.KIND h) with
    | 0 => xorN (crcFold key (xorN (seed % 2 ^ 32) 0xFFFFFFFF)) 0xFFFFFFFF
    | 1 => (wordsOf key).foldl (tabStep (fun i b => ofLe (env.tabOct (Obj.TAB_TABLES h) (8 * (256 * i + b)) 8))) seed
    | _ => mix64 seed len (wordsOf key)
  x % 2 ^ env.tabNum (Obj.OUT_BITS h)

/-- Words of a hash descriptor that a key reads: the header's two and, in tabulation, the entries looked up (R281, R288). -/
def hashReads (env : PipeEnv) (h : Nat) (key : List Byte) : List Nat :=
  if env.tabNum (Obj.KIND h) ≠ 1 then []
  else
    let step := tabStep (fun i b => ofLe (env.tabOct (Obj.TAB_TABLES h) (8 * (256 * i + b)) 8))
    ((wordsOf key).foldl (fun (x : Nat × List Nat) (c : Nat) =>
      (step x.1 c, x.2 ++ (List.range 8).map (fun i => tableWord (0x8300 + h) (2 + 256 * i + (xorN c x.1) / 256 ^ i % 256))))
      (env.tabNum (Obj.SEED h), ([] : List Nat))).2

/-- HASH (R1043, R281): keys of 2^KEY_LOG2 octets from 64-bit lanes; a last key part filled is completed with zeros. -/
def stageHash (env : PipeEnv) (w : Nat) (p : Pipe) : Pipe :=
  let kl := bits w 55 53
  let h := bits w 58 56
  let lanes := if kl ≤ 3 then 1 else 2 ^ (kl - 3)
  let len := 2 ^ kl
  let keys : List (Option (List Byte)) := (chunked p.elems.length lanes p.elems).map (fun (c : List Elem) =>
    if c.any (fun (x : Elem) => !x.1) then none
    else some (((c.flatMap (fun (x : Elem) => leBytes 8 x.2)) ++ List.replicate (8 * (lanes - c.length)) 0).take len))
  { p.take fmtI64 (keys.map (fun k =>
      match k with
      | none => .invalid
      | some k => .ofConv { bits := hashKey env h len k, sat := false, nan := false })) with
    reads := p.reads ++ tableWord (0x8300 + h) 0 :: tableWord (0x8300 + h) 1 ::
      keys.flatMap (fun k => match k with
        | none => []
        | some k => hashReads env h k) }

/-- What PARSE holds while it runs (R277, R278). -/
structure ParseSt where
  state : Nat
  field : Nat := 0
  /-- Kept octets of the field, last first; positions of the first and the last of them. -/
  kept : List Nat := []
  first : Nat := 0
  last : Nat := 0
  /-- Position of the field's first octet. -/
  start : Option Nat := none
  malformed : Bool := false
  /-- An octet has been kept or a field has ended since the record began. -/
  begun : Bool := false
  /-- Elements so far, last first. -/
  out : List Elem := []
  sat : Bool := false
  bad : Nat := 0
  /-- Words of the image read so far. -/
  reads : List Nat := []

/-- Decimal digits of a list of characters, and what follows them. -/
def digitsOf : List Nat → List Nat × List Nat
  | [] => ([], [])
  | c :: r => if 0x30 ≤ c ∧ c ≤ 0x39 then ((c - 0x30) :: (digitsOf r).1, (digitsOf r).2) else ([], c :: r)

def natOf (base : Nat) (l : List Nat) : Nat := l.foldl (fun a d => a * base + d) 0

/-- An optional sign: true for minus. -/
def signOf : List Nat → Bool × List Nat
  | [] => (false, [])
  | c :: r => if c = 0x2D then (true, r) else if c = 0x2B then (false, r) else (false, c :: r)

/-- DEC_INT: its value, or none when the characters do not match (Table 6-5). -/
def parseInt (l : List Nat) : Option Int :=
  let s := signOf l
  let d := digitsOf s.2
  if d.1 = [] ∨ d.2 ≠ [] then none
  else some (if s.1 then -(natOf 10 d.1 : Int) else (natOf 10 d.1 : Int))

/-- (-1)^neg × m × 10^e as a value with enough bits to round once (R280). An exponent beyond ±1,000 rounds as ±1,000
does, since m has at most 64 digits. -/
def decimalNum (neg : Bool) (m : Nat) (e : Int) : Num :=
  let k := clampInt (-1000) 1000 e
  if 0 ≤ k then .fin neg (m * 10 ^ k.toNat) 0
  else if m = 0 then .fin neg 0 0
  else (Num.fin neg m 0).div (.fin false (10 ^ (-k).toNat) 0)

/-- The exponent part of DEC_REAL: an e or E, an optional sign and 1 or more digits, or nothing. -/
def exponentOf : List Nat → Option Int
  | [] => some 0
  | c :: r => if c = 0x65 ∨ c = 0x45 then parseInt r else none

/-- DEC_REAL: its value, or none when the characters do not match (Table 6-5). -/
def parseReal (l : List Nat) : Option Num :=
  let s := signOf l
  let a := digitsOf s.2
  let b : List Nat × List Nat := match a.2 with
    | [] => ([], [])
    | c :: r => if c = 0x2E then digitsOf r else ([], c :: r)
  if a.1 = [] ∧ b.1 = [] then none
  else match exponentOf b.2 with
    | none => none
    | some e => some (decimalNum s.1 (natOf 10 (a.1 ++ b.1)) (e - b.1.length))

/-- The value of a hexadecimal digit, either case. -/
def hexDigit (c : Nat) : Option Nat :=
  if 0x30 ≤ c ∧ c ≤ 0x39 then some (c - 0x30)
  else if 0x41 ≤ c ∧ c ≤ 0x46 then some (c - 0x37)
  else if 0x61 ≤ c ∧ c ≤ 0x66 then some (c - 0x57)
  else none

/-- HEX_INT: 1 to 16 hexadecimal digits (Table 6-5, R280). -/
def parseHex (l : List Nat) : Option Nat :=
  if l = [] ∨ 16 < l.length then none
  else match l.mapM hexDigit with
    | none => none
    | some d => some (natOf 16 d)

/-- The element of an ended field and whether it saturated, by TYPE (R279, R280); none for SKIP_FIELD. -/
def fieldElem (ty : Nat) (pos : Nat) (s : ParseSt) (broken : Bool) : Option (Elem × Bool) :=
  let chars := s.kept.reverse
  let dead := broken || s.malformed
  let long := decide (64 < chars.length) || chars.isEmpty
  match ty with
  | 0 => none
  | 1 => match parseInt chars with
    | some v => if dead || long then some ((false, 0), false)
      else some ((true, ofSigned 64 (clampInt (-(2 ^ 63 : Nat)) ((2 ^ 63 : Nat) - 1) v)),
        decide (v < -((2 ^ 63 : Nat) : Int) ∨ ((2 ^ 63 : Nat) : Int) ≤ v))
    | none => some ((false, 0), false)
  | 2 => match parseReal chars with
    | some v => if dead || long then some ((false, 0), false) else some ((true, (roundFloat fmtF64 v).bits), false)
    | none => some ((false, 0), false)
  | 3 =>
    if dead then some ((false, 0), false)
    else if chars.isEmpty then some ((true, s.start.getD pos % 2 ^ 32), false)
    else some ((true, (s.last + 1 - s.first) % 2 ^ 32 * 2 ^ 32 + s.first % 2 ^ 32), false)
  | _ => match parseHex chars with
    | some v => if dead || long then some ((false, 0), false) else some ((true, v), false)
    | none => some ((false, 0), false)

/-- The field in progress ends (R278): its element, if any, is emitted. -/
def endField (count : Nat) (types : Nat → Nat) (pos : Nat) (broken : Bool) (s : ParseSt) : ParseSt :=
  let t := { s with field := s.field + 1, kept := [], start := none, malformed := false, begun := true }
  if count ≤ s.field then t
  else match fieldElem (types s.field) pos s broken with
    | none => t
    | some (e, sat) =>
      { t with out := e :: s.out, sat := s.sat || sat, bad := s.bad + (if !e.1 || sat then 1 else 0) }

/-- The rest of a record's fields, invalid (R278). -/
def missingFields (count : Nat) (types : Nat → Nat) (s : ParseSt) : ParseSt :=
  let n := ((List.range count).filter (fun f => decide (s.field ≤ f) && decide (types f ≠ 0))).length
  { s with field := 0, out := List.replicate n (false, 0) ++ s.out, bad := s.bad + n, begun := false }

/-- The record ends (R278): nothing is emitted when no octet has been kept and no field has ended. -/
def endRecord (count : Nat) (types : Nat → Nat) (pos : Nat) (broken : Bool) (s : ParseSt) : ParseSt :=
  if !s.begun then { s with field := 0, kept := [], start := none, malformed := false }
  else missingFields count types (endField count types pos broken s)

/-- One octet (R277). -/
def parseByte (count : Nat) (cls : Nat → Nat) (types widths : Nat → Nat) (trans : Nat → Nat → Nat) (s : ParseSt)
    (x : Nat × Byte) : ParseSt :=
  let k := cls x.2.toNat
  let e := trans s.state k
  let s0 := { s with
    start := some (s.start.getD x.1)
    reads := (336 + 2 * (32 * s.state + k)) / 8 :: (16 + x.2.toNat) / 8 :: (272 + 2 * min s.field 31) / 8 :: s.reads }
  let s1 := match bits e 9 7 with
    | 1 => { s0 with kept := x.2.toNat :: s0.kept, first := if s0.kept = [] then x.1 else s0.first, last := x.1, begun := true }
    | 2 => endField count types x.1 false s0
    | 3 => endRecord count types x.1 false s0
    | 4 => { s0 with malformed := true }
    | _ => s0
  let w := if s1.field < count then widths s1.field else 0
  let s2 := if w ≠ 0 ∧ s1.kept.length = w then endField count types (x.1 + 1) false s1 else s1
  { s2 with state := bits e 15 10 }

/-- PARSE (R277 to R280): the whole input through an in-force parse table. -/
def stageParse (env : PipeEnv) (w : Nat) (input : List Byte) : Pipe :=
  let t := bits w 59 56
  let count := env.tabNum (Obj.FIELD_COUNT t)
  let map := env.tabOct (Obj.CLASS_MAP t) 0 256
  let fields := env.tabOct (Obj.FIELDS t) 0 64
  let types := fun f => le fields (2 * f) 1
  let s := (numbered 0 input).foldl (parseByte count (fun b => le map b 1 % 32) types (fun f => le fields (2 * f + 1) 1)
    (fun st c => ofLe (env.tabOct (Obj.TRANSITIONS t) (2 * (32 * st + c)) 2))) { state := bits w 55 50 }
  let r := if s.begun then endRecord count types input.length true s else s
  let f := env.fmt env.inFmt
  let g := if f.width = 64 then f else fmtI64
  { elems := r.out.reverse, fmt := g, raw := g, sat := r.sat, bad := r.bad, reads := r.reads.map (tableWord (0x8400 + t)) }

/-- Stage kind of a stage word. -/
def stageKind (w : Nat) : Nat := bits w 63 60

/-- One stage on what reaches it; stream and SEND stages, and PARSE, which starts a pipe, are not among these. -/
def runStage (env : PipeEnv) (second : List Elem) (p : Pipe) (x : Nat × Nat) : Pipe :=
  match stageKind x.2 with
  | 3 => stageConvert env x.1 x.2 p
  | 4 => stageHash env x.2 p
  | 5 => stageCompare env second x.2 p
  | 6 => stageArith env second x.2 p
  | 7 => stageCurve env x.2 p
  | 8 => stageDense env x.2 p
  | 9 => stagePack env x.1 x.2 p
  | _ => p

/-- The stages of a template on its first input (elements, and the same input as octets for PARSE) and second input. -/
def runStages (env : PipeEnv) (stages : List Nat) (input : List Elem) (octets : List Byte) (second : List Elem) : Pipe :=
  let f := env.fmt env.inFmt
  let start : Pipe := match stages.find? (fun w => stageKind w == 2) with
    | some w => stageParse env w octets
    | none => { elems := input, fmt := f.lane, raw := f }
  (numbered 0 stages).foldl (runStage env second) start

end Sys2Proof.Machine
end

