-- ==== Sys2Proof/Machine/Operands.lean ====
section
/-!
DEFINITION. The forms that a brick's configuration takes: stream descriptors, templates and their stages, op-table entries,
successors and pool declarations, with the checks of each (spec/03: Tables 3-3 to 3-5, R103, R106 to R112; spec/04: Tables
4-3, 4-4 and 4-8, R171, R1041; spec/06: R254, R264, R1036).
-/

namespace Sys2Proof.Machine

/-- A stream descriptor (Table 3-3). -/
structure StreamDesc where
  target : Nat
  elemLog2 : Nat
  mode : Nat
  course : Nat
  pos : Nat
  base : Nat
  counts : List Nat
  strides : List Int
deriving DecidableEq, Repr

/-- The ELEM_LOG2 values of a column mode (Table 6-7). -/
def columnElemOk (mode e : Nat) : Bool :=
  match mode with
  | 2 => e == 0
  | 3 => e == 3
  | 4 => decide (e ≤ 2)
  | _ => true

/-- A stream descriptor from its 64 octets; none where it is malformed or its counts are too large (R103, R264, Table
3-9). -/
def parseStream (l : List Byte) : Option StreamDesc :=
  let d : StreamDesc :=
    { target := le l 0 1, elemLog2 := le l 1 1, mode := le l 2 1, course := le l 3 1, pos := le l 4 1,
      base := le l 8 8, counts := (List.range 4).map (fun i => le l (16 + 4 * i) 4),
      strides := (List.range 4).map (fun i => toSigned 32 (le l (32 + 4 * i) 4)) }
  let ok := decide (d.target ≤ 2) && decide (d.elemLog2 ≤ 6) && decide (d.mode ≤ 4) && decide (d.pos < 64) &&
    (d.target == 2 || (d.course == 0 && d.pos == 0)) && le l 5 3 == 0 &&
    decide (d.base < (if d.target = 1 then 2 ^ 48 else 2 ^ 18)) && d.counts.all (fun c => c != 0) &&
    le l 48 16 == 0 && decide (d.counts.foldl (· * ·) 1 ≤ 2 ^ 32) &&
    (d.mode == 0 || ((d.counts.drop 1).all (fun c => c == 1) && d.strides.headD 0 == (2 ^ d.elemLog2 : Nat) &&
      columnElemOk d.mode d.elemLog2))
  if ok then some d else none

/-- Template header fields (Table 3-4). -/
def tmplCount (h : Nat) : Nat := bits h 2 0
def tmplLane (h : Nat) : Nat :=
  match bits h 4 3 with
  | 0 => 32
  | 1 => 16
  | 2 => 8
  | _ => 64
def tmplInFmt (h : Nat) : Nat := bits h 19 16
def tmplOutFmt (h : Nat) : Nat := bits h 23 20

/-- The mask of the parameter bits that a stage kind names, its kind bits with them; 0 for a reserved kind (Table 3-5). -/
def stageMask (kind : Nat) : Nat :=
  let f := fun (hi lo : Nat) => 2 ^ (hi + 1) - 2 ^ lo
  match kind with
  | 1 => f 63 59 + f 57 56
  | 2 => f 63 50
  | 3 => f 63 53
  | 4 => f 63 60 + f 58 53
  | 5 => f 63 50
  | 6 => f 63 50
  | 7 => f 63 54
  | 8 => f 63 40
  | 9 => f 63 57
  | 10 => f 63 59 + f 57 56
  | 11 => f 63 54
  | _ => 0

/-- A stage word without a reserved encoding (Table 3-5). -/
def stageOk (w : Nat) : Bool :=
  let k := stageKind w
  decide (1 ≤ k) && decide (k ≤ 11) && (w &&& stageMask k) == w &&
    (match k with
      | 3 => decide (bits w 55 54 ≤ 2)
      | 4 => decide (bits w 55 53 ≤ 6)
      | 5 => decide (bits w 59 56 ≤ 7) && decide (bits w 55 54 ≤ 1) && decide (bits w 53 52 ≤ 2)
      | 6 => decide (bits w 59 54 ≤ 19) && decide (bits w 53 52 ≤ 1)
      | 9 => decide (bits w 58 57 ≤ 2)
      | 11 => decide (bits w 59 56 ≤ 3)
      | _ => true)

/-- How the stage format changes over a stage (R1036). -/
def stageFormat (fmt : Nat → Fmt) (lane : Nat) (inF f : Fmt) (w : Nat) : Fmt :=
  match stageKind w with
  | 2 => if inF.width = 64 then inF else fmtI64
  | 3 => fmt (bits w 59 56)
  | 4 => fmtI64
  | 5 => if bits w 53 52 = 1 then f else fmtUint lane
  | 7 => fmtF32
  | 8 => denseFmt f
  | _ => f

/-- The width that the lane-width test of R254 counts for a format. -/
def testWidth (f : Fmt) : Nat := if f.cls = 2 then 32 else if f.width = 4 then 8 else f.width

/-- The tests of R254 on the stages in turn, from the stage format at each. -/
def laneTests (fmt : Nat → Fmt) (lane : Nat) (inF : Fmt) : Fmt → List Nat → Bool
  | _, [] => true
  | f, w :: r =>
    (match stageKind w with
      | 2 => lane == 64
      | 3 => decide (testWidth (fmt (bits w 59 56)) ≤ lane) && (fmt (bits w 59 56)).cls != 2
      | 4 => lane == 64
      | 7 => decide (32 ≤ lane)
      | 8 => decide ((denseFmt f).width ≤ lane)
      | _ => true) && laneTests fmt lane inF (stageFormat fmt lane inF f w) r

/-- The stages of a template, from its eight words. -/
def tmplStages (t : List Nat) : List Nat := (t.drop 1).take (tmplCount (t.headD 0))

/-- The order of stages that R109 requires; a SEND to an EGS stands alone (R504). -/
def stageOrderOk (st : List Nat) : Bool :=
  let k := st.map stageKind
  let ins := k.takeWhile (fun x => x == 1)
  let rest := k.drop ins.length
  let after := if rest.headD 0 = 2 then rest.drop 1 else rest
  decide (ins.length ≤ 2) && !rest.contains 1 && !after.contains 2 &&
    (ins.length != 2 || bit (st.getD 0 0) 59 != bit (st.getD 1 0) 59) &&
    !(k.dropLast.contains 10) && !(k.dropLast.contains 11) && decide ((k.filter (fun x => x == 8)).length ≤ 1) &&
    (decide (st.length ≤ 1) || st.all (fun w => stageKind w != 11 || bits w 59 56 != 1))

/-- A template of eight words is well formed (R106 to R110, R254). -/
def tmplOk (fmt : Nat → Fmt) (t : List Nat) : Bool :=
  let h := t.headD 0
  let n := tmplCount h
  let st := tmplStages t
  let lane := tmplLane h
  let inF := fmt (tmplInFmt h)
  decide (1 ≤ n) && decide (n ≤ 6) && decide (h < 2 ^ 24) && bits h 15 10 == 0 && bits h 7 5 == 0 &&
    (t.drop (n + 1)).all (fun w => w == 0) && st.all stageOk && stageOrderOk st &&
    decide (testWidth inF ≤ lane) && laneTests fmt lane inF inF st

/-- The last stage of a template moves its output away: STREAM_OUT or SEND. -/
def tmplEndsOut (st : List Nat) : Bool :=
  match st.getLast? with
  | some w => stageKind w == 10 || stageKind w == 11
  | none => false

/-- The operand that a stage uses as an SRAM offset. -/
def offsetOperand (w : Nat) : Option Nat :=
  match stageKind w with
  | 1 => some (bits w 57 56)
  | 8 => some (bits w 41 40)
  | 10 => some (bits w 57 56)
  | 11 => if bits w 59 56 = 0 then none else some (bits w 55 54)
  | _ => none

/-- The operand of a SEND stage with TARGET 0, whose layout no chapter gives. -/
def sendOperand (w : Nat) : Option Nat :=
  if stageKind w = 11 ∧ bits w 59 56 = 0 then some (bits w 55 54) else none

/-- The operand that a stage uses as an immediate (Table 3-5, R252, R1040). -/
def immOperand (w : Nat) : Option Nat :=
  match stageKind w with
  | 5 => if bits w 59 56 ≤ 5 ∧ bits w 55 54 = 1 then some (bits w 51 50) else none
  | 6 =>
    if unaryOp (bits w 59 54) || decide (17 ≤ bits w 59 54) then none
    else if bits w 53 52 = 1 ∨ bits w 59 54 = 3 then some (bits w 51 50) else none
  | _ => none

/-- An immediate leaves its reserved bits 0 (R1041). -/
def immediateOk (f : Fmt) (v : Nat) : Bool :=
  if f.cls = 2 then true
  else if f.width = 4 then decide (v < 2 ^ 8)
  else if f.width ≤ 16 then decide (v < 2 ^ f.width) else true

/-- An op-table entry (Tables 4-3 and 4-4). -/
structure OpEntry where
  w0 : Nat
  w1 : Nat
  operands : List Nat
deriving DecidableEq, Repr

def parseOp (l : List Byte) : OpEntry :=
  { w0 := le l 0 8, w1 := le l 8 8, operands := (List.range 4).map (fun i => le l (16 + 4 * i) 4) }

namespace OpEntry

def kind (e : OpEntry) : Nat := bits e.w0 63 62
def priority (e : OpEntry) : Nat := bits e.w0 61 59
def template (e : OpEntry) : Nat := bits e.w0 58 53
def preload (e : OpEntry) : Nat := bits e.w0 52 45
def reload (e : OpEntry) : Nat := bits e.w0 44 37
def firings (e : OpEntry) : Nat := bits e.w0 36 21
def outPoolEn (e : OpEntry) : Bool := bit e.w0 20
def outPool (e : OpEntry) : Nat := bits e.w0 19 17
def freeIn1 (e : OpEntry) : Bool := bit e.w0 16
def freeIn0 (e : OpEntry) : Bool := bit e.w0 15
def succCount (e : OpEntry) : Nat := bits e.w0 14 12

end OpEntry

/-- A successor: the brick it names as course and position, or none for a near one; slot; HANDLE_IN. -/
structure Succ where
  far : Option (Nat × Nat)
  slot : Nat
  handleIn : Nat
deriving DecidableEq, Repr

/-- The successors named, in the order A, B, C, D (Table 4-4). -/
def OpEntry.succs (e : OpEntry) : List Succ :=
  let far := fun (v : Nat) => ({ far := some (bits v 21 16, bits v 15 10), slot := bits v 9 2, handleIn := bits v 1 0 } : Succ)
  let near := fun (v : Nat) => ({ far := none, slot := bits v 9 2, handleIn := bits v 1 0 } : Succ)
  [far (bits e.w1 63 42), far (bits e.w1 41 20), near (bits e.w1 19 10), near (bits e.w1 9 0)].take e.succCount

/-- Successor fields beyond SUCC_COUNT are 0. -/
def OpEntry.succsZero (e : OpEntry) : Bool :=
  match e.succCount with
  | 0 => e.w1 == 0
  | 1 => bits e.w1 41 0 == 0
  | 2 => bits e.w1 19 0 == 0
  | 3 => bits e.w1 9 0 == 0
  | _ => true

/-- A pool declaration: base, size and count. -/
structure Pool where
  base : Nat
  size : Nat
  count : Nat
deriving DecidableEq, Repr

def parsePool (l : List Byte) : Pool := { base := le l 0 4, size := le l 4 4, count := le l 8 2 }

/-- Two declared pools cover a common octet. -/
def Pool.meets (a b : Pool) : Bool :=
  a.count != 0 && b.count != 0 && decide (a.base < b.base + b.size * b.count) && decide (b.base < a.base + a.size * a.count)

/-- Declarations without reserved encodings that R112 accepts; an unused one leaves no reserved bit set. -/
def poolsOk (raw : List (List Byte)) : Bool :=
  let ps := raw.map parsePool
  raw.all (fun l => zeroes l) && ps.all (fun p => p.base % 64 == 0 && decide (p.base < 2 ^ 18) &&
      (p.count == 0 || (p.size % 64 == 0 && decide (64 ≤ p.size) && decide (p.size ≤ 2 ^ 18) &&
        decide (p.base + p.size * p.count ≤ 2 ^ 18)))) &&
    decide ((ps.map Pool.count).sum ≤ 512) && apart ps
where
  zeroes (l : List Byte) : Bool := le l 10 22 == 0
  apart : List Pool → Bool
    | [] => true
    | p :: r => r.all (fun q => !p.meets q) && apart r

/-- The pool and base offset of a handle: handles are numbered in pool order (spec/03: the buffer pool). -/
def handleBase : List Pool → Nat → Option (Nat × Nat)
  | [], _ => none
  | p :: r, h => if h < p.count then some (p.base + h * p.size, p.size) else handleBase r (h - p.count)

/-- First handle number of pool `n`. -/
def poolFirst (ps : List Pool) (n : Nat) : Nat := ((ps.take n).map Pool.count).sum

/-- What the checks of Table 4-8 need of the section that an entry stands in. -/
structure SectionView where
  course : Nat
  pos : Nat
  templates : List (List Nat)
  slots : Nat
  pools : List Pool
deriving DecidableEq, Repr

/-- A used or unused op-table entry passes Table 4-8; `slotsAt` gives the slots of the section that a far successor
names. -/
def opOk (fmt : Nat → Fmt) (sec : SectionView) (slotsAt : Nat → Nat → Nat) (e : OpEntry) : Bool :=
  let sc := e.succs
  if e.firings = 0 then e.w0 == 0 && e.w1 == 0 && e.operands.all (fun v => v == 0)
  else
    let any := decide (e.kind ≤ 2) && bits e.w0 11 0 == 0 && decide (e.succCount ≤ 4) && e.succsZero &&
      (e.outPoolEn || e.outPool == 0) && (e.firings != 1 || e.reload == 0) && sc.all (fun x => x.handleIn != 3) &&
      sc.all (fun x => match x.far with
        | some (c, p) => decide (x.slot < slotsAt c p)
        | none => decide (x.slot < sec.slots))
    let bare := e.template == 0 && !e.outPoolEn && !e.freeIn0 && !e.freeIn1 && e.operands.all (fun v => v == 0) &&
      sc.all (fun x => x.handleIn == 0)
    any && (match e.kind with
      | 0 =>
        (match sec.templates[e.template]? with
          | none => false
          | some t =>
            let st := tmplStages t
            let inF := fmt (tmplInFmt (t.headD 0))
            let handed := sc.filter (fun x => x.handleIn != 0)
            (e.outPoolEn == !tmplEndsOut st) &&
              (if e.outPoolEn then
                (match sec.pools[e.outPool]? with
                  | some p => p.count != 0
                  | none => false) &&
                (match handed with
                  | [x] => (match x.far with
                    | some (c, p) => c == sec.course && p == sec.pos
                    | none => true)
                  | _ => false)
              else handed.isEmpty) &&
              (List.range 4).all (fun i =>
                let v := e.operands.getD i 0
                let off := st.any (fun w => offsetOperand w == some i)
                let imm := st.any (fun w => immOperand w == some i)
                let snd := st.any (fun w => sendOperand w == some i)
                (!off || decide (v < 2 ^ 18)) && (!imm || immediateOk inF v) && (off || imm || snd || v == 0)))
      | 1 => bare && decide (1 ≤ e.succCount)
      | _ => bare && e.succCount == 0 && e.firings == 1)

end Sys2Proof.Machine
end

