-- ==== Sys2Proof/Machine/Tables.lean ====
section
/-!
DEFINITION. The chip-wide tables in force: applying the staged copies, canonical images, and the digest that binds a bundle
to them (spec/06: R245 to R249, R255, R260 to R263, R284 to R291; spec/04: R173).
-/

namespace Sys2Proof.Machine

/-- The index of a key of a number or an octet belongs to a table of spec/06. -/
def tableIndex (i : Nat) : Bool := decide (0x8100 ≤ i) && decide (i ≤ 0x840F)

namespace State

/-- The staged tables as they stand. -/
def stagedNum (s : State) : Store Nat := s.obj.filter (fun p => tableIndex (keyIndex p.1))
def stagedOct (s : State) : List (Nat × Byte) := s.oct.filter (fun p => tableIndex (keyIndex (p.1 / 65536)))

/-- In-force numbers and octets of a table object. -/
def tabNum (s : State) (k : Nat) : Nat := Store.get Obj.default s.tables.num k
def tabOct (s : State) (k o n : Nat) : List Byte := Store.getMany Obj.octDefault s.tables.oct (k * 65536 + o) n

/-- The format in force in a slot. -/
def fmtOf (s : State) (i : Nat) : Fmt := Fmt.ofBytes (s.tabOct (Obj.FORMAT_DESCRIPTOR i) 0 16)

/-- 8011h:03 STAGED_DIFFERS. -/
def stagedDiffers (s : State) : Bool := s.stagedNum != s.tables.num || s.stagedOct != s.tables.oct

/-- Staged tables copied into force in one step (R247). -/
def tablesFrom (s u : State) : State :=
  ({ s with tables := { s.tables with
      num := u.stagedNum, oct := u.stagedOct, ue := [], ce := [], restore := [], pending := false
      appliedNow := true } }).inc32 Obj.APPLIES 1

/-- A pending apply at a job boundary whose selection falls after the LCLK cycle of its acceptance; writes of the selection's own
cycle stay staged (R247, R284). -/
def tablesApplied (s : State) : State :=
  if s.tables.pending && decide (s.tables.asked < s.lclk + 1) then s.tablesFrom s.before else s

/-- Canonical images in force (R255, R260, R262, R263). -/
def curveImg (s : State) (n : Nat) : List Byte :=
  leBytes 4 (s.tabNum (Obj.X_MIN n)) ++ leBytes 4 (s.tabNum (Obj.X_MAX n)) ++ leBytes 4 (s.tabNum (Obj.INV_STEP n)) ++
    leBytes 4 (s.tabNum (Obj.EDGE_MODE n)) ++ s.tabOct (Obj.KNOTS n) 0 1028
def parseImg (s : State) (t : Nat) : List Byte :=
  leBytes 16 (s.tabNum (Obj.FIELD_COUNT t)) ++ s.tabOct (Obj.CLASS_MAP t) 0 256 ++ s.tabOct (Obj.FIELDS t) 0 64 ++
    s.tabOct (Obj.TRANSITIONS t) 0 4096
def hashImg (s : State) (h : Nat) : List Byte :=
  leBytes 1 (s.tabNum (Obj.KIND h)) ++ leBytes 7 (s.tabNum (Obj.OUT_BITS h)) ++ leBytes 8 (s.tabNum (Obj.SEED h)) ++
    (if s.tabNum (Obj.KIND h) = 1 then s.tabOct (Obj.TAB_TABLES h) 0 16384 else [])

/-- CRC-32C over the images of the tables that a bundle's masks name (R173). -/
def tableDigest (s : State) (formats hashes parses curves : Nat) : Nat :=
  crc32c ((bitsOf 16 formats).flatMap (fun i => s.tabOct (Obj.FORMAT_DESCRIPTOR i) 0 16) ++
    (bitsOf 64 curves).flatMap s.curveImg ++ (bitsOf 16 parses).flatMap s.parseImg ++
    (bitsOf 8 hashes).flatMap s.hashImg)

/-- Words of in-force tables are read: single-bit errors are corrected and counted; true where one is uncorrectable, and its table
is then to be restored (R288, R289). -/
def tabReads (s : State) (l : List Nat) : Bool × State :=
  let ce := s.tables.ce.filter (fun w => l.contains w)
  let ue := s.tables.ue.filter (fun w => l.contains w)
  let s1 := if ce.isEmpty then s else
    { s.inc32 Obj.TABLE_CORRECTED ce.length with tables := { s.tables with ce := s.tables.ce.filter (fun w => !l.contains w) } }
  (!ue.isEmpty, if ue.isEmpty then s1 else { s1 with tables := { s1.tables with restore := ue.map (fun w => w / 4096) ++ s1.tables.restore } })

/-- Words of the format descriptor in a slot, and of every table that a bundle's masks name (R173). -/
def formatWords (i : Nat) : List Nat := [tableWord (0x8100 + i) 0, tableWord (0x8100 + i) 1]
def digestWords (s : State) (formats hashes parses curves : Nat) : List Nat :=
  (bitsOf 16 formats).flatMap formatWords ++
    (bitsOf 64 curves).flatMap (fun n => (List.range 131).map (tableWord (0x8200 + n))) ++
    (bitsOf 16 parses).flatMap (fun n => (List.range 554).map (tableWord (0x8400 + n))) ++
    (bitsOf 8 hashes).flatMap (fun n => (List.range (if s.tabNum (Obj.KIND n) = 1 then 2050 else 2)).map (tableWord (0x8300 + n)))

/-- The tables whose uncorrectable word has faulted an op are restored before the next job starts (R289). -/
def tablesRestored (s : State) : State :=
  { s with tables := { s.tables with ue := s.tables.ue.filter (fun w => !s.tables.restore.contains (w / 4096)), restore := [] } }

end State

end Sys2Proof.Machine
end

