-- ==== Sys2Proof/Machine/Loader.lean ====
section
/-!
DEFINITION. Bundles and the shadow banks: the checks of Table 4-7, the lines that a load delivers, and the load of a
predicted job (spec/04: R172 to R177; spec/03: R121 to R131; spec/11: R446; spec/15: R671 to R673, R687; spec/05: R238).
-/

namespace Sys2Proof.Machine

/-- A brick section entry (Table 4-6). -/
structure Section where
  course : Nat
  pos : Nat
  tmplBytes : Nat
  opBytes : Nat
  poolBytes : Nat
  off : Nat
deriving DecidableEq, Repr

def parseSection (l : List Byte) : Section :=
  { course := le l 0 1, pos := le l 1 1, tmplBytes := le l 2 2, opBytes := le l 4 2, poolBytes := le l 6 2, off := le l 8 4 }

def Section.size (x : Section) : Nat := x.tmplBytes + x.opBytes + x.poolBytes

/-- Check 1 of Table 4-7: the header as Table 4-5, no reserved encoding in it. -/
def headerOk (h : List Byte) : Bool :=
  le h 0 4 == 0x42565753 && le h 4 2 == 1 && le h 6 2 == 64 && le h 8 4 % 64 == 0 && decide (128 ≤ le h 8 4) &&
    decide (le h 8 4 ≤ 0x4000000) && decide (1 ≤ le h 16 1) && decide (le h 16 1 ≤ 64) && le h 17 1 == 64 &&
    decide (1 ≤ le h 18 1) && decide (le h 18 1 ≤ 64) && zeroAt h 19 1 && decide (le h 21 1 ≤ 63) && zeroAt h 23 1 &&
    le h 24 4 % 64 == 0 && decide (1 ≤ le h 28 2) && decide (le h 28 2 ≤ 4096) && zeroAt h 30 2 && zeroAt h 35 1 &&
    zeroAt h 38 2 && zeroAt h 52 12

/-- The sections that a bundle's section table names. -/
def sectionsOf (b : List Byte) : List Section :=
  (List.range (le b 28 2)).map (fun i => parseSection ((b.drop (le b 24 4 + 16 * i)).take 16))

/-- Check 5: the section table and every section lie inside the bundle, fields as Table 4-6, no brick twice. -/
def sectionsOk (b : List Byte) : Bool :=
  let size := le b 8 4
  let n := le b 28 2
  let ok := fun (x : Section) =>
    decide (x.course < le b 16 1) && decide (x.pos < 64) && x.tmplBytes % 64 == 0 && decide (x.tmplBytes ≤ 4096) &&
      x.opBytes % 32 == 0 && decide (x.opBytes ≤ 8192) && x.poolBytes % 32 == 0 && decide (x.poolBytes ≤ 256) &&
      x.off % 64 == 0 && decide (x.off + x.size ≤ size)
  decide (le b 24 4 + 16 * n ≤ size) && (sectionsOf b).all ok &&
    (List.range n).all (fun i => le b (le b 24 4 + 16 * i + 12) 4 == 0) &&
    ((sectionsOf b).map (fun x => x.course * 64 + x.pos)).eraseDups.length == n

/-- Templates, op-table entries and pool declarations of a section (R175). -/
def sectionTemplates (b : List Byte) (x : Section) : List (List Nat) :=
  (chunked 64 64 ((b.drop x.off).take x.tmplBytes)).map (fun l => (List.range 8).map (fun i => le l (8 * i) 8))
def sectionOps (b : List Byte) (x : Section) : List OpEntry :=
  (chunked 256 32 ((b.drop (x.off + x.tmplBytes)).take x.opBytes)).map parseOp
def sectionPools (b : List Byte) (x : Section) : List (List Byte) :=
  chunked 8 32 ((b.drop (x.off + x.tmplBytes + x.opBytes)).take x.poolBytes)

def sectionView (b : List Byte) (x : Section) : SectionView :=
  { course := x.course, pos := x.pos, templates := sectionTemplates b x, slots := x.opBytes / 32,
    pools := (sectionPools b x).map parsePool }

/-- Check 9: exactly one END op, where the header names it. -/
def endOk (b : List Byte) : Bool :=
  let ends := (sectionsOf b).flatMap (fun x =>
    (numbered 0 (sectionOps b x)).filterMap (fun p =>
      if p.2.firings ≠ 0 ∧ p.2.kind = 2 then some (x.course, x.pos, p.1) else none))
  ends == [(le b 20 1, le b 21 1, le b 22 1)]

namespace State

/-- Every octet of a bundle lies in one BUNDLE region of the client (R446). -/
def bundleGranted (s : State) (c a n : Nat) : Bool :=
  (s.clientRegions c).any (fun r => decide (r.base ≤ a) && decide (a + n ≤ r.fin) && bit r.perm 2)

/-- The digest of the tables in force disagrees with a bundle's, where it is checked (R173). -/
def digestBad (s : State) (h : List Byte) : Bool :=
  le h 48 4 != 0 && s.tableDigest (le h 32 2) (le h 34 1) (le h 36 2) (le h 40 8) != le h 48 4

/-- A bundle's REACH_CHIPS does not agree with the job (R687). -/
def reachBad (s : State) (h : List Byte) (reach : Bool) : Bool :=
  le h 18 1 != (if reach then s.reachSize else 1)

/-- The checks of Table 4-7 in order, over the octets of the bundle: the first failing code, or 0. -/
def bundleCode (s : State) (b : List Byte) (reach : Bool) : Nat :=
  let secs := sectionsOf b
  let slotsAt := fun c p => match secs.find? (fun x => x.course == c && x.pos == p) with
    | some x => x.opBytes / 32
    | none => 0
  if !headerOk b then 0x0125
  else if crc32c (b.take 12 ++ leBytes 4 0 ++ b.drop 16) ≠ le b 12 4 then 0x0127
  else if s.logicalCourses < le b 16 1 then 0x0905
  else if s.reachBad b reach then 0x0906
  else if s.digestBad b then 0x0126
  else if !sectionsOk b then 0x0128
  else if !(secs.all (fun x => (sectionTemplates b x).all (tmplOk s.fmtOf))) then 0x0120
  else if !(secs.all (fun x => poolsOk (sectionPools b x))) then 0x0124
  else if !(secs.all (fun x => (sectionOps b x).all (opOk s.fmtOf (sectionView b x) slotsAt))) then 0x0121
  else if !endOk b then 0x0129
  else 0

/-- Size of a bundle as its header gives it; a header that gives less than itself counts as 64 (log entry 17). -/
def bundleSize (s : State) (a : Nat) : Nat := max 64 (le (s.hbmBytes a 64) 8 4)

def bundleOctets (s : State) (a : Nat) : List Byte := s.hbmBytes a (s.bundleSize a)

/-- The check of R173 reads the in-force tables that a bundle's masks name, where no earlier check has failed: corrections are
counted, and a table with an uncorrectable word is marked, as the job starts only after its restoring (R288, R289; DEDUCED, log entry
167). -/
def digestRead (s : State) (h : List Byte) (code : Nat) : State :=
  if le h 48 4 = 0 ∨ [0x0125, 0x0127, 0x0905, 0x0906].contains code then s
  else (s.tabReads (s.digestWords (le h 32 2) (le h 34 1) (le h 36 2) (le h 40 8))).2

/-- The loader's verdict on a job's bundle: code, DETAIL0, and the state after the reads (R446, R475, R478, R672). -/
def loadCode (s : State) (j : Job) : Nat × Nat × State :=
  let a := j.desc.bundle
  let n := s.bundleSize a
  let l := linesOf a n
  if !s.bundleGranted j.client a n then (0x0205, a, s)
  else match l.find? (fun x => s.hbmDead (64 * x)) with
    | some x => (0x0204, 64 * x, s)
    | none => match l.find? (fun x => s.linesBad [x]) with
      | some x => (0x0240, 64 * x, s.readLines l)
      | none =>
        let c := s.bundleCode (s.bundleOctets a) j.desc.reach
        (c, 0, (s.readLines l).digestRead (s.bundleOctets a) c)

/-- The shadow banks all EMPTY. -/
def shadowEmpty (s : State) : State :=
  ({ s with wall := { s.wall with shadow := [], shadowCe := [], shadowUe := [] }, sched := { s.sched with load := none } }.setNum Obj.SHADOW_STATE 0).setNum
    Obj.SHADOW_CLIENT 255

/-- A load begins: the checks first; a bundle that passes starts LOADING, one that fails makes its job fault (R131, R177,
R671, R672; spec/04: Table 4-11). -/
def startLoad (s : State) (j : Job) : State :=
  let v := s.loadCode j
  let s1 := v.2.2
  if v.1 = 0 then
    let s2 := ((s1.shadowEmpty.setNum Obj.SHADOW_STATE 1).setNum Obj.SHADOW_CLIENT j.client).inc64 Obj.BUNDLES_ACCEPTED 1
    { s2 with
      sched := { s2.sched with load := some { client := j.client, pos := j.pos, lines := [], ready := false } } }
  else
    let s2 := ((s1.shadowEmpty.inc32 Obj.BUNDLES_REFUSED 1).setNum Obj.LAST_REFUSAL_CODE v.1).setNum
      Obj.LAST_REFUSAL_CLIENT j.client
    s2.faultUnrun j v.1 7 v.2.1 false

/-- The bank lines of a section, as line numbers of a bank, with the octets of each (R175, Table 3-8). -/
def sectionLines (b : List Byte) (x : Section) : List (Nat × List Byte) :=
  let area := fun (bank off n : Nat) =>
    (numbered 0 (chunked 128 64 ((b.drop off).take n))).map (fun p => (bank / 64 + p.1, p.2))
  area 0 x.off x.tmplBytes ++ area 0x1000 (x.off + x.tmplBytes) x.opBytes ++
    area 0x3000 (x.off + x.tmplBytes + x.opBytes) x.poolBytes

/-- Every line that a load is to deliver, as logical brick × 256 + line. -/
def loadLines (s : State) (a : Nat) : List (Nat × List Byte) :=
  let b := s.bundleOctets a
  (sectionsOf b).flatMap (fun x => (sectionLines b x).map (fun p => ((x.course * 64 + x.pos) * 256 + p.1, p.2)))

/-- An uncorrectable CFG payload: the brick's shadow bank becomes EMPTY and its lines are to come again (R238, Table 5-9). -/
def cfgUncorrected (s : State) (ld : Load) (brick : Nat) : State :=
  let s1 := s.event 0x0A43 1 0 0
  { s1 with
    wall := { s1.wall with
      shadow := Store.clear s1.wall.shadow (brick * 16384) (brick * 16384 + 16384)
      shadowCe := s1.wall.shadowCe.filter (fun w => w / 2048 != brick)
      shadowUe := s1.wall.shadowUe.filter (fun w => w / 2048 != brick) }
    sched := { s1.sched with load := some { ld with lines := ld.lines.filter (fun x => x / 256 != brick) } } }

/-- One line written into a shadow bank; with the last of them the load is READY (R121, R175). -/
def lineDelivered (s : State) (ld : Load) (a brick line : Nat) (data : List Byte) : State :=
  let lines := (brick * 256 + line) :: ld.lines
  let done := (s.loadLines a).all (fun p => lines.contains p.1)
  let s1 := { s with
    wall := { s.wall with
      shadow := Store.setMany zeroByte s.wall.shadow (brick * 16384 + line * 64) data
      shadowCe := s.wall.shadowCe.filter (fun w => w / 8 != brick * 256 + line)
      shadowUe := s.wall.shadowUe.filter (fun w => w / 8 != brick * 256 + line) }
    sched := { s.sched with load := some { ld with lines := lines, ready := done } } }
  let s2 := s1.inc64 Obj.FLITS_CFG 1
  if done then s2.setNum Obj.SHADOW_STATE 2 else s2

end State

end Sys2Proof.Machine
end

