-- ==== Sys2Proof/Machine/SelfTest.lean ====
section
/-!
DEFINITION. The self-tests that run as maintenance jobs: their declared run, their results and what they destroy (spec/20: R932,
R933, R939 to R943, Table 20-6; spec/07: R329; spec/08: R385).
-/

namespace Sys2Proof.Machine

/-- Base run of a self-test kind in tt (Table 20-6). -/
def testBase : Nat → Nat
  | 2 => 2048
  | 3 => 1536
  | 4 => 768
  | _ => 8704

namespace State

/-- Declared MAX_RUN of a maintenance job at the level in force (R932). -/
def maintRun (s : State) (kind : Nat) : Nat :=
  let r := max 1 (if kind = 5 then s.num Obj.RATE_NOW else s.num Obj.DISPATCH_LEVEL)
  (testBase kind * 64 + r - 1) / r

/-- The result of a self-test recorded (D001h). -/
def testResult (s : State) (kind bank result : Nat) : State :=
  (((s.setNum Obj.LAST_KIND kind).setNum Obj.LAST_TARGET (if kind = 5 then bank else 0)).setNum Obj.LAST_RESULT result).setNum
    Obj.LAST_TIDE s.now

/-- A test that has run to its end, passed or failed. -/
def testRan (s : State) (kind bank : Nat) (ok : Bool) : State :=
  let s1 := (s.testResult kind bank (if ok then 1 else 2)).inc32 Obj.TESTS_RUN 1
  if ok then s1 else s1.inc32 Obj.TESTS_FAILED 1

/-- What a test destroys (Table 20-6, R933). What it leaves in brick SRAM shows nowhere: the next host job zeroises it. -/
def testDestroys (s : State) (kind bank : Nat) : State :=
  match kind with
  | 3 =>
    let s1 := s.shadowEmpty
    { s1 with wall := { s1.wall with active := [], activeCe := [], activeUe := [] } }
  | 5 => { s with csa := { s.csa with
      entries := Store.clear s.csa.entries (bank * 8192) (bank * 8192 + 8192)
      images := Store.clear s.csa.images (bank * 8192) (bank * 8192 + 8192) } }
  | _ => s

/-- A failed unit of a self-test (R942). -/
def unitFailed (s : State) (kind bank u : Nat) : State :=
  if kind = 5 then s.csaFail bank
  else if 68 ≤ u then s
  else if kind = 4 then
    let s1 := { s with sel := { s.sel with failed := if s.sel.failed.contains u then s.sel.failed else s.sel.failed ++ [u] } }
    s1.retirePending u
  else s.retirePending u

/-- A maintenance job ends: what it found is acted on and recorded (R942). `failed` lists physical courses, or anything at all
for a bank that failed. -/
def maintEnd (s : State) (kind bank : Nat) (failed : List Nat) : State :=
  let l := if kind = 5 then failed.take 1 else failed
  (l.foldl (fun t u => t.unitFailed kind bank u) (s.testDestroys kind bank)).testRan kind bank failed.isEmpty

/-- A maintenance job that is torn down (R943), and one whose bank a client has taken (R941). -/
def maintAbandoned (s : State) (kind bank : Nat) : State := (s.testDestroys kind bank).testResult kind bank 4
def maintRefused (s : State) (kind bank : Nat) : State := s.testResult kind bank 3

/-- Self-test requests queued (D001h:08). -/
def testsQueued (s : State) : Nat := (s.sched.slots.filter (fun j => j.maint.isSome)).length + s.power.tests.length

end State

end Sys2Proof.Machine
end

