-- ==== Sys2Proof/Machine/Sched.lean ====
section
/-!
DEFINITION. The scheduler: choice, refusal, prediction, the switch, the run and its end (spec/15: R663 to R697; spec/03: Table
3-10, R120, R124 to R140; spec/04: R166, R189, R190; spec/05: R222 to R241; spec/06: R249, R289; spec/20: R913 to R918,
R932 to R941).
-/

namespace Sys2Proof.Machine

namespace State

/-- MAX_RUN of a job; that of a maintenance job follows the level in force (R932). -/
def jobMaxRun (s : State) (j : Job) : Nat :=
  match j.maint with
  | some (k, _) => s.maintRun k
  | none => j.desc.maxRun

/-- M(J) (R668). -/
def guardSpan (s : State) (j : Job) : Nat :=
  s.jobMaxRun j + (if j.desc.reach then s.num Obj.LAUNCH_LEAD + 65536 else 0)

/-- GUARD_OK(J, T) (R668). -/
def guardOk (s : State) (j : Job) (t : Nat) : Bool :=
  (List.range 16).all (fun g => s.num (Obj.ENABLE g) == 0 ||
    decide (t + s.guardSpan j + s.num (Obj.GUARD g) ≤ s.num (Obj.NEXT_LAUNCH g)))

end State

/-- Order of lists of numbers, first differing place first. -/
def lexLess : List Nat → List Nat → Bool
  | a :: r, b :: q => if a = b then lexLess r q else decide (a < b)
  | [], _ :: _ => true
  | _, [] => false

/-- Insertion into, and sorting by, a key. -/
def insertBy {α : Type} (key : α → List Nat) (x : α) : List α → List α
  | [] => [x]
  | y :: r => if lexLess (key x) (key y) then x :: y :: r else y :: insertBy key x r
def sortBy {α : Type} (key : α → List Nat) (l : List α) : List α := l.foldl (fun acc x => insertBy key x acc) []

/-- What a choice comes to: the job chosen, and the jobs refused on the way (R667). -/
structure Choice where
  job : Option Job
  refused : List Job
deriving DecidableEq, Repr

/-- A cadence job whose DEADLINE has passed (R666, R693). -/
def Job.overdue (j : Job) (now : Nat) : Bool := j.desc.cadence && decide (j.desc.deadline < now)

namespace State

/-- The order of bulk jobs (R667). -/
def bulkKey (s : State) (j : Job) : List Nat :=
  [if j.client = 0 then 0 else 1, if j.client = 0 then 0 else s.num (Obj.CLIENT_PRIORITY j.client),
    j.elig.getD j.desc.launch, j.client]

/-- Bulk jobs in order, refused until one passes the guard (R36, R667). -/
def chooseBulk (s : State) (t : Nat) : List Job → List Job → Choice
  | refused, [] => { job := none, refused := refused }
  | refused, j :: r => if s.guardOk j t then { job := some j, refused := refused } else chooseBulk s t (refused ++ [j]) r

/-- The choice of R667 at tick `t` among jobs taken as eligible. -/
def chooseAmong (s : State) (t : Nat) (l : List Job) : Choice :=
  match sortBy (fun j => [j.desc.deadline, j.desc.gen, j.client]) (l.filter (fun j => j.desc.cadence)) with
  | j :: _ => { job := some j, refused := [] }
  | [] => s.chooseBulk t [] (sortBy s.bulkKey (l.filter (fun j => !j.desc.cadence)))

/-- The chip is MASTER or LOCKED (Table 2-5). -/
def aligned (s : State) : Bool := s.num Obj.TIDE_STATE == 1 || s.num Obj.TIDE_STATE == 2

/-- Candidates of enabled clients that are not halted (R656, R667, R678); in the tide states that refuse reach jobs these
are passed over (Table 2-5; log entry 22). -/
def candidates (s : State) : List Job :=
  s.sched.slots.filter (fun j => j.candAt.isSome && s.clientEnabled j.client && !s.clientHalted j.client &&
    (!j.desc.reach || s.aligned))

/-- The choice of R667 now, by software's settings as they stood before this LCLK cycle (R688, R691); a cadence job past its DEADLINE is
to be retired (R666, R693). -/
def choose (s : State) : Choice :=
  let b := s.before
  b.chooseAmong s.now (b.candidates.filter (fun j => j.elig.isSome && !j.overdue s.now))

/-- A generator has taken a launch in this LCLK cycle and no eligible cadence job stands: the choice waits for the commit point
(R1033). -/
def choiceWaits (s : State) : Bool :=
  (List.range 16).any (fun g => (s.launchNow g).isSome) &&
    !s.before.candidates.any (fun j => j.elig.isSome && j.desc.cadence && !j.overdue s.now)

/-- The choice at a tick ahead, as R670 makes it: cadence candidates due by then count as eligible at their launch. -/
def chooseAt (s : State) (l : List Job) (t : Nat) : Choice :=
  s.chooseAmong t (l.filterMap (fun j =>
    if j.desc.cadence then (if j.desc.launch ≤ t then some { j with elig := some j.desc.launch } else none)
    else if j.elig.isSome then some j else none))

/-- The job that R670 predicts at P among candidates; a maintenance job gives way to the one after it (R933). `n` bounds the
maintenance jobs passed over. -/
def predictAt (s : State) : Nat → List Job → Nat → Option Job
  | 0, _, _ => none
  | n + 1, l, p =>
    let later := sortBy (fun j => [j.desc.launch]) (l.filter (fun j => j.desc.cadence && decide (p < j.desc.launch)))
    let pick := match (s.chooseAt l p).job with
      | some j => some j
      | none => match later with
        | j :: _ => (s.chooseAt l j.desc.launch).job
        | [] => (sortBy s.bulkKey (l.filter (fun j => !j.desc.cadence))).head?
    match pick with
    | none => none
    | some j =>
      if j.maint.isSome then
        predictAt s n (l.filter (fun k => !(k.client == j.client && k.pos == j.pos))) (p + s.jobMaxRun j)
      else some j

/-- The tick P of R670. -/
def predictTick (s : State) : Nat :=
  match s.sched.run with
  | some r => r.start + s.jobMaxRun r.job
  | none => s.now

/-- The device is in service: READY, with no warm reset in progress and no device-level fault (R241, R780, R898). -/
def serving (s : State) : Bool := s.nv.ready && !s.nv.warm && !s.faults.device

/-- The device may choose, load and fetch: in service, not draining into HOLD nor in it (R934). -/
def inWork (s : State) : Bool := s.serving && s.power.drain.isNone && decide (s.powerState < 3)

/-- The predicted job is loaded where it has changed; a refused one makes room for the next (R670 to R672). In a reach hold the job
held stays the predicted one, so that it is READY at its selection (R223, R679; DEDUCED, log entry 165). -/
def predict : Nat → State → State
  | 0, s => s
  | n + 1, s =>
    if !s.inWork || s.sched.hold.isSome then s
    else
      let s0 := match s.sched.load with
        | some ld => if (s.jobAt ld.client ld.pos).isNone then s.shadowEmpty else s
        | none => s
      match s0.predictAt 6 s0.candidates s0.predictTick with
      | none => s0
      | some j =>
        match s0.sched.load with
        | some ld => if ld.client = j.client ∧ ld.pos = j.pos then s0 else predict n (s0.startLoad j)
        | none => predict n (s0.startLoad j)

/-- Jobs whose slot holds an uncorrectable word fault (R696). -/
def badSlots (s : State) : State :=
  (s.sched.slots.filter (fun j => j.bad)).foldl (fun t j => t.faultUnrun j 0x0909 7 0 false) s

/-- What follows a change of jobs by itself: prediction and loading, entries, rings and fetches. -/
def settle (s : State) : State := (predict 64 s.badSlots).ringsFollow

end State

/-! ### The close of the books and the switch -/

namespace State

/-- Reports that the job of the parity still owes are secondary once its books have closed (R768, R798). -/
def dropReports (s : State) : State :=
  let n := s.faults.reports.length
  if n = 0 then s
  else
    let s1 := s.inc64 Obj.SECONDARY_FAULTS n
    { s1 with faults := { s1.faults with reports := [] } }

/-- The books close: bricks and edge blocks abandon the old job's work, old-parity flits go, and course changes are applied
(Table 5-7, R167, R225, R226, R234, R331, R380, R535, R591). BOOKS_CLOSED counts the close whether or not it then balances (DESIGN
CHOICE, log entry 84). -/
def closeBooks (s : State) : State :=
  let s1 := s.edgeAbandon
  let s2 := { s1 with
    wall := { s1.wall with slots := [], handles := [], bricks := [], ended := false, closed := true }
    mortar := { s1.mortar with flight := s1.mortar.flight.filter (fun m => m.parity != s1.mortar.parity) }
    hbm := { s1.hbm with held := [] } }
  (s2.inc64 Obj.BOOKS_CLOSED 1).coursesApplied

/-- Every buffer is empty and every link counter stands at 8 (R226). -/
def booksBalance (s : State) : Bool := s.mortar.credits == [] && s.mortar.flight.isEmpty

/-- The first unbalanced link: the lowest-numbered counter short of 8, else the link by which a message left over entered (R240;
log entry 84). -/
def unbalancedLink (s : State) : Nat :=
  match s.mortar.credits, s.mortar.flight with
  | p :: _, _ => p.1
  | [], m :: _ => linkNumber (classCode m.cls) 4 (routerAt m.src m.dst).1 (routerAt m.src m.dst).2
  | [], [] => 0

/-- SRAM of every physical brick zeroised (R124). -/
def zeroiseSram (s : State) : State :=
  { s with wall := { s.wall with sram := [], params := [], paramsAt := [], sramCe := [], sramUe := [] } }

/-- The shadow configuration of each logical brick becomes the active one of the physical brick that now carries it
(Table 3-10, R147, R148; log entry 18). -/
def swapBanks (s : State) : State :=
  let m := s.courseMap
  let act := s.wall.shadow.foldl (fun t p =>
    let b := p.1 / 16384
    match m[b / 64]? with
    | some c => Store.set zeroByte t ((c * 64 + b % 64) * 16384 + p.1 % 16384) p.2
    | none => t) []
  let words := fun (l : List Nat) => l.filterMap (fun w =>
    (m[w / 131072]?).map (fun c => (c * 64 + w / 2048 % 64) * 2048 + w % 2048))
  let s1 := { s with
    wall := { s.wall with active := act, activeCe := words s.wall.shadowCe, activeUe := words s.wall.shadowUe }, mortar := { s.mortar with parity := 1 - s.mortar.parity } }
  s1.shadowEmpty

/-- The op-table entry of a slot of a physical brick, from its active bank. -/
def opEntry (s : State) (brick slot : Nat) : OpEntry :=
  parseOp (Store.getMany zeroByte s.wall.active (brick * 16384 + 0x1000 + slot * 32) 32)

/-- The slots whose op-table entry holds some octet in an active bank, each once, rising. -/
def configuredSlots (s : State) : List Nat :=
  (s.wall.active.filterMap (fun p =>
    let o := p.1 % 16384
    if 0x1000 ≤ o ∧ o < 0x3000 then some (p.1 / 16384 * 256 + (o - 0x1000) / 32) else none)).eraseDups

/-- Words of active banks are read: single-bit errors are corrected, written back and counted (R134). -/
def bankRead (s : State) (p : Nat → Bool) : State :=
  let n := (s.wall.activeCe.filter p).length
  if n = 0 then s
  else
    let s1 := (s.inc32 Obj.SRAM_CORRECTED n).setSticky Obj.WALL_STICKY 0
    { s1 with wall := { s1.wall with activeCe := s1.wall.activeCe.filter (fun w => !p w) } }

/-- Counters preloaded, handles FREE with generation 0, and the bricks free to dispatch (R120, R190); the op tables and the pool
declarations are read (R134). -/
def preload (s0 : State) : State :=
  let s := s0.bankRead (fun w => decide (512 ≤ w % 2048) && decide (w % 2048 < 1568))
  let slots := s.configuredSlots.foldl (fun m k =>
    let e := s.opEntry (k / 256) (k % 256)
    if e.firings = 0 then m
    else Store.set (fun _ => ({} : Slot)) m k
      { counter := e.preload, firingsLeft := e.firings, ready := if e.preload = 0 then some 0 else none }) []
  { s with wall := { s.wall with slots := slots, handles := [], bricks := [], bc := 0, base := 32 * s.clock, ended := false, closed := false } }

/-- PARAMS written into every logical brick (R659). -/
def writeParams (s : State) (l : List Byte) : State :=
  let m := s.courseMap
  let keep := fun (w : Nat) => !(decide (0x7FF0 ≤ w % 2 ^ 15) && m.contains (w / 2 ^ 21))
  { s with wall := { s.wall with
      sram := s.wall.sram.filter (fun p => !(decide (0x3FF80 ≤ p.1 % 2 ^ 18) && m.contains (p.1 / 2 ^ 24)))
      params := l, paramsAt := m, sramCe := s.wall.sramCe.filter keep, sramUe := s.wall.sramUe.filter keep } }

/-- The record of a job that has no context, or of the running job without a site. -/
def jobRec (s : State) (j : Job) (code source d0 flags : Nat) : LogRec :=
  { noContextRec s j code source d0 0 with flags := flags }

/-- A job's run ends: the chip is free, its account is closed and its entry is owed (R675, R685, R662). -/
def endRun (s : State) (r : Run) (e : Option Entry) : State :=
  let c := r.job.client
  let s1 := ((s.inc64 (Obj.CLIENT_JOBS_RUN c) 1).inc64 (Obj.CLIENT_RUN_TOTAL c) (s.now - r.start)).setNum
    Obj.CURRENT_CLIENT 255
  let s2 := { s1 with sched := { s1.sched with run := none }, wall := { s1.wall with closed := true } }
  let s3 := match e with
    | some x => if r.mute then s2 else s2.addEntry x
    | none => s2
  (s3.setSched 0).selectionEvent

/-- The entry of a job that has run. -/
def runEntry (s : State) (r : Run) (outcome fault : Nat) (indeterminate : Bool) : Entry :=
  { s.entryOf r.job outcome fault with
    start := r.start, ownerChange := r.ownerChange, indeterminate := indeterminate,
    late := r.job.desc.cadence && decide (r.job.desc.deadline < s.now) }

/-- Every fetched job not selected is retired ABANDONED, client by client in ring order, and maintenance jobs are discarded
(Table 20-5 step 3). -/
def drainJobs (s : State) : State :=
  let l := s.sched.slots.filter (fun j => j.maint.isNone)
  let s1 := { s with sched := { s.sched with slots := l, fetch := [], chosen := none, refused := [], event := false } }
  (l.foldl (fun t j => t.retireJob j 4) s1).setSched 0

/-- What waits for the chip to be free of a job and of a hold: a LULL request is entered, and a drain goes on (Tables 20-2 and
20-5). -/
def lullFollows (s : State) : State :=
  if s.sched.run.isSome || s.sched.hold.isSome then s
  else if s.power.drain.isSome then s.drainJobs
  else if s.power.lullDue && s.powerState == 0 then
    { s.setNum Obj.POWER_STATE 1 with power := { s.power with lullDue := false, automatic := false } }
  else s

/-- A job refused after its selection and before the swap: the chip is free again (R177, R249, R674, R136). The shadow banks are
emptied here, so that a bad one is rewritten before any RESUME and is loaded with the next job predicted (DESIGN CHOICE, log entry
161). -/
def refuseSelected (s : State) (r : Run) (code : Nat) : State :=
  let s1 := (s.shadowEmpty.inc32 Obj.BUNDLES_REFUSED 1).setNum Obj.LAST_REFUSAL_CODE code
  let s2 := (s1.setNum Obj.LAST_REFUSAL_CLIENT r.job.client).haltClient r.job.client code
  let s3 := s2.log (s2.jobRec r.job code 7 0 4)
  s3.endRun r (some { s3.runEntry r 1 code false with ownerChange := false })

/-- A device-level fault: ALERT_N, DEVICE_FAULT, the code, the vector, the record and its notification (R780 steps 1, 2). -/
def deviceFault (s : State) (code source d0 d1 : Nat) : State :=
  let s1 := { s with faults := { s.faults with device := true } }
  let s2 := ((s1.regSet 0x0C code).regSet 0x08 (setBit (s1.regGet 0x08) 3 true)).setSticky Obj.LOG_STICKY 1
  (s2.raiseGlobal 0).logNote { eventRec s2 code source d0 d1 with kind := 2 }

/-- Books that did not balance at a close: counted, the first link recorded, and a device-level fault (R226, R240, R241). -/
def unbalanced (s : State) : State :=
  if s.booksBalance then s
  else
    let s1 := ((s.inc32 Obj.BOOKS_UNBALANCED 1).setSticky Obj.MORTAR_STICKY 3).setNum Obj.LAST_UNBALANCED_LINK
      s.unbalancedLink
    let s2 := { s1 with mortar := { s1.mortar with booksFault := true } }
    s2.deviceFault 0x0A40 1 0 0

/-- The switch into a selected job that runs a bundle, from the close to the first bc (Tables 3-10 and 5-7). -/
def switchInto (s : State) (r : Run) : State :=
  let first := s.hbmBytes r.job.desc.bundle 64
  let s1 := (s.closeBooks.tablesApplied.regionsApplied.embApplied).dropReports
  let recheck := s1.tables.appliedNow && s1.digestBad first
  let s2 := { s1 with tables := { s1.tables with appliedNow := false } }
  if !s2.booksBalance then
    let s3 := s2.unbalanced
    s3.endRun r (some (s3.runEntry r 4 0 false))
  else if s2.logicalCourses < le first 16 1 then s2.refuseSelected r 0x0905
  else if recheck then s2.refuseSelected r 0x0126
  else if !s2.wall.shadowUe.isEmpty then s2.refuseSelected r 0x0123
  else
    let s3 := s2.tablesRestored.swapBanks
    let s4 := if r.ownerChange then s3.zeroiseSram.inc64 Obj.SWITCHES_OWNER 1 else s3.inc64 Obj.SWITCHES_SAME 1
    let s5 := s4.preload
    let s6 := if r.job.desc.paramsEn then s5.writeParams r.job.desc.params else s5
    { s6 with sched := { s6.sched with lastOwner := r.job.client } }.setSched 3

/-- The switch into a maintenance job: the books close and must balance (R226, R240); no bank swap; an owner change zeroises (R25,
R933). -/
def switchMaint (s : State) (r : Run) : State :=
  let s1 := (s.closeBooks.tablesApplied.regionsApplied.embApplied).dropReports
  let s2 := { s1 with tables := { s1.tables with appliedNow := false } }
  if !s2.booksBalance then s2.unbalanced.endRun r none
  else
    let s3 := s2.tablesRestored
    let s4 := if r.ownerChange then s3.zeroiseSram.inc64 Obj.SWITCHES_OWNER 1 else s3.inc64 Obj.SWITCHES_SAME 1
    { s4 with sched := { s4.sched with lastOwner := 0 } }.setSched 3

/-- Jobs not selected at a selection event: one displacement each where refused, or where the selected job has a later E
(Table 15-3); `counted` are those that the same choice has counted before. -/
def displace (s : State) (sel : Option Job) (refused counted : List (Nat × Nat)) : State :=
  s.sched.slots.foldl (fun t j =>
    let hit := j.elig.isSome && !counted.contains (j.client, j.pos) && (refused.contains (j.client, j.pos) || (match sel with
      | some x => decide (j.elig.getD 0 < x.elig.getD 0) && !(x.client == j.client && x.pos == j.pos)
      | none => false))
    if hit then (t.inc64 (Obj.CLIENT_DISPLACED j.client) 1).setJob { j with displaced := j.displaced + 1 } else t) s

/-- Jobs refused by the guard are counted (Table 15-3). -/
def countRefused (s : State) (l : List Job) : State :=
  l.foldl (fun t j => t.inc64 (Obj.CLIENT_REFUSED j.client) 1) s

/-- A job is selected at the present tick: counts, waits, and the switch (R667, R675, R685, R25). -/
def selectJob (s : State) (j0 : Job) : State :=
  let j := { j0 with desc := { j0.desc with maxRun := s.jobMaxRun j0 } }
  let wait := s.now - j.elig.getD s.now
  let c := j.client
  let s1 := ((s.dropJob j).inc64 Obj.SELECTIONS 1).inc64 (Obj.CLIENT_WAIT_TOTAL c) wait
  let s2 := if s1.num (Obj.CLIENT_WAIT_MAX c) < wait then s1.setNum (Obj.CLIENT_WAIT_MAX c) wait else s1
  let r : Run := { job := j, start := s.now, ownerChange := c != s.sched.lastOwner, mute := false }
  let s3 := { s2.setNum Obj.CURRENT_CLIENT c with
    sched := { s2.sched with
      run := some r, chosen := none, refused := [], hold := none, event := false
      waits := (c, s.lclk, wait) :: s2.sched.waits.filter (fun x => x.1 != c) } }
  let s4 := if j.maint.isSome then s3.switchMaint r else s3.switchInto r
  promote 9 s4 c

/-- The load of a job is READY. -/
def loadReady (s : State) (j : Job) : Bool :=
  match s.sched.load with
  | some ld => ld.client == j.client && ld.pos == j.pos && ld.ready
  | none => false

/-- Selection is possible: the chip is free, ACTIVE and in work, with no reach hold (R684, R780, R913, R934). -/
def maySelect (s : State) : Bool :=
  s.sched.run.isNone && s.sched.hold.isNone && s.powerState == 0 && s.inWork

/-- A reach hold begins: LAUNCH_READY goes to chip 0; with chip 0 unreachable the hold ends at once (R679, R681). -/
def enterHold (s : State) (j : Job) : State :=
  let s1 := { s with
    sched := { s.sched with
      hold := some { client := j.client, pos := j.pos, job := j.desc.reachJob, sentAt := s.now, start := none }
      chosen := none, event := false } }.setSched 5
  s1.sendReady j.desc.reachJob

/-- A reach hold ends without a start, as by a LAUNCH_ABORT with reason 02h to 04h: the job is eligible again, and the
sixteenth such end faults it (R683). -/
def abortHold (s : State) : State :=
  match s.sched.hold with
  | none => s
  | some h =>
    let s1 := ({ s with sched := { s.sched with hold := none } }.setSched 0).inc32 Obj.LAUNCH_ABORTS 1
    let s2 := match s1.jobAt h.client h.pos with
      | none => s1
      | some j =>
        let j1 := { j with aborts := j.aborts + 1 }
        if 16 ≤ j1.aborts then s1.faultUnrun j1 0x0907 7 0 false else s1.setJob j1
    s2.selectionEvent.lullFollows

/-- Bit 0 of UNREACHABLE_MASK is set: a hold ends by itself (R681). -/
def holdCheck (s : State) : State :=
  if s.sched.hold.isSome && bit (s.num Obj.UNREACHABLE_MASK) 0 && s.addr != 0 then s.abortHold else s

/-- The least NEXT_LAUNCH of the enabled generators lies at least LULL_MIN_GAP ahead, or none is enabled (R916). -/
def lullGap (s : State) : Bool :=
  (List.range 16).all (fun g => s.num (Obj.ENABLE g) == 0 ||
    decide (s.now + s.num Obj.LULL_MIN_GAP ≤ s.num (Obj.NEXT_LAUNCH g)))

/-- Automatic LULL at a selection event that selects no job (R916). -/
def autoLull (s : State) : State :=
  if s.num Obj.LULL_AUTO == 1 && s.num Obj.LULL_HELD == 0 && s.schedState == 0 && s.num Obj.SHADOW_STATE != 1 && s.lullGap then
    { s.setNum Obj.POWER_STATE 1 with power := { s.power with automatic := true } }
  else s

/-- A chosen job: selected when READY, held when it is a reach job, waited for otherwise (R667, R673, R679). -/
def take (s : State) (j : Job) (refused : List (Nat × Nat)) : State :=
  if j.maint.isSome then (s.displace (some j) refused []).selectJob j
  else if !s.loadReady j then
    let s1 := s.displace none refused []
    { s1 with sched := { s1.sched with chosen := some (j.client, j.pos), refused := refused, event := false } }.setSched 1
  else if j.desc.reach then ((s.displace none refused []).enterHold j).holdCheck
  else (s.displace (some j) refused []).selectJob j

/-- The choice at a selection event; a maintenance job whose bank a client has taken is retired first, and the choice made
again (R667, R916, R941). -/
def selection : Nat → State → State
  | 0, s => s
  | n + 1, s =>
    let c := s.choose
    match c.job with
    | some j =>
      (match j.maint with
        | some (5, b) =>
          if s.bankOwned b then selection n (promote 9 ((s.dropJob j).maintRefused 5 b) 0)
          else (s.countRefused c.refused).take j (c.refused.map (fun k => (k.client, k.pos)))
        | _ => (s.countRefused c.refused).take j (c.refused.map (fun k => (k.client, k.pos))))
    | none =>
      let s1 := (s.countRefused c.refused).displace none (c.refused.map (fun k => (k.client, k.pos))) []
      ({ s1 with sched := { s1.sched with event := false, chosen := none, refused := [] } }.setSched 0).autoLull

end State

/-! ### Commands -/

/-- DESCRIPTOR_FETCH (R655 to R658, R664, R671, R686, R715, R753): the completion of a client's descriptor read. `status` is 0
when the 256 octets came whole; anything else is an error completion or poisoned data. -/
def descriptorFetched (s : State) (c : Nat) (data : List Byte) (failed : Bool) : State :=
  let pos := s.sqHead c
  let prev := s.num (Obj.CLIENT_LAST_SEQUENCE c)
  let d := if failed then { seq := (prev + 1) % 2 ^ 32 } else parseDesc data s.now
  let j : Job := { client := c, pos := pos, desc := d, maint := none, candAt := none, elig := none, displaced := 0,
                   aborts := 0, bad := false }
  let next := Store.get (fun _ => 0) s.sched.seqNext c
  let s1 := { s with sched := { s.sched with
    fetch := s.sched.fetch.filter (fun p => p.1 != c)
    slots := s.sched.slots ++ [j]
    seqNext := Store.set (fun _ => 0) s.sched.seqNext c ((d.seq + 1) % 2 ^ 32 + 1) } }
  let s2 := (s1.setCReg c 0x18 ((pos + 1) % 2 ^ 32)).setNum (Obj.CLIENT_LAST_SEQUENCE c) d.seq
  if failed then (s2.cSticky c 4).faultUnrun j 0x0908 8 0 true
  else
    let s3 := s2.inc64 Obj.FETCHES 1
    if !descWellFormed data s.now then s3.faultUnrun j 0x0902 7 0 true
    else if next ≠ 0 ∧ next - 1 ≠ d.seq then s3.faultUnrun j 0x0903 7 0 true
    else if d.cadence ∧ s.num (Obj.ENABLE d.gen) = 0 then s3.faultUnrun j 0x0904 7 0 true
    else if d.reach ∧ s.reachSize ≤ 1 then s3.faultUnrun j 0x0906 7 0 true
    else State.promote 9 s3 c

def execDescriptorFetch (client : Nat) (data : List Byte) (status : Nat) (s : State) : Host.Outcome State Fault Refusal :=
  act (decide (1 ≤ client) && decide (client < 64))
    (s.live (s.sched.fetch.any (fun p => p.1 == client))
      (descriptorFetched s client data (status != 0 || data.length != 256)).settle)

/-- FETCH_TIMEOUT (R753): no completion within 50 ms, 2,500,000 TCLK cycles. -/
def execFetchTimeout (client : Nat) (s : State) : Host.Outcome State Fault Refusal :=
  act (decide (1 ≤ client) && decide (client < 64))
    (s.live (s.sched.fetch.any (fun p => p.1 == client && decide (p.2 + 2500000 ≤ s.clock)))
      (descriptorFetched s client [] true).settle)

/-- An uncorrectable word met at a choice: the slot's job faults, or a device-level fault stands (R696). -/
def State.schedUpset (s : State) : SchedUpset → State
  | .none => s
  | .slot c p => match s.jobAt c p with
    | some j => (s.setJob { j with bad := true }).badSlots
    | none => s
  | .other => s.deviceFault 0x0A60 7 0 0

/-- JOB_SELECT (R22 to R26, R34 to R36, R667 to R673, R688, R691, R693, R696, R916, R1033): the scheduler makes the choice of a
standing selection event. -/
def execJobSelect (s : State) (upset : SchedUpset := .none) : Host.Outcome State Fault Refusal :=
  let s1 := s.schedUpset upset
  .next (s.live (s.sched.event && s.maySelect && !s.choiceWaits)
    (if s1.faults.device then s1 else (State.selection 8 s1).settle))

/-- LOAD_COMPLETE (R673): the chosen job's configuration is READY in every brick and the job is selected. -/
def execLoadComplete (s : State) : Host.Outcome State Fault Refusal :=
  match s.sched.chosen with
  | none => .next s
  | some (c, p) =>
    match s.jobAt c p with
    | none => .next s
    | some j =>
      let s1 := s.inc64 Obj.UNPREDICTED_LOADS 1
      .next (s.live (s.loadReady j && s.maySelect && !s.sched.event && !j.overdue s.now)
        (if j.desc.reach then (s1.enterHold j).holdCheck.settle
         else ((s1.displace (some j) [] s.sched.refused).selectJob j).settle))

/-- BULK_ELIGIBLE (R663): TIDE_NOW reaches LAUNCH_TIDE of a bulk candidate with NOT_BEFORE_EN, which is its tick E. -/
def execBulkEligible (client : Nat) (s : State) : Host.Outcome State Fault Refusal :=
  match (s.jobsOf client).head? with
  | none => act (decide (client < 64)) s
  | some j =>
    .next (s.live (j.candAt.isSome && j.elig.isNone && !j.desc.cadence && decide (j.desc.launch ≤ s.now))
      ((s.setJob { j with elig := some (max j.desc.launch (j.candAt.getD 0)) }).eventIfFree).settle)

/-- DEADLINE_EXPIRY (R666, R693): TIDE_NOW reaches the DEADLINE of an eligible cadence job that has not been selected. -/
def execDeadlineExpiry (client : Nat) (s : State) : Host.Outcome State Fault Refusal :=
  match (s.jobsOf client).head? with
  | none => act (decide (client < 64)) s
  | some j =>
    let held := match s.sched.hold with
      | some h => h.client == j.client && h.pos == j.pos
      | none => false
    .next (s.live (j.desc.cadence && j.elig.isSome && decide (j.desc.deadline ≤ s.now) && !held)
      (s.retire j 2).settle)

/-- The job's own work is over: its END op has dispatched, nothing executes, nothing is owed (R166, R317). -/
def State.jobDone (s : State) : Bool :=
  s.wall.ended && s.wall.bricks.all (fun p => p.2.firing.isNone && p.2.out.isEmpty) &&
    s.faults.reports.isEmpty

/-- JOB_END (R166, R167, R662, R675, R677, R685, R942): the running job ends. For a maintenance job `failed` lists the units
that its tests found failed. -/
def execJobEnd (failed : List Nat) (s : State) : Host.Outcome State Fault Refusal :=
  match s.sched.run with
  | none => .next s
  | some r =>
    match r.job.maint with
    | some (k, b) => .next (s.live (s.faults.reports.isEmpty && s.sched.tear.isNone) ((s.maintEnd k b failed).endRun r none).lullFollows.settle)
    | none => .next (s.live (s.jobDone && s.sched.tear.isNone) ((s.endRun r (some (s.runEntry r 0 0 false))).lullFollows.settle))

end Sys2Proof.Machine
end

