-- ==== Sys2Proof/Machine/Faults.lean ====
section
/-!
DEFINITION. Taking a fault report, tearing a job down, device-level faults and the fault log (spec/17: R765 to R801; spec/15:
R676, R694).
-/

namespace Sys2Proof.Machine

/-- Codes of kind D (Table 17-2). -/
def deviceCode (c : Nat) : Bool :=
  c == 0x0A10 || c == 0x0A20 || c == 0x0A40 || c == 0x0A41 || c == 0x0A42 || c == 0x0A60 || c == 0x0A70

/-- The order in which one of several reports of the same cycle is taken: a local one first, then the lowest SOURCE, physical
course, position and slot (R794, R796). -/
def reportKey (f : FaultReport) : List Nat :=
  [if f.remote.isSome then 1 else 0, f.source, f.phys, f.pos, f.slot]

/-- The record of a job fault (Table 17-3, R784). -/
def faultRec (s : State) (j : Job) (f : FaultReport) (notRun : Bool) : LogRec :=
  { code := f.code, kind := 1, flags := b2n f.remote.isSome + 2 * b2n f.site + 4 * b2n notRun, seq := 0, tide := f.tide,
    client := j.client, chip := f.remote.getD s.addr, source := f.source, course := if f.site then f.course else 255,
    pos := f.pos, slot := f.slot, phys := f.phys, jobSeq := j.desc.seq,
    reachJob := if j.desc.reach then j.desc.reachJob else 0, detail0 := f.detail0, detail1 := f.detail1 }

namespace State

/-- No op of the running job has fired. -/
def neverFired (s : State) : Bool := s.wall.slots.all (fun p => p.2.fired == 0)

/-- The books close after a teardown: counts, and the detection-to-end time, which lies in 480 to 520 mc and is otherwise
open (R771; log entry 8). -/
def closeTeardown (s : State) : State :=
  let s1 := s.closeBooks.inc64 Obj.TEARDOWNS 1
  s1.setNum Obj.LAST_TEARDOWN_MC (480 + Config.openResult 17 (s1.num Obj.TEARDOWNS) % 41)

/-- A teardown begins (Table 17-5, instants 0 to 8): bricks stop, edge blocks abandon the job's work, and the job ends 480 mc later,
which are 20 TCLK cycles (R770, R771, R772). One in progress is not begun anew (R795). -/
def tearStart (s : State) (r : Run) (outcome code : Nat) (owed : Bool) : State :=
  if s.sched.tear.isSome then s
  else
    let s1 := match r.job.maint with
      | some (k, b) => s.maintAbandoned k b
      | none => s
    let s2 := s1.edgeAbandon.setSched 4
    { s2 with
      wall := { s2.wall with closed := true }
      sched := { s2.sched with tear := some { at_ := s2.clock + 20, outcome := outcome, code := code, owed := owed } } }

/-- The running job torn down (R770 to R778). `halt` is false for the ends that do not halt the client. -/
def tearDown (s : State) (r : Run) (outcome code : Nat) (halt : Bool) : State :=
  (if halt then s.haltClient r.job.client code else s).tearStart r outcome (if outcome = 1 then code else 0) false

/-- The torn-down job's run and END_TIDE end `d` ticks from now (R772). -/
def tornEntry (s : State) (r : Run) (t : Teardown) (d : Nat) : Entry :=
  let e := s.runEntry r t.outcome t.code true
  { e with finish := (s.now + d) % 2 ^ 64, late := r.job.desc.cadence && decide (r.job.desc.deadline < s.now + d) }

/-- Instant 480: the books close, the context is gone, the entry is owed and the chip is free (R770 to R778); books that do not
balance there raise 0A40h after the teardown (R795). -/
def tearEnd (s : State) (r : Run) (t : Teardown) (d : Nat) : State :=
  let s1 := s.closeTeardown.dropReports
  let e := s1.tornEntry r t d
  let s2 := { (s1.inc64 (Obj.CLIENT_RUN_TOTAL r.job.client) d) with sched := { s1.sched with tear := none } }
  let s3 :=
    if r.job.maint.isSome then s2.endRun r none
    else if t.owed then { (s2.endRun r none) with sched := { (s2.endRun r none).sched with owed := if r.mute then none else some e } }
    else s2.endRun r (some e)
  s3.unbalanced.lullFollows

/-- A teardown whose instant 480 has come ends. -/
def tearDue (s : State) : State :=
  match s.sched.run, s.sched.tear with
  | some r, some t => if t.at_ ≤ s.clock then (s.tearEnd r t 0).settle else s
  | _, _ => s

/-- The running job torn down and ended in one step, as a warm reset does it (R698). -/
def tearNow (s : State) (r : Run) : State :=
  let s1 := s.tearDown r 4 0 false
  match s1.sched.tear with
  | some t => s1.tearEnd r t (t.at_ - s1.clock)
  | none => s1

/-- The running job's report is taken (R768, R770, R783 to R785). -/
def takeReport (s : State) (r : Run) (f : FaultReport) : State :=
  let s1 := s.log (faultRec s r.job f s.neverFired)
  let s2 := if f.remote.isSome then s1.inc32 Obj.REACH_TEARDOWNS_TAKEN 1
    else if r.job.desc.reach then s1.sendTeardown r.job.desc.reachJob f.code else s1
  let s3 := { s2 with faults := { s2.faults with reports := s2.faults.reports.erase f } }
  if f.remote.isSome && deviceCode f.code then s3.tearDown r 4 0 false
  else s3.tearDown r 1 f.code true

/-- The job of a reach hold is torn down by a REACH_TEARDOWN (R680, R784, R785). -/
def takeHeld (s : State) (j : Job) (f : FaultReport) : State :=
  let s1 := (s.log (faultRec s j f true)).inc32 Obj.REACH_TEARDOWNS_TAKEN 1
  let s2 := ({ s1 with
    faults := { s1.faults with reports := s1.faults.reports.erase f }
    sched := { s1.sched with hold := none } }).setSched 0
  let s3 := if deviceCode f.code then (s2.dropJob j).addEntry (s2.entryOf j 4 0)
    else ((s2.dropJob j).addEntry (s2.entryOf j 1 f.code)).haltClient j.client f.code
  (promote 9 s3.selectionEvent j.client).lullFollows

/-- A device-level fault stops the running job (R780, R781): its entry is ABANDONED and INDETERMINATE, its client is not
halted; for 0A70h the entry is kept for the warm reset. A teardown in progress is completed as it stands (R795). -/
def deviceStop (s : State) (code source d0 d1 : Nat) : State :=
  let s1 := s.deviceFault code source d0 d1
  match s1.sched.run with
  | none => s1
  | some r =>
    if s1.sched.tear.isSome then s1
    else
      (if r.job.desc.reach then s1.sendTeardown r.job.desc.reachJob code else s1).tearStart r 4 0
        (code == 0x0A70 && r.job.maint.isNone)

/-- The reports of one cycle: those of another parity are secondary; of the rest one is taken, and counts as secondary while its job
is already being torn down (R768, R794, R798). A report received with a parity error raises 0A60h (R801). -/
def takeReports (s : State) (l : List FaultReport) : State :=
  let old := l.filter (fun f => f.parity != s.mortar.parity && f.remote.isNone)
  let now := l.filter (fun f => f.parity == s.mortar.parity || f.remote.isSome)
  let s1 := { s.inc64 Obj.SECONDARY_FAULTS old.length with
    faults := { s.faults with reports := s.faults.reports.filter (fun f => !old.contains f) } }
  match sortBy reportKey now with
  | [] => s1
  | f :: _ =>
    let s2 := { s1 with faults := { s1.faults with reports := s1.faults.reports.erase f } }
    if f.treeError then s2.deviceStop 0x0A60 7 0 0
    else if s1.sched.tear.isSome then s2.inc64 Obj.SECONDARY_FAULTS 1
    else match s1.sched.run with
      | some r => s1.takeReport r f
      | none => match s1.sched.hold with
        | some h => (match s1.jobAt h.client h.pos with
          | some j => if f.remote.isSome then s1.takeHeld j f else s2.inc64 Obj.SECONDARY_FAULTS 1
          | none => s2.inc64 Obj.SECONDARY_FAULTS 1)
        | none => s2.inc64 Obj.SECONDARY_FAULTS 1

/-- A record is written at its ring position, and one not yet read that it overwrites is lost (R789, by LOG_READ before this LCLK cycle: R797). -/
def ringWrite (s : State) (r : LogRec) : State :=
  let n := s.num Obj.LOG_WRITTEN
  let p := n % 512
  let lost := s.faults.ring.any (fun (q : Nat × LogRec) => q.1 == p) &&
    decide ((n + 2 ^ 33 - 512 - s.before.num Obj.LOG_READ) % 2 ^ 32 < 2 ^ 31)
  let s1 := { s with faults := { s.faults with
    ring := (s.faults.ring.filter (fun (q : Nat × LogRec) => q.1 != p)) ++ [(p, r)]
    ringBad := s.faults.ringBad.filter (fun q => q != p) } }
  let s2 := if lost then (s1.inc64 Obj.LOG_LOST 1).setSticky Obj.LOG_STICKY 0 else s1
  s2.setNum Obj.LOG_WRITTEN ((n + 1) % 2 ^ 32)

/-- The same record in the spill ring, or a drop where its block or channel is out of service (R790, R800). -/
def spillWrite (s : State) (r : LogRec) (n : Nat) : State :=
  let a := 0x2FFE000000 + 64 * (n % 262144)
  let w := s.memWrite a r.bytes
  if w.1 = 2 then
    let s1 := (s.inc32 Obj.SPILL_DROPPED 1).setSticky Obj.LOG_STICKY 2
    if s.faults.spillLogged then s1
    else { s1.event 0x0A80 4 0 0 with faults := { (s1.event 0x0A80 4 0 0).faults with spillLogged := true } }
  else w.2

end State

/-- FAULT_REPORT (R768 to R778, R783 to R785, R794 to R798, R801): the scheduler takes the first `count` reports, which reached it in
one cycle; the oldest may have come with a parity error on the control tree. -/
def execFaultReport (count : Nat) (s : State) (parityError : Bool := false) : Host.Outcome State Fault Refusal :=
  match s.faults.reports with
  | [] => .next s
  | f :: rest =>
    let s1 := if parityError then { s with faults := { s.faults with reports := { f with treeError := true } :: rest } } else s
    .next (s.live (decide (1 ≤ count)) (s1.takeReports (s1.faults.reports.take (if parityError then 1 else count))).settle)

/-- RUN_WATCHDOG (R676, R694): a job that has not ended by its selection tick plus MAX_RUN faults with 0901h. -/
def execRunWatchdog (s : State) : Host.Outcome State Fault Refusal :=
  match s.sched.run with
  | none => .next s
  | some r =>
    let m := r.job.desc.maxRun
    .next (s.live (decide (r.start + m ≤ s.now) && !s.jobDone && s.sched.tear.isNone &&
        !s.faults.reports.any (fun f => f.code == 0x0901))
      (s.report (plainReport s 0x0901 7 s.mortar.parity m 0)))

/-- LOG_RECORD_WRITE (R788 to R790, R800, R996): the oldest queued record goes to the ring, to the spill ring and, as a line, to
the debug UART. `crcBad` is an upset of the ring's copy, whose CRC then fails (R799). -/
def execLogRecordWrite (s : State) (crcBad : Bool := false) : Host.Outcome State Fault Refusal :=
  match s.faults.queue with
  | [] => .next s
  | r :: rest =>
    let s1 := { s with faults := { s.faults with queue := rest } }
    let s2 := s1.ringWrite r
    let s3 := if crcBad then { s2 with faults := { s2.faults with ringBad := s2.faults.ringBad ++ [s.num Obj.LOG_WRITTEN % 512] } } else s2
    .next (s.live true ((s3.spillWrite r (s.num Obj.LOG_WRITTEN)).uartAdd r))

/-- RESERVATION_EXPIRY (R774): reservations of abandoned remote requests that are 65,536 tt old are released. -/
def execReservationExpiry (s : State) : Host.Outcome State Fault Refusal :=
  .next (s.live true { s with egs := { s.egs with
    reserved := s.egs.reserved.filter (fun x => decide (s.clock < x.2.2.2.2 + 65536)) } })

end Sys2Proof.Machine
end

