-- ==== Sys2Proof/Machine/Mortar.lean ====
section
/-!
DEFINITION. The mortar's messages: sending, arrival with its upsets, brick SRAM with its ECC, and the far brick's side of
remote reads and writes (spec/05: R201, R210 to R219, R228, R229, R234 to R239; spec/03: R95 to R98, R121, R130, R134, R135, R137).
-/

namespace Sys2Proof.Machine

/-- The count object of a class (Table 5-10). -/
def flitObj : MsgClass → Nat
  | .req => Obj.FLITS_REQ
  | .rsp => Obj.FLITS_RSP
  | .tok => Obj.FLITS_TOK
  | .cfg => Obj.FLITS_CFG

/-- The message without what an upset did to it. -/
def plainMsg (m : Msg) : Msg := { m with upset := {} }

/-- SOURCE of a fault that another block than the one that reports it has detected (Table 17-3, R1032). -/
def faultSource (code dflt : Nat) : Nat :=
  if code = 0x0230 ∨ code = 0x0231 then 1 else if code = 0x0240 ∨ code = 0x0241 then 4 else if code = 0x0142 then 10 else dflt

/-- The message that brings a hub command. -/
def HubCmd.message (c : HubCmd) (dst : Node) (upset : Upset) : Msg :=
  { cls := .req, src := .brick c.brick, dst := dst, tag := c.tag, parity := c.parity, body := .command c.block, upset := upset }

namespace State

/-- A message enters the mortar, counted by flits (Table 5-10). -/
def inject (s : State) (m : Msg) : State :=
  { s.inc64 (flitObj m.cls) (msgFlits m.body) with mortar := { s.mortar with flight := s.mortar.flight ++ [m] } }

/-- A message of the running job from one place to another. -/
def send (s : State) (cls : MsgClass) (src dst : Node) (tag : Nat) (body : MsgBody) : State :=
  s.inject { cls := cls, src := src, dst := dst, tag := tag, parity := s.mortar.parity, body := body }

/-- `m` is the oldest message in flight of its class from its source to its destination (R210). -/
def nextInFlight (s : State) (m : Msg) : Bool :=
  match s.mortar.flight.find? (fun x => x.cls == m.cls && x.src == m.src && x.dst == m.dst) with
  | some x => x == plainMsg m
  | none => false

/-- The message leaves the mortar. -/
def ejected (s : State) (m : Msg) : State := { s with mortar := { s.mortar with flight := s.mortar.flight.erase (plainMsg m) } }

/-- Where and when the last uncorrectable error fell (Table 5-10). -/
def mortarError (s : State) (r : Nat × Nat) (sticky : Nat) : State :=
  ((s.setNum Obj.LAST_ERROR_ROUTER (routerNumber r)).setNum Obj.LAST_ERROR_TIDE s.now).setSticky Obj.MORTAR_STICKY sticky

/-- A header error: the flit is discarded, with device-level fault 0A41h (R239). -/
def headerFault (s : State) (r : Nat × Nat) : State :=
  let s1 := s.mortarError r 2
  ({ s1 with mortar := { s1.mortar with headerFault := true } }).deviceStop 0x0A41 1 0 0

/-- A message that has crossed the mortar: the corrections of its headers at the routers and of its payload at ejection are
counted; a header beyond repair or with a reserved encoding is a header error; `bad` says that the payload is uncorrectable
(R229, R236 to R239, Table 5-9). -/
def landed (s : State) (m : Msg) (k : State → Bool → State) : State :=
  let last := routerAt m.dst m.src
  let s1 := if m.upset.headers = 0 then s else s.inc32 Obj.HEADER_CORRECTED m.upset.headers
  match m.upset.lost with
  | some i => s1.headerFault ((routeOf m.src m.dst).getD i last)
  | none =>
    if !s.msgLegal m then s1.headerFault last
    else
      let s2 := if m.upset.words = 0 then s1
        else (s1.inc32 Obj.FLIT_CORRECTED m.upset.words).setSticky Obj.MORTAR_STICKY 0
      if m.upset.poisoned then k ((s2.inc32 Obj.FLIT_UNCORRECTED 1).mortarError last 1) true else k s2 false

/-- A message in flight arrives. A flit that reaches a brick after CLOSE is discarded (R234). -/
def arrive (s : State) (m : Msg) (k : State → Bool → State) : State :=
  if !s.nextInFlight m || s.wall.closed then s else (s.ejected m).landed m k

/-! ### Brick SRAM -/

/-- The 64-bit words of a brick that `n` octets from `off` touch, as brick × 2^15 + word. -/
def sramWords (brick off n : Nat) : List Nat :=
  if n = 0 then [] else (List.range ((off + n - 1) / 8 + 1 - off / 8)).map (fun i => brick * 2 ^ 15 + off / 8 + i)

/-- An uncorrectable SRAM word is met: counted, recorded, and its course judged (R135, R137). -/
def sramUe (s : State) (w : Nat) : State :=
  let b := w / 2 ^ 15
  let t := recent (s.wall.ueTicks ++ [(b, s.now)]) s.now
  let s1 := (((s.inc32 Obj.SRAM_UNCORRECTED 1).setNum Obj.LAST_UE_BRICK (b / 64 * 256 + b % 64)).setNum
    Obj.LAST_UE_TIDE_4040 s.now).setSticky Obj.WALL_STICKY 1
  let s2 := { s1 with wall := { s1.wall with ueTicks := t } }
  if 3 ≤ (t.filter (fun p => p.1 == b)).length then s2.retirePending (b / 64) else s2

/-- A single-bit error is corrected and written back (R134). -/
def sramCe (s : State) (w : Nat) : State :=
  let s1 := (s.inc32 Obj.SRAM_CORRECTED 1).setSticky Obj.WALL_STICKY 0
  { s1 with wall := { s1.wall with sramCe := s1.wall.sramCe.filter (fun x => x != w) } }

/-- Words are read: their single-bit errors are corrected and their uncorrectable ones counted. The first uncorrectable word
is given as an SRAM offset. -/
def sramTouch (s : State) (ws : List Nat) : Option Nat × State :=
  let ce := s.wall.sramCe.filter (fun w => ws.contains w)
  let ue := ws.filter (fun w => s.wall.sramUe.contains w)
  (ue.head?.map (fun w => w % 2 ^ 15 * 8), ue.foldl sramUe (ce.foldl sramCe s))

/-- `n` octets of a brick's SRAM: the offset of the first uncorrectable word, if any, the octets, and the state after. -/
def sramRead (s : State) (brick off n : Nat) : Option Nat × List Byte × State :=
  let r := s.sramTouch (sramWords brick off n)
  (r.1, Store.getMany s.wall.sramDefault s.wall.sram (brick * 2 ^ 18 + off) n, r.2)

/-- The words that a write covers only in part (R98). -/
def partialWords (brick off n : Nat) : List Nat :=
  (if off % 8 ≠ 0 ∧ n ≠ 0 then [brick * 2 ^ 15 + off / 8] else []) ++
    (if (off + n) % 8 ≠ 0 ∧ n ≠ 0 ∧ ((off + n) / 8 ≠ off / 8 ∨ off % 8 = 0) then [brick * 2 ^ 15 + (off + n) / 8] else [])

/-- Octets written to a brick's SRAM: a partial write merges with the word it reads (R98); with an uncorrectable word there
no octet is written (log entry 25). -/
def sramWrite (s : State) (brick off : Nat) (l : List Byte) : Option Nat × State :=
  let r := s.sramTouch (partialWords brick off l.length)
  match r.1 with
  | some o => (some o, r.2)
  | none =>
    let ws := sramWords brick off l.length
    (none, { r.2 with wall := { r.2.wall with
      sram := Store.setMany r.2.wall.sramDefault r.2.wall.sram (brick * 2 ^ 18 + off) l
      sramCe := r.2.wall.sramCe.filter (fun w => !ws.contains w)
      sramUe := r.2.wall.sramUe.filter (fun w => !ws.contains w) } })

/-- The report of a fault of an op at a brick and slot (R765, R1032). -/
def siteFault (s : State) (code source brick slot d0 d1 : Nat) : State :=
  s.report { code := code, parity := s.mortar.parity, source := source, site := true, course := s.logicalOf (brick / 64),
             pos := brick % 64, slot := slot, phys := brick / 64, detail0 := d0, detail1 := d1, tide := s.now,
             remote := none, treeError := false }

/-- A far brick's answer: to a brick, or to an EGS that reads a list (Tables 5-4 and 12-5). -/
def readAnswer (dst : Node) (data : List Byte) : MsgBody :=
  match dst with
  | .egs _ => .listData data
  | _ => .readData data

end State

/-- REMOTE_READ (R96, R134, R135, R214, R216): a far brick serves a read of its SRAM. -/
def execRemoteRead (m : Msg) (s : State) : Host.Outcome State Fault Refusal :=
  match m.dst, m.body with
  | .brick b, .readReq off n =>
    .next (s.live true (s.arrive m (fun t bad =>
      if bad then t.send .rsp m.dst m.src m.tag (.readFailed 2)
      else
        let r := t.sramRead b off n
        match r.1 with
        | some _ => r.2.2.send .rsp m.dst m.src m.tag (.readFailed 1)
        | none => r.2.2.send .rsp m.dst m.src m.tag (State.readAnswer m.src r.2.1))))
  | _, _ => act false s

/-- REMOTE_WRITE (R96, R98, R127, R214, R215): a far brick writes its SRAM and answers write accepted. -/
def execRemoteWrite (m : Msg) (s : State) : Host.Outcome State Fault Refusal :=
  match m.dst, m.body with
  | .brick b, .writeReq off data =>
    .next (s.live true (s.arrive m (fun t bad =>
      if bad then t.send .rsp m.dst m.src m.tag (.writeAccepted 2)
      else
        let r := t.sramWrite b off data
        r.2.send .rsp m.dst m.src m.tag (.writeAccepted (if r.1.isSome then 1 else 0)))))
  | _, _ => act false s

/-- BANK_LINE (R121, R130, R175, R236 to R239): a CFG flit brings a line of the load in progress to the shadow bank of a logical
brick (course × 64 + position). -/
def execBankLine (brick line : Nat) (upset : Upset) (s : State) : Host.Outcome State Fault Refusal :=
  match s.sched.load with
  | none => act (decide (brick < 4096) && decide (line < 256)) s
  | some ld =>
    match s.jobAt ld.client ld.pos with
    | none => act (decide (brick < 4096) && decide (line < 256)) s
    | some j =>
      match (s.loadLines j.desc.bundle).find? (fun p => p.1 == brick * 256 + line) with
      | none => act (decide (brick < 4096) && decide (line < 256)) s
      | some p =>
        let m : Msg := { cls := .cfg, src := .south, dst := .brick ((s.courseMap.getD (brick / 64) 0) * 64 + brick % 64),
                         tag := line, parity := 0, body := .bankLine p.2, upset := upset }
        .next (s.live (!ld.ready) (s.landed m (fun t bad =>
          if bad then t.cfgUncorrected ld brick
          else if ld.lines.contains (brick * 256 + line) then t
          else t.lineDelivered ld j.desc.bundle brick line p.2)))

end Sys2Proof.Machine
end

