-- ==== Sys2Proof/Machine/Brick.lean ====
section
/-!
DEFINITION. What a firing does: its inputs, its stages, its output buffer, its output stream and its SEND command (spec/03: R103
to R118, R126, R1036 to R1040; spec/04: R149 to R152; spec/05: R217 to R219; spec/06: R264, R274, R288, R289; spec/07: R298,
R302; spec/08: R343, R345; spec/11: R451 to R453, R467; spec/12: R504 to R506).
-/

namespace Sys2Proof.Machine

/-! ### Streams -/

/-- Element addresses of a plain stream, dimension 0 innermost (spec/03: Stream engines). -/
def StreamDesc.addresses (d : StreamDesc) : List Int :=
  let n := fun i => List.range (d.counts.getD i 1)
  let st := fun i => d.strides.getD i 0
  (n 3).flatMap (fun (i3 : Nat) => (n 2).flatMap (fun (i2 : Nat) => (n 1).flatMap (fun (i1 : Nat) => (n 0).map (fun (i0 : Nat) =>
    (d.base : Int) + (i0 : Int) * st 0 + (i1 : Int) * st 1 + (i2 : Int) * st 2 + (i3 : Int) * st 3))))

/-- Octets from `a` in pieces of `k`, `n` of them. -/
def pieces (a k n : Nat) : List (Int × Nat) := (List.range n).map (fun i => ((a + i * k : Nat), k))

/-- Element size, rows, and octets of one bitmap of a column stream. -/
def StreamDesc.size (d : StreamDesc) : Nat := 2 ^ d.elemLog2
def StreamDesc.rows (d : StreamDesc) : Nat := d.counts.headD 0
def bitmapLen (n : Nat) : Nat := (n + 7) / 8

/-- What a read stream moves, in order (Table 6-7): the values, then the validity bitmap. -/
def StreamDesc.readPlan (d : StreamDesc) : List (Int × Nat) :=
  let n := d.rows
  let es := d.size
  match d.mode with
  | 0 => d.addresses.map (fun a => (a, es))
  | 2 => pieces d.base 1 (bitmapLen n) ++ pieces (d.base + roundUp64 (bitmapLen n)) 1 (bitmapLen n)
  | 3 => pieces d.base 4 (n + 1) ++ pieces (d.base + roundUp64 (4 * (n + 1))) 1 (bitmapLen n)
  | _ => pieces d.base es n ++ pieces (d.base + roundUp64 (n * es)) 1 (bitmapLen n)

/-- The elements of a column stream, or the fault of the first row that breaks Table 6-10. -/
def columnRows (mode es n : Nat) (l : List Byte) : List Octet ⊕ Nat :=
  let vlen := if mode = 2 then bitmapLen n else if mode = 3 then 4 * (n + 1) else n * es
  let bm := l.drop vlen
  let valid := fun i => bit (le bm (i / 8) 1) (i % 8)
  let mark := fun (i : Nat) (b : List Byte) => b.map (fun x => (x, valid i))
  let off := fun i => toSigned 32 (le l (4 * i) 4)
  if mode = 2 then .inl ((List.range n).map (fun i => ((if bit (le l (i / 8) 1) (i % 8) then 1 else 0 : Byte), valid i)))
  else if mode = 3 then
    if (List.range n).any (fun i => valid i && decide (off (i + 1) < off i)) then .inr 0x0404
    else .inl ((List.range n).flatMap (fun i =>
      mark i (leBytes 4 (ofSigned 32 (off i)) ++ leBytes 4 (ofSigned 32 (off (i + 1) - off i)))))
  else if mode = 4 ∧ (List.range n).any (fun i => valid i && decide (toSigned (8 * es) (le l (i * es) es) < 0)) then
    .inr 0x0403
  else .inl ((List.range n).flatMap (fun i => mark i ((l.drop (i * es)).take es)))

/-- The elements that octets with validity hold in a format (R250, R259): an element is valid when every octet of it is. -/
def octetElems (f : Fmt) (l : List Octet) : List Elem :=
  let v : List Bool :=
    if f.cls = 2 then ((chunked l.length 72 l).filter (fun c => c.length == 72)).flatMap
        (fun c => (List.range 128).map (fun i => (c.getD (i / 2) (0, true)).2))
    else if f.width = 4 then l.flatMap (fun x => [x.2, x.2])
    else ((chunked l.length (f.width / 8) l).filter (fun c => c.length == f.width / 8)).map (fun c => c.all Prod.snd)
  v.zip (elemsOf f (l.map Prod.fst))

/-- The octets of what leaves the last stage: those that PACK wrote, else each lane at the width of the stage format. -/
def pipeOctets (p : Pipe) : List Octet :=
  match p.packed with
  | some l => l
  | none => p.elems.flatMap (fun x => (leBytes (p.fmt.width / 8) x.2).map (fun b => (b, x.1)))

/-- The 32-bit offsets that a mode 3 stream writes for its rows, starting at 0; true where the row's lane is valid and its offset
falls (Tables 6-7 and 6-10). -/
def offsetRows (rows : List (List Octet)) : List (Bool × Nat) :=
  (rows.foldl (fun (x : Nat × List (Bool × Nat)) c =>
    let o := (x.1 + le (c.map Prod.fst) 4 4) % 2 ^ 32
    (o, x.2 ++ [(c.all Prod.snd && decide (toSigned 32 o < toSigned 32 x.1), o)])) (0, [])).2

/-- Rows of a column stream before the first that breaks Table 6-10, with its code; 0 where all pass (R283). -/
def columnCheck (mode es : Nat) (rows : List (List Octet)) : List (List Octet) × Nat :=
  let bad := fun (r : List Octet) (o : Bool) =>
    (mode == 3 && o) || (mode == 4 && r.all Prod.snd && decide (toSigned (8 * es) (ofLe (r.map Prod.fst)) < 0))
  let good := ((rows.zip (offsetRows rows)).takeWhile (fun x => !bad x.1 x.2.1)).map Prod.fst
  if good.length = rows.length then (rows, 0) else (good, if mode = 3 then 0x0404 else 0x0403)

/-- What a write stream moves, in order, with its octets, and the fault after it (Tables 3-3, 6-7, 6-10): no more elements than its
count and than arrive (log entry 26). The buffers of a column lie where its COUNT0 rows put them. -/
def StreamDesc.writePlan (d : StreamDesc) (p : Pipe) : List (Int × List Byte) × Nat :=
  let es := d.size
  let l := pipeOctets p
  let chunks := if d.mode = 2 ∧ p.packed.isNone then p.elems.map (fun x => ([(BitVec.ofNat 8 (if x.2 = 0 then 0 else 1), x.1)] : List Octet))
    else (chunked l.length es l).filter (fun c => c.length == es)
  let bytes := fun (c : List Octet) => c.map Prod.fst
  if d.mode = 0 then (List.zipWith (fun a c => (a, bytes c)) d.addresses chunks, 0)
  else
    let n := d.rows
    let c := columnCheck d.mode es (chunks.take n)
    let rows := c.1
    let map := rows.map (fun r => r.all Prod.snd)
    let bm := bitmapBytes (map ++ List.replicate (n - map.length) false)
    let at_ := fun (a : Nat) (x : List Byte) => ((a : Int), x)
    let vals : List (Int × List Byte) × Nat :=
      if d.mode = 2 then
        ((numbered 0 (chunked rows.length 8 rows)).map (fun g =>
          at_ (d.base + g.1) [BitVec.ofNat 8 (maskOf 8 (fun i => (g.2.getD i []).any (fun b => b.1 != 0)))]), bitmapLen n)
      else if d.mode = 3 then
        ((numbered 0 (0 :: (offsetRows rows).map Prod.snd)).map (fun o => at_ (d.base + 4 * o.1) (leBytes 4 o.2)), 4 * (n + 1))
      else ((numbered 0 rows).map (fun r => at_ (d.base + es * r.1) (bytes r.2)), n * es)
    (vals.1 ++ (if c.2 = 0 then (numbered 0 bm).map (fun b => at_ (d.base + roundUp64 vals.2 + b.1) [b.2]) else []), c.2)

/-- Pieces merged into runs of consecutive addresses, each cut at multiples of 256 (R217, R452): address and octets. -/
def mergeRuns : List (Nat × List Byte) → List (Nat × List Byte)
  | [] => []
  | (a, l) :: r =>
    match mergeRuns r with
    | (b, m) :: q => if a + l.length = b then (a, l ++ m) :: q else (a, l) :: (b, m) :: q
    | [] => [(a, l)]

/-- One run cut at multiples of 256. -/
def cutRun (x : Nat × List Byte) : List (Nat × List Byte) :=
  (go x.2.length x.1 x.2)
where
  go : Nat → Nat → List Byte → List (Nat × List Byte)
    | 0, _, _ => []
    | _, _, [] => []
    | f + 1, a, l => (a, l.take (256 - a % 256)) :: go f (a + (256 - a % 256)) (l.drop (256 - a % 256))

def requestRuns (l : List (Nat × List Byte)) : List (Nat × List Byte) := (mergeRuns l).flatMap cutRun

namespace State

/-! ### What a firing reads -/

/-- Pools of a physical brick in its active bank, and its template words. -/
def poolsOf (s : State) (brick : Nat) : List Pool :=
  (List.range 8).map (fun i => parsePool (Store.getMany zeroByte s.wall.active (brick * 16384 + 0x3000 + 32 * i) 32))
def templateOf (s : State) (brick t : Nat) : List Nat :=
  (List.range 8).map (fun i => ofLe (Store.getMany zeroByte s.wall.active (brick * 16384 + 64 * t + 8 * i) 8))

def slotAt (s : State) (k : Nat) : Slot := Store.get (fun _ => ({} : Slot)) s.wall.slots k
def setSlot (s : State) (k : Nat) (x : Slot) : State :=
  { s with wall := { s.wall with slots := Store.set (fun _ => ({} : Slot)) s.wall.slots k x } }
def handleAt (s : State) (k : Nat) : Handle := Store.get (fun _ => ({} : Handle)) s.wall.handles k
def setHandle (s : State) (k : Nat) (x : Handle) : State :=
  { s with wall := { s.wall with handles := Store.set (fun _ => ({} : Handle)) s.wall.handles k x } }
def brickAt (s : State) (b : Nat) : Brick := Store.get (fun _ => ({} : Brick)) s.wall.bricks b
def setBrick (s : State) (b : Nat) (x : Brick) : State :=
  { s with wall := { s.wall with bricks := Store.set (fun _ => ({} : Brick)) s.wall.bricks b x } }
def setFiring (s : State) (b : Nat) (f : Firing) : State := s.setBrick b { s.brickAt b with firing := some f }

/-- A dispatch reads its op-table entry and, where it has one, its template from the active bank: single-bit errors are corrected
(R134); true where a word is uncorrectable (R136, Table 3-11; log entry 162). -/
def configTouch (s : State) (brick slot : Nat) : Bool × State :=
  let e := s.opEntry brick slot
  let p := fun (w : Nat) => w / 2048 == brick &&
    ((decide (512 + 4 * slot ≤ w % 2048) && decide (w % 2048 < 516 + 4 * slot)) ||
      (e.kind == 0 && decide (8 * e.template ≤ w % 2048) && decide (w % 2048 < 8 * e.template + 8)))
  (s.wall.activeUe.any p, s.bankRead p)

/-- The client of the running job, and its rounding seed. -/
def runClient (s : State) : Nat :=
  match s.sched.run with
  | some r => r.job.client
  | none => 0
def runSeed (s : State) : Nat :=
  match s.sched.run with
  | some r => r.job.desc.seed
  | none => 0

/-- Slot base: the offset and size of the buffer of a handle value on a brick. -/
def bufferOf (s : State) (brick h : Nat) : Option (Nat × Nat) := handleBase (s.poolsOf brick) (h % 512)

/-- DETAIL0 of a brick SRAM element (Table 17-4). -/
def sramDetail (off : Int) (d : StreamDesc) : Nat :=
  ofSigned 18 off + (if d.target = 2 then d.course * 2 ^ 24 + d.pos * 2 ^ 32 else 0)

/-- The first check of Table 3-9, 11-7 that an element fails: code and details (R104, R126, R467). An address below 0 fails as one
that reaches past the end does (DESIGN CHOICE, log entry 158). -/
def elementFault (s : State) (d : StreamDesc) (write : Bool) (a : Int) (n : Nat) : Option (Nat × Nat × Nat) :=
  if d.target = 1 then
    if a % (min n 8 : Nat) ≠ 0 then some (0x0211, ofSigned 48 a, 1)
    else if a < 0 then some (0x0203, ofSigned 48 a, 0)
    else
      let c := s.elementCode s.runClient a.toNat n write
      if c = 0 then none else some (c, a.toNat, 0)
  else if a < 0 ∨ (2 ^ 18 : Int) < a + n then some (0x0210, sramDetail a d, 0)
  else if a % (min n 8 : Nat) ≠ 0 then some (0x0211, sramDetail a d, 0)
  else if d.target = 2 ∧ s.logicalCourses ≤ d.course then some (0x0212, sramDetail a d, 0)
  else none

/-- The descriptor that an operand names (R103, Table 3-9), with the state after the read of its 64 octets. -/
def streamDesc (s : State) (brick off : Nat) : (StreamDesc ⊕ (Nat × Nat)) × State :=
  if off % 8 ≠ 0 ∨ 2 ^ 18 < off + 64 then (.inr (0x0122, 0), s)
  else
    let r := s.sramRead brick off 64
    match r.1 with
    | some o => (.inr (0x0220, o), r.2.2)
    | none =>
      match parseStream r.2.1 with
      | some d => (.inl d, r.2.2)
      | none => (.inr (0x0122, 0), r.2.2)

/-- The far side of a stream: HBM, or a physical brick (R126: the op's own brick is served as a local access). -/
def farBrick (s : State) (brick : Nat) (d : StreamDesc) : Nat :=
  if d.target = 2 then (s.physBrick d.course d.pos).getD brick else brick

/-- A fault of the firing of a brick: reported, and what it has not yet asked for is not asked (R104, R766, R767). -/
def failFiring (s : State) (brick : Nat) (f : Firing) (code d0 d1 : Nat) : State :=
  (s.siteFault code (faultSource code 0) brick f.slot d0 d1).setFiring brick
    { f with faulted := true, phase := .finished, segs := f.segs.filter (fun g => g.tag.isSome && !g.done) }

/-! ### Requests -/

/-- Tags that the outstanding requests of a firing hold. -/
def tagsHeld (l : List Segment) : List Nat := l.filterMap (fun g => if g.done then none else g.tag)

/-- Octets of one stream that are asked for and have not arrived (R218). -/
def outstandingOf (l : List Segment) (stream : Nat) : Nat :=
  ((l.filter (fun g => g.stream == stream && g.tag.isSome && !g.done)).map Segment.len).sum

/-- The least free tag of a request (R219, R453). -/
def freeTag (held : List Nat) (hbm : Bool) : Option Nat :=
  ((List.range 64).map (fun i => if hbm then 0x80 + i else i)).find? (fun t => !held.contains t)

/-- The message that asks for a request. -/
def askFor (s : State) (brick : Nat) (g : Segment) (tag : Nat) : State :=
  let dst : Node := if g.hbm then .channel (pcOf g.addr) else .brick g.far
  s.send .req (.brick brick) dst tag
    (if g.stream = 2 then (if g.hbm then .hbmWrite g.addr g.data else .writeReq g.addr g.data)
     else (if g.hbm then .hbmRead g.addr g.len else .readReq g.addr g.len))

/-- Requests issued in order, each stream up to the first that must wait for a tag or for room in its response buffer. -/
def pumpGo (brick : Nat) (posted : List Nat) : State → List Segment → List Nat → List Segment → State × List Segment
  | s, before, _, [] => (s, before)
  | s, before, stuck, g :: r =>
    if g.done || g.tag.isSome || stuck.contains g.stream then pumpGo brick posted s (before ++ [g]) stuck r
    else
      let all := before ++ g :: r
      let room := g.stream == 2 || decide (outstandingOf all g.stream + g.len ≤ 8192)
      match (if room then freeTag (posted ++ tagsHeld all) g.hbm else none) with
      | some t => pumpGo brick posted (s.askFor brick g t) (before ++ [{ g with tag := some t }]) stuck r
      | none => pumpGo brick posted s (before ++ [g]) (g.stream :: stuck) r

/-- Requests issued; a SEND to a brick is over when its last one has entered the mortar (R150, R218, R219). -/
def pump (s : State) (brick : Nat) : State :=
  match (s.brickAt brick).firing with
  | none => s
  | some f =>
    let r := pumpGo brick (tagsHeld ((s.brickAt brick).posted.map Prod.snd)) s [] [] f.segs
    let sent := f.posts && f.phase == .writing && r.2.all (fun g => g.tag.isSome)
    r.1.setFiring brick { f with segs := r.2, phase := if sent then .finished else f.phase }

/-! ### Output -/

/-- A command joins a hub's queue in the order of arrival, those of one mc by the position of the sending brick, which is the port
they come in by at the north hub (R300, R322, R372, R374, R508; the times of arrival are those of R220, log entry 164). -/
def queueIn {α : Type} (cmd : α → HubCmd) (x : α) (l : List α) : List α :=
  insertBy (fun y => [(cmd y).arrival, (cmd y).brick % 64, (cmd y).brick / 64]) x l

/-- A brick's outstanding command takes its tag and goes to its hub (R298, R299, R345, R346, R505, R506); a SEND to the units
or the CSA waits for the grant, one to an EGS or one that carries no element is over (R150, R344). -/
def hubSend (s : State) (brick : Nat) (f : Firing) (target off : Nat) : State :=
  let r := s.sramRead brick off 64
  if 2 ^ 18 < off + 64 then s.failFiring brick f 0x0210 (off % 2 ^ 18) 0
  else match r.1 with
  | some o => r.2.2.failFiring brick f 0x0220 o 0
  | none =>
    let block := r.2.1
    let held := (s.brickAt brick).out.map Outstanding.tag
    let tag := if target = 3 then (if held.contains 0x40 then none else some 0x40)
      else if target = 2 then (if held.contains 0x41 then none else some 0x41)
      else ((List.range 64).map (fun i => 0xC0 + i)).find? (fun t => !held.contains t)
    match tag with
    | none => r.2.2.setFiring brick { f with phase := .waitTag }
    | some t =>
      let x := if target = 3 then 37 else if target = 2 then 3 else 3
      let y := if target = 3 then 38 else if target = 2 then 16 else 40
      let o : Outstanding :=
        { tag := t, slot := f.slot, succEn := le block x 1 == 1, succCourse := le block y 1, succPos := le block (y + 1) 1,
          succSlot := le block (y + 2) 1, block := off,
          unit := le block (if target = 3 then 3 else if target = 2 then 1 else 2) 1 }
      let hub : Node := if target = 3 then .unit 0 else if target = 2 then .bank 0
        else .egs (if le block 2 1 < 16 then le block 2 1 else 8 + le block 2 1 % 8)
      let cmd : HubCmd := { brick := brick, parity := s.mortar.parity, client := s.runClient, block := block, tag := t
                            arrival := 3 * (s.wall.bc + 4) / 4 + zeroLoad (.brick brick) hub 1 }
      let noData := target = 1 ∨ (target = 2 ∧ (le block 0 1 = 4 ∨ 6 ≤ le block 0 1))
      let s1 := r.2.2.inc64 Obj.FLITS_REQ 1
      let b := s1.brickAt brick
      let s2 := s1.setBrick brick { b with
        out := b.out ++ [o]
        firing := some { f with phase := if noData then .finished else .waitGrant } }
      if target = 3 then
        let m := s.courseMap
        let u := le block 3 1
        { s2 with sel := { s2.sel with queue := queueIn Prod.snd (m.getD (u % max 1 m.length) 0, cmd) s2.sel.queue } }
      else if target = 2 then
        { s2 with csa := { s2.csa with queue := queueIn Prod.snd (le block 1 1 % 64, cmd) s2.csa.queue } }
      else
        let e := if le block 2 1 < 16 then le block 2 1 else 8 + le block 2 1 % 8
        { s2 with egs := { s2.egs with store := queueIn (fun x => x.2.2) (e, t, cmd) s2.egs.store } }

/-- Writes of an output stream: local ones at once, far ones as requests; `bad` is the fault of the element after them. -/
def writeOut (s : State) (brick : Nat) (f : Firing) (d : StreamDesc) (l : List (Nat × List Byte))
    (bad : Option (Nat × Nat × Nat)) : State :=
  let far := s.farBrick brick d
  let runs := requestRuns l
  if d.target ≠ 1 ∧ far = brick then
    let r := runs.foldl (fun (x : Option Nat × State) q =>
      match x.1 with
      | some o => (some o, x.2)
      | none => x.2.sramWrite brick q.1 q.2) (none, s)
    match r.1, bad with
    | some o, _ => r.2.failFiring brick f 0x0220 o 0
    | none, some b => r.2.failFiring brick f b.1 b.2.1 b.2.2
    | none, none => r.2.setFiring brick { f with phase := .finished, segs := [] }
  else
    let segs : List Segment := runs.map (fun q =>
      { stream := 2, hbm := d.target == 1, far := far, addr := q.1, len := q.2.length, tag := none, data := q.2, done := false })
    let g := { f with segs := segs, phase := if segs.isEmpty then .finished else .writing, faulted := bad.isSome }
    let s1 := s.setFiring brick g
    (match bad with
      | some b => s1.siteFault b.1 0 brick f.slot b.2.1 b.2.2
      | none => s1).pump brick

/-- Elements checked in order up to the first that fails (R104). -/
def passing (s : State) (d : StreamDesc) : List (Int × List Byte) → List (Nat × List Byte) × Option (Nat × Nat × Nat)
  | [] => ([], none)
  | (a, l) :: r =>
    match s.elementFault d true a l.length with
    | some b => ([], some b)
    | none => ((a.toNat, l) :: (passing s d r).1, (passing s d r).2)

/-- The output stream of a firing (R104, R149, R264). -/
def streamOut (s : State) (brick : Nat) (f : Firing) (off : Nat) (p : Pipe) : State :=
  let r := s.streamDesc brick off
  match r.1 with
  | .inr (c, o) => r.2.failFiring brick f c o 0
  | .inl d =>
    let w := d.writePlan p
    let q := r.2.passing d w.1
    r.2.writeOut brick f d q.1 (if q.2.isNone && w.2 != 0 then some (w.2, 0, 0) else q.2)

/-- A SEND stage with TARGET 0 writes its elements to a far brick, at a place that no chapter lays out (log entry 6). It ends as R150
says of every SEND, not as R149 says of writes (DEDUCED, log entry 163). -/
def sendRemote (s : State) (brick : Nat) (f : Firing) (operand : Nat) (p : Pipe) : State :=
  let w := Config.sendDestination operand
  let d : StreamDesc := { target := 2, elemLog2 := 0, mode := 0, course := w.1, pos := w.2.1 % 64, base := w.2.2, counts := [],
                          strides := [] }
  let l := pipeOctets p
  let q := s.passing d ((numbered w.2.2 l).map (fun x => ((x.1 : Int), [x.2.1])))
  s.writeOut brick { f with posts := true } d q.1 q.2

/-- The output buffer of a firing: more octets than it holds are not written and fault the op (Table 3-9, R1042). -/
def bufferOut (s : State) (brick : Nat) (f : Firing) (h : Nat) (p : Pipe) : State :=
  match s.bufferOf brick h with
  | none => s.setFiring brick { f with phase := .finished }
  | some (base, size) =>
    let l := (pipeOctets p).map Prod.fst
    let r := s.sramWrite brick base (l.take size)
    let f1 := { f with fill := min l.length size, phase := .finished }
    match r.1 with
    | some o => r.2.failFiring brick f1 0x0220 o 0
    | none => if size < l.length then r.2.failFiring brick f1 0x0304 ((base + size) % 2 ^ 18) 0 else r.2.setFiring brick f1

/-! ### Stages -/

/-- What the stages of a firing read beside their elements (R1036, R1041, R274, R1039). -/
def pipeEnv (s : State) (brick : Nat) (f : Firing) (e : OpEntry) (h : Nat) : PipeEnv :=
  { fmt := s.fmtOf, inFmt := tmplInFmt h, outFmt := tmplOutFmt h, lane := tmplLane h,
    operand := fun i => e.operands.getD i 0, tabNum := s.tabNum, tabOct := s.tabOct,
    draw := fun stage i =>
      mix64 (xorN s.runSeed stage) 8 [s.logicalOf (brick / 64) * 2 ^ 58 + brick % 64 * 2 ^ 52 + f.slot * 2 ^ 44 +
        f.firing % 4096 * 2 ^ 32 + i % 2 ^ 32] % 65536,
    sram := fun off n => Store.getMany s.wall.sramDefault s.wall.sram (brick * 2 ^ 18 + off) n }

/-- Words of the in-force tables that a dispatch reads: formats, and the FIELD_COUNT of its parse table (R288, R289). -/
def dispatchReads (t : List Nat) : List Nat :=
  let h := t.headD 0
  formatWords (tmplInFmt h) ++ (tmplStages t).flatMap (fun w =>
    match stageKind w with
    | 2 => [tableWord (0x8400 + bits w 59 56) 0]
    | 3 => formatWords (bits w 59 56)
    | 9 => formatWords (tmplOutFmt h)
    | _ => [])

/-- A stage takes the second input (R1040, R252). -/
def takesSecond (w : Nat) : Bool :=
  match stageKind w with
  | 5 => decide (bits w 59 56 < 6) && bits w 55 54 == 0
  | 6 => !unaryOp (bits w 59 54) && decide (bits w 59 54 < 17) && (bits w 53 52 == 0 || bits w 59 54 == 3)
  | _ => false

/-- The octets of an input buffer through a captured register: read through the handle, FILL octets long (R152). -/
def inputBuffer (s : State) (brick : Nat) (r : InReg) : (List Octet ⊕ (Nat × Nat)) × State :=
  if r.status ≠ .captured then (.inr (0x0305, r.handle), s)
  else
    match s.bufferOf brick r.handle with
    | none => (.inr (0x0305, r.handle), s)
    | some (base, _) =>
      if 2 ^ 18 < base + r.fill then (.inr (0x0210, base), s)
      else
        let x := s.sramRead brick base r.fill
        match x.1 with
        | some o => (.inr (0x0220, o), x.2.2)
        | none => (.inl (x.2.1.map (fun b => (b, true))), x.2.2)

/-- Extents of the weight matrices of a template: those that end past brick SRAM fault with 0210h (Table 3-9). -/
def weightFault (s : State) (brick : Nat) (e : OpEntry) (t : List Nat) : Option (Nat × Nat) × State :=
  let fmt := s.fmtOf
  let inF := fmt (tmplInFmt (t.headD 0))
  let go := (tmplStages t).foldl (fun (x : Fmt × Option (Nat × Nat) × State) w =>
    let f := x.1
    let nf := stageFormat fmt (tmplLane (t.headD 0)) inF f w
    if stageKind w = 8 ∧ x.2.1.isNone then
      let off := e.operands.getD (bits w 41 40) 0
      let n := weightRowBytes f (bits w 49 42 + 1) * (bits w 59 50 + 1)
      if 2 ^ 18 < off + n then (nf, some (0x0210, off % 2 ^ 18), x.2.2)
      else
        let r := x.2.2.sramRead brick off n
        (nf, r.1.map (fun o => (0x0220, o)), r.2.2)
    else (nf, x.2.1, x.2.2)) (inF, none, s)
  go.2

/-- The input of a stream from its requests, in order. -/
def streamInput (s : State) (brick : Nat) (e : OpEntry) (segs : List Segment) (k w : Nat) : List Octet ⊕ Nat :=
  let l := (segs.filter (fun g => g.stream == k)).flatMap Segment.data
  match (s.streamDesc brick (e.operands.getD (bits w 57 56) 0)).1 with
  | .inl d => if d.mode = 0 then .inl (l.map (fun b => (b, true))) else columnRows d.mode d.size d.rows l
  | .inr _ => .inl (l.map (fun b => (b, true)))

/-- Events of a firing: counts, the brick's saturation flag, and the fault that its template asks for (R102, Table 3-4, R280).
With both events and both faults asked for, the fault is 0401h (log entry 27). -/
def pipeEvents (s : State) (brick : Nat) (h : Nat) (p : Pipe) : Nat × State :=
  let s1 := if p.sat then
      let u := (s.inc64 Obj.SAT_OPS 1).setSticky Obj.WALL_STICKY 2
      { u with wall := { u.wall with satFlags := if u.wall.satFlags.contains brick then u.wall.satFlags else u.wall.satFlags ++ [brick] } }
    else s
  let s2 := if p.nan then s1.inc64 Obj.NAN_OPS 1 else s1
  let s3 := if p.bad = 0 then s2 else s2.inc64 Obj.PARSE_BAD_FIELDS p.bad
  (if p.sat && bit h 8 then 0x0401 else if p.nan && bit h 9 then 0x0402 else 0, s3)

/-- Where the results of a firing go. -/
def deliver (s : State) (brick : Nat) (f : Firing) (e : OpEntry) (last : Nat) (p : Pipe) : State :=
  let op := e.operands.getD (if stageKind last = 10 then bits last 57 56 else bits last 55 54) 0
  if stageKind last = 10 then s.streamOut brick f op p
  else if stageKind last = 11 then
    (if bits last 59 56 = 0 then s.sendRemote brick f op p
     else s.hubSend brick { f with elems := p.elems, segs := [] } (bits last 59 56) (op % 2 ^ 18))
  else match f.outHandle with
    | some h => s.bufferOut brick f h p
    | none => s.setFiring brick { f with phase := .finished, segs := [] }

/-- The stages run once every input is there (R149, R1036, R1040). -/
def computeFiring (s : State) (brick : Nat) (f : Firing) : State :=
  let e := s.opEntry brick f.slot
  let t := s.templateOf brick e.template
  let st := tmplStages t
  let ins := st.takeWhile (fun w => stageKind w == 1)
  let only := st.length == 1 && stageKind (st.headD 0) == 11
  let first : (List Octet ⊕ (Nat × Nat)) × State := match ins with
    | w :: _ => ((match s.streamInput brick e f.segs 0 w with
        | .inl l => .inl l
        | .inr c => .inr (c, 0)), s)
    | [] => if only && bits (st.headD 0) 59 56 == 1 then (.inl [], s) else s.inputBuffer brick f.in0
  match first.1 with
  | .inr (c, o) => first.2.failFiring brick f c o 0
  | .inl l0 =>
    let second : (List Octet ⊕ (Nat × Nat)) × State := match ins with
      | _ :: w :: _ => ((match first.2.streamInput brick e f.segs 1 w with
          | .inl l => .inl l
          | .inr c => .inr (c, 0)), first.2)
      | _ => if st.any takesSecond then first.2.inputBuffer brick f.in1 else (.inl [], first.2)
    match second.1 with
    | .inr (c, o) => second.2.failFiring brick f c o 0
    | .inl l1 =>
      let w := second.2.weightFault brick e t
      match w.1 with
      | some (c, o) => w.2.failFiring brick f c o 0
      | none =>
        let h := t.headD 0
        let env := w.2.pipeEnv brick f e h
        let inF := env.fmt env.inFmt
        let p := runStages env st (octetElems inF l0) (l0.map Prod.fst) (octetElems inF l1)
        let r := w.2.tabReads p.reads
        let v := r.2.pipeEvents brick h p
        if r.1 then r.2.failFiring brick f 0x0142 0 0
        else if v.1 ≠ 0 then v.2.failFiring brick f v.1 0 0
        else v.2.deliver brick { f with segs := [] } e (st.getLastD 0) p

/-- A firing goes on: requests are issued; with every input there its stages run; with every write accepted it is finished. -/
def advance (s : State) (brick : Nat) : State :=
  match (s.brickAt brick).firing with
  | none => s
  | some f =>
    let idle := f.segs.all Segment.done
    match f.phase with
    | .gather => if idle then s.computeFiring brick f else s.pump brick
    | .writing => if idle then s.setFiring brick { f with phase := .finished } else s.pump brick
    | .waitTag =>
      let e := s.opEntry brick f.slot
      let w := (tmplStages (s.templateOf brick e.template)).getLastD 0
      s.hubSend brick f (bits w 59 56) (e.operands.getD (bits w 55 54) 0 % 2 ^ 18)
    | _ => s

/-- The requests of an input stream: local ones are read at once. The fault of an element ends the stream (R104; log entry
28). -/
def openStream (s : State) (brick k off : Nat) : (List Segment ⊕ (Nat × Nat × Nat)) × State :=
  let r := s.streamDesc brick off
  match r.1 with
  | .inr (c, o) => (.inr (c, o, 0), r.2)
  | .inl d =>
    let plan := d.readPlan
    match plan.findSome? (fun p => r.2.elementFault d false p.1 p.2) with
    | some b => (.inr b, r.2)
    | none =>
      let far := r.2.farBrick brick d
      let runs := (requestRuns (plan.map (fun p => (p.1.toNat, List.replicate p.2 (0 : Byte)))))
      let seg := fun (a n : Nat) (l : List Byte) (dn : Bool) => ({ stream := k, hbm := d.target == 1, far := far, addr := a, len := n, tag := none, data := l, done := dn } : Segment)
      if d.target ≠ 1 ∧ far = brick then
        let x := runs.foldl (fun (y : List Segment × Option Nat × State) q =>
          match y.2.1 with
          | some _ => y
          | none =>
            let z := y.2.2.sramRead brick q.1 q.2.length
            (y.1 ++ [seg q.1 q.2.length z.2.1 true], z.1, z.2.2)) ([], none, r.2)
        match x.2.1 with
        | some o => (.inr (0x0220, o, 0), x.2.2)
        | none => (.inl x.1, x.2.2)
      else (.inl (runs.map (fun q => seg q.1 q.2.length [] false)), r.2)

/-- The first faults that a dispatch finds: tables (R288, R289), an empty parse table (Table 6-10), a malformed output
descriptor (R103). -/
def dispatchFault (s : State) (brick : Nat) (e : OpEntry) (t : List Nat) : Option (Nat × Nat) × State :=
  let r := s.tabReads (dispatchReads t)
  let s1 := r.2
  if r.1 then (some (0x0142, 0), s1)
  else if (tmplStages t).any (fun w => stageKind w == 2 && s.tabNum (Obj.FIELD_COUNT (bits w 59 56)) == 0) then
    (some (0x0141, 0), s1)
  else
    let w := (tmplStages t).getLastD 0
    if stageKind w = 10 then
      let r := s1.streamDesc brick (e.operands.getD (bits w 57 56) 0)
      match r.1 with
      | .inl _ => (none, r.2)
      | .inr (c, o) => (some (c, o), r.2)
    else (none, s1)

/-- The data path of a firing that has dispatched. -/
def startFiring (s : State) (brick : Nat) (f : Firing) : State :=
  let e := s.opEntry brick f.slot
  let t := s.templateOf brick e.template
  let d := s.dispatchFault brick e t
  match d.1 with
  | some (c, o) => d.2.failFiring brick f c o 0
  | none =>
    let ins := (tmplStages t).takeWhile (fun w => stageKind w == 1)
    let r := (numbered 0 ins).foldl (fun (x : (List Segment ⊕ (Nat × Nat × Nat)) × State) w =>
      match x.1 with
      | .inr _ => x
      | .inl l =>
        let y := x.2.openStream brick w.1 (e.operands.getD (bits w.2 57 56) 0)
        ((match y.1 with
          | .inl m => .inl (l ++ m)
          | .inr b => .inr b), y.2)) (.inl [], d.2)
    match r.1 with
    | .inr b => r.2.failFiring brick f b.1 b.2.1 b.2.2
    | .inl segs => (r.2.setFiring brick { f with segs := segs }).advance brick

/-- DETAIL0 of a failed request to a far brick (Table 17-4). -/
def farDetail (s : State) (g : Segment) : Nat := g.addr + s.logicalOf (g.far / 64) * 2 ^ 24 + g.far % 64 * 2 ^ 32

/-- The answer to a write of a SEND firing that is over: its tag is free, and a failure faults its op (R150, R219). -/
def postAnswered (s : State) (brick tag code : Nat) : State :=
  let b := s.brickAt brick
  match b.posted.find? (fun p => p.2.tag == some tag) with
  | none => s
  | some p =>
    let s1 := s.setBrick brick { b with posted := b.posted.erase p }
    let s2 := if code = 0 then s1 else s1.siteFault code (faultSource code 0) brick p.1 (s1.farDetail p.2) 0
    s2.pump brick

/-- The answer to a request of a brick's firing arrives: its data, or the code of its failure with the address as detail. -/
def answered (s : State) (brick tag : Nat) (data : List Byte) (code : Nat) (hbm : Bool) : State :=
  match (s.brickAt brick).firing with
  | none => s.postAnswered brick tag code
  | some f =>
    match f.segs.find? (fun g => g.tag == some tag && !g.done && g.hbm == hbm) with
    | none => s.postAnswered brick tag code
    | some g =>
      let f1 := { f with segs := f.segs.map (fun x =>
        if x.tag == some tag && !x.done && x.hbm == hbm then { x with done := true, data := if g.stream = 2 then [] else data } else x) }
      if code ≠ 0 ∧ !f.faulted then
        s.failFiring brick f1 code
          (if hbm then g.addr else s.farDetail g) 0
      else (s.setFiring brick f1).advance brick

/-- The bc in which a same-brick token due at `t` is applied: a brick applies four in a bc (R180). -/
def tokenSlot (flight : List Msg) (brick : Nat) : Nat → Nat → Nat
  | 0, t => t
  | n + 1, t =>
    if 4 ≤ (flight.filter (fun m => m.cls == .tok && m.src == .brick brick && m.dst == .brick brick && m.due == t)).length then
      tokenSlot flight brick n (t + 1)
    else t

/-- A token to a slot of a physical brick, from a brick, in the bc `due` (Table 4-2, Table 5-4). -/
def sendToken (s : State) (src dst slot handleIn handle fill due : Nat) : State :=
  let m : Msg := { cls := .tok, src := .brick src, dst := .brick dst, tag := 0, parity := s.mortar.parity,
                   body := .token slot handleIn handle fill
                   due := if src = dst then tokenSlot s.mortar.flight src s.mortar.flight.length due else due }
  if src = dst then { s with mortar := { s.mortar with flight := s.mortar.flight ++ [m] } } else s.inject m

/-- Tokens of an op to its successors; a handle goes to the one whose HANDLE_IN takes it (R151, R162). -/
def sendTokens (s : State) (brick : Nat) (e : OpEntry) (handle fill due : Nat) : State :=
  e.succs.foldl (fun t x =>
    let dst := match x.far with
      | some (c, p) => (t.physBrick c p).getD brick
      | none => brick
    t.sendToken brick dst x.slot x.handleIn (if x.handleIn = 0 then 0 else handle) (if x.handleIn = 0 then 0 else fill) due) s

/-- Done arrives for a command of a brick: its token goes to the successor, or its fault faults the job (R316, R330, R368,
R384); a SEND that waits for the tag goes on. -/
def doneAt (s : State) (brick tag code source : Nat) : State :=
  let b := s.brickAt brick
  match b.out.find? (fun o => o.tag == tag) with
  | none => s
  | some o =>
    let s1 := s.setBrick brick { b with out := b.out.filter (fun x => x.tag != tag) }
    let s2 :=
      if code ≠ 0 then s1.siteFault code (faultSource code source) brick o.slot (if code < 0x0500 then 0 else o.block % 2 ^ 18)
          (if code < 0x0500 then 0 else o.unit)
      else if o.succEn then
        match s1.physBrick o.succCourse (o.succPos % 64) with
        | some d => s1.sendToken brick d o.succSlot 0 0 0 (s1.wall.bc + 2)
        | none => s1.siteFault 0x0212 source brick o.slot (o.succCourse * 2 ^ 24 + o.succPos % 64 * 2 ^ 32) 0
      else s1
    match (s2.brickAt brick).firing with
    | some f =>
      -- a command refused without a grant has left its elements in the pipeline
      let mine := f.phase == .waitGrant && f.slot == o.slot && !(s2.brickAt brick).out.any (fun x => x.slot == o.slot)
      if mine then s2.setFiring brick { f with phase := .finished, faulted := code != 0 }
      else if f.phase == .waitTag then s2.advance brick else s2
    | none => s2

end State

end Sys2Proof.Machine
end

