-- ==== Sys2Proof/Machine/EgsCore.lean ====
section
/-!
DEFINITION. The embedding engines at work: command blocks and their checks, list reads, reads of table structures, widening, the
heat sketch and the end of a command (spec/12: R499 to R517, R528, R529, R536, R537, R1045; spec/13: R558, R559, R586, R596).
-/

namespace Sys2Proof.Machine

/-! ### Command blocks -/

/-- A lookup command block (Table 12-6). -/
structure LookupCmd where
  pool : Nat
  aux : Bool
  outBf16 : Bool
  table : Nat
  n : Nat
  bags : Nat
  index : Nat
  bagOff : Nat
  weight : Nat
  out : Nat
  stride : Nat
  auxOff : Nat
deriving DecidableEq, Repr

def parseLookup (l : List Byte) : LookupCmd :=
  { pool := le l 0 1 % 4, aux := bit (le l 0 1) 2, outBf16 := le l 1 1 == 3, table := le l 4 2 % 4096, n := le l 8 4,
    bags := le l 12 4, index := le l 16 4, bagOff := le l 20 4, weight := le l 24 4, out := le l 28 4, stride := le l 32 4,
    auxOff := le l 36 4 }

namespace LookupCmd

/-- Output rows, and octets of an output row. -/
def rows (c : LookupCmd) : Nat := if c.pool = 0 then c.n else c.bags
def rowBytes (c : LookupCmd) (dim : Nat) : Nat := dim * (if c.outBf16 then 2 else 4)

/-- Every area ends at or below 4_0000h (Table 12-10). -/
def extentOk (c : LookupCmd) (dim : Nat) : Bool :=
  decide (c.index + 4 * c.n ≤ 2 ^ 18) && (c.pool == 0 || decide (c.bagOff + 4 * c.bags ≤ 2 ^ 18)) &&
    (c.pool != 3 || decide (c.weight + 4 * c.n ≤ 2 ^ 18)) &&
    decide (c.out + (c.rows - 1) * c.stride + c.rowBytes dim ≤ 2 ^ 18) && (!c.aux || decide (c.auxOff + 4 * c.rows ≤ 2 ^ 18))

end LookupCmd

/-- The fields that both blocks share: format, engine, successor, table and reserved octets. -/
def egsCommonOk (l : List Byte) : Bool :=
  (le l 1 1 == 1 || le l 1 1 == 3) && decide (le l 2 1 < 16) && decide (le l 3 1 ≤ 1) && decide (le l 4 2 < 4096) &&
    (if le l 3 1 = 0 then zeroAt l 40 3 else decide (le l 41 1 < 64)) && zeroAt l 43 21

/-- Check 1 of Table 12-10 (R1045). -/
def lookupFormOk (l : List Byte) : Bool :=
  let c := parseLookup l
  egsCommonOk l && decide (le l 0 1 < 8) && zeroAt l 6 2 && decide (1 ≤ c.n ∧ c.n ≤ 65536) &&
    (if c.pool = 0 then c.bags == 0 && c.bagOff == 0 else decide (1 ≤ c.bags ∧ c.bags ≤ 65536)) &&
    decide (c.index < 2 ^ 18) && c.index % 4 == 0 && (c.pool == 3 || c.weight == 0) && c.out % 8 == 0 && c.stride % 8 == 0 &&
    (c.aux || c.auxOff == 0)

/-- An update command block (Table 13-3). -/
structure UpdateCmd where
  bf16 : Bool
  table : Nat
  n : Nat
  index : Nat
  grad : Nat
  stride : Nat
  lrScale : Nat
  seed : Nat
deriving DecidableEq, Repr

def parseUpdate (l : List Byte) : UpdateCmd :=
  { bf16 := le l 1 1 == 3, table := le l 4 2 % 4096, n := le l 12 4, index := le l 16 4, grad := le l 20 4, stride := le l 24 4,
    lrScale := le l 28 4, seed := le l 32 4 }

/-- Octets of a gradient row. -/
def UpdateCmd.rowBytes (c : UpdateCmd) (dim : Nat) : Nat := dim * (if c.bf16 then 2 else 4)

/-- A binary32 pattern that is finite and not negative; −0 passes (R552). -/
def finiteNonNeg (x : Nat) : Bool := bits x 30 23 != 255 && (!bit x 31 || x == 2 ^ 31)

def updateFormOk (l : List Byte) : Bool :=
  let c := parseUpdate l
  egsCommonOk l && le l 0 1 == 0x80 && zeroAt l 6 6 && decide (1 ≤ c.n ∧ c.n ≤ 65536) && decide (c.index < 2 ^ 18) &&
    c.index % 4 == 0 && decide (c.grad < 2 ^ 18) && c.grad % 4 == 0 && c.stride % 4 == 0 && finiteNonNeg c.lrScale && zeroAt l 36 4

/-- The block is an update block (R558). -/
def isUpdate (l : List Byte) : Bool := bit (le l 0 1) 7

namespace State

/-- The checks of Table 12-10 in order: the first failing code, or 0 (R528, R1045). -/
def lookupCode (s : State) (client : Nat) (l : List Byte) : Nat :=
  let c := parseLookup l
  let d := s.tableDesc c.table
  if !lookupFormOk l then 0x0704
  else if !d.valid || !bit d.mask client then 0x0701
  else if c.stride < c.rowBytes d.dim then 0x0704
  else if c.pool ≠ 0 ∧ 131072 < c.bags * d.dim then 0x070B
  else if !c.extentOk d.dim then 0x070A
  else 0

/-- The checks of an update command in order (Table 13-7, R586, R596, R1045; log entry 33). -/
def updateCode (s : State) (client : Nat) (l : List Byte) : Nat :=
  let c := parseUpdate l
  let d := s.tableDesc c.table
  if s.num Obj.WORK_ENABLE ≠ 1 then 0x0715
  else if !updateFormOk l then 0x0704
  else if !d.valid || !bit d.mask client then 0x0701
  else if c.stride < c.rowBytes d.dim then 0x0704
  else if le (s.ruleImage d.rule) 0 1 = 0 then 0x0710
  else if 2 ^ 18 < c.index + 4 * c.n ∨ 2 ^ 18 < c.grad + (c.n - 1) * c.stride + c.rowBytes d.dim then 0x070A
  else 0

end State

/-! ### Lists -/

/-- List reads of at most 256 octets that cover areas of a stream (R509). -/
def listReads (stream : Nat) (areas : List (Nat × Nat)) : List Segment :=
  (requestRuns (areas.map (fun a => (a.1, List.replicate a.2 (0 : Byte))))).map (fun q =>
    { stream := stream, hbm := false, far := 0, addr := q.1, len := q.2.length, tag := none, data := [], done := false })

/-- The list reads of a command (R509, R560). -/
def commandReads (l : List Byte) (dim : Nat) : List Segment :=
  if isUpdate l then
    let c := parseUpdate l
    listReads 0 [(c.index, 4 * c.n)] ++ listReads 3 ((List.range c.n).map (fun i => (c.grad + i * c.stride, c.rowBytes dim)))
  else
    let c := parseLookup l
    listReads 0 [(c.index, 4 * c.n)] ++ (if c.pool = 0 then [] else listReads 1 [(c.bagOff, 4 * c.bags)]) ++
      (if c.pool = 3 then listReads 2 [(c.weight, 4 * c.n)] else [])

/-- Octets that the list reads of a stream have brought. -/
def EgsCmd.stream (w : EgsCmd) (k : Nat) : List Byte := (w.lists.filter (fun g => g.stream == k)).flatMap Segment.data

/-- Octets as U32 values. -/
def u32s (l : List Byte) : List Nat := (chunked l.length 4 l).map ofLe

/-- A padding index. -/
def padIndex : Nat := 0xFFFFFFFF

/-- Indices of a command, in order. -/
def EgsCmd.indices (w : EgsCmd) : List Nat := u32s (w.stream 0)

/-- Rising order without duplicates (R511, R560). -/
def sortUnique (l : List Nat) : List Nat := (sortBy (fun x => [x]) l).eraseDups

/-- A row to be read. -/
def newRow (row : Nat) (elems : List Nat) : RowWork :=
  { row := row, phase := .dir, req := 0, entry := 0, via := 0, owner := 0, askedAt := 0, absent := false, version := 0, tier := 0,
    elems := elems }

/-! ### Formats of rows -/

def fmtE4M3 : Fmt := { cls := 0, width := 8, exp := 4, mant := 3, bias := 7, flags := 2 }
def fmtF16 : Fmt := { cls := 0, width := 16, exp := 5, mant := 10, bias := 15, flags := 1 }
def fmtBF16 : Fmt := { cls := 0, width := 16, exp := 8, mant := 7, bias := 127, flags := 1 }

/-- Elements in BF16 or binary32 as binary32 patterns. -/
def wide32 (bf16 : Bool) (l : List Byte) : List Nat :=
  if bf16 then (chunked l.length 2 l).map (fun x => ofLe x * 65536) else u32s l

/-- The elements of a slot widened to binary32 (R517). -/
def widenSlot (d : TableDesc) (tier : Nat) (l : List Byte) : List Nat :=
  let p := (l.drop 16).take (d.payload tier)
  match tier with
  | 0 => wide32 d.bf16 p
  | 1 =>
    let k := decodeNum fmtF16 (le l 8 2)
    p.map (fun b => (roundFloat fmtF32 ((decodeNum fmtE4M3 b.toNat).mul k)).bits)
  | _ => ((chunked p.length 72 p).flatMap mxLine).take d.dim

/-- Fields of a directory entry held as a number of 16 octets (Table 12-2). -/
def entSlot (e : Nat) : Nat := bits e 63 32
def entRow (e : Nat) : Nat := bits e 31 0
def entOldSlot (e : Nat) : Nat := bits e 127 96
def entOldTier (e : Nat) : Nat := bits e 95 94
def entVersion (e : Nat) : Nat := bits e 93 86
def entTier (e : Nat) : Nat := bits e 85 84
def entPresent (e : Nat) : Bool := bit e 83
def entReplica (e : Nat) : Bool := bit e 82
def entPending (e : Nat) : Bool := bit e 81

/-- A directory entry holds no reserved encoding (Table 12-2, R17). -/
def entLegal (e : Nat) : Bool := bits e 80 64 == 0 && decide (entTier e < 3) && decide (entOldTier e < 3)

/-- A slot's header agrees with the entry that named it, and holds no reserved encoding (R514, R17, Table 12-4). -/
def slotHeaderOk (table row : Nat) (e : Nat) (l : List Byte) : Bool :=
  le l 0 4 == row && le l 4 2 % 4096 == table && bits (le l 4 2) 13 12 == entTier e && le l 6 1 == entVersion e &&
    decide (entTier e < 3) && bits (le l 4 2) 15 14 == 0 && zeroAt l 7 1 && zeroAt l 10 2

namespace State

/-- A read of a table structure: 0 and its octets, or the code that ends the command: 0707h for an uncorrectable word, 0204h
for a dead block, 0203h beyond usable HBM (R536; log entry 34). -/
def tableRead (s : State) (a n : Nat) : Nat × List Byte × State :=
  if usableEnd < a + n then (0x0203, [], s)
  else
    let r := s.memRead a n
    (if r.1 = 0 then 0 else if r.1 = 1 then 0x0707 else 0x0204, r.2.1, r.2.2)

/-- A read of a table structure and what follows it: `bad` with the code that ends the command, or `good` with its octets. -/
def thenRead {α : Type} (s : State) (a n : Nat) (bad : Nat → State → α) (good : List Byte → State → α) : α :=
  let r := s.tableRead a n
  if r.1 ≠ 0 then bad r.1 r.2.2 else good r.2.1 r.2.2

/-- A line of a table structure that a command reads once: its octets from `a` on, with the command that keeps it; after 16,384 tt it
is read afresh (R512, R513; log entry 174). -/
def commandRead (s : State) (c : EgsCmd) (a n : Nat) : Nat × List Byte × EgsCmd × State :=
  let cut := fun (l : List Byte) => (l.drop (a % 64)).take n
  match c.lines.find? (fun x => x.1 == a / 64 && decide (s.clock ≤ x.2.1 + 16384)) with
  | some x => (0, cut x.2.2, c, s)
  | none =>
    let r := s.tableRead (a / 64 * 64) 64
    if r.1 ≠ 0 then (r.1, [], c, r.2.2)
    else (0, cut r.2.1, { c with lines := (a / 64, s.clock, r.2.1) :: c.lines.filter (fun x => x.1 != a / 64) }, r.2.2)

/-! ### The heat sketch -/

/-- One of the four counters of a key in an engine's sketch. -/
def sketchKey (g table row j : Nat) : Nat := g * 16384 + j * 4096 + mix64 j 8 [table * 2 ^ 32 + row] % 4096
def sketchAt (s : State) (k : Nat) : Nat := Store.get (fun _ => 0) s.egs.sketch k

/-- The estimate of a key: the least of its counters. -/
def estimate (s : State) (g table row : Nat) : Nat :=
  ((List.range 4).map (fun j => s.sketchAt (sketchKey g table row j))).foldl min 65535

/-- A heat report is written, or dropped when the ring is full (R500, R502, R503, R725). -/
def heatReport (s : State) (g table row tier est : Nat) : State :=
  let n := s.num Obj.RING_ENTRIES
  let h := s.egs.heatHead
  if n = 0 ∨ (h + 2 ^ 32 - s.egs.heatTail) % 2 ^ 32 = n then
    (s.inc32 Obj.HEAT_DROPPED 1).setSticky Obj.EGS_STICKY 2
  else
    let l := leBytes 4 row ++ leBytes 2 (table + 4096 * g) ++ leBytes 2 est ++ leBytes 5 (s.now % 2 ^ 40) ++ leBytes 1 tier ++
      leBytes 2 0
    let w := (s.engineWrite (s.num Obj.RING_BASE + 16 * (h % n)) l).2.inc64 Obj.HEAT_REPORTS 1
    let s1 := { w with egs := { w.egs with heatHead := (h + 1) % 2 ^ 32 } }
    if h = s.egs.heatTail then s1.raiseGlobal 2 else s1

/-- A read of a row slot is counted at the engine beside it (R499, R500). -/
def heatCount (s : State) (table row tier slotAddr : Nat) : State :=
  if s.num Obj.HEAT_ENABLE ≠ 1 then s
  else
    let g := pcOf slotAddr / 16
    let before := s.estimate g table row
    let s1 := (List.range 4).foldl (fun (t : State) j =>
      let k := sketchKey g table row j
      { t with egs := { t.egs with sketch := Store.set (fun _ => 0) t.egs.sketch k (min 65535 (t.sketchAt k + 1)) } }) s
    let after := s1.estimate g table row
    let h := s.num Obj.HOT_THRESHOLD
    if before < h ∧ h ≤ after then s1.heatReport g table row tier after else s1

/-! ### Commands at work -/

/-- The oldest command that an engine works on. -/
def egsFirst (s : State) (e : Nat) : Option EgsCmd := (s.egs.work.find? (fun w => w.1 == e)).map Prod.snd

/-- The command of an engine with a tag from a brick. -/
def egsWork (s : State) (e tag brick : Nat) : Option EgsCmd :=
  (s.egs.work.find? (fun w => w.1 == e && w.2.tag == tag && w.2.cmd.brick == brick)).map Prod.snd

/-- A command at work replaced. -/
def setEgsWork (s : State) (e : Nat) (c : EgsCmd) : State :=
  { s with egs := { s.egs with work := s.egs.work.map (fun (w : Nat × EgsCmd) =>
      if w.1 == e && w.2.tag == c.tag && w.2.cmd.brick == c.cmd.brick then (e, c) else w) } }

/-- A command ends with done: a fault's code or 0, counted; what it still has in hand is given up (R523, R528, R529, R564,
R586; Tables 12-13 and 13-9). -/
def egsEnd (s : State) (e : Nat) (c : EgsCmd) (code : Nat) : State :=
  let upd := isUpdate c.cmd.block
  let mine := fun (f : Flip) => decide (f.source = .update c.tag c.cmd.brick)
  let s1 := (s.egs.flips.filter mine).foldl dropFlip s
  let gone := fun (w : Nat × EgsCmd) => w.1 == e && w.2.tag == c.tag && w.2.cmd.brick == c.cmd.brick
  let s2 := { s1 with egs := { s1.egs with
    work := s1.egs.work.filter (fun w => !gone w)
    reserved := s1.egs.reserved ++ reservationsOf [(e, c)] } }
  let s3 := if upd then (if code = 0 then s2.inc64 Obj.UPDATE_COMMANDS 1 else s2.setSticky Obj.UPDATE_STICKY 0)
    else if code = 0 then s2.inc64 Obj.LOOKUPS 1
    else ((s2.inc32 Obj.LOOKUPS_FAULTED 1).setNum Obj.LAST_LOOKUP_FAULT code).setSticky Obj.EGS_STICKY 0
  s3.send .rsp (.egs e) (.brick c.cmd.brick) c.tag (.egsDone code c.rows.length c.remote c.missing)

/-- A header that disagrees with its entry: counted and logged with the table, row and slot address (R537; log entry 35). -/
def headerMismatch (s : State) (table row slotAddr : Nat) : State :=
  ((s.inc32 Obj.HEADER_MISMATCHES 1).setSticky Obj.EGS_STICKY 1).event 0x0706 5 (table * 2 ^ 32 + row) slotAddr

/-- The TAGs of list reads of an engine at a brick that are free: no read and no answer of theirs is in flight. -/
def listTags (s : State) (e b : Nat) : List Nat :=
  let used := (s.mortar.flight.filter (fun m => (m.src == .egs e && m.dst == .brick b && m.cls == .req) ||
    (m.src == .brick b && m.dst == .egs e && m.cls == .rsp))).map Msg.tag
  (List.range 256).filter (fun t => !used.contains t)

/-- List reads are issued while a TAG, and with it the space for its answer, is free (R213, R509; the space is that of 256 answers:
DESIGN CHOICE, log entry 173). -/
def listIssue (s : State) (e : Nat) (c : EgsCmd) : State :=
  let wait := (numbered 0 c.lists).filter (fun (x : Nat × Segment) => x.2.tag.isNone)
  let now := (s.listTags e c.cmd.brick).zip wait
  let tagOf := fun (i : Nat) => (now.find? (fun (p : Nat × Nat × Segment) => p.2.1 == i)).map Prod.fst
  let c1 := { c with lists := (numbered 0 c.lists).map (fun (x : Nat × Segment) =>
    if x.2.tag.isNone then { x.2 with tag := tagOf x.1 } else x.2) }
  now.foldl (fun (t : State) (p : Nat × Nat × Segment) =>
    t.send .req (.egs e) (.brick c.cmd.brick) p.1 (.readReq p.2.2.addr p.2.2.len)) (s.setEgsWork e c1)

/-- The command of an engine that reads its lists from a brick. -/
def listReader (s : State) (e brick : Nat) : Option EgsCmd :=
  (s.egs.work.find? (fun w => w.1 == e && !w.2.sorted && w.2.cmd.brick == brick)).map Prod.snd

/-- A command is taken from its engine's store: checked, and either refused with done or its list reads sent (R508, R509, R528,
R586, R590). -/
def egsStart (s : State) (e tag : Nat) (c : HubCmd) : State :=
  let upd := isUpdate c.block
  let table := le c.block 4 2 % 4096
  let w : EgsCmd :=
    { cmd := c, tag := tag, desc := s.tableImage table, rule := s.ruleImage (s.tableDesc table).rule, lists := [], rows := [],
      remote := 0, missing := 0, sorted := false }
  let code := if upd then s.updateCode c.client c.block else s.lookupCode c.client c.block
  if code ≠ 0 then s.egsEnd e w code
  else
    let w1 := { w with lists := commandReads c.block (s.tableDesc table).dim }
    ({ s with egs := { s.egs with work := s.egs.work ++ [(e, w1)] } }).listIssue e w1

/-- An engine takes the command at the head of its store where it is of the kind asked for: at most two are at work, one of
them reading its lists (R508, R558); what upsets did to the command's flit shows here (R236 to R239, Table 5-9; log entry 166). -/
def egsTake (s : State) (e : Nat) (want : List Byte → Bool) (upset : Upset) : State :=
  match s.egs.store.find? (fun p => p.1 == e) with
  | none => s
  | some (_, tag, c) =>
    let w := s.egs.work.filter (fun w => w.1 == e)
    let s1 := { s with egs := { s.egs with store := s.egs.store.erase (e, tag, c) } }
    s.live (!s.wall.closed && decide (w.length < 2) && w.all (fun x => x.2.sorted) && want c.block)
      (s1.landed (c.message (.egs e) upset) (fun t bad =>
        if bad then t.send .rsp (.egs e) (.brick c.brick) tag (.egsDone 0x0230 0 0 0) else t.egsStart e tag c))

/-- List data that failed ends its command (R536; log entry 34). -/
def listFailed (s : State) (e brick msgTag code : Nat) : State :=
  match (s.listReader e brick).filter (fun c => c.lists.any (fun g => g.tag == some msgTag && !g.done)) with
  | some c => s.egsEnd e c code
  | none => s

end State

/-- An engine number. -/
def egsOk (e : Nat) : Bool := decide (e < 16)

end Sys2Proof.Machine
end

