-- ==== Sys2Proof/Machine/Egs.lean ====
section
/-!
DEFINITION. Lookups: sorting, fetching each row once, remote rows, pooling and results (spec/12: R511 to R524, R529, R536 to
R538).
-/

namespace Sys2Proof.Machine

/-! ### Bags -/

/-- Start offsets of the bags of a command, and the end of each. -/
def EgsCmd.bagStarts (w : EgsCmd) : List Nat := u32s (w.stream 1)
def bagRanges (n : Nat) : List Nat → List (Nat × Nat)
  | [] => []
  | [a] => [(a, n)]
  | a :: b :: r => (a, b) :: bagRanges n (b :: r)

/-- Offsets start at 0, do not fall, and the last is at most N (Table 12-11). -/
def bagsOk (n : Nat) (l : List Nat) : Bool :=
  l.headD 0 == 0 && (bagRanges n l).all (fun p => decide (p.1 ≤ p.2))

/-! ### Pooling -/

/-- A row of the lookup by its number. -/
def EgsCmd.rowOf (w : EgsCmd) (row : Nat) : Option RowWork := w.rows.find? (fun r => r.row == row)

/-- One accumulator step of a pool mode (R518). -/
def poolStep (pool : Nat) (weight : Nat) (acc x : Nat) : Nat :=
  let a := decodeNum fmtF32 acc
  let b := decodeNum fmtF32 x
  (roundFloat fmtF32 (if pool = 3 then ((decodeNum fmtF32 weight).mul b).add a else a.add b)).bits

/-- The pooled elements of a bag, from its occurrences as position and row: by row, then in bag order (R518, R519). -/
def poolBag (w : EgsCmd) (c : LookupCmd) (dim : Nat) (weights : List Nat) (occ : List (Nat × Nat)) : List Nat :=
  let sorted := sortBy (fun (x : Nat × Nat) => [x.2]) occ
  let acc := sorted.foldl (fun acc x =>
    let r := ((w.rowOf x.2).map RowWork.elems).getD []
    (List.range dim).map (fun k => poolStep c.pool (weights.getD x.1 0) (acc.getD k 0) (r.getD k 0))) (List.replicate dim 0)
  if c.pool = 2 ∧ occ.length ≠ 0 then
    acc.map (fun x => (roundFloat fmtF32 ((decodeNum fmtF32 x).div (Num.ofInt occ.length 0))).bits)
  else acc

/-- An output row in OUT_FORMAT (R521). -/
def outRow (bf16 : Bool) (l : List Nat) : List Byte :=
  l.flatMap (fun x =>
    if bf16 then leBytes 2 (convertNum fmtBF16 .nearest false (decodeNum fmtF32 x)).bits
    else leBytes 4 (convertNum fmtF32 .nearest false (decodeNum fmtF32 x)).bits)

/-- The output row and the aux word of each index of an unpooled lookup (R520, R522). -/
def plainRows (w : EgsCmd) (dim : Nat) : List (List Nat × Nat) :=
  w.indices.map (fun i =>
    match w.rowOf i with
    | some r => if i = padIndex then (List.replicate dim 0, 0)
        else (r.elems, if r.absent then 0 else r.version + r.tier * 256 + b2n (r.via == 2) * 1024 + b2n (r.via == 1) * 2048)
    | none => (List.replicate dim 0, 0))

/-- The output row and the aux word of each bag of a pooled lookup (R518, R519, R522). -/
def bagRows (w : EgsCmd) (c : LookupCmd) (dim : Nat) : List (List Nat × Nat) :=
  let idx := numbered 0 w.indices
  let weights := u32s (w.stream 2)
  (bagRanges c.n w.bagStarts).map (fun p =>
    let occ := ((idx.drop p.1).take (p.2 - p.1)).filter (fun x => x.2 != padIndex)
    (poolBag w c dim weights occ, occ.length))

/-- The result writes of a lookup in order: at most 1,024 octets each, the rows before the aux array (Table 12-5). -/
def lookupWrites (w : EgsCmd) : List (Nat × List Byte) :=
  let c := parseLookup w.cmd.block
  let dim := (parseTable w.desc).dim
  let rows := if c.pool = 0 then plainRows w dim else bagRows w c dim
  let cut := fun (off : Nat) (l : List Byte) =>
    (numbered 0 (chunked l.length 1024 l)).map (fun (p : Nat × List Byte) => (off + 1024 * p.1, p.2))
  (numbered 0 rows).flatMap (fun x => cut (c.out + x.1 * c.stride) (outRow c.outBf16 x.2.1)) ++
    (if c.aux then cut c.auxOff (rows.flatMap (fun r => leBytes 4 r.2)) else [])

namespace State

/-- A lookup whose rows are all in: its results are written and done is sent (R518 to R523). -/
def lookupFinish (s : State) (e : Nat) (c : EgsCmd) : State :=
  let s1 := (lookupWrites c).foldl (fun (t : State) x =>
    t.send .rsp (.egs e) (.brick c.cmd.brick) c.tag (.egsResult x.1 x.2)) s
  s1.egsEnd e c 0

/-- The lists of a lookup are in: its offsets and indices are judged, and its rows sorted (R511, R529). -/
def lookupSort (s : State) (e : Nat) (c : EgsCmd) : State :=
  let k := parseLookup c.cmd.block
  let d := parseTable c.desc
  let idx := c.indices.filter (fun i => i != padIndex)
  if k.pool ≠ 0 ∧ !bagsOk k.n c.bagStarts then s.egsEnd e c 0x0703
  else if idx.any (fun i => decide (d.rowsM1 < i)) then s.egsEnd e c 0x0702
  else
    let c1 := { c with sorted := true, rows := (sortUnique idx).map (fun i => newRow i []) }
    let s1 := (s.inc64 Obj.INDICES idx.length).setEgsWork e c1
    if c1.rows.isEmpty then s1.lookupFinish e c1 else s1

/-- A row of a lookup is in: counted, and with the last one the lookup finishes (Table 12-13). -/
def rowServed (s : State) (e : Nat) (c : EgsCmd) (r : RowWork) : State :=
  let c1 := { c with
    rows := c.rows.map (fun x => if x.row == r.row then { r with phase := .done } else x)
    remote := c.remote + b2n (r.via == 2)
    missing := c.missing + b2n r.absent }
  let s1 := (s.inc64 Obj.UNIQUE_ROWS 1).inc64
    (if r.via = 0 then Obj.LOCAL_ROWS else if r.via = 1 then Obj.REPLICA_ROWS else Obj.REMOTE_ROWS) 1
  let s2 := (if r.absent then s1.inc64 Obj.MISSING_ROWS 1 else s1).setEgsWork e c1
  if c1.rows.all (fun x => x.phase == .done) then s2.lookupFinish e c1 else s2

/-- A row absent at its owner: a row of zeros under MISSING_ZERO, else 0705h (R517, Table 12-11). -/
def rowAbsent (s : State) (e : Nat) (c : EgsCmd) (r : RowWork) : State :=
  let d := parseTable c.desc
  if d.missingZero then s.rowServed e c { r with absent := true, elems := List.replicate d.dim 0 }
  else s.egsEnd e c 0x0705

/-- Request numbers of an engine that are taken: its own remote rows and the reservations of abandoned ones (R527, R774). -/
def requestsHeld (s : State) (e : Nat) : List Nat :=
  ((s.egs.work.filter (fun w => w.1 == e)).flatMap (fun w => (w.2.rows.filter (fun r => r.phase == .remote)).map RowWork.req)) ++
    (s.egs.reserved.filter (fun x => x.1 == e)).map (fun x => x.2.1)

/-- A remote row request goes to the owner; with 256 outstanding the row waits (R512, R527, R622). -/
def askRemote (s : State) (e : Nat) (c : EgsCmd) (r : RowWork) (owner : Nat) : State :=
  if bit (s.num Obj.UNREACHABLE_MASK) owner then s.egsEnd e c 0x0708
  else
    let held := s.requestsHeld e
    match (List.range 256).find? (fun n => !held.contains n) with
    | none => s
    | some n =>
      let r1 := { r with phase := .remote, req := n, via := 2, owner := owner, askedAt := s.clock }
      let s1 := s.setEgsWork e { c with rows := c.rows.map (fun x => if x.row == r.row then r1 else x) }
      s1.post 0 (s1.coastMsg owner 1 0 (e * 4096 + n) (leBytes 4 (le c.cmd.block 4 2 % 4096) ++ leBytes 4 r.row))

/-- The replica entry of a row in a bucket (R498). -/
def replicaMatch (row : Nat) (bucket : List Byte) : Option Nat :=
  ((List.range 4).map (fun i => le bucket (16 * i) 16)).find? (fun x => entPresent x && entReplica x && entRow x == row)

/-- Shard map and directory, or replica bucket, of a row (R490, R491, R497, R512). -/
def lookupDir (s : State) (e : Nat) (c : EgsCmd) (r : RowWork) : State :=
  let d := parseTable c.desc
  let table := le c.cmd.block 4 2 % 4096
  let a := s.commandRead c (d.shardAt r.row) 4
  let owner := shardOwner (ofLe a.2.1)
  let keep := fun (w : EgsCmd) (t : State) (x : RowWork) (at_ : Nat) =>
    let since := ((w.lines.find? (fun y => y.1 == at_ / 64)).map (fun y => y.2.1)).getD t.clock
    t.setEgsWork e { w with rows := w.rows.map (fun y => if y.row == r.row then { x with phase := .slot, askedAt := since } else y) }
  if a.1 ≠ 0 then a.2.2.2.egsEnd e c a.1
  else if 64 ≤ owner ∨ s.reachSize ≤ owner then a.2.2.2.egsEnd e c 0x0709
  else if owner = s.addr then
    let p := d.entryAt (ofLe a.2.1 % 65536) r.row
    let b := a.2.2.2.commandRead a.2.2.1 p 16
    let w := b.2.2.1
    let t := b.2.2.2
    let x := ofLe b.2.1
    if b.1 ≠ 0 then t.egsEnd e w b.1
    else if !entLegal x then t.egsEnd e w 0x0706
    else if !entPresent x then t.rowAbsent e w { r with via := 0 }
    else if entRow x ≠ r.row then (t.headerMismatch table r.row (d.slotAt (entTier x) (entSlot x))).egsEnd e w 0x0706
    else keep w t { r with entry := x, via := 0 } p
  else if d.replicaLog2 = 0 then a.2.2.2.askRemote e a.2.2.1 r owner
  else
    let p := d.bucketAt table r.row
    let b := a.2.2.2.commandRead a.2.2.1 p 64
    let w := b.2.2.1
    let t := b.2.2.2
    if b.1 ≠ 0 then t.egsEnd e w b.1
    else match replicaMatch r.row b.2.1 with
      | some x => if entLegal x then keep w t { r with entry := x, via := 1 } p else t.egsEnd e w 0x0706
      | none => t.askRemote e w r owner

/-- The slot that an entry names, read within 16,384 tt of it (R499, R513, R514, R517); later the entry is read again first. -/
def lookupSlot (s : State) (e : Nat) (c : EgsCmd) (r : RowWork) : State :=
  let d := parseTable c.desc
  let table := le c.cmd.block 4 2 % 4096
  let t := entTier r.entry
  let a := d.slotAt t (entSlot r.entry)
  let b := s.tableRead a (d.slotBytes t)
  if r.askedAt + 16384 < s.clock then s.lookupDir e c { r with phase := .dir }
  else
    let u := b.2.2.heatCount table r.row t a
    if b.1 ≠ 0 then u.egsEnd e c b.1
    else if !slotHeaderOk table r.row r.entry b.2.1 then (u.headerMismatch table r.row a).egsEnd e c 0x0706
    else u.rowServed e c { r with version := entVersion r.entry, tier := t, elems := widenSlot d t b.2.1 }

/-- A row of a lookup that is to be read. -/
def lookupRow (s : State) (e : Nat) (c : EgsCmd) (r : RowWork) : State :=
  match r.phase with
  | .dir => s.lookupDir e c r
  | .slot => s.lookupSlot e c r
  | _ => s

/-! ### The row service's side and its answers -/

/-- The row service reads a row for a peer: STATUS of ROW_NAK, or 0 and the whole slot (R514 to R516, R534, R622; log
entry 36), against the descriptor in force when the request arrived. -/
def serveRow (s : State) (desc : Option (List Byte)) (table row chip : Nat) : Nat × List Byte × State :=
  let d := parseTable (desc.getD (s.tableImage table))
  let uncorrectable := fun (t : State) => (1, ([] : List Byte), t.event 0x0707 5 (table * 2 ^ 32 + row) chip)
  if !d.valid || decide (d.rowsM1 < row) then (4, [], s)
  else
    let mismatch := fun (u : State) =>
      (2, ([] : List Byte), (((u.inc32 Obj.HEADER_MISMATCHES 1).setSticky Obj.EGS_STICKY 1).event 0x0706 5 (table * 2 ^ 32 + row) chip))
    s.thenRead (d.shardAt row) 4 (fun _ u => uncorrectable u) (fun la a =>
      if shardOwner (ofLe la) ≠ s.addr then (4, [], a)
      else a.thenRead (d.entryAt (ofLe la % 65536) row) 16 (fun _ u => uncorrectable u) (fun lb b =>
        let x := ofLe lb
        let t := entTier x
        let p := d.slotAt t (entSlot x)
        if !entLegal x then (2, [], b)
        else if !entPresent x then (5, [], b)
        else if entRow x ≠ row then mismatch b
        else (b.heatCount table row t p).thenRead p (d.slotBytes t) (fun _ u => uncorrectable u) (fun lc c =>
          if !slotHeaderOk table row x lc then mismatch c else (0, lc, c))))

/-- The command and row that a request number of an engine names. -/
def requestOf (s : State) (e n : Nat) : Option (EgsCmd × RowWork) :=
  (s.egs.work.filter (fun w => w.1 == e)).findSome? (fun w =>
    (w.2.rows.find? (fun r => r.phase == .remote && r.req == n)).map (fun r => (w.2, r)))

/-- The reservation of an abandoned request ends with its answer (R774). -/
def releaseReserved (s : State) (e n : Nat) : State :=
  { s with egs := { s.egs with reserved := s.egs.reserved.filter (fun x => !(x.1 == e && x.2.1 == n)) } }

/-- ROW_DATA for a request: checked against it, widened and served, or discarded (R517, R774, R966). -/
def remoteRow (s : State) (e n : Nat) (l : List Byte) : State :=
  match s.requestOf e n with
  | none =>
    if s.egs.reserved.any (fun x => x.1 == e && x.2.1 == n) then s.releaseReserved e n else s.inc32 Obj.RSP_DISCARDED 1
  | some (c, r) =>
    let d := parseTable c.desc
    let t := bits (le l 4 2) 13 12
    if le l 0 4 ≠ r.row ∨ le l 4 2 % 4096 ≠ le c.cmd.block 4 2 % 4096 ∨ 3 ≤ t ∨ l.length < d.slotBytes t then
      s.inc32 Obj.RSP_DISCARDED 1
    else s.rowServed e c { r with version := le l 6 1, tier := t, elems := widenSlot d t l }

/-- The lookup code of a ROW_NAK (R622). -/
def nakCode (status : Nat) : Nat :=
  match status with
  | 1 => 0x0707 | 2 => 0x0706 | 3 => 0x0708 | _ => 0x0709

/-- A STATUS that ROW_NAK gives (Table 14-6). -/
def nakOk (status : Nat) : Bool := decide (1 ≤ status ∧ status ≤ 5)

/-- ROW_NAK for a request (R622, R774); one of no request, or of a reserved STATUS, is discarded (DESIGN CHOICE, log entry 177). -/
def remoteNak (s : State) (e n status : Nat) : State :=
  match s.requestOf e n with
  | none => if s.egs.reserved.any (fun x => x.1 == e && x.2.1 == n) then s.releaseReserved e n else s.inc32 Obj.RSP_DISCARDED 1
  | some (c, r) =>
    if !nakOk status then s.inc32 Obj.RSP_DISCARDED 1 else
    let c1 := { c with rows := c.rows.map (fun x => if x.row == r.row then { x with phase := .done } else x) }
    if status = 5 then s.rowAbsent e c r else s.egsEnd e c1 (nakCode status)

/-- Lookups that wait for a row of a chip that has become unreachable end with 0708h (R538). -/
def lookupsLost (s : State) (d : Nat) : State :=
  (s.egs.work.filter (fun w => w.2.rows.any (fun r => r.phase == .remote && r.owner == d))).foldl
    (fun (t : State) (w : Nat × EgsCmd) => t.egsEnd w.1 w.2 0x0708) s

end State

end Sys2Proof.Machine
end

