-- ==== Sys2Proof/Machine/Requant.lean ====
section
/-!
DEFINITION. Update rules and requantisation: the new row of a training update, a row stored in a tier, slot and entry images
(spec/12: R493 to R496; spec/13: R551 to R557).
-/

namespace Sys2Proof.Machine

/-- A directory or replica entry as a number of 16 octets (Table 12-2). -/
def mkEntry (row slot oldSlot oldTier version tier : Nat) (present replica pending : Bool) : Nat :=
  row + slot * 2 ^ 32 + 2 ^ 64 * (oldSlot * 2 ^ 32 + oldTier * 2 ^ 30 + version * 2 ^ 22 + tier * 2 ^ 20 +
    b2n present * 2 ^ 19 + b2n replica * 2 ^ 18 + b2n pending * 2 ^ 17)

/-! ### Update rules -/

/-- An update rule (Table 13-2); values are binary32 patterns. -/
structure Rule where
  kind : Nat
  stochastic : Bool
  clip : Bool
  lr : Nat
  beta : Nat
  eps : Nat
  limit : Nat
  decay : Nat
  velocity : Nat
deriving DecidableEq, Repr

def parseRule (l : List Byte) : Rule :=
  { kind := le l 0 1, stochastic := bit (le l 1 1) 0, clip := bit (le l 1 1) 1, lr := le l 4 4, beta := le l 8 4, eps := le l 12 4,
    limit := le l 16 4, decay := le l 20 4, velocity := le l 24 8 }

/-- A fused multiply-add in binary32. -/
def fma32 (a b c : Num) : Num := r32 ((a.mul b).add c)

/-- A new row: its elements, its STATE and its velocity, as binary32 values (R554). -/
structure NewRow where
  elems : List Num
  state : Num
  velocity : List Num

/-- The gradient after clipping and decay (R554). -/
def ruleGrad (r : Rule) (w g : List Num) : List Num :=
  let lim := decodeNum fmtF32 r.limit
  List.zipWith (fun (x y : Num) =>
    let c := if r.clip then Num.minMax true (Num.minMax false y lim.neg) lim else y
    fma32 (decodeNum fmtF32 r.decay) x c) w g

/-- The new row by an update rule (R554). -/
def applyRule (r : Rule) (lrScale : Nat) (w g v : List Num) (state : Num) : NewRow :=
  let lr := (r32 ((decodeNum fmtF32 r.lr).mul (decodeNum fmtF32 lrScale))).neg
  let g1 := ruleGrad r w g
  match r.kind with
  | 1 => { elems := List.zipWith (fun x y => fma32 lr y x) w g1, state := state, velocity := [] }
  | 2 =>
    let v1 := List.zipWith (fun x y => fma32 (decodeNum fmtF32 r.beta) x y) v g1
    { elems := List.zipWith (fun x y => fma32 lr y x) w v1, state := state, velocity := v1 }
  | _ =>
    let sum := g1.foldl (fun s y => fma32 y y s) (.fin false 0 0)
    let a := r32 (state.add (r32 (sum.div (Num.ofInt w.length 0))))
    let d := r32 ((r32 a.sqrt).add (decodeNum fmtF32 r.eps))
    { elems := List.zipWith (fun x y => fma32 lr (r32 (y.div d)) x) w g1, state := a, velocity := [] }

/-- A value is finite. -/
def finiteNum : Num → Bool
  | .fin _ _ _ => true
  | _ => false

/-- A value as a binary32 pattern. -/
def bits32 (x : Num) : Nat := (roundFloat fmtF32 x).bits

/-! ### Requantisation -/

/-- The least value of a format that is not below a finite value above 0, as its pattern. -/
def ceilBits (f : Fmt) (x : Num) : Nat :=
  let c := (convertNum f .zero false x).bits
  if Num.lt false (decodeNum f c) x then c + 1 else c

/-- SCALE of a tier 1 row (R555). -/
def tierScale (l : List Num) : Nat :=
  let mags := (l.filter (fun x => x != .nan)).map Num.abs
  match mags.foldl (fun x y => if Num.lt false x y then y else x) (.fin false 0 0) with
  | .fin _ m e =>
    if m = 0 then 0
    else
      let q := decodeNum fmtF32 (ceilBits fmtF32 ((Num.fin false m e).div (Num.ofInt 448 0)))
      if Num.lt false (Num.ofInt 65504 0) q then 0x7BFF else ceilBits fmtF16 q
  | _ => 0x7BFF

/-- Rounding of an element: nearest-even, or by the draws of R557. -/
def drawMode (draw : Option (Nat → Nat)) (i : Nat) : Round :=
  match draw with
  | some f => .stochastic (f i)
  | none => .nearest

/-- A row of binary32 patterns stored in a tier: SCALE and payload (R555, R556). -/
def requant (d : TableDesc) (tier : Nat) (draw : Option (Nat → Nat)) (l : List Nat) : Nat × List Byte :=
  let vals := l.map (decodeNum fmtF32)
  match tier with
  | 0 => (0, (numbered 0 vals).flatMap (fun x =>
      if d.bf16 then leBytes 2 (convertNum fmtBF16 (drawMode draw x.1) false x.2).bits
      else leBytes 4 (convertNum fmtF32 (drawMode draw x.1) false x.2).bits))
  | 1 =>
    let k := tierScale vals
    let s := decodeNum fmtF16 k
    (k, (numbered 0 vals).flatMap (fun x =>
      leBytes 1 (if x.2 == .nan then 0x7F else if k = 0 then 0
        else (convertNum fmtE4M3 (drawMode draw x.1) true (r32 (x.2.div s))).bits)))
  | _ =>
    let env : PipeEnv :=
      { fmt := fun _ => fmtF32, inFmt := 0, outFmt := 0, lane := 32, operand := fun _ => 0, tabNum := fun _ => 0,
        tabOct := fun _ _ _ => [], draw := fun _ i => (draw.getD (fun _ => 0)) i, sram := fun _ _ => [] }
    let elems : List Elem := l.map (fun x => (true, x))
    let blocks := (numbered 0 (chunked elems.length 32 elems)).map
      (fun (b : Nat × List Elem) => packBlock env (if draw.isSome then 2 else 0) 0 (32 * b.1) fmtF32 b.2)
    (0, (chunked blocks.length 4 blocks).flatMap mxLineBytes)

/-- The draws of a stochastic training update (R557). -/
def updateDraw (table version row seed i : Nat) : Nat :=
  mix64 seed 8 [row + i * 2 ^ 32 + version * 2 ^ 44 + table * 2 ^ 52] % 65536

/-- The octets of a slot (R495, Table 12-4). -/
def slotImage (d : TableDesc) (table row tier version scale state : Nat) (payload : List Byte) : List Byte :=
  let l := leBytes 4 row ++ leBytes 2 (table + 4096 * tier) ++ leBytes 1 version ++ leBytes 1 0 ++ leBytes 2 scale ++ leBytes 2 0 ++
    leBytes 4 state ++ payload
  l ++ List.replicate (d.slotBytes tier - l.length) 0

end Sys2Proof.Machine
end

