-- ==== Sys2Proof/Machine/Flip.lean ====
section
/-!
DEFINITION. Flips: the one procedure that writes a row, from any source, with retire queues, reclamation, the table-update ring
and the merge of update commands (spec/13: R542 to R546, R550, R558 to R584, R586 to R596).
-/

namespace Sys2Proof.Machine

/-- How a flip ends other than by waiting. -/
inductive FlipOut where
  | done
  /-- The row is absent. -/
  | missing
  | nonfinite
  | noChange
  | refused (code : Nat)
deriving DecidableEq, Repr

/-- A flip that goes on, or its end with the row's VERSION. -/
abbrev FlipTry := Flip ⊕ (FlipOut × Nat)

/-- What a flip changes is a replica entry. -/
def Flip.onReplica (f : Flip) : Bool :=
  match f.work with
  | .replicaPut _ _ => true
  | .replicaRemove => true
  | _ => false

/-- The tier that a replica record names holds no reserved encoding. -/
def Work.tierOk : Work → Bool
  | .replicaPut t _ => decide (t < 3)
  | _ => true

/-- A flip to be begun. -/
def newFlip (egs table row : Nat) (desc rule : List Byte) (source : FlipSource) (work : Work) (entryAddr : Nat) : Flip :=
  { egs := egs, desc := desc, rule := rule, table := table, row := row, source := source, work := work, phase := .ready,
    counted := false, entryAddr := entryAddr, old := 0, new := 0, slot := none, velocity := none, replica := false }

/-- A posted record names its sender; everything else comes from this chip. -/
def Flip.chip (f : Flip) (own : Nat) : Nat :=
  match f.source with
  | .grad c => c
  | .replica c => c
  | _ => own

namespace State

/-! ### Retire queues -/

def retireHead (s : State) (e : Nat) : Nat := Store.get (fun _ => 0) s.egs.retireHead e
def retireTail (s : State) (e : Nat) : Nat := Store.get (fun _ => 0) s.egs.retireTail e
/-- Address of a retire record of an engine (R549, R550). -/
def retireAt (s : State) (e n : Nat) : Nat := s.num Obj.WORK_BASE + e * 0x400000 + 16 * (n % 2 ^ 18)
/-- The retire queue of an engine is full (R584). -/
def retireFull (s : State) (e : Nat) : Bool := decide (2 ^ 18 ≤ s.retireTail e - s.retireHead e)

/-- A retire record is appended (R550, Table 13-1). -/
def retireAppend (s : State) (f : Flip) : State :=
  let n := s.retireTail f.egs
  let l := leBytes 4 f.row ++ leBytes 4 (entSlot f.old) ++
    leBytes 2 (f.table + 4096 * entTier f.old + 16384 * b2n f.onReplica) ++ leBytes 2 (s.now / 65536) ++
    leBytes 1 (entVersion f.new) ++ leBytes 3 0
  let s1 := (s.engineWrite (s.retireAt f.egs n) l).2
  { s1 with egs := { s1.egs with retireTail := Store.set (fun _ => 0) s1.egs.retireTail f.egs (n + 1) } }

/-! ### Trying a flip -/

/-- The flip waits for its row's reclamation (R546), counted when it begins to wait. -/
def waitRetire (s : State) (f : Flip) : FlipTry × State :=
  (.inl { f with phase := .waitRetire }, if f.phase = .waitRetire then s else s.inc64 Obj.PENDING_WAITS 1)

/-- A flip of an entry `e` to a new slot of a tier that will hold `image` (R544, R545, R562, R583, R584). -/
def toSlot (s : State) (f : Flip) (e tier version : Nat) (image : List Byte) (velocity : Option (Nat × List Byte)) :
    FlipTry × State :=
  let d := parseTable f.desc
  let old := entPresent e
  let ring := s.freeRing f.table tier
  let placed := f.onReplica && !old
  if entPending e then s.waitRetire f
  else if old && s.retireFull f.egs then (.inl { f with phase := .waitQueue }, s)
  else if ring.count = 0 then
    if ring.pending ≠ 0 && !placed then
      (.inl { f with phase := .waitSlot, counted := true }, if f.counted then s else s.inc64 Obj.ARENA_WAITS 1)
    else (.inr (.refused (if f.onReplica then 0x0713 else 0x0711), entVersion e), s)
  else
    let t := s.freeTake f.table tier
    match t.1 with
    | none => (.inr (.refused 0x0707, entVersion e), t.2)
    | some n =>
      let w := t.2.engineWrite (d.slotAt tier n) image
      if w.1 ≠ 0 then (.inr (.refused 0x0204, entVersion e), w.2.freeReturn f.table tier n false)
      else
        (.inl { f with
          phase := .ready
          old := e
          new := mkEntry f.row n (if old then entSlot e else 0) (if old then entTier e else 0) version tier true
            (f.onReplica || entReplica e) old
          slot := some (tier, n)
          velocity := velocity }, w.2)

/-- The slot that an entry names, read and checked for a flip (R514, R592, R593): its code and octets. -/
def flipSlot (s : State) (f : Flip) (e : Nat) : Nat × List Byte × State :=
  let d := parseTable f.desc
  let a := d.slotAt (entTier e) (entSlot e)
  let r := s.tableRead a (d.slotBytes (entTier e))
  if r.1 ≠ 0 then (r.1, [], r.2.2)
  else if entRow e ≠ f.row ∨ !slotHeaderOk f.table f.row e r.2.1 then
    (0x0706, [], (r.2.2.inc32 Obj.HEADER_MISMATCHES 1).setSticky Obj.EGS_STICKY 1)
  else (0, r.2.1, r.2.2)

/-- A merged gradient applied to a row (R554 to R557, R562, R563). -/
def gradFlip (s : State) (f : Flip) (e : Nat) (g : List Nat) (lrScale seed : Nat) : FlipTry × State :=
  let d := parseTable f.desc
  let r := parseRule f.rule
  let a := s.flipSlot f e
  let va := r.velocity + (f.entryAddr - d.dir) / 16 * (d.dim * 4)
  let v := if r.kind = 2 then a.2.2.tableRead va (d.dim * 4) else (0, [], a.2.2)
  if a.1 ≠ 0 then (.inr (.refused a.1, entVersion e), a.2.2)
  else if v.1 ≠ 0 then (.inr (.refused v.1, entVersion e), v.2.2)
  else
    let num := fun (l : List Nat) => l.map (decodeNum fmtF32)
    let n := applyRule r lrScale (num (widenSlot d (entTier e) a.2.1)) (num g) (num (u32s v.2.1)) (decodeNum fmtF32 (le a.2.1 12 4))
    if !(n.elems.all finiteNum && n.velocity.all finiteNum) then
      (.inr (.nonfinite, entVersion e),
        ((v.2.2.inc32 Obj.NONFINITE_UPDATES 1).setSticky Obj.UPDATE_STICKY 1).event 0x0712 5 (f.table * 2 ^ 32 + f.row) (f.chip s.addr))
    else
      let version := (entVersion e + 1) % 256
      let t := entTier e
      let q := requant d t (if r.stochastic then some (updateDraw f.table version f.row seed) else none) (n.elems.map bits32)
      let st := if r.kind = 3 then bits32 n.state else le a.2.1 12 4
      v.2.2.toSlot f e t version (slotImage d f.table f.row t version q.1 st q.2)
        (if r.kind = 2 then some (va, n.velocity.flatMap (fun x => leBytes 4 (bits32 x))) else none)

/-- A flip of an entry to absent, which retires its slot (R545, R584). VERSION counts on as R544 has it (log entry 37). -/
def toAbsent (s : State) (f : Flip) (e : Nat) : FlipTry × State :=
  if entPending e then s.waitRetire f
  else if s.retireFull f.egs then (.inl { f with phase := .waitQueue }, s)
  else
    (.inl { f with
      phase := .ready, old := e, slot := none, velocity := none
      new := mkEntry (entRow e) 0 (entSlot e) (entTier e) ((entVersion e + 1) % 256) 0 false false true }, s)

/-- A flip of an owner's entry (R562, Table 13-5). -/
def ownerFlip (s : State) (f : Flip) (e : Nat) : FlipTry × State :=
  let d := parseTable f.desc
  let version := (entVersion e + 1) % 256
  let out := fun (o : FlipOut) => ((.inr (o, entVersion e) : FlipTry), s)
  match f.work with
  | .grad g lr seed =>
    if !entPresent e then out .missing else if entPending e then s.waitRetire f else s.gradFlip f e g lr seed
  | .put tier elems st =>
    let q := requant d tier none elems
    s.toSlot f e tier version (slotImage d f.table f.row tier version q.1 st q.2) none
  | .remove => if !entPresent e then out .missing else s.toAbsent f e
  | .retier tier =>
    if !entPresent e then out .missing
    else if entTier e = tier then out .noChange
    else if entPending e then s.waitRetire f
    else
      let a := s.flipSlot f e
      if a.1 ≠ 0 then (.inr (.refused a.1, entVersion e), a.2.2)
      else
        let q := requant d tier none (widenSlot d (entTier e) a.2.1)
        a.2.2.toSlot f e tier version (slotImage d f.table f.row tier version q.1 (le a.2.1 12 4) q.2) none
  | .replicate =>
    if !entPresent e then out .missing
    else if entReplica e then out .noChange
    else
      let a := s.flipSlot f e
      if a.1 ≠ 0 then (.inr (.refused a.1, entVersion e), a.2.2)
      else (.inl { f with phase := .ready, old := e, new := e + 2 ^ 82 }, a.2.2)
  | .unreplicate =>
    if !entPresent e then out .missing
    else if !entReplica e then out .noChange
    else (.inl { f with phase := .ready, old := e, new := e - 2 ^ 82 }, s)
  | _ => out .done

/-- A replica entry that holds nothing and awaits nothing (spec/13: Replicas). -/
def entFree (e : Nat) : Bool := !entPresent e && !entPending e

/-- A flip of a replica entry (R569 to R571). -/
def replicaFlip (s : State) (f : Flip) (bucket : List Byte) : FlipTry × State :=
  let d := parseTable f.desc
  let base := d.bucketAt f.table f.row
  let ents := (List.range 4).map (fun i => (base + 16 * i, le bucket (16 * i) 16))
  let hit := ents.find? (fun x => entPresent x.2 && entReplica x.2 && entRow x.2 == f.row)
  match f.work with
  | .replicaPut tier slot =>
    (match hit.or (ents.find? (fun x => entFree x.2)) with
      | none => (.inr (.refused 0x0713, 0), s)
      | some x => if !entLegal x.2 then (.inr (.refused 0x0706, 0), s) else s.toSlot { f with entryAddr := x.1 } x.2 tier (le slot 6 1)
          (slot.take (d.slotBytes tier) ++ List.replicate (d.slotBytes tier - slot.length) 0) none)
  | _ =>
    (match hit with
      | none => (.inr (.done, 0), s)
      | some x => if !entLegal x.2 then (.inr (.refused 0x0706, 0), s) else s.toAbsent { f with entryAddr := x.1 } x.2)

/-- Steps 1 to 6 of R562 for any flip: what it goes on as, or how it ends. -/
def flipTry (s : State) (f0 : Flip) : FlipTry × State :=
  let f := { f0 with slot := none, velocity := none }
  let d := parseTable f.desc
  if f.onReplica then
    s.thenRead (d.bucketAt f.table f.row) 64 (fun c t => (.inr (.refused c, 0), t)) (fun l t => t.replicaFlip f l)
  else s.thenRead f.entryAddr 16 (fun c t => (.inr (.refused c, 0), t)) (fun l t =>
    if entLegal (ofLe l) then t.ownerFlip f (ofLe l) else (.inr (.refused 0x0706, 0), t))

/-! ### How a flip ends -/

/-- HEAD moves past the complete entries at it (R575). -/
def advanceRing : Nat → State → State
  | 0, s => s
  | n + 1, s =>
    match s.egs.ringWork.find? (fun x => x.position == s.egs.ringHead && x.complete) with
    | some x => advanceRing n { s with egs := { s.egs with
        ringWork := s.egs.ringWork.erase x
        ringHead := (s.egs.ringHead + 1) % 2 ^ 32
        ringNext := if s.egs.ringNext = s.egs.ringHead then (s.egs.ringHead + 1) % 2 ^ 32 else s.egs.ringNext } }
    | none => s

/-- Address of a ring entry. -/
def ringAt (s : State) (position : Nat) : Nat :=
  s.num Obj.UPD_RING_BASE + 64 * (position % max 1 (s.num Obj.UPD_RING_ENTRIES))

/-- A ring entry completes (R575, Table 13-4). -/
def ringComplete (s : State) (position status version : Nat) : State :=
  let a := s.ringAt position
  let s1 := (((s.engineWrite (a + 2) (leBytes 1 status)).2.engineWrite (a + 12) (leBytes 1 version)).2.engineWrite (a + 28)
    (leBytes 5 (s.now % 2 ^ 40))).2
  let s2 := if status = 1 ∨ status = 7 then s1.inc64 Obj.RING_ENTRIES_DONE 1 else s1.inc32 Obj.RING_ENTRIES_FAILED 1
  let s3 := { s2 with egs := { s2.egs with
    ringWork := s2.egs.ringWork.map (fun x => if x.position == position then { x with complete := true } else x) } }
  let s4 := if bit (le (s.hbmBytes (a + 3) 1) 0 1) 0 then s3.raiseGlobal 1 else s3
  advanceRing 17 s4

/-- STATUS of the end of a ring entry's flip (Table 13-4). -/
def ringStatus : FlipOut → Nat
  | .done => 1
  | .nonfinite => 1
  | .missing => 3
  | .noChange => 7
  | .refused c => if c = 0x0711 then 4 else 6

/-- A row of an update command is done with (R564). -/
def updateRowDone (s : State) (e tag brick row : Nat) (missing : Bool) (remote : Bool) : State :=
  match s.egsWork e tag brick with
  | none => s
  | some c =>
    let c1 := { c with
      rows := c.rows.map (fun x => if x.row == row then { x with phase := .done } else x)
      missing := c.missing + b2n missing
      remote := c.remote + b2n remote }
    let s1 := s.setEgsWork e c1
    if c1.rows.all (fun x => x.phase == .done) then s1.egsEnd e c1 0 else s1

/-- A fault of work that belongs to no job is logged (R762, Table 17-4). -/
def rowLog (s : State) (f : Flip) (code : Nat) : State :=
  (s.setSticky Obj.UPDATE_STICKY 0).event code 5 (f.table * 2 ^ 32 + f.row) (f.chip s.addr)

/-- A flip ends: what asked for it hears (R562 to R564, R570, R574, R583, R592, R593). -/
def flipEnd (s : State) (f : Flip) (o : FlipOut) (version : Nat) : State :=
  match f.source with
  | .update tag brick =>
    (match o, s.egsWork f.egs tag brick with
      | .refused c, some w => s.egsEnd f.egs w c
      | _, _ => s.updateRowDone f.egs tag brick f.row (o == .missing) false)
  | .grad _ =>
    (match o with
      | .done => s.inc64 Obj.GRAD_RECORDS_APPLIED 1
      | .refused c => s.rowLog f c
      | _ => s)
  | .ring p =>
    (match o with
      | .refused c => (s.rowLog f c).ringComplete p (ringStatus o) version
      | _ => s.ringComplete p (ringStatus o) version)
  | .replica c =>
    (match o with
      | .refused 0x0713 =>
        ((s.inc32 Obj.REPLICA_REFUSED 1).setSticky Obj.UPDATE_STICKY 2).event 0x0713 5 (f.table * 2 ^ 32 + f.row) c
      | .refused x => s.rowLog f x
      | _ => s)

/-- The first flip equal to `f` replaced. -/
def replaceFlip (s : State) (f g : Flip) : State :=
  let l := s.egs.flips
  let m := l.takeWhile (fun x => x != f) ++ [g] ++ (l.dropWhile (fun x => x != f)).drop 1
  { s with egs := { s.egs with flips := m } }

/-- A flip begins (R562). -/
def flipBegin (s : State) (f : Flip) : State :=
  let r := s.flipTry f
  match r.1 with
  | .inl g => { r.2 with egs := { r.2.egs with flips := r.2.egs.flips ++ [g] } }
  | .inr x => r.2.flipEnd f x.1 x.2

/-- A flip that stands starts again from step 1, in its place (R580, R587). -/
def flipAgain (s : State) (f : Flip) : State :=
  let r := s.flipTry f
  match r.1 with
  | .inl g => r.2.replaceFlip f g
  | .inr x => { r.2 with egs := { r.2.egs with flips := r.2.egs.flips.erase f } }.flipEnd f x.1 x.2

/-! ### The conditional write -/

/-- Octets of the slot that an entry names. -/
def slotNow (s : State) (f : Flip) (e : Nat) : List Byte :=
  let d := parseTable f.desc
  s.hbmBytes (d.slotAt (entTier e) (entSlot e)) (d.slotBytes (entTier e))

/-- What the owner posts after a flip (R562, Table 13-5). -/
def flipPosts (s : State) (f : Flip) : State :=
  let put := leBytes 2 f.table ++ leBytes 1 (entTier f.new) ++ leBytes 1 0 ++ leBytes 4 f.row ++ s.slotNow f f.new
  let gone := leBytes 2 f.table ++ leBytes 2 0 ++ leBytes 4 f.row
  if f.onReplica then s
  else if entReplica f.new then s.postAll 2 put
  else if entReplica f.old then s.postAll 3 gone
  else s

/-- The conditional write has replaced the entry (R543, R544, R550, R562). -/
def flipAccepted (s : State) (f : Flip) : State :=
  let s1 := (s.hbmPut f.entryAddr (leBytes 16 f.new)).inc64 Obj.FLIPS 1
  let s2 := match f.slot with
    | some (t, _) =>
      let r := s1.freeRing f.table t
      s1.setFreeRing f.table t { r with inFlight := r.inFlight - 1 }
    | none => s1
  let s3 := if entPending f.new && !entPending f.old then
      let t := entTier f.old
      let r := s2.freeRing f.table t
      (s2.setFreeRing f.table t { r with pending := r.pending + 1 }).retireAppend f
    else s2
  let s4 := match f.velocity with
    | some v => (s3.engineWrite v.1 v.2).2
    | none => s3
  { s4.flipPosts f with egs := { (s4.flipPosts f).egs with flips := (s4.flipPosts f).egs.flips.erase f } }.flipEnd f .done
    (entVersion f.new)

/-- The conditional write of a flip is made (R543, R562 steps 7 and 8, R587). -/
def flipCommit (s : State) (f : Flip) : State :=
  let r := s.tableRead f.entryAddr 16
  if r.1 ≠ 0 then (r.2.2.dropFlip f).flipEnd f (.refused r.1) 0
  else if ofLe r.2.1 ≠ f.old then
    let s1 := match f.slot with
      | some (t, n) => r.2.2.freeReturn f.table t n false
      | none => r.2.2
    (s1.inc64 Obj.FLIP_RETRIES 1).flipAgain f
  else r.2.2.flipAccepted f

/-! ### Reclamation -/

/-- A record leaves its queue. -/
def retirePop (s : State) (e : Nat) : State :=
  { s with egs := { s.egs with retireHead := Store.set (fun _ => 0) s.egs.retireHead e (s.retireHead e + 1) } }

/-- A slot is lost with its retire record (R594). -/
def slotLost (s : State) : State :=
  ((s.inc32 Obj.SLOTS_LOST 1).setSticky Obj.UPDATE_STICKY 3).event 0x0716 5 0 0

/-- Waiting flips start again: those of an entry, then those that a freed slot or record serves, in the order in which they
began to wait (R580, R583, R584). -/
def flipsAgain (s : State) (p : Flip → Bool) : State := (s.egs.flips.filter p).foldl flipAgain s

/-- The entry that a retire record names: its address, or the code of a word that cannot be read. -/
def retiredEntry (s : State) (d : TableDesc) (table row : Nat) (replica : Bool) (version slot : Nat) : (Option Nat ⊕ Nat) × State :=
  if replica then
    s.thenRead (d.bucketAt table row) 64 (fun c t => (.inr c, t)) (fun l t =>
      let base := d.bucketAt table row
      (.inl (((List.range 4).map (fun i => base + 16 * i)).find? (fun a =>
        let e := le l (a - base) 16
        entPending e && entVersion e == version && entRow e == row && entOldSlot e == slot)), t))
  else
    s.thenRead (d.shardAt row) 4 (fun c t => (.inr c, t)) (fun l t => (.inl (some (d.entryAt (ofLe l % 65536) row)), t))

/-- The entry at an address gives up its old slot, which returns to its free ring (R579). -/
def reclaimEntry (s : State) (table tier slot version a : Nat) : State :=
  let r := s.tableRead a 16
  let e := ofLe r.2.1
  if r.1 ≠ 0 ∨ !entLegal e then r.2.2.slotLost
  else if entPending e && entVersion e == version then
    ((r.2.2.hbmPut a (leBytes 16 (mkEntry (entRow e) (entSlot e) 0 0 (entVersion e) (entTier e) (entPresent e) (entReplica e)
      false))).freeReturn table tier slot true).inc64 Obj.RECLAIMED 1
  else r.2.2

/-- A retire record is taken from its queue and its slot reclaimed (R579, R580, R582, R594). -/
def reclaimRecord (s : State) (e : Nat) (l : List Byte) : State :=
  let tt := le l 8 2
  let table := tt % 4096
  let tier := bits tt 13 12
  let row := le l 0 4
  let d := s.tableDesc table
  let s1 := s.retirePop e
  if !d.valid then s1
  else
    let x := s1.retiredEntry d table row (bit tt 14) (le l 12 1) (le l 4 4)
    match x.1 with
    | .inr _ => x.2.slotLost
    | .inl none => x.2
    | .inl (some a) =>
      let s2 := x.2.reclaimEntry table tier (le l 4 4) (le l 12 1) a
      let s3 := s2.flipsAgain (fun f => f.phase == .waitRetire && f.table == table && f.row == row)
      let s4 := s3.flipsAgain (fun f => f.phase == .waitSlot && f.table == table)
      s4.flipsAgain (fun f => f.phase == .waitQueue && f.egs == e)

/-! ### Updates by a job -/

/-- The merged gradient of a row: its occurrences in order of position, from +0 (R560). -/
def mergedGrad (dim : Nat) (rows : List (Nat × List Nat)) (row : Nat) : List Nat :=
  (rows.filter (fun x => x.1 == row)).foldl (fun acc x =>
    (List.range dim).map (fun k => (roundFloat fmtF32 ((decodeNum fmtF32 (acc.getD k 0)).add (decodeNum fmtF32 (x.2.getD k 0)))).bits))
    (List.replicate dim 0)

/-- The octets that the list reads of a stream brought, by SRAM offset. -/
def listOctets (w : EgsCmd) (stream off n : Nat) : List Byte :=
  (w.lists.filter (fun g => g.stream == stream)).flatMap (fun g =>
    if off < g.addr + g.len ∧ g.addr < off + n then (g.data.drop (off - g.addr)).take (min (off + n) (g.addr + g.len) - max off g.addr)
    else [])

/-- The lists of an update are in: its indices are judged, its rows sorted and their gradients merged (R560, R586). -/
def updateSort (s : State) (e : Nat) (w : EgsCmd) : State :=
  let c := parseUpdate w.cmd.block
  let d := parseTable w.desc
  let idx := (numbered 0 w.indices).filter (fun x => x.2 != padIndex)
  if idx.any (fun x => decide (d.rowsM1 < x.2)) then s.egsEnd e w 0x0702
  else
    let rows := idx.map (fun (x : Nat × Nat) =>
      (x.2, wide32 c.bf16 (listOctets w 3 (c.grad + x.1 * c.stride) (c.rowBytes d.dim))))
    let w1 := { w with sorted := true, rows := (sortUnique (idx.map Prod.snd)).map (fun r => newRow r (mergedGrad d.dim rows r)) }
    let s1 := (s.inc64 Obj.GRADS_MERGED idx.length).setEgsWork e w1
    if w1.rows.isEmpty then s1.egsEnd e w1 0 else s1

/-- A row of an update is taken up: a GRAD record to its owner, or a flip here (R561, R562, R595). -/
def updateRow (s : State) (e : Nat) (w : EgsCmd) (r : RowWork) : State :=
  let c := parseUpdate w.cmd.block
  let d := parseTable w.desc
  if r.phase ≠ .dir then s
  else
    let a := s.tableRead (d.shardAt r.row) 4
    let owner := shardOwner (ofLe a.2.1)
    if a.1 ≠ 0 then a.2.2.egsEnd e w a.1
    else if 64 ≤ owner ∨ s.reachSize ≤ owner then a.2.2.egsEnd e w 0x0709
    else if owner ≠ s.addr then
      if bit (s.num Obj.UNREACHABLE_MASK) owner then a.2.2.egsEnd e w 0x0714
      else
        let body := leBytes 2 c.table ++ leBytes 2 0 ++ leBytes 4 r.row ++ leBytes 4 c.lrScale ++ leBytes 4 c.seed ++
          r.elems.flatMap (leBytes 4)
        if !a.2.2.updReady owner ((body.length + 8 + 55) / 56) then a.2.2
        else ((a.2.2.postUpd owner 1 body).inc64 Obj.GRAD_RECORDS_SENT 1).updateRowDone e w.tag w.cmd.brick r.row false true
    else
      let s1 := a.2.2.setEgsWork e { w with rows := w.rows.map (fun x => if x.row == r.row then { x with phase := .slot } else x) }
      s1.flipBegin (newFlip e c.table r.row w.desc w.rule (.update w.tag w.cmd.brick) (.grad r.elems c.lrScale c.seed)
        (d.entryAt (ofLe a.2.1 % 65536) r.row))

/-! ### Posted records and the table-update ring -/

/-- The owner's entry of a row here, or the code that refuses work on it. -/
def ownEntry (s : State) (d : TableDesc) (row : Nat) : (Nat ⊕ Nat) × State :=
  if !d.valid then (.inr 0x0701, s)
  else if d.rowsM1 < row then (.inr 0x0702, s)
  else
    let a := s.tableRead (d.shardAt row) 4
    if a.1 ≠ 0 then (.inr a.1, a.2.2)
    else if shardOwner (ofLe a.2.1) ≠ s.addr then (.inr 0x0709, a.2.2)
    else (.inl (d.entryAt (ofLe a.2.1 % 65536) row), a.2.2)

/-- Engine of a flip that no engine's command asked for: the one beside the entry (log entry 38). -/
def engineAt (a : Nat) : Nat := pcOf a / 16

/-- A GRAD record of a peer is applied (R562, R567, R646; log entry 39). -/
def gradRecord (s : State) (desc : Option (List Byte)) (chip : Nat) (b : List Byte) : State :=
  let table := le b 0 2 % 4096
  let row := le b 4 4
  let image := desc.getD (s.tableImage table)
  let d := parseTable image
  let rule := s.ruleImage d.rule
  let x := s.ownEntry d row
  let f := fun (a : Nat) => newFlip (engineAt a) table row image rule (.grad chip)
    (.grad ((u32s (b.drop 16)).take d.dim) (le b 8 4) (le b 12 4)) a
  match x.1 with
  | .inr code => x.2.rowLog (f 0) code
  | .inl a =>
    if s.num Obj.WORK_ENABLE ≠ 1 then x.2.rowLog (f a) 0x0715
    else if le rule 0 1 = 0 then x.2.rowLog (f a) 0x0710
    else x.2.flipBegin (f a)

/-- A replica record of a peer is applied (R569 to R571, R646; log entry 39). -/
def replicaRecord (s : State) (desc : Option (List Byte)) (chip table row : Nat) (w : Work) : State :=
  let image := desc.getD (s.tableImage table)
  let d := parseTable image
  let f := newFlip (engineAt (d.bucketAt table row)) table row image [] (.replica chip) w 0
  if !d.valid then s.rowLog f 0x0701
  else if !w.tierOk then s.rowLog f 0x0706
  else if d.replicaLog2 = 0 then s.flipEnd f (match w with | .replicaPut _ _ => .refused 0x0713 | _ => .done) 0
  else s.flipBegin f

/-- Encodings of a ring entry (R574, Table 13-4). -/
def ringFormOk (l : List Byte) : Bool :=
  let op := le l 0 1
  let tier := le l 1 1
  decide (1 ≤ op ∧ op ≤ 5) && (if op = 1 ∨ op = 3 then decide (tier ≤ 2) else tier == 0) && decide (le l 3 1 ≤ 1) &&
    decide (le l 4 2 < 4096) && zeroAt l 6 2 && zeroAt l 13 3 &&
    (if op = 1 then zeroAt l 22 2 else zeroAt l 16 12) && zeroAt l 33 31

/-- A ring entry that is taken: refused, or begun as a flip (R574, R592, R596). -/
def ringBegin (s : State) (p : Nat) (l : List Byte) : State :=
  let op := le l 0 1
  let table := le l 4 2 % 4096
  let row := le l 8 4
  let d := s.tableDesc table
  let src := le l 16 6
  let size := d.dim * d.fullBytes
  if !ringFormOk l || s.num Obj.WORK_ENABLE != 1 || !d.valid || decide (d.rowsM1 < row) ||
      (op == 1 && decide (usableEnd < src + size)) then s.ringComplete p 5 0
  else
    let x := s.ownEntry d row
    match x.1 with
    | .inr c => x.2.ringComplete p (if c = 0x0709 then 2 else 6) 0
    | .inl a =>
      let v := if op = 1 then x.2.tableRead src size else (0, [], x.2)
      let w : Work := match op with
        | 1 => .put (le l 1 1) (wide32 d.bf16 v.2.1) (le l 24 4)
        | 2 => .remove
        | 3 => .retier (le l 1 1)
        | 4 => .replicate
        | _ => .unreplicate
      let f := newFlip (engineAt a) table row (s.tableImage table) (s.ruleImage d.rule) (.ring p) w a
      if v.1 ≠ 0 then (v.2.2.rowLog f v.1).ringComplete p 6 0 else v.2.2.flipBegin f

/-- The next ring position to take, past those that are complete already. -/
def ringSkip : Nat → State → State
  | 0, s => s
  | n + 1, s =>
    if s.egs.ringWork.any (fun x => x.position == s.egs.ringNext) then
      ringSkip n { s with egs := { s.egs with ringNext := (s.egs.ringNext + 1) % 2 ^ 32 } }
    else s

/-- The next entry of the ring is taken where its OP is the one asked for (R575): at most 16 are in progress, and it waits for
every earlier one of its row. -/
def ringTake (s0 : State) (want : Nat → Bool) : State :=
  let s := ringSkip 17 s0
  let p := s.egs.ringNext
  let l := s.hbmBytes (s.ringAt p) 64
  let busy := s.egs.ringWork.filter (fun x => !x.complete)
  let table := le l 4 2 % 4096
  let row := le l 8 4
  if s.num Obj.UPD_RING_ENTRIES ≠ 0 ∧ p ≠ s.egs.ringTail ∧ busy.length < 16 ∧ want (le l 0 1) = true ∧
      !busy.any (fun x => x.table == table && x.row == row) then
    let r := s.tableRead (s.ringAt p) 64
    let x : RingEntry := { position := p, table := table, row := row, complete := false }
    let s1 := { r.2.2 with egs := { r.2.2.egs with
      ringNext := (p + 1) % 2 ^ 32
      ringWork := r.2.2.egs.ringWork ++ [x] } }
    if r.1 ≠ 0 then s1.ringComplete p 6 0 else s1.ringBegin p l
  else s0

end State

end Sys2Proof.Machine
end

