-- ==== Sys2Proof/Machine/Ready.lean ====
section
/-!
DEFINITION. The ready list: dispatch, relays, the END op, completion and tokens, and the arrival of what a firing waits for
(spec/04: R149 to R168, R178 to R187; spec/03: R113 to R118, R128, R129; spec/05: R210 to R219, Table 5-9; spec/11: R450,
R475, R476, R478).
-/

namespace Sys2Proof.Machine

namespace State

/-- The job's ops may act: a job with a bundle runs and its books are open. -/
def wallRuns (s : State) : Bool :=
  !s.wall.closed && s.schedState == 3 && (match s.sched.run with
    | some r => r.job.maint.isNone
    | none => false)

/-- A physical brick of the logical wall. -/
def onWall (s : State) (brick : Nat) : Bool := s.inService (brick / 64)

/-- An output pool has a FREE handle: the lowest-numbered one (R113, R114). -/
def freeHandle (s : State) (brick pool : Nat) : Option Nat :=
  let ps := s.poolsOf brick
  let first := poolFirst ps pool
  ((List.range (ps.getD pool { base := 0, size := 0, count := 0 }).count).map (fun i => first + i)).find? (fun h =>
    !(s.handleAt (brick * 512 + h)).held)

/-- A slot is eligible in a bc (R157). One that the preload left ready may dispatch in bc 0, as the worked case of spec/04 has it
(DEDUCED, log entry 159). -/
def eligible (s : State) (brick bc : Nat) (slot : Nat) : Bool :=
  let x := s.slotAt (brick * 256 + slot)
  let e := s.opEntry brick slot
  let b := s.brickAt brick
  (match x.ready with
    | some r => decide (r < bc) || r == 0
    | none => false) && !x.executing && decide (x.busyTo ≤ bc) && decide (0 < x.firingsLeft) &&
    (e.kind != 0 || (b.firing.isNone && decide (b.freeAt ≤ bc) && (!e.outPoolEn || (s.freeHandle brick e.outPool).isSome)))

/-- The slots of a brick that hold state, rising. -/
def slotsOf (s : State) (brick : Nat) : List Nat :=
  (s.wall.slots.filter (fun p => p.1 / 256 == brick)).map (fun p => p.1 % 256)

/-- The slot that a brick dispatches in a bc (R158). -/
def dispatchChoice (s : State) (brick bc : Nat) : Option Nat :=
  (sortBy (fun n => [(s.opEntry brick n).priority, (s.slotAt (brick * 256 + n)).ready.getD 0, n])
    ((s.slotsOf brick).filter (s.eligible brick bc))).head?

/-- The events of the wall have come to a bc: time does not run back, and no same-brick token due earlier waits (R168, R180). -/
def bcOpen (s : State) (bc : Nat) : Bool :=
  decide (s.wall.bc ≤ bc) && !s.mortar.flight.any (fun m => m.cls == .tok && m.src == m.dst && decide (m.due < bc))

/-- The dispatch throttle lets a brick dispatch in a bc: bc are numbered from the cold reset (R923; log entry 104). -/
def bcActive (s : State) (bc : Nat) : Bool :=
  let n := s.wall.base + bc
  let r := s.num Obj.DISPATCH_LEVEL
  decide (n * r / 64 < (n + 1) * r / 64)

/-- A brick may dispatch in a bc in which it has neither dispatched nor applied a token (R158, R165, R182, R186, R923). -/
def mayDispatch (s : State) (brick bc : Nat) : Bool :=
  let b := s.brickAt brick
  s.wallRuns && !s.wall.ended && s.onWall brick && s.bcOpen bc && s.bcActive bc && b.lastDispatch != some bc &&
    (b.tokenBc != bc || b.tokens == 0)

/-- The step of R155 with the capture of R163: FIRINGS_LEFT falls, COUNTER takes RELOAD less EARLY, inputs are captured. -/
def dispatched (x : Slot) (e : OpEntry) (executing : Bool) : Slot :=
  let cap := fun (r : InReg) => if r.status = .pending then { r with status := .captured } else r
  let left := x.firingsLeft - 1
  { x with firingsLeft := left, counter := if 0 < left then e.reload - x.early else x.counter,
           early := if 0 < left then 0 else x.early, ready := none, in0 := cap x.in0, in1 := cap x.in1,
           executing := executing, fired := x.fired + 1 }

/-- The bc of an event on a brick. -/
def atBc (s : State) (bc : Nat) : State := { s with wall := { s.wall with bc := bc } }

/-- What a dispatch does to its slot; EARLY beyond RELOAD faults the op (Table 4-9). -/
def dispatchSlot (s : State) (brick bc slot : Nat) (executing : Bool) : State :=
  let k := brick * 256 + slot
  let x := s.slotAt k
  let e := s.opEntry brick slot
  let s1 := (s.atBc bc).setSlot k (dispatched x e executing)
  let s2 := s1.setBrick brick { s1.brickAt brick with lastDispatch := some bc }
  if e.reload < x.early then s2.siteFault 0x0130 0 brick slot 0 0 else s2

/-- A parity error in a slot's state faults the job (R187). -/
def slotParity (s : State) (brick slot : Nat) : State :=
  let k := brick * 256 + slot
  (s.setSlot k { s.slotAt k with parityBad := false }).siteFault 0x0132 0 brick slot 0 0

/-- The output handle of a dispatch, acquired (R113, R162): its value, and the state after. -/
def acquire (s : State) (brick slot : Nat) (e : OpEntry) : Option Nat × State :=
  if !e.outPoolEn then (none, s)
  else match s.freeHandle brick e.outPool with
    | none => (none, s)
    | some h =>
      let k := brick * 512 + h
      let x := s.handleAt k
      (some (x.gen * 1024 + h), s.setHandle k { x with held := true, owner := slot })

/-- A TEMPLATE op dispatches (R152, R155, R160, R162). -/
def dispatchTemplate (s : State) (brick bc slot : Nat) : State :=
  let e := s.opEntry brick slot
  let n := (s.slotAt (brick * 256 + slot)).fired
  let s1 := s.dispatchSlot brick bc slot true
  let x := s1.slotAt (brick * 256 + slot)
  let h := s1.acquire brick slot e
  let f : Firing := { slot := slot, firing := n, at_ := bc, posts := false, in0 := x.in0, in1 := x.in1, outHandle := h.1, segs := [], phase := .gather,
                      fill := 0, elems := [], faulted := false }
  (h.2.setFiring brick f).startFiring brick f

/-- The slot becomes ready again after its firing when its COUNTER stands at 0 (R156). -/
def rearm (s : State) (k bc : Nat) : State :=
  let x := s.slotAt k
  s.setSlot k { x with executing := false, ready := if x.ready.isNone ∧ x.counter = 0 ∧ 0 < x.firingsLeft then some (bc + 1) else x.ready }

/-- A RELAY dispatched in a bc executes through the next one, in which it completes (R156, R161). -/
def relayOver (s : State) (k bc : Nat) : State :=
  let s1 := s.rearm k (bc + 1)
  s1.setSlot k { s1.slotAt k with busyTo := bc + 2 }

/-- A dispatch of the chosen slot when it is of a kind; a slot whose parity or configuration words are wrong faults instead. -/
def dispatchKind (s : State) (brick bc kind : Nat) (t : State → Nat → State) : State :=
  match s.dispatchChoice brick bc with
  | none => s
  | some slot =>
    if !s.mayDispatch brick bc || (s.opEntry brick slot).kind != kind then s
    else if (s.slotAt (brick * 256 + slot)).parityBad then (s.atBc bc).slotParity brick slot
    else
      let c := s.configTouch brick slot
      if c.1 then (c.2.atBc bc).siteFault 0x0123 0 brick slot 0 0 else t c.2 slot

end State

/-- A physical brick number. -/
def brickOk (b : Nat) : Bool := decide (b < 68 * 64)

/-- OP_DISPATCH (R152, R155, R157 to R160, R162, R163): a brick dispatches its chosen TEMPLATE op in a bc. -/
def execOpDispatch (bc brick : Nat) (s : State) : Host.Outcome State Fault Refusal :=
  act (brickOk brick) (s.live true (s.dispatchKind brick bc 0 (fun t n => t.dispatchTemplate brick bc n)))

/-- RELAY (R155, R156, R158, R161): a RELAY op dispatches, sends its tokens in the next bc and completes there. A same-brick COUNTER
changes in the bc after that: Table 4-2 says only when the tokens are sent (DESIGN CHOICE, log entry 160). -/
def execRelay (bc brick : Nat) (s : State) : Host.Outcome State Fault Refusal :=
  act (brickOk brick) (s.live true (s.dispatchKind brick bc 1 (fun t n =>
    let s1 := t.dispatchSlot brick bc n false
    (s1.relayOver (brick * 256 + n) bc).sendTokens brick (s.opEntry brick n) 0 0 (bc + 2))))

/-- END (R158, R165, R185): the END op dispatches, and no brick dispatches any further op. -/
def execEndOp (bc brick : Nat) (s : State) : Host.Outcome State Fault Refusal :=
  act (brickOk brick) (s.live true (s.dispatchKind brick bc 2 (fun t n =>
    let s1 := t.dispatchSlot brick bc n false
    { s1 with wall := { s1.wall with ended := true } })))

namespace State

/-- DETAIL0 of a free (Table 17-4): the value presented, the current generation, HELD and the owner. -/
def handleDetail (x : Handle) (v : Nat) : Nat :=
  v + x.gen * 2 ^ 16 + (if x.held then 2 ^ 22 + x.owner * 2 ^ 24 else 0)

/-- A free of the handle captured in a register, judged (R116 to R118, R164, Table 4-9): whether it faulted. -/
def freeOne (s : State) (brick slot : Nat) (r : InReg) : Bool × State :=
  let k := brick * 512 + r.handle % 512
  let x := s.handleAt k
  if r.status = .none then (true, s.siteFault 0x0305 0 brick slot 0 0)
  else if !x.held || x.gen != r.handle / 1024 then (true, s.siteFault 0x0302 0 brick slot (handleDetail x r.handle) 0)
  else if x.owner ≠ slot then (true, s.siteFault 0x0303 0 brick slot (handleDetail x r.handle) 0)
  else (false, s.setHandle k { x with held := false, gen := (x.gen + 1) % 64 })

/-- The owner tag of the output handle moves to the successor that takes it (R115, R118). -/
def transferOut (s : State) (brick slot : Nat) (e : OpEntry) (h : Option Nat) : Bool × State :=
  match h, e.succs.find? (fun x => x.handleIn != 0) with
  | some v, some x =>
    let k := brick * 512 + v % 512
    let y := s.handleAt k
    if y.held && y.gen == v / 1024 then
      (if y.owner = slot then (false, s.setHandle k { y with owner := x.slot })
       else (true, s.siteFault 0x0303 0 brick slot (handleDetail y v) 0))
    else (false, s)
  | _, _ => (false, s)

/-- A firing completes: frees, the transfer, the tokens; an op that has faulted sends no token and makes no transfer (R149,
R151, R162, R164, R767). -/
def completeFiring (s : State) (brick bc : Nat) (f : Firing) : State :=
  let e := s.opEntry brick f.slot
  let a := if e.freeIn0 then s.freeOne brick f.slot f.in0 else (false, s)
  let b := if e.freeIn1 then a.2.freeOne brick f.slot f.in1 else (false, a.2)
  let c := if f.faulted || a.1 || b.1 then (true, b.2) else b.2.transferOut brick f.slot e f.outHandle
  let s1 := if c.1 then c.2 else c.2.sendTokens brick e (f.outHandle.getD 0) f.fill (bc + 2)
  let s2 := (s1.atBc bc).rearm (brick * 256 + f.slot) bc
  let b := s2.brickAt brick
  s2.setBrick brick { b with
    firing := none, freeAt := bc + 1, posted := b.posted ++ (f.segs.filter (fun g => !g.done)).map (fun g => (f.slot, g)) }

end State

/-- FIRING_COMPLETE (R114 to R118, R128, R149 to R151, R156, R160, R162, R164, R168, R184). -/
def execFiringComplete (bc brick : Nat) (s : State) : Host.Outcome State Fault Refusal :=
  match (s.brickAt brick).firing with
  | none => act (brickOk brick) s
  | some f =>
    .next (s.live (s.wallRuns && s.bcOpen bc && decide (f.at_ < bc) && f.phase == .finished && (f.posts || f.segs.all Segment.done))
      (s.completeFiring brick bc f))

namespace State

/-- A delivery to an input register (R163, Table 4-9): whether it faulted. -/
def deliverReg (r : InReg) (handle fill : Nat) : Option InReg :=
  if r.status = .pending then none else some { status := .pending, handle := handle, fill := fill }

/-- A token reaches a slot (R153, R154, R178, R181, R187). -/
def applyToken (s : State) (brick bc slot handleIn handle fill : Nat) : State :=
  let k := brick * 256 + slot
  let x := s.slotAt k
  if x.parityBad then s.slotParity brick slot
  else if x.firingsLeft = 0 then s.siteFault 0x0130 0 brick slot 0 0
  else
    let y : Slot := if 0 < x.counter then
        { x with counter := x.counter - 1, ready := if x.counter = 1 then some bc else x.ready }
      else { x with early := x.early + 1 }
    let early := x.counter = 0 ∧ 255 ≤ x.early
    let s1 := if early then s.siteFault 0x0130 0 brick slot 0 0 else s.setSlot k y
    let z := s1.slotAt k
    match handleIn with
    | 1 => match deliverReg z.in0 handle fill with
      | some r => s1.setSlot k { z with in0 := r }
      | none => s1.siteFault 0x0306 0 brick slot (handleDetail (s.handleAt (brick * 512 + handle % 512)) handle) 0
    | 2 => match deliverReg z.in1 handle fill with
      | some r => s1.setSlot k { z with in1 := r }
      | none => s1.siteFault 0x0306 0 brick slot (handleDetail (s.handleAt (brick * 512 + handle % 512)) handle) 0
    | _ => s1

/-- A brick may apply a token in a bc: its bc has come, at most four have been applied, and same-brick tokens go first
(R180, Table 4-2). -/
def mayApply (s : State) (brick bc : Nat) (m : Msg) : Bool :=
  let b := s.brickAt brick
  s.wallRuns && s.bcOpen bc && decide (m.due ≤ bc) && (b.tokenBc != bc || decide (b.tokens < 4)) &&
    (m.src == .brick brick || !s.mortar.flight.any (fun x =>
      x.cls == .tok && x.src == .brick brick && x.dst == .brick brick && decide (x.due ≤ bc)))

end State

/-- TOKEN (R153, R154, R163, R178, R180 to R183, R186, Table 5-9): a token is applied to its slot in a bc. -/
def execToken (bc : Nat) (m : Msg) (s : State) : Host.Outcome State Fault Refusal :=
  match m.dst, m.body with
  | .brick b, .token slot handleIn handle fill =>
    .next (s.live (s.mayApply b bc m) (s.arrive m (fun t bad =>
      let x := t.brickAt b
      let t1 := (t.atBc bc).setBrick b { x with tokenBc := bc, tokens := if x.tokenBc = bc then x.tokens + 1 else 1 }
      if bad then t1.siteFault 0x0231 1 b slot 0 0 else t1.applyToken b bc slot handleIn handle fill)))
  | _, _ => act false s

/-! ### What a firing waits for arrives -/

/-- READ_DATA (R99, R214, R219, Table 5-9). -/
def execReadData (m : Msg) (s : State) : Host.Outcome State Fault Refusal :=
  match m.dst, m.body with
  | .brick b, .readData l =>
    .next (s.live true (s.arrive m (fun t bad => t.answered b m.tag l (if bad then 0x0230 else 0) false)))
  | _, _ => act false s

/-- The code of a STATUS that a far brick answers (Table 5-4, R135, Table 5-9); the reserved ones are header errors (R229). -/
def brickStatus (st : Nat) : Nat := if st = 0 then 0 else if st = 1 then 0x0220 else 0x0230

/-- WRITE_ACCEPTED (R149, R151, R214). -/
def execWriteAccepted (m : Msg) (s : State) : Host.Outcome State Fault Refusal :=
  match m.dst, m.body with
  | .brick b, .writeAccepted st =>
    .next (s.live true (s.arrive m (fun t bad => t.answered b m.tag [] (if bad then 0x0230 else brickStatus st) false)))
  | _, _ => act false s

/-- READ_FAILED (R135, R214, Table 5-9): the op faults; an engine's list read ends its command (log entry 34). -/
def execReadFailed (m : Msg) (s : State) : Host.Outcome State Fault Refusal :=
  match m.dst, m.body with
  | .egs e, .readFailed st =>
    (match m.src with
      | .brick b => .next (s.live true (s.arrive m (fun t bad => t.listFailed e b m.tag (if bad then 0x0230 else brickStatus st))))
      | _ => act false s)
  | .brick b, .readFailed st =>
    .next (s.live true (s.arrive m (fun t bad => t.answered b m.tag [] (if bad then 0x0230 else brickStatus st) false)))
  | _, _ => act false s

/-- The code of a STATUS that a controller answers (Table 11-4, R468, R475, R476, R478). -/
def hbmStatus (st : Nat) (write : Bool) : Nat :=
  if st = 0 then 0 else if st = 1 then (if write then 0x0241 else 0x0240) else if st = 2 then 0x0204 else 0x0203

/-- HBM_READ_DATA (R450, R453). -/
def execHbmReadData (m : Msg) (s : State) : Host.Outcome State Fault Refusal :=
  match m.dst, m.body with
  | .brick b, .hbmReadData l =>
    .next (s.live true (s.arrive m (fun t bad => t.answered b m.tag l (if bad then 0x0230 else 0) true)))
  | _, _ => act false s

/-- HBM_WRITE_ACCEPTED (R450, R454, R476). -/
def execHbmWriteAccepted (m : Msg) (s : State) : Host.Outcome State Fault Refusal :=
  match m.dst, m.body with
  | .brick b, .hbmWriteAccepted st =>
    .next (s.live true (s.arrive m (fun t bad =>
      t.answered b m.tag [] (if bad then 0x0230 else hbmStatus st true) true)))
  | _, _ => act false s

/-- HBM_READ_FAILED (R450, R475, R478): the op faults. -/
def execHbmReadFailed (m : Msg) (s : State) : Host.Outcome State Fault Refusal :=
  match m.dst, m.body with
  | .brick b, .hbmReadFailed st =>
    .next (s.live true (s.arrive m (fun t bad =>
      t.answered b m.tag [] (if bad then 0x0230 else hbmStatus st false) true)))
  | _, _ => act false s

end Sys2Proof.Machine
end

