-- ==== Sys2Proof/Machine/Sel.lean ====
section
/-!
DEFINITION. The selection units: the command block and its checks, rank order, the lists of select, unique and segmented
reduction, carried thresholds, results and done (spec/07: R292 to R333).
-/

namespace Sys2Proof.Machine

/-- A command block of a selection (Tables 7-3 and 7-4). -/
structure SelCmd where
  mode : Nat
  order : Nat
  format : Nat
  segOp : Nat
  unit : Nat
  n : Nat
  k : Nat
  rows : Nat
  outValue : Nat
  outIndex : Nat
  outAux : Nat
  outSummary : Nat
  stride : Nat
  mask : Nat
  carryDone : Bool
  taken : Nat
  thrIndex : Nat
  thrValue : Nat
deriving DecidableEq, Repr

def parseSel (l : List Byte) : SelCmd :=
  { mode := le l 0 1 % 4, order := bits (le l 0 1) 2 2, format := le l 1 1 % 16, segOp := le l 2 1, unit := le l 3 1,
    n := le l 4 4, k := le l 8 4, rows := le l 12 2, outValue := le l 16 4, outIndex := le l 20 4, outAux := le l 24 4,
    outSummary := le l 28 4, stride := le l 32 4, mask := le l 36 1, carryDone := bit (le l 48 4) 31,
    taken := le l 48 4 % 2 ^ 25, thrIndex := le l 52 4, thrValue := le l 56 8 }

namespace SelCmd

def seg (c : SelCmd) : Bool := c.mode == 2
/-- K_eff and the list capacity c (R292); a K above N acts as K = N (Table 7-8); in SEG_REDUCE a row has at most N runs. -/
def kEff (c : SelCmd) : Nat := if c.k = 0 then c.n else min c.k c.n
def cap (c : SelCmd) : Nat := if c.seg then c.n else min (c.kEff - c.taken) 512
/-- Rows taken in parallel: P (R292); a capacity of 0, which leaves P open, is taken as one lane (log entry 29). -/
def par (c : SelCmd) : Nat := if c.seg then 16 else 16 / max 1 ((c.cap + 31) / 32)

/-- Row and element of a stream position (R304). -/
def place (c : SelCmd) (p : Nat) : Nat × Nat :=
  let g := p / (c.n * c.par)
  let q := p % (c.n * c.par)
  let w := min c.par (c.rows - g * c.par)
  (g * c.par + q % w, q / w)

/-- The arrays named in OUT_MASK: offset, entry size and what an entry gives. -/
def arrays (c : SelCmd) (w : Nat) : List (Nat × Nat × (SelEntry → Nat)) :=
  (if bit c.mask 0 then [(c.outValue, w, SelEntry.value)] else []) ++
    (if bit c.mask 1 then [(c.outIndex, 4, SelEntry.index)] else []) ++
    (if bit c.mask 2 then [(c.outAux, 4, SelEntry.count)] else [])

end SelCmd

/-- Check 1 of Table 7-7: no reserved encoding of Tables 7-3 and 7-4, N above 2^24 apart, and FORMAT by R307. -/
def selFormOk (fmt : Nat → Fmt) (l : List Byte) : Bool :=
  let c := parseSel l
  let w := (fmt c.format).width
  let off := fun (i v : Nat) => bit c.mask i || v == 0
  decide (c.mode ≤ 2) && decide (le l 0 1 < 8) && decide (le l 1 1 < 16) && (!c.seg || c.order == 0) &&
    (if c.seg then decide (c.segOp ≤ 3) else c.segOp == 0) && decide (c.unit < 64) && c.n != 0 && decide (c.k ≤ 2 ^ 24) &&
    (!c.seg || c.k == 0) && decide (1 ≤ c.rows) && decide (c.rows ≤ 4096) && le l 14 2 == 0 && decide (c.outValue < 2 ^ 18) && off 0 c.outValue &&
    off 1 c.outIndex && off 2 c.outAux && off 3 c.outSummary && decide (c.stride < 2 ^ 18) && decide (c.mask < 16) &&
    (c.mode != 0 || !bit c.mask 2) && decide (le l 37 1 ≤ 1) && decide (le l 39 1 < 64) && zeroAt l 41 7 &&
    bits (le l 48 4) 30 25 == 0 && (!c.seg || zeroAt l 48 16) &&
    (w == 8 || w == 16 || w == 32 || (w == 64 && !c.seg))

/-- Extents of the outputs end inside brick SRAM (Table 7-7, order 5). -/
def selExtentOk (c : SelCmd) (w : Nat) : Bool :=
  (c.arrays w).all (fun a => decide (a.1 + (c.rows - 1) * c.stride + c.cap * a.2.1 ≤ 2 ^ 18)) &&
    (!bit c.mask 3 || decide (c.outSummary + 16 * c.rows ≤ 2 ^ 18))

/-- NaN, as rank order has it. -/
def isNaN (f : Fmt) (v : Nat) : Bool := decodeNum f v == .nan

/-- (v, i) ranks ahead of (u, j) (R294). -/
def ranksAhead (f : Fmt) (order v i u j : Nat) : Bool :=
  let x := decodeNum f v
  let y := decodeNum f u
  if isNaN f v != isNaN f u then isNaN f u
  else if isNaN f v then decide (i < j)
  else if Num.lt true x y then order == 1
  else if Num.lt true y x then order == 0
  else decide (i < j)

/-- Two values are equal for UNIQUE (R295). -/
def sameValue (f : Fmt) (v u : Nat) : Bool :=
  if isNaN f v || isNaN f u then isNaN f v && isNaN f u
  else !Num.lt true (decodeNum f v) (decodeNum f u) && !Num.lt true (decodeNum f u) (decodeNum f v)

/-- An entry put into a list in rank order; the entry that falls off the end of `cap` places is dropped (R293). -/
def rankInsert (f : Fmt) (order cap : Nat) (e : SelEntry) (l : List SelEntry) : List SelEntry :=
  let ahead := fun (x : SelEntry) => !ranksAhead f order e.value e.index x.value x.index
  ((l.takeWhile ahead) ++ e :: (l.dropWhile ahead)).take cap

/-- The element ranks after the carried entry, or no entry is carried (R310). -/
def afterCarry (f : Fmt) (c : SelCmd) (v i : Nat) : Bool :=
  c.taken == 0 ||
    (if c.mode = 1 then !sameValue f c.thrValue v && ranksAhead f c.order c.thrValue 0 v 1
     else ranksAhead f c.order c.thrValue c.thrIndex v i)

/-- The last entry of a SEG_REDUCE list takes an element of its run (R296). COUNT gives the number of valid values in
FORMAT (log entry 30). -/
def segStep (f : Fmt) (op : Nat) (e : SelEntry) (x : Elem) : SelEntry :=
  if !x.1 then e
  else
    let v := x.2 % 2 ^ f.width
    let n := e.count + 1
    let op' := if op = 1 then 4 else if op = 2 then 5 else 0
    { e with
      count := n
      value := if op = 3 then (convertNum f .nearest false (Num.ofInt n 0)).bits
        else if e.count = 0 then v else (arithElem f op' e.value v 0).bits }

/-- A row's list after one more element, at `i` in its row. -/
def selStep (f : Fmt) (c : SelCmd) (l : List SelEntry) (i : Nat) (x : Elem) : List SelEntry :=
  if c.carryDone then l
  else if c.seg then
    let key := x.2 % 2 ^ 32
    let y : Elem := (x.1, x.2 / 2 ^ 32)
    match l.getLast? with
    | some e => if e.index = key then l.dropLast ++ [segStep f c.segOp e y]
        else l ++ [segStep f c.segOp { value := 0, index := key, count := 0 } y]
    | none => [segStep f c.segOp { value := 0, index := key, count := 0 } y]
  else
    let v := x.2 % 2 ^ f.width
    if !x.1 || !afterCarry f c v i then l
    else if c.mode = 1 ∧ l.any (fun e => sameValue f e.value v) then
      l.map (fun e => if sameValue f e.value v then { e with count := e.count + 1 } else e)
    else rankInsert f c.order c.cap { value := v, index := i, count := 1 } l

/-- Summary record of a row (R309, R311, R312). -/
def selSummary (c : SelCmd) (l : List SelEntry) : List Byte :=
  let taken := c.taken + l.length
  let last := match l.getLast? with
    | some e => (e.index, e.value)
    | none => (c.thrIndex, c.thrValue)
  let done := c.carryDone || taken == c.kEff || decide (l.length < c.cap)
  if c.carryDone then leBytes 4 (c.taken + 2 ^ 31) ++ leBytes 4 c.thrIndex ++ leBytes 8 c.thrValue
  else leBytes 4 (taken + 2 ^ 31 * b2n done) ++ leBytes 4 (if taken = 0 then 0 else last.1) ++
    leBytes 8 (if taken = 0 then 0 else last.2)

/-- A run of output octets as result writes of at most 56 octets (R314). -/
def resultWrites (off : Nat) (l : List Byte) : List (Nat × List Byte) :=
  (numbered 0 (chunked l.length 56 l)).map (fun p => (off + 56 * p.1, p.2))

/-- Every result write of a command, in order (R314). -/
def selWrites (c : SelCmd) (w : Nat) (rows : Store (List SelEntry)) : List (Nat × List Byte) :=
  let list := fun r => Store.get (fun _ => ([] : List SelEntry)) rows r
  (List.range c.rows).flatMap (fun r => (c.arrays w).flatMap (fun a =>
    resultWrites (a.1 + r * c.stride) ((list r).flatMap (fun e => leBytes a.2.1 (a.2.2 e))))) ++
    (if bit c.mask 3 then resultWrites c.outSummary ((List.range c.rows).flatMap (fun r => selSummary c (list r))) else [])

namespace State

/-- The command checks of Table 7-7 in order: the first failing code, or 0 (R320), with the state after the read of the format
descriptor; a word of it that cannot be corrected gives 0142h (R288, R289). -/
def selCode (s : State) (block : List Byte) : Nat × State :=
  let c := parseSel block
  let r := s.tabReads (formatWords c.format)
  let w := (s.fmtOf c.format).width / 8
  (if r.1 then 0x0142
    else if !selFormOk s.fmtOf block then 0x0502
    else if s.logicalCourses ≤ c.unit then 0x0506
    else if 2 ^ 24 < c.n then 0x0501
    else if 512 < c.kEff ∧ 1 < c.rows then 0x0503
    else if !selExtentOk c w then 0x0505
    else 0, r.2)

/-- A unit ends a command: done goes to the sending brick, counted (R315, R320, R321, R328; Table 7-10). -/
def selEnd (s : State) (course brick code : Nat) : State :=
  let s1 := s.send .rsp (.unit course) (.brick brick) 0x40 (.selDone code)
  let s2 := { s1 with sel := { s1.sel with run := s1.sel.run.filter (fun p => p.1 != course) } }
  if code = 0 then s2.inc64 Obj.SEL_COMMANDS 1
  else (((s2.inc32 Obj.SEL_REFUSED 1).setNum Obj.LAST_FAULT_CODE code).setNum Obj.LAST_FAULT_COURSE
    (if code = 0x0506 then 255 else course)).setSticky Obj.SEL_STICKY 2

/-- The command at the head of a physical unit's queue. -/
def selHead (s : State) (course : Nat) : Option HubCmd :=
  (s.sel.queue.find? (fun p => p.1 == course)).map Prod.snd

/-- A command taken from a unit's queue is checked and granted or refused (R300, R301, R320, R331). -/
def selStart (s : State) (course : Nat) (c : HubCmd) : State :=
  let r := s.selCode c.block
  if r.1 ≠ 0 then r.2.selEnd course c.brick r.1
  else
    let s2 := r.2.send .rsp (.unit course) (.brick c.brick) 0x40 (.selGrant (parseSel c.block).unit)
    let s3 := if (parseSel c.block).taken = 0 then s2 else s2.inc64 Obj.SEL_CARRIED 1
    { s3 with sel := { s3.sel with
      run := s3.sel.run ++ [(course, { brick := c.brick, parity := c.parity, block := c.block, taken := 0, rows := [] })] } }

/-- A unit that is idle takes the head of its queue where its MODE is one of a set; what upsets did to the command's flit on its
way to the hub shows here, an uncorrectable payload as done with 0230h (R236 to R239, Table 5-9; log entry 166). -/
def selTake (s : State) (course : Nat) (modes : List Nat) (upset : Upset) : State :=
  match s.selHead course with
  | none => s
  | some c =>
    let s1 := { s with sel := { s.sel with queue := s.sel.queue.erase (course, c) } }
    s.live (!s.wall.closed && !(s.sel.run.any (fun p => p.1 == course)) && modes.contains (parseSel c.block).mode)
      (s1.landed (c.message (.unit course) upset) (fun t bad =>
        if bad then t.send .rsp (.unit course) (.brick c.brick) c.tag (.selDone 0x0230) else t.selStart course c))

end State

/-- A physical course number. -/
def courseOk (c : Nat) : Bool := decide (c < 68)

/-- SELECT (R292 to R294, R299 to R304, R306, R307, R310, R313, R320): the unit of a physical course starts the select at the
head of its queue; a command of reserved MODE is refused here. -/
def execSelect (course : Nat) (s : State) (upset : Upset := {}) : Host.Outcome State Fault Refusal :=
  act (courseOk course) (s.selTake course [0, 3] upset)

/-- UNIQUE (R292 to R295, R299 to R304, R306, R307, R310, R313, R320). -/
def execUnique (course : Nat) (s : State) (upset : Upset := {}) : Host.Outcome State Fault Refusal :=
  act (courseOk course) (s.selTake course [1] upset)

/-- SEG_REDUCE (R292, R296, R299 to R304, R306, R307, R320). -/
def execSegReduce (course : Nat) (s : State) (upset : Upset := {}) : Host.Outcome State Fault Refusal :=
  act (courseOk course) (s.selTake course [2] upset)

namespace State

/-- The elements of a SEND cut into data messages, the last of them a last-data message (R297, R302, R343). -/
def dataFlits (per : Nat) (l : List Elem) : List (List Elem × Bool) :=
  let c := if l.isEmpty then [[]] else chunked l.length per l
  (numbered 1 c).map (fun p => (p.2, p.1 == c.length))

/-- A grant lets a brick send the elements it holds; its firing has then delivered everything (R150, R301, R348). -/
def granted (s : State) (brick : Nat) (dst : Node) (tag per : Nat) (size : Nat) (sel : Bool) : State :=
  match (s.brickAt brick).firing with
  | none => s
  | some f =>
    if f.phase ≠ .waitGrant then s
    else
      let flits := dataFlits per (f.elems.map (fun x => (x.1, x.2 % 2 ^ (8 * size))))
      let s1 := flits.foldl (fun t x =>
        t.send .req (.brick brick) dst tag (if sel then .selData x.1 x.2 else .csaData x.1 x.2)) s
      s1.setFiring brick { f with phase := .finished, elems := [] }

/-- The command block that a brick's outstanding command was sent with. -/
def runBlock (s : State) (course : Nat) : List Byte :=
  match s.sel.run.find? (fun p => p.1 == course) with
  | some p => p.2.block
  | none => []

/-- A fault of an uncorrectable payload at a command of a brick (Table 5-9). -/
def commandPayload (s : State) (brick tag : Nat) : State :=
  match (s.brickAt brick).out.find? (fun o => o.tag == tag) with
  | some o => s.siteFault 0x0230 1 brick o.slot 0 0
  | none => s

end State

/-- SEL_GRANT (R297, R301, R302): the brick sends its elements. -/
def execSelGrant (m : Msg) (s : State) : Host.Outcome State Fault Refusal :=
  match m.src, m.dst, m.body with
  | .unit c, .brick b, .selGrant _ =>
    .next (s.live true (s.arrive m (fun t bad =>
      if bad then t.commandPayload b 0x40
      else
        let q := parseSel (t.runBlock c)
        let w := if q.seg then 8 else (t.fmtOf q.format).width / 8
        t.granted b (.unit c) 0x40 (56 / w) w true)))
  | _, _, _ => act false s

namespace State

/-- The data messages of a brick to a unit that are still on their way are discarded (Table 7-8). -/
def dropData (s : State) (brick : Nat) (dst : Node) : State :=
  { s with mortar := { s.mortar with
    flight := s.mortar.flight.filter (fun x => !(x.cls == .req && x.src == .brick brick && x.dst == dst)) } }

/-- The upsets of a unit's list entries: each corrected, or the first that cannot be ending the command and its lists (R327 to R329). -/
def listUpsets (s : State) (course : Nat) : Bool × State :=
  let n := (s.sel.ce.filter (fun c => c / 512 == course)).length
  let s1 := if n = 0 then s else
      let u := (s.inc32 Obj.LIST_CORRECTED n).setSticky Obj.SEL_STICKY 0
      { u with sel := { u.sel with ce := u.sel.ce.filter (fun c => c / 512 != course) } }
  if s1.sel.ue.any (fun c => c / 512 == course) then
    let t := recent (s1.sel.ueTicks ++ [(course, s.now)]) s.now
    let u := (s1.inc32 Obj.LIST_UNCORRECTED 1).setSticky Obj.SEL_STICKY 1
    let fail := decide (3 ≤ (t.filter (fun p => p.1 == course)).length)
    let v := { u with sel := { u.sel with
      ue := u.sel.ue.filter (fun c => c / 512 != course), ueTicks := t,
      failed := if fail && !u.sel.failed.contains course then u.sel.failed ++ [course] else u.sel.failed } }
    (true, if fail then v.retirePending course else v)
  else (false, s1)

/-- A unit's run takes the elements of a data message (R293, R304). -/
def selElements (s : State) (r : SelRun) (l : List Elem) : SelRun :=
  let c := parseSel r.block
  let f := s.fmtOf c.format
  { r with
    taken := r.taken + l.length
    rows := (numbered r.taken l).foldl (fun rows x =>
      let p := c.place x.1
      Store.set (fun _ => ([] : List SelEntry)) rows p.1 (selStep f c (Store.get (fun _ => []) rows p.1) p.2 x.2)) r.rows }

/-- A data message reaches its unit; with the last one the results are written and done is sent (R297, R311, R314, R315, R321,
R328). -/
def selArrives (s : State) (course brick : Nat) (l : List Elem) (last : Bool) : State :=
  match s.sel.run.find? (fun p => p.1 == course && p.2.brick == brick) with
  | none => s
  | some (_, r) =>
    let c := parseSel r.block
    let total := c.n * c.rows
    if total < r.taken + l.length then
      ((s.inc64 Obj.SEL_ELEMENTS (total - r.taken)).dropData brick (.unit course)).selEnd course brick 0x0504
    else
      let r1 := s.selElements r l
      let s1 := s.inc64 Obj.SEL_ELEMENTS l.length
      let s2 := { s1 with sel := { s1.sel with run := s1.sel.run.map (fun (p : Nat × SelRun) => if p.1 == course then (p.1, r1) else p) } }
      let u := s2.listUpsets course
      if u.1 then (u.2.dropData brick (.unit course)).selEnd course brick 0x0507
      else if !last then u.2
      else if r1.taken ≠ total then u.2.selEnd course brick 0x0504
      else
        let w := (s.fmtOf c.format).width / 8
        let s3 := (selWrites c w r1.rows).foldl (fun (t : State) x =>
          t.send .rsp (.unit course) (.brick brick) 0x40 (.selResult x.1 x.2)) u.2
        s3.selEnd course brick 0

/-- A data message of a selection arrives where its mark `last` is the command's. -/
def selDataIn (s : State) (m : Msg) (want : Bool) : Host.Outcome State Fault Refusal :=
  match m.src, m.dst, m.body with
  | .brick b, .unit c, .selData l last =>
    act (last == want) (s.live true (s.arrive m (fun t bad =>
      if bad then t.commandPayload b 0x40 else t.selArrives c b l last)))
  | _, _, _ => act false s

end State

/-- SEL_DATA (R293 to R296, R304, R310, R321). -/
def execSelData (m : Msg) (s : State) : Host.Outcome State Fault Refusal := s.selDataIn m false

/-- SEL_LAST_DATA (R297, R309 to R312, R314, R315, R321). -/
def execSelLastData (m : Msg) (s : State) : Host.Outcome State Fault Refusal := s.selDataIn m true

namespace State

/-- A result write of an edge block reaches its brick: written to SRAM (R99, R314); an uncorrectable word that it would merge
with faults the job (R98, R135). -/
def resultIn (s : State) (brick tag off : Nat) (data : List Byte) : State :=
  let r := s.sramWrite brick off data
  match r.1, (s.brickAt brick).out.find? (fun o => o.tag == tag) with
  | some o, some x => r.2.siteFault 0x0220 0 brick x.slot o 0
  | _, _ => r.2

end State

/-- SEL_RESULT_WRITE (R314, R325). -/
def execSelResultWrite (m : Msg) (s : State) : Host.Outcome State Fault Refusal :=
  match m.dst, m.body with
  | .brick b, .selResult off data =>
    .next (s.live true (s.arrive m (fun t bad =>
      if bad then t.commandPayload b m.tag else t.resultIn b m.tag off data)))
  | _, _ => act false s

/-- SEL_DONE (R316, R317, R330). -/
def execSelDone (m : Msg) (s : State) : Host.Outcome State Fault Refusal :=
  match m.dst, m.body with
  | .brick b, .selDone code =>
    .next (s.live true (s.arrive m (fun t bad => t.doneAt b 0x40 (if bad then 0x0230 else code) 2)))
  | _, _ => act false s

end Sys2Proof.Machine
end

