-- ==== Sys2Proof/Machine/Csa.lean ====
section
/-!
DEFINITION. The content search array: entries and ranks, the command block and its checks, search, insert, delete, update,
read, bulk load, respace and clear, ownership and clearing, the shadow and the scrubber (spec/08: R334 to R391; spec/09: R392
to R404, R412 to R420).
-/

namespace Sys2Proof.Machine

/-! ### Entries -/

/-- Value and care mask of a unit of an entry; a hole's are 0 (R365). -/
def CsaEntry.unit (e : CsaEntry) (j : Nat) : Nat × Nat := e.units.getD j (0, 0)

/-- An entry with nothing in it is the empty entry. -/
def normEntry (e : CsaEntry) : CsaEntry :=
  if !e.valid && e.data == 0 && e.prio == 0 && e.units.all (fun u => u.1 == 0 && u.2 == 0) then {} else e

/-- A key of w units matches a valid entry (R334). -/
def csaMatches (key : List Nat) (e : CsaEntry) : Bool :=
  e.valid && (List.zipWith (fun (k : Nat) (u : Nat × Nat) => Nat.land (xorN k u.1) u.2 == 0) key e.units).all id

/-- Rank of an entry: the 1 bits of its care masks, or PRIORITY. -/
def csaRank (explicit : Bool) (e : CsaEntry) : Nat :=
  if explicit then e.prio else (e.units.map (fun u => popCount 64 u.2)).sum

/-- VALUE and CARE pairs of elements, each value kept inside its care mask (R335). -/
def csaPairs : List Nat → List (Nat × Nat)
  | v :: c :: r => (Nat.land v c, c) :: csaPairs r
  | _ => []

/-- Octets of an entry record (Table 8-4). -/
def csaRecord (w : Nat) (e : CsaEntry) : List Byte :=
  (List.range w).flatMap (fun j => leBytes 8 (e.unit j).1 ++ leBytes 8 (e.unit j).2) ++ leBytes 8 e.data ++
    leBytes 2 e.prio ++ leBytes 1 (b2n e.valid) ++ leBytes 5 0

/-- The lowest address at or above `x` that is not among taken ones; `fuel` exceeds their number. -/
def holeUp (taken : List Nat) : Nat → Nat → Nat
  | 0, x => x
  | n + 1, x => if taken.contains x then holeUp taken n (x + 1) else x

/-- The highest address below `x` that is not among taken ones. -/
def holeDown (taken : List Nat) : Nat → Option Nat
  | 0 => none
  | x + 1 => if taken.contains x then holeDown taken x else some x

/-- A CSA command block (Table 8-3). -/
structure CsaCmd where
  op : Nat
  bank : Nat
  form : Nat
  count : Nat
  start : Nat
  out : Nat
deriving DecidableEq, Repr

def parseCsa (l : List Byte) : CsaCmd :=
  { op := le l 0 1, bank := le l 1 1, form := le l 2 1, count := le l 4 4, start := le l 8 4, out := le l 12 4 }

/-- Elements of a key or record of an op (Table 8-5). -/
def csaPer (w op : Nat) : Nat :=
  match op with
  | 0 => w
  | 1 => 2 * w + 2
  | 2 => 2 * w
  | 3 => 2 * w + 1
  | 5 => 2 * w + 2
  | _ => 0

/-- Octets that an op writes per key, record or entry (R354, R361; spec/08: statuses). -/
def csaSize (w : Nat) (c : CsaCmd) : Nat :=
  match c.op with
  | 0 => if c.form = 0 then 16 else if c.form = 1 then 8 else 4
  | 1 => 4
  | 2 => 4
  | 3 => 4
  | 4 => 16 * w + 16
  | _ => 0

namespace State

/-- Valid entries of a bank with their addresses, rising. -/
def csaValid (s : State) (b : Nat) : List (Nat × CsaEntry) :=
  (s.csa.entries.filter (fun p => p.1 / 8192 == b && p.2.valid)).map (fun p => (p.1 % 8192, p.2))

/-- Load capacity (R362). -/
def csaCapacity (s : State) (b : Nat) : Nat := s.csaE b * (s.csaH b - 1) / s.csaH b

/-- Addresses of the shadow images of a unit and of an entry (Table 9-1). -/
def unitImageAt (b u : Nat) : Nat := 0x2FFC000000 + b * 0x40000 + u * 16
def metaImageAt (b i : Nat) : Nat := 0x2FFC020000 + b * 0x40000 + i * 16

/-- The shadow image of an entry written (R393, R396). -/
def putImage (s : State) (b i : Nat) (e : CsaEntry) : State :=
  let w := s.csaW b
  let x : CsaImage := { entry := e, epoch := (s.csaBank b).header.epoch }
  let s1 := { s with csa := { s.csa with images := Store.set (fun _ => ({} : CsaImage)) s.csa.images (b * 8192 + i) x } }
  (s1.shadowWords (unitImageAt b (i * w)) (16 * w)).shadowWords (metaImageAt b i) 16

/-- An entry of a bank written, with its shadow; the words `ws` of its DATA and PRIORITY become good (R335, R382, R393). -/
def putWords (s : State) (b i : Nat) (e : CsaEntry) (ws : List Nat) : State :=
  let x := normEntry e
  let s1 := { s with csa := { s.csa with entries := Store.set (fun _ => ({} : CsaEntry)) s.csa.entries (b * 8192 + i) x } }
  let k := s1.csaBank b
  (s1.setCsaBank b { k with ce := k.ce.filter (fun y => !ws.contains y), ue := k.ue.filter (fun y => !ws.contains y) }).putImage b i x

/-- The DATA and PRIORITY words of an entry. -/
def wordsOf (i : Nat) : List Nat := [2 * i, 2 * i + 1]

/-- An entry written whole. -/
def putEntry (s : State) (b i : Nat) (e : CsaEntry) : State := s.putWords b i e (wordsOf i)

/-- A DATA or PRIORITY word is read: a single-bit error is corrected, an uncorrectable one reported (R382, R383). -/
def readWord (s : State) (b w : Nat) : Bool × State :=
  let k := s.csaBank b
  let s1 := if k.ce.contains w then
      ((s.inc32 Obj.DATA_CORRECTED 1).setSticky Obj.CSA_STICKY 0).setCsaBank b { k with ce := k.ce.filter (fun y => y != w) }
    else s
  if k.ue.contains w then (true, (s1.inc32 Obj.DATA_UNCORRECTED 1).setSticky Obj.CSA_STICKY 1) else (false, s1)

/-- Words read in turn, up to the first that is uncorrectable. -/
def readAll (s : State) (b : Nat) : List Nat → Bool × State
  | [] => (false, s)
  | w :: r =>
    let x := s.readWord b w
    if x.1 then x else readAll x.2 b r

/-- A record applied with status DONE is counted (R339; Table 8-12). -/
def recordDone (s : State) (b : Nat) : State := (s.inc64 (Obj.RECORDS b) 1).genUp b

/-- The exact entry of a record's pairs: the lowest-addressed (R358, R360). -/
def csaExact (s : State) (b : Nat) (pairs : List (Nat × Nat)) : Option Nat :=
  ((s.csaValid b).find? (fun p => p.2.units == pairs)).map Prod.fst

/-- A status of INSERT, DELETE and UPDATE_DATA. -/
def csaStatus (st addr : Nat) : List Byte := leBytes 1 st ++ leBytes 1 0 ++ leBytes 2 (if st = 0 then addr else 0)

/-- Entries moved by a ripple-insert, each by one address, from the far end (R359). -/
def moveEntries (s : State) (b : Nat) (up : Bool) (l : List Nat) : State :=
  (if up then l.reverse else l).foldl (fun t i => t.putEntry b (if up then i + 1 else i - 1) (t.csaEntry b i)) s

/-- Where R359 places an entry of rank `r`: address, direction and the addresses that move; none when the bank has no hole. -/
def csaPlace (s : State) (b r : Nat) : Option (Nat × Bool × List Nat) :=
  let v := s.csaValid b
  let ex := s.csaExplicit b
  let taken := v.map Prod.fst
  let lo := match (v.filter (fun p => decide (r ≤ csaRank ex p.2))).getLast? with
    | some p => p.1 + 1
    | none => 0
  let hi := match v.find? (fun p => decide (csaRank ex p.2 < r)) with
    | some p => p.1
    | none => s.csaE b
  if lo < hi then some (lo, true, [])
  else
    let hu := holeUp taken (taken.length + 1) (hi + 1)
    let up := decide (hi < s.csaE b) && decide (hu < s.csaE b)
    let hd := holeDown taken (lo - 1)
    match hd with
    | none => if up then some (hi, true, (List.range (hu - hi)).map (fun n => hi + n)) else none
    | some d =>
      if up ∧ hu - hi ≤ lo - 1 - d then some (hi, true, (List.range (hu - hi)).map (fun n => hi + n))
      else some (lo - 1, false, (List.range (lo - 1 - d)).map (fun n => d + 1 + n))

/-! ### Records: fault code, result octets, OUTCOME and MOVES added, and the state after -/

/-- What one key or record comes to. -/
structure Applied where
  code : Nat
  res : List Byte
  outcome : Nat
  moves : Nat
  state : State

def applied (s : State) (res : List Byte) (outcome : Nat) : Applied :=
  { code := 0, res := res, outcome := outcome, moves := 0, state := s }

/-- INSERT of one record (R335, R338, R357 to R359, R376); to place it in explicit-priority mode the bank reads the PRIORITY of every
valid entry (DESIGN CHOICE, log entry 168). -/
def applyInsert (s : State) (b : Nat) (el : List Nat) : Applied :=
  let w := s.csaW b
  let ex := s.csaExplicit b
  let e : CsaEntry := { units := csaPairs (el.take (2 * w)), data := el.getD (2 * w) 0,
                        prio := if ex then el.getD (2 * w + 1) 0 % 65536 else 0, valid := true }
  match s.csaExact b e.units with
  | some _ => applied s (csaStatus 1 0) 0
  | none =>
    let q := s.readAll b (if ex then (s.csaValid b).map (fun p => 2 * p.1 + 1) else [])
    if q.1 then { code := 0x0608, res := [], outcome := 0, moves := 0, state := q.2 }
    else match s.csaPlace b (csaRank ex e) with
    | none => applied q.2 (csaStatus 2 0) 0
    | some (at_, up, mv) =>
      let r := q.2.readAll b (mv.flatMap wordsOf)
      if r.1 then { code := 0x0608, res := [], outcome := 0, moves := 0, state := r.2 }
      else
        let s1 := ((r.2.moveEntries b up mv).putEntry b at_ e).recordDone b
        let n := mv.length
        let s2 := if n = 0 then s1 else s1.inc64 (Obj.MOVES b) n
        let k := s2.csaBank b
        { code := 0, res := csaStatus 0 at_, outcome := 1, moves := n,
          state := if k.longest < n then s2.setCsaBank b { k with longest := n } else s2 }

/-- DELETE and UPDATE_DATA of one record (R360). -/
def applyDelete (s : State) (b : Nat) (el : List Nat) : Applied :=
  match s.csaExact b (csaPairs el) with
  | none => applied s (csaStatus 1 0) 0
  | some i => applied ((s.putEntry b i {}).recordDone b) (csaStatus 0 i) 1

def applyUpdate (s : State) (b : Nat) (el : List Nat) : Applied :=
  let w := s.csaW b
  match s.csaExact b (csaPairs (el.take (2 * w))) with
  | none => applied s (csaStatus 1 0) 0
  | some i => applied ((s.putWords b i { s.csaEntry b i with data := el.getD (2 * w) 0 } [2 * i]).recordDone b) (csaStatus 0 i) 1

/-- A result of SEARCH (Table 8-6). -/
def searchResult (s : State) (b form data hit inv addr rank : Nat) : List Byte :=
  if form = 1 then leBytes 8 data else if form = 2 then leBytes 4 data
  else leBytes 8 data ++ leBytes 2 (addr + inv * 2 ^ 14 + hit * 2 ^ 15) ++ leBytes 2 (s.csaBank b).gen ++ leBytes 2 rank ++
    leBytes 2 0

/-- SEARCH of one key (R334, R337, R354, R355). -/
def applySearch (s : State) (b form : Nat) (key : List Nat) : Applied :=
  let s1 := s.inc64 (Obj.SEARCHES b) 1
  match (s1.csaValid b).find? (fun p => csaMatches key p.2) with
  | none => applied s1 (s1.searchResult b form (s.num (Obj.MISS_DATA b)) 0 0 0 0) 0
  | some (i, e) =>
    let r := s1.readAll b (2 * i :: (if form = 0 ∧ s.csaExplicit b then [2 * i + 1] else []))
    if r.1 then { code := 0x0608, res := [], outcome := 0, moves := 0, state := r.2 }
    else applied (r.2.inc64 (Obj.HITS b) 1) (s1.searchResult b form e.data 1 0 i (csaRank (s.csaExplicit b) e)) 1

/-- One record of a BULK_LOAD, its number and the rank before it (R338, R362, R363). -/
def applyBulk (s : State) (b j : Nat) (last : Option Nat) (el : List Nat) : Applied :=
  let w := s.csaW b
  let ex := s.csaExplicit b
  let e : CsaEntry := { units := csaPairs (el.take (2 * w)), data := el.getD (2 * w) 0,
                        prio := if ex then el.getD (2 * w + 1) 0 % 65536 else 0, valid := true }
  let bad := match last with
    | some r => decide (r < csaRank ex e)
    | none => false
  if bad then { code := 0x0607, res := [], outcome := 0, moves := 0, state := s }
  else
    applied (s.putEntry b (j + j / (s.csaH b - 1)) e) [] 1

/-- Rank of a bulk record. -/
def bulkRank (s : State) (b : Nat) (el : List Nat) : Nat :=
  if s.csaExplicit b then el.getD (2 * s.csaW b + 1) 0 % 65536
  else csaRank false { units := csaPairs (el.take (2 * s.csaW b)) }

/-- One key or record of a run; an invalid one is not searched or applied (R353). -/
def applyRecord (s : State) (b : Nat) (c : CsaCmd) (j : Nat) (last : Option Nat) (l : List Elem) : Applied :=
  let el := l.map Prod.snd
  if l.any (fun x => !x.1) then
    applied s (if c.op = 0 then s.searchResult b c.form 0 0 1 0 0 else if c.op = 5 then [] else csaStatus 3 0) 0
  else match c.op with
    | 0 => s.applySearch b c.form el
    | 1 => s.applyInsert b el
    | 2 => s.applyDelete b el
    | 3 => s.applyUpdate b el
    | _ => s.applyBulk b j last el

/-! ### Commands at the head of a bank's queue -/

/-- No reserved encoding of Table 8-3 (Table 8-9, order 1; Table 8-10). -/
def csaFormOk (s : State) (l : List Byte) : Bool :=
  let c := parseCsa l
  let e := s.csaE (c.bank % 64)
  decide (c.op < 8) && decide (c.bank < 64) && (if c.op = 0 then decide (c.form ≤ 2) else c.form == 0) &&
    decide (le l 3 1 ≤ 1) && (if le l 3 1 = 0 then zeroAt l 16 3 else true) && decide (le l 17 1 < 64) && zeroAt l 19 45 &&
    (c.op == 4 || c.start == 0) && (if 5 ≤ c.op then c.out == 0 else decide (c.out < 2 ^ 18)) &&
    (match c.op with
      | 4 => decide (1 ≤ c.count) && decide (c.start + c.count ≤ e)
      | 5 => decide (1 ≤ c.count)
      | 6 => c.count == 0
      | 7 => c.count == 0
      | _ => decide (1 ≤ c.count) && decide (c.count ≤ 2 ^ 24))

/-- The command checks of Table 8-9 in order (R371). -/
def csaCode (s : State) (b : Nat) (cmd : HubCmd) : Nat :=
  let c := parseCsa cmd.block
  if !s.csaFormOk cmd.block then 0x0604
  else if !bit (s.num (Obj.CSA_BANKSET cmd.client)) b then 0x0601
  else if (s.csaBank b).state = 4 then 0x0602
  else if c.op = 5 ∧ (!(s.csaValid b).isEmpty ∨ s.csaCapacity b < c.count) then 0x0607
  else if 2 ^ 18 < c.out + c.count * csaSize (s.csaW b) c then 0x0605
  else 0

/-- A bank ends a command: done goes to the sending brick, counted (Tables 8-2 and 8-12). -/
def csaEnd (s : State) (b brick code outcome moves : Nat) : State :=
  let k := s.csaBank b
  let s1 := (s.setCsaBank b { k with run := none }).send .rsp (.bank b) (.brick brick) 0x41 (.csaDone code outcome moves k.gen)
  if code = 0 then s1.inc64 Obj.CSA_COMMANDS 1
  else ((s1.inc32 Obj.CSA_REFUSED 1).setNum Obj.LAST_FAULT (b * 256 + code % 256)).setSticky Obj.CSA_STICKY 2

/-- The run of a command that carries elements begins. -/
def csaRunOf (cmd : HubCmd) : CsaRun :=
  { cmd := cmd, pend := [], elems := 0, done := 0, outcome := 0, moves := 0, lastRank := none, res := [], sent := 0 }

/-- A command that carries elements is granted (R344, R348, R371); BANK_GEN counts a BULK_LOAD here (R339). -/
def csaGranted (s0 : State) (b : Nat) (cmd : HubCmd) : State :=
  let s := if (parseCsa cmd.block).op = 5 then s0.genUp b else s0
  (s.setCsaBank b { s.csaBank b with run := some (csaRunOf cmd) }).send .rsp (.bank b) (.brick cmd.brick) 0x41 (.csaGrant b)

/-- An idle bank takes the command at the head of its queue where its OP is one of a set: it is refused, or `go` follows
(R347, R371, R372); what upsets did to its flit on its way to the hub shows here (R236 to R239, Table 5-9; log entry 166). -/
def csaTake (s : State) (b : Nat) (ops : Nat → Bool) (upset : Upset) (go : State → HubCmd → State) : State :=
  match (s.csa.queue.find? (fun p => p.1 == b)).map Prod.snd with
  | none => s
  | some cmd =>
    let k := s.csaBank b
    let s1 := { s with csa := { s.csa with queue := s.csa.queue.erase (b, cmd) } }
    s.live (!s.wall.closed && k.run.isNone && k.state != 1 && k.state != 3 && ops (parseCsa cmd.block).op)
      (s1.landed (cmd.message (.bank b) upset) (fun t bad =>
        if bad then t.send .rsp (.bank b) (.brick cmd.brick) cmd.tag (.csaDone 0x0230 0 0 k.gen)
        else
          let code := t.csaCode b cmd
          if code ≠ 0 then t.csaEnd b cmd.brick code 0 0 else go t cmd))

/-- Result octets leave in result writes of 56; the rest when `all` (R354; Table 8-8). -/
def csaFlush : Nat → State → Nat → Nat → Nat → List Byte → Nat → Bool → State × List Byte × Nat
  | 0, s, _, _, _, l, sent, _ => (s, l, sent)
  | n + 1, s, b, brick, out, l, sent, all =>
    if l.length < 56 ∧ (!all ∨ l.isEmpty) then (s, l, sent)
    else csaFlush n (s.send .rsp (.bank b) (.brick brick) 0x41 (.csaResult (out + sent) (l.take 56))) b brick out (l.drop 56)
      (sent + min 56 l.length) all

/-- READ (R361, R383). -/
def csaReadGo (s : State) (b : Nat) (cmd : HubCmd) : State :=
  let c := parseCsa cmd.block
  let addrs := (List.range c.count).map (fun n => c.start + n)
  let r := s.readAll b ((addrs.filter (fun i => (s.csaEntry b i).valid)).flatMap wordsOf)
  if r.1 then r.2.csaEnd b cmd.brick 0x0608 0 0
  else
    let l := addrs.flatMap (fun i =>
      let e := s.csaEntry b i
      csaRecord (s.csaW b) (if e.valid then e else {}))
    let f := csaFlush (l.length + 1) r.2 b cmd.brick c.out l 0 true
    f.1.csaEnd b cmd.brick 0 (addrs.filter (fun i => (s.csaEntry b i).valid)).length 0

/-- RESPACE (R339, R364, R383). -/
def csaRespaceGo (s : State) (b : Nat) (cmd : HubCmd) : State :=
  let v := s.csaValid b
  let n := v.length
  let place := fun j => if n ≤ s.csaCapacity b then j + j / (s.csaH b - 1) else j * s.csaE b / n
  let mv := (numbered 0 v).filter (fun p => place p.1 != p.2.1)
  let r := s.readAll b (mv.flatMap (fun p => wordsOf p.2.1))
  if r.1 then r.2.csaEnd b cmd.brick 0x0608 0 0
  else
    let s1 := mv.foldl (fun t p => t.putEntry b p.2.1 {}) r.2
    let s2 := mv.foldl (fun t p => t.putEntry b (place p.1) p.2.2) s1
    let s3 := if mv.isEmpty then s2 else s2.inc64 (Obj.MOVES b) mv.length
    (s3.genUp b).csaEnd b cmd.brick 0 0 mv.length

/-- CLEAR: the bank is CLEARING until CSA_CLEARING_DONE, which sends the done (R339, R365). -/
def csaClearGo (s : State) (b : Nat) (cmd : HubCmd) : State :=
  let s1 := s.startClearing b
  s1.setCsaBank b { s1.csaBank b with run := some (csaRunOf cmd) }

end State

/-- A CSA bank number. -/
def bankOk (b : Nat) : Bool := decide (b < 64)

/-- SEARCH (R337, R347, R348, R350, R371, R372): a bank takes the search at the head of its queue; a block of reserved OP is
refused here. -/
def execSearch (bank : Nat) (s : State) (upset : Upset := {}) : Host.Outcome State Fault Refusal :=
  act (bankOk bank) (s.csaTake bank (fun op => op == 0 || decide (8 ≤ op)) upset (fun t c => t.csaGranted bank c))

/-- INSERT (R347, R348, R350, R358, R359, R371, R372). -/
def execInsert (bank : Nat) (s : State) (upset : Upset := {}) : Host.Outcome State Fault Refusal :=
  act (bankOk bank) (s.csaTake bank (fun op => op == 1) upset (fun t c => t.csaGranted bank c))

/-- DELETE (R347, R348, R350, R360, R371, R372). -/
def execDelete (bank : Nat) (s : State) (upset : Upset := {}) : Host.Outcome State Fault Refusal :=
  act (bankOk bank) (s.csaTake bank (fun op => op == 2) upset (fun t c => t.csaGranted bank c))

/-- UPDATE_DATA (R347, R348, R350, R360, R371, R372). -/
def execUpdateData (bank : Nat) (s : State) (upset : Upset := {}) : Host.Outcome State Fault Refusal :=
  act (bankOk bank) (s.csaTake bank (fun op => op == 3) upset (fun t c => t.csaGranted bank c))

/-- CSA_READ (R344, R361, R371, R372). -/
def execCsaRead (bank : Nat) (s : State) (upset : Upset := {}) : Host.Outcome State Fault Refusal :=
  act (bankOk bank) (s.csaTake bank (fun op => op == 4) upset (fun t c => t.csaReadGo bank c))

/-- BULK_LOAD (R347, R348, R350, R362, R363, R371, R372). -/
def execBulkLoad (bank : Nat) (s : State) (upset : Upset := {}) : Host.Outcome State Fault Refusal :=
  act (bankOk bank) (s.csaTake bank (fun op => op == 5) upset (fun t c => t.csaGranted bank c))

/-- RESPACE (R344, R364, R371, R372, R397). -/
def execRespace (bank : Nat) (s : State) (upset : Upset := {}) : Host.Outcome State Fault Refusal :=
  act (bankOk bank) (s.when (!s.calPause) (s.csaTake bank (fun op => op == 6) upset (fun t c => t.csaRespaceGo bank c)))

/-- CLEAR (R344, R365, R371, R372, R397). -/
def execClear (bank : Nat) (s : State) (upset : Upset := {}) : Host.Outcome State Fault Refusal :=
  act (bankOk bank) (s.when (!s.calPause) (s.csaTake bank (fun op => op == 7) upset (fun t c => t.csaClearGo bank c)))

/-- CSA_CLEARING_DONE (R341, R365, R372, R388, R397): a clearing ends, outside a calibration pause; the bank is READY in a client's
set and UNOWNED outside. -/
def execCsaClearingDone (bank : Nat) (s : State) : Host.Outcome State Fault Refusal :=
  let s0 := if (s.csaBank bank).clearDue then s.clearNow bank else s
  let k := s0.csaBank bank
  let s1 := (s0.setCsaBank bank { k with
    state := if k.state = 4 then 4 else if s.csaOwner bank = 255 then 0 else 2, run := none }).scrubAccount bank
  act (bankOk bank) (s.live ((k.state == 1 || (s.csaBank bank).clearDue) && !s.calPause) (match k.run with
    | some r => s1.csaEnd bank r.cmd.brick 0 0 0
    | none => s1))

/-- CSA_GRANT (R343, R344, R348): the brick sends its elements, seven to a message. -/
def execCsaGrant (m : Msg) (s : State) : Host.Outcome State Fault Refusal :=
  match m.src, m.dst, m.body with
  | .bank k, .brick b, .csaGrant _ =>
    .next (s.live true (s.arrive m (fun t bad =>
      if bad then t.commandPayload b 0x41 else t.granted b (.bank k) 0x41 7 8 false)))
  | _, _, _ => act false s

namespace State

/-- Whole keys or records taken from the elements of a run, one at a time (R352, R357): the run after them, the code that
ends it, and the state. -/
def csaRecords (b : Nat) (c : CsaCmd) (per : Nat) : Nat → State → CsaRun → Nat × CsaRun × State
  | 0, s, r => (0, r, s)
  | n + 1, s, r =>
    if r.pend.length < per then (0, r, s)
    else
      let l := r.pend.take per
      let x := s.applyRecord b c r.done r.lastRank l
      let ok := l.all Prod.fst
      let r1 := { r with
        pend := r.pend.drop per, done := r.done + 1, outcome := r.outcome + x.outcome, moves := r.moves + x.moves
        res := r.res ++ x.res
        lastRank := if c.op = 5 ∧ ok then some (s.bulkRank b (l.map Prod.snd)) else r.lastRank }
      if x.code ≠ 0 then (x.code, r1, x.state) else csaRecords b c per n x.state r1

/-- A data message reaches a bank (R353, R356, R357, R363, R373, R383). -/
def csaArrives (s : State) (b brick : Nat) (l : List Elem) (last : Bool) : State :=
  match (s.csaBank b).run with
  | none => s
  | some r =>
    if r.cmd.brick ≠ brick then s
    else
      let c := parseCsa r.cmd.block
      let per := csaPer (s.csaW b) c.op
      let total := per * c.count
      let n := r.elems + l.length
      if total < n ∨ (last ∧ n ≠ total) then
        (s.dropData brick (.bank b)).csaEnd b brick 0x0606 r.outcome r.moves
      else
        let x := csaRecords b c per (l.length + r.pend.length + 1) s { r with pend := r.pend ++ l, elems := n }
        if x.1 ≠ 0 then (x.2.2.dropData brick (.bank b)).csaEnd b brick x.1 x.2.1.outcome x.2.1.moves
        else
          let f := csaFlush (x.2.1.res.length + 1) x.2.2 b brick c.out x.2.1.res x.2.1.sent last
          let r1 := { x.2.1 with res := f.2.1, sent := f.2.2 }
          if last then f.1.csaEnd b brick 0 r1.outcome r1.moves
          else f.1.setCsaBank b { f.1.csaBank b with run := some r1 }

/-- A data message of a CSA command; records wait out the calibration pause, searches do not (R397). -/
def csaDataIn (s : State) (m : Msg) (want : Bool) : Host.Outcome State Fault Refusal :=
  match m.src, m.dst, m.body with
  | .brick b, .bank k, .csaData l last =>
    let search := match (s.csaBank k).run with
      | some r => (parseCsa r.cmd.block).op == 0
      | none => true
    act (last == want) (s.live (search || !s.calPause) (s.arrive m (fun t bad =>
      if bad then t.commandPayload b 0x41 else t.csaArrives k b l last)))
  | _, _, _ => act false s

end State

/-- CSA_DATA (R353 to R360, R362, R363, R376, R383). -/
def execCsaData (m : Msg) (s : State) : Host.Outcome State Fault Refusal := s.csaDataIn m false

/-- CSA_LAST_DATA (R344, R357, R373). -/
def execCsaLastData (m : Msg) (s : State) : Host.Outcome State Fault Refusal := s.csaDataIn m true

/-- CSA_RESULT_WRITE (R354, R379). -/
def execCsaResultWrite (m : Msg) (s : State) : Host.Outcome State Fault Refusal :=
  match m.dst, m.body with
  | .brick b, .csaResult off data =>
    .next (s.live true (s.arrive m (fun t bad =>
      if bad then t.commandPayload b m.tag else t.resultIn b m.tag off data)))
  | _, _ => act false s

/-- CSA_DONE (R368, R369, R384). -/
def execCsaDone (m : Msg) (s : State) : Host.Outcome State Fault Refusal :=
  match m.dst, m.body with
  | .brick b, .csaDone code _ _ _ =>
    .next (s.live true (s.arrive m (fun t bad => t.doneAt b 0x41 (if bad then 0x0230 else code) 3)))
  | _, _ => act false s

/-! ### Ownership and configuration -/

namespace State

/-- A client's bank set is written: the banks that change owner are cleared (R341, R386, R388). -/
def bankSetWritten (s : State) (c new : Nat) : State :=
  let old := s.num (Obj.CSA_BANKSET c)
  (List.range 64).foldl (fun t b =>
    let k := t.csaBank b
    if bit new b && !bit old b then
      (if k.lastOwner = c then
        (if k.state = 0 then t.setCsaBank b { k with state := 2 } else t)
       else
        let u := t.startClearing b
        u.setCsaBank b { u.csaBank b with lastOwner := c })
    else if bit old b && !bit new b then t.startClearing b
    else t) (s.setNum (Obj.CSA_BANKSET c) new)

/-- A configuration field of a bank whose change clears the bank (R391). -/
def bankConfig (s : State) (key b v : Nat) : State :=
  if s.num key = v then s else (s.setNum key v).startClearing b

/-- HOLE_INTERVAL is written: no entry changes, the shadow header does (R391, R392). -/
def holeWritten (s : State) (b v : Nat) : State :=
  (s.setNum (Obj.HOLE_INTERVAL b) v).putHeader b (s.csaBank b).header.epoch

/-- Some bank lies in the sets of two clients once client `c` has set `v` (R340). -/
def bankSetClash (s : State) (c v : Nat) : Bool :=
  (List.range 64).any (fun x => x != c && Nat.land (s.num (Obj.CSA_BANKSET x)) v != 0)

/-! ### The scrubber -/

/-- A mismatch is counted, logged and judged (R401, R419). -/
def scrubMismatch (s : State) (b u : Nat) : State :=
  let v := b * 65536 + u
  let s1 := (((s.inc32 (Obj.SCRUB_MISMATCHES b) 1).inc32 Obj.MISMATCHES 1).setNum Obj.LAST_MISMATCH v).setSticky
    Obj.SCRUB_STICKY 0
  let s2 := s1.event 0x0612 3 v 0
  let k := s2.csaBank b
  let old := k.mismatch.filter (fun x => decide (s.now < x.2.2 + dayTt))
  let twice := k.mismatch.any (fun x => x.1 == u && x.2.1 + 1 == k.passes)
  let kept := k.mismatch.filter (fun x => decide (s.now < x.2.2 + dayTt) || decide (k.passes ≤ x.2.1 + 1))
  let s3 := s2.setCsaBank b { k with mismatch := kept ++ [(u, k.passes, s.now)] }
  if twice || decide (s.num Obj.FAIL_LIMIT < old.length + 1) then s3.csaFail b else s3

/-- What the shadow stands for at an entry: zeros where its image is stale (R394). -/
def shadowEntry (s : State) (b i : Nat) : CsaEntry :=
  let x := s.csaImage b i
  if x.epoch = (s.csaBank b).header.epoch then x.entry else {}

/-- Entry `e` with its unit `j`, and with the metadata when `m`, taken from `x`. -/
def repaired (w j : Nat) (m : Bool) (e x : CsaEntry) : CsaEntry :=
  let units := (List.range w).map (fun n => if n = j then x.unit n else e.unit n)
  normEntry (if m then { units := units, data := x.data, prio := x.prio, valid := x.valid } else { e with units := units })

/-- Lines of the shadow that a step at a unit reads. -/
def scrubLines (s : State) (b u : Nat) : List Nat :=
  let w := s.csaW b
  [unitImageAt b u / 64] ++ (if u % w = 0 then [metaImageAt b (u / w) / 64] else [])

/-- The images that a step at a unit reads are written again from the bank (R418): the unit's, and the entry's metadata where the
step reads it. -/
def rewriteImages (s : State) (b u : Nat) : State :=
  let w := s.csaW b
  let i := u / w
  let x := s.csaImage b i
  let first := u % w == 0
  let e := repaired w (u % w) first (s.shadowEntry b i) (s.csaEntry b i)
  let y : CsaImage := { entry := e, epoch := if first then (s.csaBank b).header.epoch else x.epoch }
  let s1 := { s with csa := { s.csa with images := Store.set (fun _ => ({} : CsaImage)) s.csa.images (b * 8192 + i) y } }
  let s2 := s1.shadowWords (unitImageAt b u) 16
  if first then s2.shadowWords (metaImageAt b i) 16 else s2

/-- A scrub step at the unit of a bank's pointer (R400 to R403, R418; spec/09: The scrubber). -/
def scrubAt (s : State) (b u : Nat) : State :=
  let w := s.csaW b
  let i := u / w
  let j := u % w
  let e := s.csaEntry b i
  let lines := s.scrubLines b u
  let k := s.csaBank b
  if s.linesBad lines || lines.any (fun x => s.hbmDead (64 * x)) then
    (((s.readLines lines).rewriteImages b u).inc32 Obj.SHADOW_UNCORRECTABLE 1).setSticky Obj.SCRUB_STICKY 1 |>.event 0x0611 3 0 0
  else
    let s1 := if j = 0 ∧ (s.csaImage b i).epoch ≠ k.header.epoch then (s.readLines lines).putImage b i {} else s.readLines lines
    let x := s.shadowEntry b i
    let words := if j = 0 then wordsOf i else []
    let s2 := (words.filter k.ce.contains).foldl (fun (t : State) v => (t.readWord b v).2) s1
    let bad := words.any k.ue.contains
    let y := repaired w j (j == 0) e x
    if y = e ∧ !bad then s2
    else
      let s3 := { s2 with csa := { s2.csa with entries := Store.set (fun _ => ({} : CsaEntry)) s2.csa.entries (b * 8192 + i) y } }
      let k3 := s3.csaBank b
      (s3.setCsaBank b { k3 with ue := k3.ue.filter (fun n => !words.contains n) }).scrubMismatch b u

/-- The pointer of a bank moves on, and a pass is counted at its end; its length runs from the step of unit 0 to that of the
next pass. -/
def scrubNext (s : State) (b u : Nat) : State :=
  let k := s.csaBank b
  let s1 := if u = 0 ∧ k.passStart ≠ 0 then s.setNum Obj.LAST_PASS_TT ((s.now + 1 - k.passStart) % 2 ^ 32) else s
  let s2 := if u = 8191 then s1.inc64 Obj.PASSES 1 else s1
  s2.setCsaBank b { s2.csaBank b with
    scrub := (u + 1) % 8192, passes := if u = 8191 then k.passes + 1 else k.passes,
    passStart := if u = 0 then s.now + 1 else k.passStart }

/-- The tick of the scrub window now open, 256 tt from each tick with TIDE_NOW[11:0] = 400h (Table 2-4). -/
def scrubWindow (s : State) : Option Nat :=
  let w := scrubStart s.scrubOpen
  if 0 < s.scrubOpen ∧ s.now < w + 256 then some w else none

/-- UNITS_PER_WINDOW is written: a window now open keeps the old value (R415). -/
def unitsWritten (s0 : State) (v : Nat) : State :=
  let s := s0.scrubAccounts
  match s.scrubWindow with
  | some w =>
    { s.setNum Obj.UNITS_PER_WINDOW v with csa := { s.csa with windowAt := some w, windowUnits := s.windowUnits w } }
  | none => s.setNum Obj.UNITS_PER_WINDOW v

/-- Bank cycle `c` of the present tick is permitted at the rate level in force (R405); SCLK cycles are numbered from the cold reset,
12 to a TCLK cycle. -/
def cyclePermitted (s : State) (c : Nat) : Bool :=
  let r := s.num Obj.RATE_NOW
  let n := 12 * s.clock + c
  decide (n * r / 64 < (n + 1) * r / 64)

/-- The first interval from `p` on, of length `i`, that has a permitted cycle in the present tick (R398, R399, R406). -/
def stepInterval (s : State) (w u p : Nat) : Option Nat :=
  let i := 3072 / u
  let now := (s.now - w) * 12
  (((List.range 12).filter s.cyclePermitted).map (fun c => (now + c) / i)).find? (fun n => decide (p ≤ n) && decide (n < u))

end State

/-- SCRUB_STEP (R398 to R406, R414 to R419): the step of the first interval not yet taken that has a permitted cycle in the present
tick; the intervals passed over are counted as deferred (log entry 31). -/
def execScrubStep (bank : Nat) (s : State) : Host.Outcome State Fault Refusal :=
  match s.scrubWindow with
  | none => act (bankOk bank) s
  | some w =>
    let s1 := s.scrubAccount bank
    let k := s1.csaBank bank
    match s.stepInterval w (s.scrubUnits s.scrubOpen) k.steps with
    | none => act (bankOk bank) s
    | some n =>
      let s2 := if n = k.steps then s1 else (s1.inc64 Obj.STEPS_DEFERRED (n - k.steps)).setSticky Obj.SCRUB_STICKY 2
      let s3 := s2.setCsaBank bank { k with stepWin := s.scrubOpen, steps := n + 1 }
      act (bankOk bank) (s.live (s.scrubbing bank && !s.calPause) ((s3.scrubAt bank k.scrub).scrubNext bank k.scrub))

end Sys2Proof.Machine
end

