-- ==== Sys2Proof/Machine/Tick.lean ====
section
/-!
DEFINITION. One edge of TCLK: the tide, the counts that run with it, the drift of a locked chip, the pins that change function, and
the end of calibration pauses and of teardowns (spec/02: R43, R56, R58; spec/09, spec/15, spec/20: the tt counts; spec/11: R463; spec/22: R991).
-/

namespace Sys2Proof.Machine

/-- The first value at or after `now` that has the remainder `phase` modulo `period`. -/
def nextAt (phase period now : Nat) : Nat := now + (phase + period - now % period) % period

namespace State

/-- TIDE_NOW reaches, or has passed by a double advance, a value with the remainder `phase` modulo `period` (R60). -/
def tideAt (s : State) (phase period : Nat) : Bool :=
  s.now % period == phase || (s.tide.double && (s.now + period - 1) % period == phase)

/-- The counts of ticks in a state (COUNT objects, 64 bits). -/
def tickCounts (s : State) (n : Nat) : State :=
  let s1 := if s.chipFree then s.inc64 Obj.IDLE_TT n else s
  let s2 := if s.powerState = 1 then s1.inc64 Obj.LULL_TT n else s1
  let s3 := if s.num Obj.DISPATCH_LEVEL < 64 then s2.inc64 Obj.DISPATCH_THROTTLED_TT n else s2
  let s4 := if s.num Obj.RATE_NOW < 64 then s3.inc64 Obj.THROTTLED_TT n else s3
  if s.power.limited then s4.inc64 Obj.LIMITED_TT n else s4

/-- The offset of a locked chip drifts at the rate of its last two syncs (R58). -/
def drift (s : State) : State :=
  let t := s.tide
  if t.rateDen = 0 ∨ s.num Obj.TIDE_STATE ≠ 2 then s
  else
    let x := t.rateRem + t.rateNum
    { s with tide := { t with offset := t.offset + x / (t.rateDen : Int), rateRem := x % (t.rateDen : Int) } }

/-- Reserved windows that have run their length close, and their ports go on (R635, R636). -/
def closeWindows (s : State) : State :=
  s.coast.ports.foldl (fun t (p : Nat × Port) =>
    match p.2.windowEnd with
    | some e => if e ≤ t.now then (t.setPort p.1 { t.port p.1 with windowEnd := none }).transmit p.1 else t
    | none => t) s

/-- After a calibration pause the answers kept in it leave (R463). -/
def releaseHeld (s : State) : State :=
  if s.calPause then s
  else
    let h := s.hbm.held
    let r := s.hbm.heldReplies
    let s1 := h.foldl inject { s with hbm := { s.hbm with held := [], heldReplies := [] } }
    if s.host.linkUp then { s1 with out := s1.out ++ r.map Out.reply } else s1

/-- One TCLK edge that advances TIDE_NOW by `n`: 1, or 0 or 2 at a correction (R56). -/
def tclk (s : State) (n : Nat) : State :=
  if s.held then s
  else
    let s1 := { s with
      tide := { s.tide with now := (s.tide.now + n) % 2 ^ 64, double := n == 2, clock := s.tide.clock + 1 }
      shore := { s.shore with start := if s.tide.clock % 2 = 1 then s.obj else s.shore.start } }
    ((List.range 16).foldl pinTick (s1.tickCounts n).drift).closeWindows.releaseHeld.tearDue

end State

end Sys2Proof.Machine
end

