-- ==== Sys2Proof/Machine/Hbm.lean ====
section
/-!
DEFINITION. The pseudo-channel controllers: requests served, refresh, calibration windows, patrol, and the applies of the
region table and of the chip-wide tables on an idle chip (spec/11: R447, R454 to R466, R468 to R479, R483; spec/06: R247, R248,
R291).
-/

namespace Sys2Proof.Machine

/-- A pseudo-channel number. -/
def channelOk (n : Nat) : Bool := decide (n < 256)

namespace State

/-- The requester of a message hears that its payload was uncorrectable (Table 5-9). -/
def poisoned (s : State) (m : Msg) : State :=
  match m.src with
  | .brick b => s.answered b m.tag [] 0x0230 true
  | _ => s

end State

namespace State

/-- A controller answers a request; in a calibration pause an answer that waits for service is kept until the pause ends (R454, R462,
R463). -/
def hbmAnswer (s : State) (m : Msg) (waits : Bool) (body : MsgBody) : State :=
  if waits && s.calPause then
    { s with hbm := { s.hbm with held := s.hbm.held ++
        [{ cls := .rsp, src := m.dst, dst := m.src, tag := m.tag, parity := s.mortar.parity, body := body }] } }
  else s.send .rsp m.dst m.src m.tag body

/-- A write that enters its queue in the tick of a patrol read that retired the block of its line is performed after that read, and
replaces the line (R473; the tick stands for its four ec: DESIGN CHOICE, log entry 172). -/
def patrolWrite (s : State) (a : Nat) (l : List Byte) : Nat × State :=
  match s.hbm.patrolHit with
  | some p =>
    if p.2 = s.clock ∧ l ≠ [] ∧ a / 64 ≤ p.1 ∧ p.1 ≤ (a + l.length - 1) / 64 ∧ s.pcState (pcOf a) = 0 ∧
        s.linesBad (mergedLines a l.length) = false then (0, s.hbmPut a l)
    else s.memWrite a l
  | none => s.memWrite a l

end State

/-- HBM_READ (R454 to R456, R462, R463, R468, R470, R474, R475, R477 to R479): a read request enters its queue, where it stands in
order, and is served. What it reads and meets is settled at its entry (DEDUCED, log entry 171). -/
def execHbmRead (m : Msg) (s : State) : Host.Outcome State Fault Refusal :=
  match m.dst, m.body with
  | .channel _, .hbmRead a n =>
    .next (s.live true (s.arrive m (fun t bad =>
      if bad then t.poisoned m
      else if !State.addressOk t.runClient a n then t.hbmAnswer m true (.hbmReadFailed 3)
      else
        let r := t.memRead a n
        r.2.2.hbmAnswer m true (if r.1 = 0 then .hbmReadData r.2.1 else .hbmReadFailed r.1))))
  | _, _ => act false s

/-- HBM_WRITE (R454 to R457, R462, R463, R468, R470, R473, R476 to R479): a write request enters its queue and is accepted; one that
reads a word first, or that fails, is answered when it is served. -/
def execHbmWrite (m : Msg) (s : State) : Host.Outcome State Fault Refusal :=
  match m.dst, m.body with
  | .channel _, .hbmWrite a l =>
    .next (s.live true (s.arrive m (fun t bad =>
      if bad then t.poisoned m
      else if !State.addressOk t.runClient a l.length then t.hbmAnswer m true (.hbmWriteAccepted 3)
      else
        let r := t.patrolWrite a l
        r.2.hbmAnswer m (r.1 != 0 || !(State.mergedLines a l.length).isEmpty) (.hbmWriteAccepted r.1))))
  | _, _ => act false s

/-- REFRESH (R461, R472): one refresh of a pseudo-channel; it changes no content. -/
def execRefresh (channel : Nat) (s : State) : Host.Outcome State Fault Refusal :=
  let n := Store.get (fun _ => 0) s.hbm.refreshes channel
  act (channelOk channel)
    (s.live (!s.asleep) { s with hbm := { s.hbm with refreshes := Store.set (fun _ => 0) s.hbm.refreshes channel (n + 1) } })

/-- CAL_WINDOW (R28, R60, R70, R71, R462, R463): a calibration window opens. -/
def execCalWindow (s : State) : Host.Outcome State Fault Refusal :=
  let s1 := s.inc64 Obj.CAL_WINDOWS 1
  .next (s.live (decide (s.tide.nextCal ≤ s.now) && s.tideAt (s.num Obj.HBM_CAL_OFFSET) 4194304 && !s.asleep)
    { s1 with
      hbm := { s1.hbm with calAt := some (s.now - b2n (s.now % 4194304 != s.num Obj.HBM_CAL_OFFSET)) }
      tide := { s1.tide with nextCal := nextAt (s.num Obj.HBM_CAL_OFFSET) 4194304 (s.now + 1) } })

/-- Lines of a pseudo-channel, and the address of one by its place in channel-offset order (R442; spec/11: Patrol scrub). -/
def channelLines : Nat := 12582912
def patrolAddress (n p : Nat) : Nat :=
  let k := p / 32
  k * 2 ^ 19 + xorN (xorN (xorN n (k % 256)) (k / 256 % 256)) (k / 65536) * 2048 + p % 32 * 64

/-- PATROL_READ (R465, R466, R473 to R475, R477, R479): PATROL_INTERVAL ec after the last, a controller reads the line at its patrol
pointer; sixteen ec make a tick. -/
def execPatrolRead (channel : Nat) (s : State) : Host.Outcome State Fault Refusal :=
  let p := Store.get (fun _ => 0) s.hbm.patrol channel
  let due := Store.get (fun _ => 0) s.hbm.patrolDue channel
  let a := patrolAddress channel p
  let s1 := if s.hbmDead a then s else s.readLines [a / 64]
  let last := p + 1 = channelLines
  let s2 := if last then s1.inc64 Obj.PATROL_PASSES 1 else s1
  act (channelOk channel) (s.live (!s.calPause && !s.asleep && decide (due ≤ 16 * s.clock + 15))
    { s2 with hbm := { s2.hbm with
      patrol := Store.set (fun _ => 0) s2.hbm.patrol channel (if last then 0 else p + 1)
      patrolDue := Store.set (fun _ => 0) s2.hbm.patrolDue channel (max due (16 * s.clock) + s.num Obj.PATROL_INTERVAL)
      patrolHit := if !s.hbmDead a && s1.hbmDead a then some (a / 64, s.clock) else s2.hbm.patrolHit } })

/-- No job owns the chip and none is being switched in: an apply is performed at once (R248, R447). -/
def State.applyIdle (s : State) : Bool := s.chipFree && !s.nv.warm

/-- REGIONS_APPLY_PERFORM (R447, R469, R483): the pending apply of the region table on an idle chip. At a job boundary the switch
performs it. -/
def execRegionsApplyPerform (s : State) : Host.Outcome State Fault Refusal :=
  .next (s.live (s.hbm.regionsPending && s.applyIdle) (s.regionsFrom s))

/-- TABLES_APPLY_PERFORM (R247, R248, R291): the pending apply of the chip-wide tables on an idle chip. At a job boundary the
switch performs it. -/
def execTablesApplyPerform (s : State) : Host.Outcome State Fault Refusal :=
  let s1 := s.tablesFrom s
  .next (s.live (s.tables.pending && s.applyIdle) { s1 with tables := { s1.tables with appliedNow := false } })

end Sys2Proof.Machine
end

