-- ==== Sys2Proof/Machine/Lease.lean ====
section
/-!
DEFINITION. The lease and its changes (spec/18: R825 to R828, R855 to R857, R866, Tables 18-7 and 18-10).
-/

namespace Sys2Proof.Machine

namespace State

/-- The source holds the lease (R825). -/
def holdsLease (s : State) (src : Source) : Bool :=
  match src with
  | .port m => s.shore.lease == 1 && s.shore.holder == m
  | .mailbox => s.shore.lease == 2

/-- The source held the lease at the end of the LCLK cycle before this one, by which a write is judged (R855). -/
def heldLease (s : State) (src : Source) : Bool :=
  if s.shore.leaseWas.1 = s.lclk + 1 then
    (match src with
      | .port m => s.shore.leaseWas.2.1 == 1 && s.shore.leaseWas.2.2 == m
      | .mailbox => s.shore.leaseWas.2.1 == 2)
  else s.holdsLease src

/-- A change of the lease, with its event 1001h (Tables 18-7 and 18-10). `mac` is the holder, or the delegator in MAILBOX. -/
def setLease (s : State) (st mac : Nat) (deleg : Bool) (reason : Nat) : State :=
  let w := if s.shore.leaseWas.1 = s.lclk + 1 then s.shore.leaseWas else (s.lclk + 1, s.shore.lease, s.shore.holder)
  let s1 := ({ s with shore := { s.shore with lease := st, holder := mac, delegated := deleg, leaseWas := w } }).inc32 Obj.LEASE_CHANGES 1
  s1.notify 0x1001 0xFFFFFFFF (mac * 65536 + reason * 256 + st)

/-- The timer of a MANAGER lease set: LCLK cycles at 25,000 per millisecond, two TCLK cycles each (R827). -/
def setTimer (s : State) (ms : Nat) : State :=
  { s with shore := { s.shore with leaseEnd := s.clock + ms * 50000 } }

/-- The lease returns from the mailbox to its delegator with a fresh timer, or becomes FREE. -/
def leaseBack (s : State) (reason : Nat) : State :=
  if s.shore.delegated then (s.setLease 1 s.shore.holder false reason).setTimer (s.num Obj.LEASE_DEFAULT_MS)
  else s.setLease 0 0 false reason

/-- A host reset ends the mailbox's request and transfer and takes its lease away (R866). -/
def hostResetLease (s : State) : State :=
  let s1 := { s with
    host := { s.host with request := none, busy := false, ready := false }
    shore := { s.shore with transfers := s.shore.transfers.filter (fun t => t.src != .mailbox) } }
  if s1.shore.lease = 2 then s1.leaseBack 6 else s1

end State

/-- LEASE_EXPIRY (Table 18-7, R828): the timer of a MANAGER lease has reached 0, in an LCLK cycle whose requests could still renew it
(R857). -/
def execLeaseExpiry (s : State) : Host.Outcome State Fault Refusal :=
  .next (s.live (s.shore.lease == 1 && decide (s.shore.leaseEnd / 2 < s.lclk)) (s.setLease 0 0 false 3))

end Sys2Proof.Machine
end

