-- ==== Sys2Proof/Machine/Warm.lean ====
section
/-!
DEFINITION. The start of a warm reset (spec/19: R897, R898, R903; spec/15: R698; spec/17: R781; spec/20: R947, R951; spec/21: R967).
-/

namespace Sys2Proof.Machine

namespace State

/-- A warm reset may not be requested now: one is in progress, the device drains into HOLD or is in it, the thermal trip
stands, or the last one ended less than 1,048,576 tt ago (R903, R947, R951, R967). -/
def warmRefused (s : State) : Bool :=
  s.nv.warm || decide (3 ≤ s.powerState) || s.num Obj.TRIP_LATCHED == 1 ||
    (match s.nv.warmEnd with
      | some e => decide (s.clock < e + 1048576)
      | none => false)

/-- The warm reset is accepted: READY clears, the running job is torn down ABANDONED, an entry owed since 0A70h is written, any
reach hold ends, every other fetched descriptor is discarded, its position to be fetched again, and the CSA banks that are not FAILED
are RELOADING (R390, R698, R759, R781, R898). -/
def warmStart (s : State) : State :=
  let s1 := { s with nv := { s.nv with warm := true, warmAt := s.lclk + 1, ready := false } }
  let s2 := match s1.sched.run with
    | some r => s1.tearNow r
    | none => s1
  let s3 := match s2.sched.owed with
    | some e => ({ s2 with sched := { s2.sched with owed := none } }).addEntry e
    | none => s2
  let heads := (List.range 64).foldl (fun (t : State) c =>
    match t.jobsOf c with
    | j :: _ => if c = 0 then t else t.setCReg c 0x18 j.pos
    | [] => t) s3
  let bank := fun (t : State) (b : Nat) =>
    let u := t.scrubAccount b
    let k := u.csaBank b
    if k.state = 4 then u else u.setCsaBank b { k with state := 3, run := none }
  let s4 := { ((List.range 64).foldl bank heads).shadowEmpty with sched := { heads.shadowEmpty.sched with
    slots := [], chosen := none, refused := [], hold := none, fetch := [], seqNext := [], event := false } }
  (s4.setSched 0).ringsFollow

end State

end Sys2Proof.Machine
end

