-- ==== Sys2Proof/Machine/Host.lean ====
section
/-!
DEFINITION. The host interface: doorbells and client commands, the BAR2 window, BAR0 and BAR4 registers, the mailbox doorbell,
interrupts, and the resets and states of the link (spec/16: R700 to R760; spec/02: R91; spec/19: R886, R887, R897).
-/

namespace Sys2Proof.Machine

/-- The host may address a page: clients 1 to 63. -/
def clientOk (c : Nat) : Bool := decide (1 ≤ c) && decide (c < 64)

namespace State

/-- BAR2 and BAR4 are handled as an address above usable HBM (R760, R887, R936). -/
def hostBarred (s : State) : Bool := !s.nv.ready || s.nv.warm || s.powerState == 4

/-- A BAR2 or BAR4 access refused: counted and marked (R730). -/
def bar2Refused (s : State) : State :=
  (s.regSet 0x28 (sat32 (s.regGet 0x28 + 1))).regSet 0x08 (setBit (s.regGet 0x08) 1 true)

/-- A poisoned write: discarded, counted, and reported through AER as an uncorrectable error (R754; log entry 20). -/
def poisonedWrite (s : State) : State :=
  ((s.regSet 0x2C (sat32 (s.regGet 0x2C + 1))).regSet 0x08 (setBit (s.regGet 0x08) 2 true)).inc32 Obj.AER_UNCORRECTABLE 1

/-- An access of a size or alignment that R703 does not allow (R704). -/
def accessRefused (s : State) : State := s.regSet 0x08 (setBit (s.regGet 0x08) 4 true)

/-- A STAT write, ignored and counted (R8, R10, R11). -/
def statWrite (s : State) : State := s.inc32 Obj.IGNORED_STAT_WRITES 1

/-- SIZE_LOG2 of BAR2_SIZE. -/
def bar2Log2 (s : State) : Nat := s.regGet 0x18 % 64

def bar2Window (s : State) : Nat := s.regGet 0x10 + 2 ^ 32 * s.regGet 0x14

end State

/-- The pieces of a request of `n` octets at `a`, cut at multiples of `g`; `fuel` bounds them (R732). -/
def splitAt (g : Nat) : Nat → Nat → Nat → List (Nat × Nat)
  | 0, _, _ => []
  | f + 1, a, n =>
    if n = 0 then [] else
    let k := min n (g - a % g)
    (a, k) :: splitAt g f (a + k) (n - k)

namespace State

/-- One line of a BAR2 read: poisoned where it holds an uncorrectable word (R731). -/
def bar2Line (x : State × List (Option Byte)) (p : Nat × Nat) : State × List (Option Byte) :=
  let r := x.1.memRead p.1 p.2
  (r.2.2, x.2 ++ (if r.1 = 0 then r.2.1.map some else List.replicate p.2 none))

/-- A 256-octet part of a BAR2 access is refused (R730). -/
def bar2Bad (s : State) (p : Nat × Nat) : Bool := decide (usableEnd < p.1 + p.2) || s.hbmDead p.1

/-- One 256-octet part of a BAR2 read: all ones where it is refused (R730, R732). -/
def bar2Part (x : State × List (Option Byte) × Bool) (p : Nat × Nat) : State × List (Option Byte) × Bool :=
  if x.1.bar2Bad p then (x.1, x.2.1 ++ List.replicate p.2 (some 0xFF), true)
  else
    let r := (splitAt 64 8 p.1 p.2).foldl bar2Line (x.1, x.2.1)
    (r.1, r.2, x.2.2)

/-- A BAR2 read; in a calibration pause one that reaches a pseudo-channel is answered after it (R462, R463). -/
def bar2Read (s : State) (off n : Nat) : State :=
  if s.hostBarred then s.bar2Refused.emit (.reply (List.replicate n (some 0xFF)))
  else
    let parts := splitAt 256 (n + 1) (s.bar2Window + off) n
    let r := parts.foldl bar2Part (s, [], false)
    let t := if r.2.2 then r.1.bar2Refused else r.1
    if s.calPause && parts.any (fun p => !s.bar2Bad p) then { t with hbm := { t.hbm with heldReplies := t.hbm.heldReplies ++ [r.2.1] } }
    else t.emit (.reply r.2.1)

/-- A BAR2 write, part by part (R730, R732); `b` says whether a part has been refused. -/
def bar2Write (s : State) (off : Nat) (data : List Byte) : State :=
  if s.hostBarred then s.bar2Refused
  else
    let a := s.bar2Window + off
    let r := (splitAt 256 (data.length + 1) a data.length).foldl (fun (x : State × Bool) (p : Nat × Nat) =>
      if x.1.bar2Bad p then (x.1, true)
      else ((x.1.memWrite p.1 ((data.drop (p.1 - a)).take p.2)).2, x.2)) (s, false)
    if r.2 then r.1.bar2Refused else r.1

/-- An uncorrectable word in a buffer of the host port: a device-level fault (R755). The access that met it is not carried out, and a
read's answer is poisoned (DESIGN CHOICE, log entry 178). -/
def bufferFault (s : State) : State := s.deviceStop 0x0A70 8 0 0

/-! ### Client pages -/

/-- SQ_TAIL written (R712, R713, R716); with the rings DISABLED any value starts the counters. -/
def sqTailWrite (s : State) (c v : Nat) : State :=
  if s.ringState c != 0 && decide (2 ^ s.sqLog2 c < (v + 2 ^ 32 - s.sqHead c) % 2 ^ 32) then s.cSticky c 2
  else (s.setCReg c 0x14 v).settle

/-- CQ_HEAD written: room for an entry held (R721). -/
def cqHeadWrite (s : State) (c v : Nat) : State := (s.setCReg c 0x1C v).settle

/-- RING_CONFIG holds no reserved encoding (Table 16-8). -/
def ringConfigOk (s : State) (c : Nat) : Bool :=
  let l := fun n => decide (3 ≤ n) && decide (n ≤ 12)
  l (s.sqLog2 c) && l (s.cqLog2 c) && decide (bits (s.cReg c 0x10) 23 16 < 128)

/-- A command that its state does not permit (R745, R887). -/
def cmdRefused (s : State) (c : Nat) : State := s.cSticky c 3

/-- ENABLE (R710). -/
def cmdEnable (s : State) (c : Nat) : State :=
  if s.nv.ready && s.ringState c == 0 && s.ringConfigOk c then
    let s1 := ((s.setCReg c 0x18 (s.sqTail c)).setCReg c 0x20 (s.cqHead c)).setNum (Obj.CLIENT_HALTED c) 0
    let s2 := { s1.setNum (Obj.RING_STATE c) 1 with sched := { s1.sched with
      seqNext := Store.set (fun _ => 0) s1.sched.seqNext c 0
      written := Store.set (fun _ => 0) s1.sched.written c (s.sqTail c + 1) } }
    s2.eventIfFree.settle
  else s.cmdRefused c

/-- The fetched jobs of a client that are neither running nor in a reach hold, retired ABANDONED in order, and its fetch
dropped (R740, R744). -/
def abandonJobs (s : State) (c : Nat) : State :=
  let held := fun (j : Job) => match s.sched.hold with
    | some h => h.client == j.client && h.pos == j.pos
    | none => false
  let s1 := { s with sched := { s.sched with fetch := s.sched.fetch.filter (fun p => p.1 != c) } }
  ((s.jobsOf c).filter (fun j => !held j)).foldl (fun t j => t.retireJob j 4) s1

/-- STOP (R740, R741). -/
def cmdStop (s : State) (c : Nat) : State :=
  if s.nv.ready && s.ringState c == 1 then ((s.setNum (Obj.RING_STATE c) 2).abandonJobs c).settle else s.cmdRefused c

/-- DISABLE (R742). -/
def cmdDisable (s : State) (c : Nat) : State :=
  if s.nv.ready && s.ringState c == 3 then s.setNum (Obj.RING_STATE c) 0 else s.cmdRefused c

/-- The client stands halted as a resume sees it: before a halt of the same LCLK cycle (R692). -/
def resumable (s : State) (c : Nat) : Bool := (s.haltedNow c).getD (s.clientHalted c)

/-- The halt ends, but for one of the same LCLK cycle, which is applied after the resume (R692). -/
def unhalt (s : State) (c : Nat) : State := if (s.haltedNow c).isSome then s else s.setNum (Obj.CLIENT_HALTED c) 0

/-- RESUME (R743, R669, R692). -/
def cmdResume (s : State) (c : Nat) : State :=
  if s.nv.ready && s.resumable c then ((s.unhalt c).eventIfFree).settle else s.cmdRefused c

/-- RESUME_FLUSH (R744, R669, R692). -/
def cmdResumeFlush (s : State) (c : Nat) : State :=
  if s.nv.ready && s.resumable c then
    let s1 := ((s.abandonJobs c).setCReg c 0x18 (s.sqTail c)).unhalt c
    let s2 := { s1 with
      sched := { s1.sched with seqNext := Store.set (fun _ => 0) s1.sched.seqNext c 0 } }
    s2.eventIfFree.settle
  else s.cmdRefused c

/-- CLIENT_COMMAND written (R745). -/
def clientCommand (s : State) (c v : Nat) : State :=
  if !bit v 31 then s
  else match v % 8 with
    | 1 => s.cmdEnable c
    | 2 => s.cmdStop c
    | 3 => s.cmdDisable c
    | 4 => s.cmdResume c
    | 5 => s.cmdResumeFlush c
    | _ => s.cmdRefused c

/-- RING_CONFIG written field by field: a reserved encoding leaves its field as it was (R15, R711). -/
def ringConfigWrite (s : State) (c v : Nat) : State :=
  let old := s.cReg c 0x10
  let log := fun hi lo => let n := bits v hi lo; if 3 ≤ n ∧ n ≤ 12 then n else bits old hi lo
  let vec := if bits v 23 16 < 128 then bits v 23 16 else bits old 23 16
  s.setCReg c 0x10 (b2n (bit v 24) * 2 ^ 24 + vec * 2 ^ 16 + log 11 8 * 256 + log 3 0)

/-- A 4-byte write to a client page (Table 16-8). -/
def pageWrite (s : State) (c off v : Nat) : State :=
  if off = 0x14 then s.sqTailWrite c v
  else if off = 0x1C then s.cqHeadWrite c v
  else if off = 0x24 then s.clientCommand c v
  else if off = 0x34 then s.setCReg c 0x34 (s.cReg c 0x34 &&& (31 - v % 32))
  else if off ≤ 0x10 then
    (if s.ringState c ≠ 0 then s.cmdRefused c
     else if off = 0x10 then s.ringConfigWrite c v
     else s.setCReg c off (if off = 0 ∨ off = 8 then v / 4096 * 4096 else v))
  else if off ≤ 0x30 then s.statWrite else s

/-! ### The mailbox -/

/-- RESET_REQUEST written (R897, R903, R947, R967). -/
def resetRequest (s : State) (v : Nat) : State :=
  if bit v 31 && v % 65536 == 0x5752 && s.num Obj.HOST_RESET_ENABLE == 1 && s.nv.ready && !s.warmRefused then s.warmStart
  else s.accessRefused

end State

/-- The request that the mailbox area holds in its first `n` octets (Table 18-4, R19). -/
def mailboxRequest (l : List Byte) : Request :=
  { src := .mailbox, seq := 0, version := 1, opcode := ofBe (l.take 1), length := ofBe ((l.drop 2).take 2),
    index := ofBe ((l.drop 4).take 2), sub := ofBe ((l.drop 6).take 1),
    reserved := l.getD 1 0 != 0 || l.getD 7 0 != 0 || ofBe ((l.drop 2).take 2) != l.length, body := l.drop 8 }

namespace State

/-- MB_DOORBELL written (R733, Table 16-4). -/
def mbDoorbell (s : State) (v : Nat) : State :=
  if s.hostBarred then s.bar2Refused
  else if !bit v 31 || s.host.busy then s
  else
    let n := v % 2048
    if n = 0 ∨ 1920 < n then s.regSet 0x10008 (setBit (s.regGet 0x10008) 1 true)
    else
      let s1 := s.regSet 0x1000C ((s.regGet 0x1000C + 1) % 2 ^ 32)
      { s1 with host := { s1.host with
          busy := true, ready := false, request := some (mailboxRequest (Store.getMany zeroByte s.host.mailbox 0x100 n)) } }

/-- A 4-byte write to BAR4 (Table 16-9). -/
def bar4Write (s : State) (off v : Nat) : State :=
  if s.hostBarred then s.bar2Refused
  else if off = 0 then s.mbDoorbell v
  else if off = 4 then s.statWrite
  else if off = 8 then
    let s1 := s.regSet 0x10008 (s.regGet 0x10008 &&& (3 - v % 4))
    if bit v 0 then { s1 with host := { s1.host with ready := false } } else s1
  else if off = 0xC then s.regSet 0x1000C v
  else if 0x100 ≤ off ∧ off < 0x880 then
    { s with host := { s.host with mailbox := Store.setMany zeroByte s.host.mailbox off (leBytes 4 v) } }
  else if 0x880 ≤ off then s.statWrite else s

def bar4Read (s : State) (off : Nat) : Nat :=
  if off = 4 then s.host.respLen * 65536 + 4 * b2n (s.shore.lease == 2) + 2 * b2n s.host.ready + b2n s.host.busy
  else if off = 8 ∨ off = 0xC then s.regGet (0x10000 + off)
  else if 0x100 ≤ off then ofLe (Store.getMany zeroByte s.host.mailbox off 4)
  else 0

/-! ### BAR0 -/

/-- An MSI-X vector is masked, by itself or with the function (R728). -/
def vectorMasked (s : State) (v : Nat) : Bool := s.host.functionMask || bit (s.regGet (0x800C + 16 * v)) 0

/-- An MSI-X table entry written; a pending vector whose mask is cleared is due (R728, R750). -/
def msixWrite (s : State) (off v : Nat) : State :=
  let n := (off - 0x8000) / 16
  let s1 := s.regSet off (if off % 16 = 12 then v % 2 else v)
  if s1.host.pba.contains n && !s1.vectorMasked n then
    { s1.raiseVector n with host := { (s1.raiseVector n).host with pba := s1.host.pba.filter (fun x => x != n) } }
  else s1

/-- The fields of INT_VECTORS, each kept where the value written is reserved (R15, Table 16-7). -/
def intVectors (old v : Nat) : Nat :=
  (List.range 4).foldl (fun m i =>
    let f := v / 256 ^ i % 256
    m + (if f < 128 then f else old / 256 ^ i % 256) * 256 ^ i) 0

/-- A 4-byte write to a global register (Table 16-7 and the tables of the chapters it names). -/
def globalWrite (s : State) (off v : Nat) : State :=
  if off = 0x08 then s.regSet 0x08 (s.regGet 0x08 &&& (31 - v % 32))
  else if off = 0x10 then s.regSet 0x10 (v / 2 ^ min 32 s.bar2Log2 * 2 ^ min 32 s.bar2Log2)
  else if off = 0x14 then s.regSet 0x14 (v % 65536 / 2 ^ (s.bar2Log2 - 32) * 2 ^ (s.bar2Log2 - 32))
  else if off = 0x20 then s.regSet 0x20 (intVectors (s.regGet 0x20) v)
  else if off = 0x24 then s.regSet 0x24 (v % 16)
  else if off = 0x28 ∨ off = 0x2C then s.regSet off v
  else if off = 0x64 then { s with egs := { s.egs with heatTail := v } }
  else if off = 0x70 then s.updTailWrite v
  else if off = 0xA4 then s.resetRequest v
  else if [0x00, 0x04, 0x0C, 0x18, 0x40, 0x44, 0x48, 0x50, 0x54, 0x58, 0x5C, 0x60, 0x74, 0x80, 0x84, 0x88, 0x90, 0xA0, 0xB0,
      0xC0].contains off then s.statWrite
  else s

/-- A 4-byte write to BAR0. -/
def bar0Write4 (s : State) (off v : Nat) : State :=
  if off < 0x1000 then s.globalWrite off v
  else if 0x1100 ≤ off ∧ off < 0x5000 then s.pageWrite (off / 256 - 0x10) (off % 256) v
  else if 0x8000 ≤ off ∧ off < 0x8800 then s.msixWrite off v
  else s

/-- The sizes and alignments that BAR0 and BAR4 take (R703): 4 octets, or 8 at 0040h and in the MSI-X table (log entry 21). -/
def sizeOk (bar off size : Nat) : Bool :=
  (size == 4 && off % 4 == 0) ||
    (size == 8 && off % 8 == 0 && bar == 0 && (off == 0x40 || (decide (0x8000 ≤ off) && decide (off < 0x8800))))

/-- A host write to BAR0 or BAR4 (R703 to R705, R754). -/
def barWrite (s : State) (bar off size v : Nat) (poisoned : Bool) : State :=
  if poisoned then s.poisonedWrite
  else if !sizeOk bar off size then s.accessRefused
  else if bar = 4 then s.bar4Write off (v % 2 ^ 32)
  else if size = 8 ∧ off = 0x40 then s.statWrite
  else
    let s1 := s.bar0Write4 off (v % 2 ^ 32)
    if size = 8 then s1.bar0Write4 (off + 4) (v / 2 ^ 32 % 2 ^ 32) else s1

/-- The bits of the ports whose PORT_STATE passes a test. -/
def portBits (s : State) (f : Nat → Nat → Bool) : Nat := maskOf 8 (fun p => f p (s.num (Obj.PORT_STATE p)))

/-- The junction temperature in whole degrees, 0 below 0 °C (Table 20-11). -/
def junctionC (s : State) : Nat := (toSigned 16 (s.num Obj.JUNCTION_TEMP) / 16).toNat % 256

/-- A link below 8 GT/s or narrower than x16 (Table 16-6). -/
def linkDegraded (s : State) : Bool :=
  s.host.linkUp && (decide (bits (s.num Obj.LINK_STATE) 15 12 < 3) || decide (bits (s.num Obj.LINK_STATE) 10 5 < 16))

/-- BOOT_STATUS (Table 19-11). -/
def bootStatus (s : State) : Nat :=
  s.nv.step * 256 + s.num Obj.BOOT_IMAGE % 4 * 64 + 32 * s.num Obj.SECURE_BOOT + 16 * b2n s.nv.hold + s.nv.boot * 4 +
    2 * b2n (bit (s.num Obj.BOOT_STICKY) 0)

/-- A global register of BAR0 as it reads (Tables 16-7, 2-8, 3-13, 5-12, 11-10, 12-15, 13-10, 14-10, 15-6, 17-8, 19-11, 20-11,
22-18). -/
def bar0View (s : State) (off : Nat) : Nat :=
  match off with
  | 0x00 => s.addr * 256 + 1
  | 0x04 => 128 * b2n s.linkDegraded + 8 * b2n (s.shore.lease == 2) + 4 * b2n s.faults.device + 2 * b2n s.nv.warm + b2n s.nv.ready
  | 0x40 => s.now % 2 ^ 32
  | 0x48 => s.num Obj.MASTER_ADDR * 256 + b2n (s.num Obj.TIDE_STATE == 1 || s.num Obj.TIDE_STATE == 2)
  | 0x50 => s.logicalCourses * 65536 + s.sparesLeft * 256 + b2n ((List.range 68).any (fun c => s.courseState c == 3))
  | 0x54 => 4 * b2n s.mortar.headerFault + 2 * b2n s.mortar.booksFault + s.mortar.parity
  | 0x58 => ((List.range 256).filter (fun n => s.pcState n != 0)).length * 65536 + 2 * b2n s.hbm.regionsPending +
      b2n (match s.hbm.calAt with
        | some a => decide (s.now < a + 1024)
        | none => false)
  | 0x5C => s.portBits (fun p v => v == 2 && decide (s.num (Obj.WIDTH p) < 4)) * 65536 +
      s.portBits (fun _ v => v == 4 || v == 5) * 256 + s.portBits (fun _ v => v == 2)
  | 0x60 => s.egs.heatHead
  | 0x64 => s.egs.heatTail
  | 0x70 => s.egs.ringTail
  | 0x74 => s.egs.ringHead
  | 0x80 => s.num Obj.CURRENT_CLIENT * 65536 + s.schedState
  | 0x84 => maskOf 32 s.clientHalted
  | 0x88 => maskOf 32 (fun i => s.clientHalted (i + 32))
  | 0x90 => s.num Obj.LOG_WRITTEN
  | 0xA0 => s.bootStatus
  | 0xB0 => s.num Obj.DISPATCH_LEVEL * 65536 + s.junctionC * 256 + 8 * s.num Obj.TRIP_LATCHED + s.powerState
  | 0xC0 => maskOf 16 s.pinDrives * 65536 + maskOf 16 s.pinLevel
  | _ => if [0x08, 0x0C, 0x10, 0x14, 0x18, 0x20, 0x24, 0x28, 0x2C, 0x44].contains off then s.regGet off else 0

/-- A register of a client page as it reads (Table 16-8). -/
def pageRead (s : State) (c off : Nat) : Nat :=
  if off = 0x28 then
    s.fetchedOf c * 256 + 16 * b2n (s.sched.entries.any (fun e => e.client == c) && s.cqFull c) + 8 * b2n (s.clientHalted c) +
      s.ringState c
  else if off = 0x2C then s.num (Obj.CLIENT_LAST_FAULT c)
  else if off = 0x30 then s.num (Obj.CLIENT_LAST_SEQUENCE c)
  else if off = 0x24 ∨ 0x38 ≤ off then 0
  else s.cReg c off

/-- A BAR0 register as it reads. -/
def bar0Read4 (s : State) (off : Nat) : Nat :=
  if off < 0x1000 then s.bar0View off
  else if 0x1100 ≤ off ∧ off < 0x5000 then s.pageRead (off / 256 - 0x10) (off % 256)
  else if 0x8000 ≤ off ∧ off < 0x8800 then s.regGet off
  else if 0x9000 ≤ off ∧ off < 0x9010 then
    maskOf 32 (fun i => s.host.pba.contains ((off - 0x9000) * 8 + i))
  else 0

/-- A host read of BAR0 or BAR4 (R91, R703 to R705, R760). -/
def barRead (s : State) (bar off size : Nat) : State :=
  let answer := fun (t : State) (v : Nat) => t.emit (.reply ((leBytes size v).map some))
  if !sizeOk bar off size then answer s.accessRefused 0
  else if bar = 4 then (if s.hostBarred then answer s.bar2Refused (2 ^ (8 * size) - 1) else answer s (s.bar4Read off))
  else
    let s1 := if off = 0x40 then s.regSet 0x44 (s.now / 2 ^ 32) else s
    answer s1 (s1.bar0Read4 off + (if size = 8 then s1.bar0Read4 (off + 4) * 2 ^ 32 else 0))

/-! ### Resets and the link -/

/-- What a host reset does (R699, R757, R758, R787, R866). Kinds: 1 PERST_N, 2 hot reset, 3 link down, 4 FLR, 5 D3hot to D0. -/
def hostReset (s : State) (kind : Nat) : State :=
  let down := decide (kind ≤ 3)
  let s1 := ((s.inc32 Obj.HOST_RESETS 1).event 0x0A02 8 kind 0).hostResetLease
  let s2 := { s1 with
    reg := s1.reg.filter (fun p => p.1 == 0x44 || decide (0x10000 ≤ p.1))
    obj := s1.obj.filter (fun p => !(decide (0x3101 ≤ keyIndex p.1) && decide (keyIndex p.1 ≤ 0x313F) && keySub p.1 == 0x11))
    host := { s1.host with
      perst := kind == 1, linkUp := s1.host.linkUp && !down, sentAt := [], due := [], pba := [], functionMask := false }
    sched := { s1.sched with
      slots := s1.sched.slots.filter (fun j => j.maint.isSome)
      run := s1.sched.run.map (fun (r : Run) => ({ r with mute := r.job.maint.isNone } : Run))
      chosen := none, refused := [], hold := none, fetch := [], entries := [], owed := none, seqNext := [], written := [] } }
  let s3 := if s1.sched.hold.isSome || s1.sched.chosen.isSome then (s2.setSched 0).selectionEvent else s2
  let s4 := if down then s3.setNum Obj.LINK_STATE 0
    else s3.setNum Obj.LINK_STATE (s3.num Obj.LINK_STATE / 4 * 4)
  s4.lullFollows.settle

/-- The MSI-X message of a vector is sent, made pending while masked, or waits for 64 mc after the last (R726 to R728). -/
def msixSend (s : State) (v : Nat) : State :=
  let rest := s.host.due.filter (fun x => x != v)
  if s.vectorMasked v then
    { s with host := { s.host with due := rest, pba := if s.host.pba.contains v then s.host.pba else s.host.pba ++ [v] } }
  else
    let last := Store.get (fun _ => 0) s.host.sentAt v
    if last ≠ 0 ∧ s.clock < last + 2 then s
    else
      let s1 := (s.emit (.msix v)).inc64 Obj.MSIX_SENT 1
      { s1 with host := { s1.host with due := rest, sentAt := Store.set (fun _ => 0) s1.host.sentAt v (s.clock + 1) } }

end State

/-! ### Commands -/

/-- SQ_TAIL (R6, R712, R713, R716, R717). -/
def execSqTail (client value : Nat) (s : State) : Host.Outcome State Fault Refusal :=
  act (clientOk client && decide (value < 2 ^ 32)) (s.live s.host.linkUp (s.sqTailWrite client value))

/-- CQ_HEAD (R6, R721, R746). -/
def execCqHead (client value : Nat) (s : State) : Host.Outcome State Fault Refusal :=
  act (clientOk client && decide (value < 2 ^ 32)) (s.live s.host.linkUp (s.cqHeadWrite client value))

/-- ENABLE (R710, R745). -/
def execEnable (client : Nat) (s : State) : Host.Outcome State Fault Refusal :=
  act (clientOk client) (s.live s.host.linkUp (s.cmdEnable client))

/-- STOP (R740, R741, R745, R748). -/
def execStop (client : Nat) (s : State) : Host.Outcome State Fault Refusal :=
  act (clientOk client) (s.live s.host.linkUp (s.cmdStop client))

/-- DISABLE (R742, R745). -/
def execDisable (client : Nat) (s : State) : Host.Outcome State Fault Refusal :=
  act (clientOk client) (s.live s.host.linkUp (s.cmdDisable client))

/-- RESUME (R743, R745, R692, R749). -/
def execResume (client : Nat) (s : State) : Host.Outcome State Fault Refusal :=
  act (clientOk client) (s.live s.host.linkUp (s.cmdResume client))

/-- RESUME_FLUSH (R744, R745). -/
def execResumeFlush (client : Nat) (s : State) : Host.Outcome State Fault Refusal :=
  act (clientOk client) (s.live s.host.linkUp (s.cmdResumeFlush client))

/-- MB_DOORBELL (R733, R735, R760, R936). -/
def execMbDoorbell (value : Nat) (s : State) : Host.Outcome State Fault Refusal :=
  act (decide (value < 2 ^ 32)) (s.live s.host.linkUp (s.mbDoorbell value))

/-- BAR2_READ (R730 to R732, R738, R755). An access beyond the size that BAR2 has is none of the device's. -/
def execBar2Read (off len : Nat) (s : State) (bufferBad : Bool := false) : Host.Outcome State Fault Refusal :=
  act (decide (1 ≤ len) && decide (off + len ≤ 2 ^ 38))
    (s.live (s.host.linkUp && decide (off + len ≤ 2 ^ s.bar2Log2))
      (if bufferBad then (s.bufferFault.emit (.reply (List.replicate len none))).settle else s.bar2Read off len))

/-- BAR2_WRITE (R730, R732, R754, R755). -/
def execBar2Write (off : Nat) (data : List Byte) (poisoned : Bool) (s : State) (bufferBad : Bool := false) : Host.Outcome State Fault Refusal :=
  act (decide (1 ≤ data.length) && decide (off + data.length ≤ 2 ^ 38))
    (s.live (s.host.linkUp && decide (off + data.length ≤ 2 ^ s.bar2Log2)) 
      (if poisoned then s.poisonedWrite else if bufferBad then s.bufferFault.settle else s.bar2Write off data))

/-- BAR0_WRITE (R6, R8, R14, R15, R703 to R705, R711, R754): a write to BAR0 or BAR4. -/
def execBar0Write (bar off size value : Nat) (poisoned : Bool) (s : State) : Host.Outcome State Fault Refusal :=
  act ((bar == 0 && decide (off + size ≤ 0x10000)) || (bar == 4 && decide (off + size ≤ 0x1000)))
    (s.live s.host.linkUp (s.barWrite bar off size value poisoned))

/-- BAR0_READ (R91, R703 to R705, R738). -/
def execBar0Read (bar off size : Nat) (s : State) : Host.Outcome State Fault Refusal :=
  act ((bar == 0 && decide (off + size ≤ 0x10000)) || (bar == 4 && decide (off + size ≤ 0x1000)))
    (s.live s.host.linkUp (s.barRead bar off size))

/-- RESET_REQUEST (R897). -/
def execResetRequest (value : Nat) (s : State) : Host.Outcome State Fault Refusal :=
  act (decide (value < 2 ^ 32)) (s.live s.host.linkUp (s.resetRequest value))

/-- HOST_RESET (R699, R757, R758, R787, R866). -/
def execHostReset (kind : Nat) (s : State) : Host.Outcome State Fault Refusal :=
  act (decide (1 ≤ kind) && decide (kind ≤ 5)) (s.live true (s.hostReset kind))

/-- LINK_RETRAIN (R756): the link leaves L0 and is retrained. -/
def execLinkRetrain (s : State) : Host.Outcome State Fault Refusal :=
  .next (s.live s.host.linkUp
    { s.inc32 Obj.LINK_RETRAINS 1 with host := { s.host with linkUp := false } })

/-- MSIX_SEND (R726 to R728). -/
def execMsixSend (vector : Nat) (s : State) : Host.Outcome State Fault Refusal :=
  act (decide (vector < 128)) (s.live (s.host.linkUp && s.host.due.contains vector) (s.msixSend vector))

/-- PERST_N_DEASSERTION (R886): PERST_N is released; the host port trains its link once start-up step 3 has ended. -/
def execPerstNDeassertion (s : State) : Host.Outcome State Fault Refusal :=
  .next (s.live true { s with host := { s.host with perst := false } })

/-- LINK_SETTLED (R846, R886; spec/16: Table 16-6): training ends at a rate code of LINK_STATE, a mode and a width; posted
writes held go out (R756). With an unreadable OTP the port does not train (R909). -/
def execLinkSettled (rate : Nat) (flit : Bool) (width : Nat) (s : State) : Host.Outcome State Fault Refusal :=
  let v := rate * 4096 + b2n flit * 2048 + width * 32 + s.num Obj.LINK_STATE % 4
  let s1 := { s.setNum Obj.LINK_STATE v with host := { s.host with linkUp := true } }
  let s2 := if rate < 3 ∨ width < 16 then s1.notify 0x1002 0xFFFFFFFF v else s1
  act (decide (1 ≤ rate) && decide (rate ≤ 6) && [1, 2, 4, 8, 16].contains width)
    (s.live (!s.host.perst && !s.nv.otp.bad && decide (3 ≤ s.nv.step)) s2.settle)

end Sys2Proof.Machine
end

