-- ==== Sys2Proof/Machine/EgsCmds.lean ====
section
/-!
DEFINITION. The commands of the embedding engines: lookups and updates taken, list data, rows, results, done, decay, the apply,
flips, reclamation and the table-update ring (spec/12: R489, R500 to R539; spec/13: R542 to R596).
-/

namespace Sys2Proof.Machine

/-- A lookup block of a POOL mode. -/
def isLookup (pool : Nat) (l : List Byte) : Bool := !isUpdate l && le l 0 1 % 4 == pool

/-- POOL_NONE (R508, R509, R520, R528, R558). -/
def execPoolNone (egs : Nat) (s : State) (upset : Upset := {}) : Host.Outcome State Fault Refusal := act (egsOk egs) (s.egsTake egs (isLookup 0) upset)

/-- POOL_SUM (R508, R509, R518, R528). -/
def execPoolSum (egs : Nat) (s : State) (upset : Upset := {}) : Host.Outcome State Fault Refusal := act (egsOk egs) (s.egsTake egs (isLookup 1) upset)

/-- POOL_MEAN (R508, R509, R518, R528). -/
def execPoolMean (egs : Nat) (s : State) (upset : Upset := {}) : Host.Outcome State Fault Refusal := act (egsOk egs) (s.egsTake egs (isLookup 2) upset)

/-- POOL_WEIGHTED_SUM (R508, R509, R518, R528). -/
def execPoolWeightedSum (egs : Nat) (s : State) (upset : Upset := {}) : Host.Outcome State Fault Refusal :=
  act (egsOk egs) (s.egsTake egs (isLookup 3) upset)

/-- UPDATE (R508, R558, R559, R586, R590, R596). -/
def execUpdate (egs : Nat) (s : State) (upset : Upset := {}) : Host.Outcome State Fault Refusal := act (egsOk egs) (s.egsTake egs isUpdate upset)

namespace State

/-- List data of a read enters the sorter, which makes room for the next read; with the last of them the command is sorted (R509, R511,
R560). -/
def listIn (s : State) (e brick msgTag : Nat) (data : List Byte) : State :=
  match (s.listReader e brick).filter (fun c => c.lists.any (fun g => g.tag == some msgTag && !g.done)) with
  | none => s
  | some c =>
    let c1 := { c with lists := c.lists.map (fun g => if g.tag == some msgTag && !g.done then { g with data := data, done := true } else g) }
    let s1 := s.setEgsWork e c1
    if !c1.sorted && c1.lists.all Segment.done then
      (if isUpdate c1.cmd.block then s1.updateSort e c1 else s1.lookupSort e c1)
    else s1.listIssue e c1

/-- The row that an engine's oldest command reads next by a tag and a row number. -/
def rowFetched (s : State) (e tag row : Nat) : State :=
  match s.egsFirst e with
  | none => s
  | some c =>
    match c.rows.find? (fun r => r.row == row) with
    | none => s
    | some r =>
      if c.sorted && c.tag == tag then
        (if isUpdate c.cmd.block then s.updateRow e c r else s.lookupRow e c r)
      else s

/-- Every counter of every sketch halved (R501). -/
def sketchDecay (s : State) : State :=
  let h := (s.egs.sketch.map (fun (p : Nat × Nat) => (p.1, p.2 / 2))).filter (fun p => p.2 != 0)
  { s with egs := { s.egs with sketch := h } }

/-- An earlier flip of the same entry stands before this one (R567, R587). -/
def flipFirst (s : State) (n : Nat) (f : Flip) : Bool := !(s.egs.flips.take n).any (fun g => g.entryAddr == f.entryAddr)

end State

/-- LIST_DATA (R507, R509, R511, R560): read data of a list read; an uncorrectable payload ends the command (Table 5-9). -/
def execListData (m : Msg) (s : State) : Host.Outcome State Fault Refusal :=
  match m.src, m.dst, m.body with
  | .brick b, .egs e, .listData l =>
    .next (s.live true (s.arrive m (fun t bad => if bad then t.listFailed e b m.tag 0x0230 else t.listIn e b m.tag l)))
  | _, _, _ => act false s

/-- EGS_ROW_FETCHED (R499, R500, R512 to R523, R529, R530, R536 to R538, R561, R562): the directory, bucket or slot read of a row
of an engine's oldest command. -/
def execEgsRowFetched (egs tag row : Nat) (s : State) : Host.Outcome State Fault Refusal :=
  act (egsOk egs) (s.live (!s.wall.closed && !s.calPause) (s.rowFetched egs tag row))

/-- EGS_RESULT_WRITE (R507, R521). -/
def execEgsResultWrite (m : Msg) (s : State) : Host.Outcome State Fault Refusal :=
  match m.dst, m.body with
  | .brick b, .egsResult off data =>
    .next (s.live true (s.arrive m (fun t bad =>
      if bad then t.commandPayload b m.tag else t.resultIn b m.tag off data)))
  | _, _ => act false s

/-- EGS_DONE (R506, R523, R524, R539, R564). -/
def execEgsDone (m : Msg) (s : State) : Host.Outcome State Fault Refusal :=
  match m.dst, m.body with
  | .brick b, .egsDone code _ _ _ =>
    .next (s.live true (s.arrive m (fun t bad => t.doneAt b m.tag (if bad then 0x0230 else code) 5)))
  | _, _ => act false s

/-- REMOTE_ROW_TIMEOUT (R538): a remote row has not been answered within 65,536 tt. -/
def execRemoteRowTimeout (egs tag row : Nat) (s : State) : Host.Outcome State Fault Refusal :=
  match (s.egs.work.filter (fun w => w.1 == egs && w.2.tag == tag)).find? (fun w =>
      w.2.rows.any (fun r => r.row == row && r.phase == .remote && decide (r.askedAt + 65536 ≤ s.clock))) with
  | some (_, c) => act (egsOk egs) (s.live true (s.egsEnd egs c 0x0708))
  | none => act (egsOk egs) s

/-- HEAT_DECAY (R501, R532): at an epoch boundary that DECAY_EPOCHS divides. -/
def execHeatDecay (s : State) : Host.Outcome State Fault Refusal :=
  let d := s.num Obj.DECAY_EPOCHS
  let s1 := s.sketchDecay
  .next (s.live (decide (s.tide.nextDecay ≤ s.now) && !s.asleep && d != 0 && s.now / 65536 % d == 0)
    { s1 with tide := { s1.tide with nextDecay := (s.now / 65536 + 1) * 65536 } })

/-- EMB_APPLY_PERFORM (R489): the pending apply on an idle chip; at a job boundary the switch performs it. -/
def execEmbApplyPerform (s : State) : Host.Outcome State Fault Refusal :=
  .next (s.live (s.egs.pending && s.applyIdle) (s.embFrom s))

/-- FLIP_COMMIT (R530, R542 to R546, R550, R562, R564, R575, R584, R587): the conditional write of a flip whose slot writes are
accepted, by its place among the flips begun. -/
def execFlipCommit (flip : Nat) (s : State) : Host.Outcome State Fault Refusal :=
  match s.egs.flips[flip]? with
  | some f => .next (s.live (!s.asleep && !s.calPause && f.phase == .ready && s.flipFirst flip f) (s.flipCommit f))
  | none => .next s

/-- End of the grace period of the record at place `i` of an engine's retire queue, flipped in the epoch with these low 16 bits: the
first tick of the third epoch after it (R44), later by the size of every forward restep made while it ran (R79). -/
def State.graceEnd (s : State) (egs i epoch : Nat) : Nat :=
  let age := (s.now / 65536 + 65536 - epoch) % 65536
  s.tide.shifts.foldl (fun e (x : Nat × Nat × Store Nat) =>
    if i < Store.get (fun _ => 0) x.2.2 egs ∧ x.1 < e then e + x.2.1 else e) ((s.now / 65536 + 3 - age) * 65536)

/-- RECLAIM (R44, R79, R579 to R584, R594, R964): the record at the head of an engine's retire queue is reclaimed once three epochs
old. -/
def execReclaim (egs : Nat) (s : State) : Host.Outcome State Fault Refusal :=
  let a := s.retireAt egs (s.retireHead egs)
  let l := s.hbmBytes a 16
  let r := s.tableRead a 16
  act (egsOk egs)
    (s.live (!s.asleep && !s.calPause && decide (s.retireHead egs < s.retireTail egs) && decide (s.tide.reclaimFrom ≤ s.now))
      (if r.1 ≠ 0 then (r.2.2.retirePop egs).slotLost
       else if 3 ≤ (s.now / 65536 + 65536 - le l 10 2) % 65536 ∧ s.graceEnd egs (s.retireHead egs) (le l 10 2) ≤ s.now then r.2.2.reclaimRecord egs l
       else s))

/-- UPD_RING_TAIL (R6, R575, R576). -/
def execUpdRingTail (value : Nat) (s : State) : Host.Outcome State Fault Refusal :=
  act (decide (value < 2 ^ 32)) (s.live s.host.linkUp (s.updTailWrite value))

/-- PUT_ROW (R542 to R546, R555, R574, R575, R583, R592, R596, Table 13-5): the next ring entry; an entry of a reserved OP is
refused here. -/
def execPutRow (s : State) : Host.Outcome State Fault Refusal :=
  .next (s.live (s.ringRuns && !s.calPause) (s.ringTake (fun op => op == 1 || op == 0 || decide (6 ≤ op))))

/-- REMOVE_ROW (R545, R546, R574, R575, Table 13-5). -/
def execRemoveRow (s : State) : Host.Outcome State Fault Refusal := .next (s.live (s.ringRuns && !s.calPause) (s.ringTake (fun op => op == 2)))

/-- RETIER (R546, R555, R574, R575, R577, Table 13-5). -/
def execRetier (s : State) : Host.Outcome State Fault Refusal := .next (s.live (s.ringRuns && !s.calPause) (s.ringTake (fun op => op == 3)))

/-- REPLICATE (R574, R575, R577, Table 13-5). -/
def execReplicate (s : State) : Host.Outcome State Fault Refusal := .next (s.live (s.ringRuns && !s.calPause) (s.ringTake (fun op => op == 4)))

/-- UNREPLICATE (R574, R575, R577, Table 13-5). -/
def execUnreplicate (s : State) : Host.Outcome State Fault Refusal := .next (s.live (s.ringRuns && !s.calPause) (s.ringTake (fun op => op == 5)))

end Sys2Proof.Machine
end

