-- ==== Sys2Proof/Machine/Coast.lean ====
section
/-!
DEFINITION. The Coastline links: flits in, retry, training and retraining, forwarding, the row service, posted updates,
reachability and reach launches (spec/14: R603 to R653, R1031; spec/15: R680 to R683; spec/17: R784, R786; spec/21: R963, R966).
-/

namespace Sys2Proof.Machine

/-- The lane set of a port for lanes good in both directions: R615's order; 0 for none. -/
def laneSet (good : Nat) : Nat := ([15, 3, 12, 1, 2, 4, 8].find? (fun m => Nat.land good m == m)).getD 0

/-- A message type that a VC carries (Table 14-6). -/
def typeOk (vc typ : Nat) : Bool :=
  match vc with
  | 0 => typ == 1
  | 1 => decide (1 ≤ typ ∧ typ ≤ 5) || decide (0x10 ≤ typ ∧ typ ≤ 0x13)
  | _ => decide (1 ≤ typ ∧ typ ≤ 4)

namespace State

/-! ### Reachability -/

/-- LAUNCH_ABORT to the members that have sent LAUNCH_READY for a job, which is forgotten (R640). -/
def abortLaunch (s : State) (l : Launch) (reason : Nat) : State :=
  l.members.foldl (fun (t : State) d => t.respond d 0x12 0 0 (leBytes 4 l.job ++ leBytes 1 reason))
    { s with coast := { s.coast with launches := s.coast.launches.filter (fun x => x.job != l.job) } }

/-- A member becomes unreachable: its bit is set and logged, lookups that wait for it end, launches are aborted and a hold on
chip 0 ends (R538, R630, R640, R650, R681). -/
def lost (s : State) (d : Nat) : State :=
  if bit (s.num Obj.UNREACHABLE_MASK) d || d == s.addr then s
  else
    let s1 := (s.setNum Obj.UNREACHABLE_MASK (setBit (s.num Obj.UNREACHABLE_MASK) d true)).eventNote 0x0805 6 0 0
    let s2 := s1.lookupsLost d
    let s3 := s2.coast.launches.foldl (fun (t : State) l => t.abortLaunch l 4) s2
    s3.holdCheck

/-- Every member whose route begins at a port that is not UP is unreachable (R630). -/
def reachCheck (s : State) : State :=
  let t := s.others.foldl (fun (t : State) d =>
    match t.routePort t.addr d with
    | some p => if t.portUp p then t else t.lost d
    | none => t) s
  if s.sched.hold.isSome && t.sched.hold.isNone then t.settle else t

/-- Bit d is cleared where the first port of the route is UP (R630). -/
def reached (s : State) (d : Nat) : State :=
  match s.routePort s.addr d with
  | some p => if s.portUp p then s.setNum Obj.UNREACHABLE_MASK (setBit (s.num Obj.UNREACHABLE_MASK) d false) else s
  | none => s

/-- A member's reset epoch, as one of its messages names it (R653). -/
def adoptEpoch (s : State) (d e : Nat) : State :=
  let m := s.member d
  if m.epoch = e then s else s.setMember d { m with epoch := e, sent := 0, freed := 0 }

/-- PROBE to a member, outside the credit of R624 (R628, R631); it needs the port. -/
def sendProbe (s : State) (d : Nat) : State :=
  let m := s.member d
  let s1 := s.setMember d { m with probing := true, probeAt := s.clock }
  match s.routePort s.addr d with
  | some p => if s.portUp p then s1.post 2 (s1.coastMsg d 4 m.epoch 0 (leBytes 4 m.sent)) else s.setMember d { m with probeAt := s.clock }
  | none => s

/-! ### Ports -/

/-- A port begins to train: nothing of its link state stays (R614, R651, R652). -/
def trainPort (s : State) (p : Nat) : State :=
  let s1 := (((s.setNum (Obj.PORT_STATE p) 1).setNum (Obj.WIDTH p) 0).setNum (Obj.LANE_MASK p) 0).setNum (Obj.PEER p) 0xFFFF
  s1.setPort p { trainFrom := s.clock }

/-- A port that does not carry what it should becomes MISWIRED (R613, R1031). -/
def miswire (s : State) (p : Nat) : State :=
  (((s.setNum (Obj.PORT_STATE p) 5).setNum (Obj.WIDTH p) 0).setNum (Obj.LANE_MASK p) 0).setSticky (Obj.PORT_STICKY p) 3
    |>.eventNote 0x0804 6 0 0

/-- A port becomes DOWN (R614, R620). -/
def portFails (s : State) (p : Nat) : State :=
  ((((s.setNum (Obj.PORT_STATE p) 4).setNum (Obj.WIDTH p) 0).setNum (Obj.LANE_MASK p) 0).setSticky (Obj.PORT_STICKY p) 2).eventNote
    0x0803 6 0 0

/-- A port is switched off: it carries nothing and keeps nothing of its link (Table 20-5 step 6). -/
def disablePort (s : State) (p : Nat) : State :=
  ((((s.setNum (Obj.PORT_STATE p) 0).setNum (Obj.WIDTH p) 0).setNum (Obj.LANE_MASK p) 0).setNum (Obj.PEER p) 0xFFFF).setPort p {}

/-- Ports begin to train where they are enabled; a topology outside Table 14-3 leaves them MISWIRED (R651, R652, R1031). -/
def trainPorts (s : State) (ps : List Nat) : State :=
  ps.foldl (fun (t : State) p =>
    if t.num (Obj.PORT_ENABLE p) ≠ 1 then t.setNum (Obj.PORT_STATE p) 0
    else if t.topologyOk then t.trainPort p else t.miswire p) s

/-- A port becomes UP at a lane set (R613, R615). -/
def portComesUp (s : State) (p lanes : Nat) : State :=
  let s1 := ((s.setNum (Obj.PORT_STATE p) 2).setNum (Obj.WIDTH p) (popCount 4 lanes)).setNum (Obj.LANE_MASK p) lanes
  (s1.transmit p).updPump

/-- What an IDENT flit says agrees with this chip and Table 14-3 (R613). -/
def identOk (s : State) (p : Nat) (i : Ident) : Bool :=
  i.reachId == s.num Obj.REACH_ID && i.topology == s.num Obj.TOPOLOGY && i.dimX == s.num Obj.DIM_X && i.dimY == s.num Obj.DIM_Y &&
    s.neighbour p == some (i.sender, i.senderPort)

/-- IDENT at a port in training: UP or MISWIRED (R613, R615, R653). -/
def identIn (s : State) (p : Nat) (i : Ident) (lanes : Nat) : State :=
  if !s.identOk p i then (s.miswire p).reachCheck
  else
    let m := laneSet (Nat.land (Nat.land i.goodLanes lanes) 15)
    if m = 0 then s
    else ((s.adoptEpoch i.sender i.epoch).setNum (Obj.PEER p) (i.sender * 256 + i.senderPort)).portComesUp p m

/-- A CONTROL, TIDE or SKIP flit with a bad CRC, or one with a reserved encoding, is counted (R618). -/
def badControl (s : State) (p : Nat) : State := s.inc32 (Obj.CRC_ERRORS p) 1

/-! ### Flits in -/

/-- Held flits that an ACK_SEQ covers go; an advance ends a row of NAKs (R617, R619). -/
def ackIn (s : State) (p ack : Nat) : State :=
  let c := s.port p
  let rest := c.replay.filter (fun f => decide (1024 ≤ (ack + 2048 - f.seq) % 2048))
  if rest.length = c.replay.length then s else s.setPort p { c with replay := rest, naks := 0 }

/-- A whole message enters its input buffer; one of a reserved type or destination is dropped (R621, Tables 14-4 and 14-6). -/
def messageIn (s : State) (p k : Nat) (l : List Byte) : State :=
  let m : CoastMsg := { port := p, vcd := k, bytes := l }
  if le l 0 1 < s.reachSize ∧ le l 1 1 < s.reachSize ∧ (le l 0 1 ≠ s.addr ∨ typeOk (k / 2) (le l 2 1)) then
    { s with coast := { s.coast with inbox := s.coast.inbox ++ [m] } }
  else s.freedOne p k (coastFlits l)

/-- The DATA flit expected is accepted (R616). -/
def flitAccepted (s : State) (p : Nat) (f : Flit) : State :=
  let c := s.port p
  let k := f.vc * 2 + f.dateline
  let l := (c.assembly.filter (fun x => x.1 == k)).flatMap Prod.snd ++ f.payload
  let rest := c.assembly.filter (fun x => x.1 != k)
  let s1 := (s.setPort p { c with
    rxSeq := (c.rxSeq + 1) % 2048, nakSent := false
    assembly := if f.last then rest else rest ++ [(k, l)] }).inc64 (Obj.FLITS_RECEIVED p) 1
  if f.last then s1.messageIn p k l else s1

/-- A DATA flit arrives: accepted, discarded with a NAK, or discarded as old (R616). -/
def flitIn (s : State) (p : Nat) (f : Flit) : State :=
  let c := s.port p
  let d := (f.seq + 2048 - c.rxSeq) % 2048
  if !f.crcOk || decide (1 ≤ d ∧ d < 1024) then
    let s1 := if f.crcOk then s.ackIn p f.ackSeq else s
    if c.nakSent then s1 else s1.setPort p { s1.port p with nakSent := true, nakDue := true }
  else if d = 0 then (s.flitAccepted p f).ackIn p f.ackSeq
  else s.ackIn p f.ackSeq

/-- The replay that a NAK asks for: every held flit from the named SEQ, in order (R617). -/
def replayFrom (s : State) (p seq : Nat) : State :=
  let c := s.port p
  let l := c.replay.filter (fun f => decide ((f.seq + 2048 - seq) % 2048 < 1024))
  let s1 := ((s.setPort p { c with naks := c.naks + 1 }).inc32 (Obj.REPLAYS p) 1).inc64 (Obj.FLITS_SENT p) l.length
  l.foldl (fun (t : State) f => t.emit (.flit p (flitOctets { f with ackSeq := ackSeq (t.port p) }))) s1

/-- CREDIT_ACK: the ACK first, FREED, and then a NAK; the transmitter goes on (R605, R606, R617, R644). -/
def creditIn (s : State) (p : Nat) (c : CreditAck) : State :=
  let s1 := s.ackIn p c.ackSeq
  let freed := (numbered 0 c.freed).foldl (fun (m : Store Nat) x => Store.set (fun _ => 0) m x.1 x.2) ([] : Store Nat)
  let s2 := s1.setPort p { s1.port p with freedIn := freed }
  let s3 := match c.nak with
    | some n => s2.replayFrom p n
    | none => s2
  s3.transmit p

/-- A CONTROL flit leaves: CREDIT_ACK on a port that carries traffic, IDENT in training (R606, R614, R616, Table 14-5). -/
def controlOut (s : State) (p : Nat) : State :=
  let c := s.port p
  if s.portUp p then
    let freed := (List.range 6).map (fun k => Store.get (fun _ => 0) c.freedOut k)
    let m : CreditAck := { crcOk := true, reserved := false, ackSeq := ackSeq c, nak := if c.nakDue then some c.rxSeq else none,
                           freed := freed }
    (s.setPort p { c with nakDue := false, reported := c.freedOut, lastControl := s.clock }).emit (.flit p (creditOctets m))
  else
    let i : Ident := { crcOk := true, reserved := false, sender := s.addr, senderPort := p, topology := s.num Obj.TOPOLOGY,
                       dimX := s.num Obj.DIM_X, dimY := s.num Obj.DIM_Y, goodLanes := Nat.land 15 (15 - c.excluded % 16),
                       epoch := s.num Obj.RESET_EPOCH, reachId := s.num Obj.REACH_ID }
    s.emit (.flit p (identOctets i))

/-! ### Lanes -/

/-- The BIP errors of the last 65,536 tt. -/
def bipRecent (s : State) (p : Nat) : List (Nat × Nat × Nat) := (s.port p).bip.filter (fun x => decide (s.clock < x.2.1 + 65536))

/-- Lanes whose BIP errors within 65,536 tt exceed LANE_BIP_LIMIT (R619). -/
def bipTripped (s : State) (p : Nat) : Nat :=
  maskOf 4 (fun l => bit (s.num (Obj.LANE_MASK p)) l &&
    decide (s.num (Obj.LANE_BIP_LIMIT p) < (((s.bipRecent p).filter (fun x => x.1 == l)).map (fun x => x.2.2)).sum))

/-- BIP errors of a skip flit are counted, in LANE_BIP and for R619 (R618, R619). -/
def skipIn (s : State) (p : Nat) (errors : List Nat) : State :=
  let l := errors.take 4
  let s1 := (numbered 0 l).foldl (fun (t : State) x =>
    t.setOcts (Obj.LANE_BIP p) (4 * x.1) (leBytes 4 (sat32 (ofLe (t.octs (Obj.LANE_BIP p) (4 * x.1) 4) + x.2)))) s
  s1.setPort p { s.port p with bip := s.bipRecent p ++
    ((numbered 0 l).filter (fun x => x.2 != 0)).map (fun x => (x.1, s.clock, x.2)) }

/-- What makes an UP port retrain: lanes in use lost, eight NAKs in a row, or BIP errors (R619). -/
def retrainDue (s : State) (p lanes : Nat) : Bool :=
  Nat.land lanes (s.num (Obj.LANE_MASK p)) != 0 || decide (8 ≤ (s.port p).naks) || s.bipTripped p != 0

/-- A port retrains (R619, R620, R630). -/
def retrain (s : State) (p lanes : Nat) : State :=
  let c := s.port p
  let out := Nat.lor (Nat.land lanes (s.num (Obj.LANE_MASK p))) (s.bipTripped p)
  let s1 := s.setPort p { c with excluded := Nat.lor c.excluded out, trainFrom := s.clock, naks := 0, bip := [] }
  (((s1.setNum (Obj.PORT_STATE p) 3).inc32 (Obj.RETRAINS p) 1).setSticky (Obj.PORT_STICKY p) 0).reachCheck

/-- A retrain ends with lanes good in both directions: UP, tried again, or DOWN (R615, R620, R650). -/
def retrained (s : State) (p lanes : Nat) : State :=
  let c := s.port p
  let m := laneSet (Nat.land lanes (15 - c.excluded % 16))
  if c.trainFrom + 5000 < s.clock then
    if 3 ≤ c.retrainFails + 1 then (s.portFails p).reachCheck
    else s.setPort p { c with retrainFails := c.retrainFails + 1, trainFrom := s.clock }
  else if m = 0 then (s.portFails p).reachCheck
  else
    let narrower := popCount 4 m < s.num (Obj.WIDTH p)
    let s1 := (s.setPort p { c with retrainFails := 0 }).event 0x0801 6 0 0
    let s2 := if narrower then (s1.setSticky (Obj.PORT_STICKY p) 1).eventNote 0x0802 6 0 0 else s1
    s2.portComesUp p m

/-! ### Messages -/

/-- The oldest message of a port that another chip is to have. -/
def transitMessage (s : State) (p : Nat) : Option CoastMsg :=
  s.coast.inbox.find? (fun m => m.port == p && le m.bytes 0 1 != s.addr)

/-- A message goes on on its VC, or is answered as undeliverable (R610 to R612, R627, R632). -/
def forward (s : State) (m : CoastMsg) : State :=
  let src := m.source
  let dest := le m.bytes 0 1
  match (s.routePort src dest).filter (fun p => s.portUp p) with
  | some p =>
    ({ s with coast := { s.coast with inbox := s.coast.inbox.erase m } }).enqueue p m.port m.vcd (m.vcd / 2)
      (s.outSet m.port (m.vcd % 2) p) m.bytes
  | none =>
    let s1 := s.unbuffer m
    match m.vcd / 2 with
    | 0 => s1.respond src 2 3 m.tag []
    | 1 => s1.inc32 Obj.RSP_DISCARDED 1
    | _ => s1.discardUpd m 1

/-- A posted record is taken where it carries this chip's reset epoch (R625, R626). -/
def posted (s : State) (m : CoastMsg) (k : State → State) : State :=
  if m.status ≠ s.num Obj.RESET_EPOCH then s.inc32 Obj.UPD_STALE 1
  else
    let n := coastFlits m.bytes
    let x := s.member m.source
    k ((s.setMember m.source { x with received := (x.received + n) % 2 ^ 32 }).updFreed m.source n)

/-- PROBE: what was lost is counted, and PROBE_ACK answers (R626, R629). -/
def probeIn (s : State) (m : CoastMsg) : State :=
  if m.status ≠ s.num Obj.RESET_EPOCH then s.inc32 Obj.UPD_STALE 1
  else
    let d := m.source
    let x := s.member d
    let sent := le m.body 0 4
    let n := (sent + 2 ^ 32 - x.received) % 2 ^ 32
    let f := (x.freedOut + n) % 2 ^ 32
    let s1 := if n = 0 then s else (s.inc32 Obj.UPD_LOST n).event 0x0806 6 n d
    (s1.setMember d { x with received := sent, freedOut := f, reported := f, advanced := none }).respond d 3
      (s.num Obj.RESET_EPOCH) 0 (leBytes 4 f)

/-- FREED_d from a member (R624, R630, R653). -/
def creditFrom (s : State) (m : CoastMsg) (ack : Bool) : State :=
  let d := m.source
  let s1 := s.adoptEpoch d m.status
  let x := s1.member d
  let s2 := s1.setMember d { x with freed := le m.body 0 4, probing := if ack then false else x.probing }
  (if ack then s2.reached d else s2).updPump

/-- DISCARD for a destination (R628, R630). -/
def discarded (s : State) (m : CoastMsg) : State :=
  let d := le m.body 0 1
  let s1 := if le m.body 1 1 = 1 ∧ d < s.reachSize then s.lost d else s
  if d < s.reachSize ∧ d ≠ s.addr ∧ !(s.member d).probing then s1.sendProbe d else s1

/-! ### Reach launches -/

/-- LAUNCH_GO to every member for the job whose set became complete first, unless a GO still waits for its START_TIDE (R639,
R647). -/
def launchPump (s : State) : State :=
  let busy := match s.coast.go with
    | some g => decide (s.now < g.2)
    | none => false
  match s.coast.launches.find? (fun l => (List.range s.reachSize).all (fun d => l.members.contains d)) with
  | none => s
  | some l =>
    if busy then s
    else
      let start := s.now + s.num Obj.LAUNCH_LEAD
      let s1 := { s with coast := { s.coast with
        launches := s.coast.launches.filter (fun x => x.job != l.job), go := some (l.job, start) } }
      (List.range s.reachSize).foldl (fun (t : State) d =>
        t.respond d 0x11 0 0 (leBytes 4 l.job ++ leBytes 5 (start % 2 ^ 40))) s1

/-- LAUNCH_READY at the coordinator (R639, R640, R647). -/
def readyIn (s : State) (m : CoastMsg) : State :=
  let job := le m.body 0 4
  let old := s.coast.launches.find? (fun l => l.job == job)
  let l : Launch := match old with
    | some l => { l with members := if l.members.contains m.source then l.members else l.members ++ [m.source] }
    | none => { job := job, members := [m.source], first := s.clock }
  let st := le m.body 4 1
  if st ≠ 1 ∧ st ≠ 2 then s.abortLaunch l 2
  else if s.others.any (fun d => bit (s.num Obj.UNREACHABLE_MASK) d) then s.abortLaunch l 4
  else
    let whole := fun (x : Launch) => (List.range s.reachSize).all (fun d => x.members.contains d)
    let rest := s.coast.launches.filter (fun x => x.job != job)
    let list := if whole l then rest.filter whole ++ [l] ++ rest.filter (fun x => !whole x) else rest ++ [l]
    { s with coast := { s.coast with launches := list } }.launchPump

/-- The reach job that this chip runs or holds (R682, R784). -/
def runsReach (s : State) (job : Nat) : Bool :=
  match s.sched.run with
  | some r => r.job.desc.reach && r.job.desc.reachJob == job
  | none => false
def holdsReach (s : State) (job : Nat) : Bool :=
  match s.sched.hold with
  | some h => h.job == job
  | none => false

/-- LAUNCH_GO at a member: the start is armed, or the launch is called off (R641, R642, R682). -/
def goIn (s : State) (m : CoastMsg) : State :=
  let job := le m.body 0 4
  let start := tide40 (le m.body 4 5) s.now
  let late := s.respond 0 0x12 0 0 (leBytes 4 job ++ leBytes 1 1)
  match s.sched.hold with
  | some h =>
    if h.job ≠ job then (if s.runsReach job then s else late)
    else if start < s.now + 16 then late
    else { s with sched := { s.sched with hold := some { h with start := some start } } }.inc64 Obj.LAUNCHES 1
  | none => if s.runsReach job then s else late

/-- LAUNCH_ABORT: chip 0 tears a failed launch down; a member's hold ends (R642, R680, R682, R683). -/
def abortIn (s : State) (m : CoastMsg) : State :=
  let job := le m.body 0 4
  let reason := le m.body 4 1
  if reason = 1 then
    if s.addr ≠ 0 then s
    else (List.range s.reachSize).foldl (fun (t : State) d =>
      (t.inc32 Obj.REACH_TEARDOWNS_SENT 1).respond d 0x13 0 0 (leBytes 4 job ++ leBytes 2 0x0807)) s
  else if s.holdsReach job then s.abortHold.settle
  else s

/-- REACH_TEARDOWN: a fault report of the job that runs or is held, else ignored (R784, R786). -/
def teardownIn (s : State) (m : CoastMsg) : State :=
  let job := le m.body 0 4
  if s.runsReach job || s.holdsReach job then
    s.report { plainReport s (le m.body 4 2) 6 s.mortar.parity 0 0 with remote := some m.source }
  else s.inc32 Obj.REACH_TEARDOWNS_IGNORED 1

end State

/-! ### Commands -/

/-- DATA_FLIT (R603, R605, R616, R621, R623, R649, R650). -/
def execDataFlit (port : Nat) (octets : List Byte) (s : State) : Host.Outcome State Fault Refusal :=
  let f := parseFlit octets
  act (portOk port) (s.live (s.portUp port && (flitKind octets == 0 || !f.crcOk) && decide (f.vc < 3)) (s.flitIn port f))

/-- CREDIT_ACK (R605, R606, R617, R618, R644, Table 14-5): a CONTROL flit that is no IDENT. -/
def execCreditAck (port : Nat) (octets : List Byte) (s : State) : Host.Outcome State Fault Refusal :=
  let c := parseCredit octets
  act (portOk port) (s.live (s.portUp port && ((flitKind octets == 1 && le octets 4 1 != 2) || !c.crcOk))
    (if !c.crcOk || c.reserved then s.badControl port else s.creditIn port c))

/-- CONTROL_FLIT_DUE (R606, R614). -/
def execControlFlitDue (port : Nat) (s : State) : Host.Outcome State Fault Refusal :=
  act (portOk port) (s.live (s.portUp port || s.num (Obj.PORT_STATE port) == 1 || s.num (Obj.PORT_STATE port) == 3)
    (s.controlOut port))

/-- IDENT (R613 to R615, R618, R650, R653): in training the port becomes UP or MISWIRED; a neighbour that has been reset makes a
port train afresh (R652). -/
def execIdent (port : Nat) (octets : List Byte) (lanes : Nat) (s : State) : Host.Outcome State Fault Refusal :=
  let i := parseIdent octets
  let st := s.num (Obj.PORT_STATE port)
  let fresh := (st == 2 || st == 3) && (s.member i.sender).epoch != i.epoch
  act (portOk port) (s.live ((st == 1 || fresh) && ((flitKind octets == 1 && le octets 4 1 == 2) || !i.crcOk))
    (if !i.crcOk || i.reserved then s.badControl port
     else if fresh then (s.trainPort port).identIn port i lanes else s.identIn port i lanes))

/-- TRAINING_TIMEOUT (R614, R630, R650). -/
def execTrainingTimeout (port : Nat) (s : State) : Host.Outcome State Fault Refusal :=
  let c := s.port port
  act (portOk port) (s.live (s.num (Obj.PORT_STATE port) == 1 && decide (c.trainFrom + 500000 ≤ s.clock))
    (if 3 ≤ c.attempts + 1 then ((s.setPort port { c with attempts := c.attempts + 1 }).portFails port).reachCheck
     else s.setPort port { c with attempts := c.attempts + 1, trainFrom := s.clock }))

/-- LANE_LOSS (R619, R620, R630, R645, R650). -/
def execLaneLoss (port lanes : Nat) (s : State) : Host.Outcome State Fault Refusal :=
  act (portOk port) (s.live (s.portUp port && s.retrainDue port lanes) (s.retrain port lanes))

/-- RETRAIN_DONE (R615, R620, R650). -/
def execRetrainDone (port lanes : Nat) (s : State) : Host.Outcome State Fault Refusal :=
  act (portOk port) (s.live (s.num (Obj.PORT_STATE port) == 3) (s.retrained port lanes))

/-- SKIP_FLIT (R618, R619). -/
def execSkipFlit (port : Nat) (crcOk : Bool) (errors : List Nat) (s : State) : Host.Outcome State Fault Refusal :=
  act (portOk port) (s.live (s.portUp port) (if crcOk then s.skipIn port errors else s.badControl port))

/-- RESERVE_WINDOW (R60, R70, R635, R636). -/
def execReserveWindow (port : Nat) (s : State) : Host.Outcome State Fault Refusal :=
  let k := s.num (Obj.RESERVE_LOG2 port)
  let n := s.num (Obj.RESERVE_LENGTH port)
  act (portOk port) (s.live (decide (k ≤ 10) && n != 0 && s.tideAt (s.num (Obj.RESERVE_OFFSET port)) (4096 * 2 ^ k))
    (s.setPort port { s.port port with windowEnd := some (s.now + n - b2n (s.now % (4096 * 2 ^ k) != s.num (Obj.RESERVE_OFFSET port))) }))

/-- MESSAGE_FORWARD (R610 to R612, R627, R632, R649). -/
def execMessageForward (port upset : Nat) (s : State) : Host.Outcome State Fault Refusal :=
  match s.transitMessage port with
  | none => act (portOk port) s
  | some m => act (portOk port) (s.live true
      (if 2 ≤ upset then (s.unbuffer m).loseMessage m
       else (if upset = 1 then s.inc32 (Obj.BUFFER_CORRECTED port) 1 else s).forward m))

/-- ROW_REQ (R499, R500, R514 to R516, R534, R622, R646, R762). -/
def execRowReq (port upset : Nat) (s : State) : Host.Outcome State Fault Refusal :=
  act (sourceOk port) (s.live (!s.calPause) (s.withMsg port 0 1 upset (fun t m =>
    let r := t.serveRow m.desc (le m.body 0 2 % 4096) (le m.body 4 4) m.source
    let u := r.2.2.inc64 Obj.SERVED_FOR_PEERS 1
    if r.1 = 0 then u.respond m.source 1 0 m.tag r.2.1 else u.respond m.source 2 r.1 m.tag [])))

/-- ROW_DATA (R517, R518, R521, R522, R774, R966). -/
def execRowData (port upset : Nat) (s : State) : Host.Outcome State Fault Refusal :=
  act (sourceOk port) (s.live true (s.withMsg port 1 1 upset (fun t m => t.remoteRow (m.tag / 4096) (m.tag % 256) m.body)))

/-- ROW_NAK (R529, R536, R538, R622, R630). -/
def execRowNak (port upset : Nat) (s : State) : Host.Outcome State Fault Refusal :=
  act (sourceOk port) (s.live true (s.withMsg port 1 2 upset (fun t m =>
    let e := m.tag / 4096
    let n := m.tag % 256
    let u := t.remoteNak e n m.status
    match t.requestOf e n with
    | some x => if m.status = 3 then u.lost x.2.owner else u
    | none => u)))

/-- GRAD (R542, R546, R554 to R557, R562, R563, R567, R583, R592, R625, R626, R646). -/
def execGrad (port upset : Nat) (s : State) : Host.Outcome State Fault Refusal :=
  act (sourceOk port) (s.live (!s.calPause) (s.withMsg port 2 1 upset (fun t m =>
    t.posted m (fun u => u.gradRecord m.desc m.source m.body))))

/-- REPLICA_PUT (R569, R570, R583, R626). -/
def execReplicaPut (port upset : Nat) (s : State) : Host.Outcome State Fault Refusal :=
  act (sourceOk port) (s.live (!s.calPause) (s.withMsg port 2 2 upset (fun t m =>
    t.posted m (fun u => u.replicaRecord m.desc m.source (le m.body 0 2 % 4096) (le m.body 4 4)
      (.replicaPut (le m.body 2 1) (m.body.drop 8))))))

/-- REPLICA_REMOVE (R571, R626). -/
def execReplicaRemove (port upset : Nat) (s : State) : Host.Outcome State Fault Refusal :=
  act (sourceOk port) (s.live (!s.calPause) (s.withMsg port 2 3 upset (fun t m =>
    t.posted m (fun u => u.replicaRecord m.desc m.source (le m.body 0 2 % 4096) (le m.body 4 4) .replicaRemove))))

/-- UPD_CREDIT (R624, R653, R963). -/
def execUpdCredit (port upset : Nat) (s : State) : Host.Outcome State Fault Refusal :=
  act (sourceOk port) (s.live true (s.withMsg port 1 4 upset (fun t m => t.creditFrom m false)))

/-- UPD_CREDIT_TIMER (R625). -/
def execUpdCreditTimer (member : Nat) (s : State) : Host.Outcome State Fault Refusal :=
  match (s.member member).advanced with
  | some c => .next (s.live (decide (c + 32 ≤ s.clock)) (s.sendCredit member))
  | none => .next s

/-- DISCARD (R628, R630). -/
def execDiscard (port upset : Nat) (s : State) : Host.Outcome State Fault Refusal :=
  act (sourceOk port) (s.live true (s.withMsg port 1 5 upset (fun t m => t.discarded m)))

/-- PROBE (R626, R629, R650, R963). -/
def execProbe (port upset : Nat) (s : State) : Host.Outcome State Fault Refusal :=
  act (sourceOk port) (s.live true (s.withMsg port 2 4 upset (fun t m => t.probeIn m)))

/-- PROBE_ACK (R630, R653). -/
def execProbeAck (port upset : Nat) (s : State) : Host.Outcome State Fault Refusal :=
  act (sourceOk port) (s.live true (s.withMsg port 1 3 upset (fun t m => t.creditFrom m true)))

/-- PROBE_TIMER (R631): 65,536 tt after the last PROBE to an unreachable member. -/
def execProbeTimer (member : Nat) (s : State) : Host.Outcome State Fault Refusal :=
  .next (s.live (bit (s.num Obj.UNREACHABLE_MASK) member && s.others.contains member &&
      decide ((s.member member).probeAt + 65536 ≤ s.clock))
    (s.sendProbe member))

/-- LAUNCH_READY (R639, R640, R647). -/
def execLaunchReady (port upset : Nat) (s : State) : Host.Outcome State Fault Refusal :=
  act (sourceOk port) (s.live true (s.withMsg port 1 0x10 upset (fun t m => if t.addr = 0 then t.readyIn m else t)))

/-- LAUNCH_WAIT_EXPIRY (R640). -/
def execLaunchWaitExpiry (job : Nat) (s : State) : Host.Outcome State Fault Refusal :=
  match s.coast.launches.find? (fun l => l.job == job) with
  | some l =>
    let whole := (List.range s.reachSize).all (fun d => l.members.contains d)
    .next (s.live (decide (l.first + 65536 ≤ s.clock) && !whole) (s.abortLaunch l 3))
  | none => .next s

/-- LAUNCH_GO (R45, R641, R642, R682). -/
def execLaunchGo (port upset : Nat) (s : State) : Host.Outcome State Fault Refusal :=
  act (sourceOk port) (s.live true (s.withMsg port 1 0x11 upset (fun t m => t.goIn m)))

/-- A job that a drain with ABANDON finds starting from its hold is torn down (Table 20-5 step 2). -/
def State.drainStarted (s : State) : State :=
  match s.power.drain, s.sched.run with
  | some d, some r => if d.abandon then s.tearDown r 4 0 false else s
  | _, _ => s

/-- REACH_START (R27, R641, R647, R680): at START_TIDE the held job is selected; chip 0 may then issue its next GO. -/
def execReachStart (s : State) : Host.Outcome State Fault Refusal :=
  match s.sched.hold with
  | none => .next (s.live true s.launchPump)
  | some h =>
    match h.start, s.jobAt h.client h.pos with
    | some t, some j => .next (s.live (decide (t ≤ s.now) && s.serving && s.loadReady j) (s.selectJob j).drainStarted.launchPump.settle)
    | _, _ => .next (s.live true s.launchPump)

/-- LAUNCH_ABORT (R642, R680, R682, R683). -/
def execLaunchAbort (port upset : Nat) (s : State) : Host.Outcome State Fault Refusal :=
  act (sourceOk port) (s.live true (s.withMsg port 1 0x12 upset (fun t m => t.abortIn m)))

/-- REACH_TEARDOWN (R784 to R786, R796). -/
def execReachTeardown (port upset : Nat) (s : State) : Host.Outcome State Fault Refusal :=
  act (sourceOk port) (s.live true (s.withMsg port 1 0x13 upset (fun t m => t.teardownIn m)))

/-- REACH_HOLD_TIMEOUT (R681, R683): 131,072 tt plus LAUNCH_LEAD have passed since LAUNCH_READY. -/
def execReachHoldTimeout (s : State) : Host.Outcome State Fault Refusal :=
  match s.sched.hold with
  | some h =>
    .next (s.live (h.start.isNone && decide (h.sentAt + 131072 + s.num Obj.LAUNCH_LEAD ≤ s.now)) s.abortHold.settle)
  | none => .next s

end Sys2Proof.Machine
end

