-- ==== Sys2Proof/Machine/Power.lean ====
section
/-!
DEFINITION. Power states, temperatures, the two throttles, the thermal trip and self-test requests (spec/20: R912 to R950; spec/09:
R405 to R413, R420, R425).
-/

namespace Sys2Proof.Machine

/-- A curve of 16 points as TEMP and RATE (7110h:01). -/
def curvePoints (l : List Byte) : List (Int × Nat) :=
  (List.range 16).map (fun i => (toSigned 16 (le l (4 * i) 2), le l (4 * i + 2) 1))

/-- The lowest RATE of a curve. -/
def curveLowest (l : List Byte) : Nat := (curvePoints l).foldl (fun m p => min m p.2) 64

/-- The candidate rate at a temperature between two neighbouring points, or of an end point beyond them (R407). -/
def curveAt (t : Int) : List (Int × Nat) → Nat
  | [] => 64
  | [p] => p.2
  | p :: q :: r =>
    if t ≤ p.1 then p.2
    else if t < q.1 then (((p.2 : Int) * (q.1 - t) + (q.2 : Int) * (t - p.1)) / (q.1 - p.1)).toNat
    else curveAt t (q :: r)

/-- The level and the candidates above it after one sample with candidate `c` (R408): the newest candidate stands first. -/
def levelStep (level : Nat) (above : List Nat) (c : Nat) : Nat × List Nat :=
  if c < level then (c, [])
  else if level < c then
    (if 3 ≤ above.length then (above.foldl min c, []) else (level, c :: above))
  else (level, [])

namespace State

/-! ### Temperatures -/

def sensorFaulty (s : State) (k : Nat) : Bool := bit (s.num Obj.SENSOR_FAULTY) k

/-- The reading of a sensor in 1/16 °C. -/
def sensorTemp (s : State) (k : Nat) : Int := toSigned 16 (le (s.octs Obj.SENSOR_TEMPS (2 * k) 2) 0 2)

/-- The highest valid reading of `n` sensors from `a` on; none when all are faulty (R920). -/
def hottest (s : State) (a n : Nat) : Option Int :=
  (List.range n).foldl (fun m i =>
    if s.sensorFaulty (a + i) then m
    else match m with
      | none => some (s.sensorTemp (a + i))
      | some x => some (max x (s.sensorTemp (a + i)))) none

/-- Some of `n` sensors from `a` on is faulty. -/
def anyFaulty (s : State) (a n : Nat) : Bool := (List.range n).any (fun i => s.sensorFaulty (a + i))

/-- A FORCED field of 8 bits, [4] effective and [0] requested, while hardware forces 0 or not (Table 0-2). -/
def forcedField (requested forcing : Bool) : Nat := b2n requested + (if forcing then 0 else 16 * b2n requested)

/-- A throttle-disable that is effective holds its level at 64 (R409, R928). -/
def disableHolds (s : State) (csa : Bool) : State :=
  if csa then
    (if bit (s.num Obj.THROTTLE_DISABLE) 4 then
      { s.setNum Obj.RATE_NOW 64 with csa := { s.csa with candidates := [] } } else s)
  else
    (if bit (s.num Obj.DISPATCH_THROTTLE_DISABLE) 4 then
      { s.setNum Obj.DISPATCH_LEVEL 64 with power := { s.power with candidates := [] } } else s)

/-- The forcing of THROTTLE_DISABLE starts or ends (R410). -/
def csaForcing (s : State) (on : Bool) : State :=
  if s.csa.forced = on then s
  else
    let s1 := ({ s with csa := { s.csa with forced := on } }).setNum Obj.THROTTLE_DISABLE
      (forcedField (bit (s.num Obj.THROTTLE_DISABLE) 0) on)
    if on then (s1.inc32 Obj.FORCINGS 1).setSticky Obj.SENSOR_STICKY 2 else s1.disableHolds true

/-- The forcing of DISPATCH_THROTTLE_DISABLE starts or ends (R929). -/
def dispatchForcing (s : State) (on : Bool) : State :=
  if s.power.forced = on then s
  else
    let s1 := ({ s with power := { s.power with forced := on } }).setNum Obj.DISPATCH_THROTTLE_DISABLE
      (forcedField (bit (s.num Obj.DISPATCH_THROTTLE_DISABLE) 0) on)
    if on then (s1.inc32 Obj.DISPATCH_FORCINGS 1).setSticky Obj.SENSOR_STICKY 2 else s1.disableHolds false

/-- The cause of ALERT_N that R931 gives, with its 2 °C of hysteresis. -/
def alertTemp (s : State) (j : Option Int) : State :=
  let a := toSigned 16 (s.num Obj.ALERT_TEMP)
  let hot := match j with
    | none => true
    | some t => if s.power.hot then decide (a - 32 < t) else decide (a ≤ t)
  let s1 := { s with power := { s.power with hot := hot } }
  if hot && !s.power.hot then s1.setSticky Obj.SENSOR_STICKY 1 else s1

/-- The temperatures of R920 from the readings, and what follows from them: JUNCTION_MAX, the two forcings and ALERT_N. With no
valid reading left a temperature keeps its last value. -/
def temperatures (s : State) : State :=
  let j := s.hottest 0 32
  let w := s.hottest 0 17
  let c := s.hottest 17 4
  let s1 := match j with
    | none => s
    | some t =>
      let u := s.setNum Obj.JUNCTION_TEMP (ofSigned 16 t)
      let v := if !s.power.seen || decide (toSigned 16 (s.num Obj.JUNCTION_MAX) < t) then u.setNum Obj.JUNCTION_MAX (ofSigned 16 t)
        else u
      { v with power := { v.power with seen := true } }
  let s2 := match w with
    | none => s1
    | some t => s1.setNum Obj.WALL_TEMP (ofSigned 16 t)
  let high := fun (t : Option Int) => match t with
    | none => false
    | some x => decide (1520 ≤ x)
  ((s2.csaForcing (high c || s.anyFaulty 17 4)).dispatchForcing (high w || s.anyFaulty 0 17)).alertTemp j

/-- A sensor becomes faulty; one of the CSA is logged and notified (R420, R922). -/
def sensorFails (s : State) (k : Nat) : State :=
  if s.sensorFaulty k then s
  else
    let s1 := (s.setNum Obj.SENSOR_FAULTY (setBit (s.num Obj.SENSOR_FAULTY) k true)).setSticky Obj.SENSOR_STICKY 0
    if 17 ≤ k ∧ k < 21 then s1.eventNote 0x0613 3 0 0 else s1

/-- Sensor k is in a calibration window and keeps its last reading (R921, Table 20-6). -/
def calibrating (s : State) (k : Nat) : Bool :=
  (decide (s.now % 1048576 < 256) && s.now / 1048576 % 32 == k) || decide (s.now < s.power.calUntil)

/-- A reading of sensor k (R919, R922). -/
def takeReading (s : State) (k : Nat) (t : Int) : State :=
  if s.calibrating k then s
  else
    let s1 := s.setOcts Obj.SENSOR_TEMPS (2 * k) (leBytes 2 (ofSigned 16 t))
    if t < -640 ∨ 2400 < t then s1.sensorFails k else s1

/-- A calibration finds sensor k off by `e` sixteenths of a degree (R921, R922). -/
def calibrate (s : State) (k : Nat) (e : Int) : State := if e < -64 ∨ 64 < e then s.sensorFails k else s

/-! ### Power states -/

/-- TARGET ACTIVE: a chip in LULL wakes; one in HOLD takes its stacks out of self-refresh, trains its ports and wakes (R914,
R938, Table 20-2). -/
def powerActive (s : State) : State :=
  let s1 := { s.setNum Obj.LULL_HELD 0 with power := { s.power with lullDue := false } }
  if s.powerState = 1 then s1.enterWaking
  else if s.powerState = 4 then
    let s2 := (s1.scrubAccounts.trainPorts (List.range 8)).enterWaking
    { s2 with tide := { s2.tide with nextCal := nextAt (s.num Obj.HBM_CAL_OFFSET) 4194304 s.now } }
  else s1

/-- TARGET LULL: at once on a free chip, else once the job or hold ends (R914, R915, Table 20-2). -/
def powerLull (s : State) : State :=
  let s1 := s.setNum Obj.LULL_HELD 1
  if s.powerState = 1 then { s1 with power := { s1.power with automatic := false } }
  else { s1 with power := { s1.power with lullDue := true } }.lullFollows

/-- TARGET HOLD: the drain begins (R934). -/
def powerHold (s : State) (abandon : Bool) : State :=
  let d : Drain := { abandon := abandon, at_ := s.clock }
  let s1 := { s.setNum Obj.POWER_STATE 3 with power := { s.power with drain := some d, lullDue := false, automatic := false } }
  match s1.sched.run with
  | some r => if abandon then s1.tearDown r 4 0 false else s1
  | none => s1.lullFollows

/-- A message for this chip that a posted record still fills an input buffer with (Table 20-5 step 4). -/
def recordWaits (s : State) : Bool := s.coast.inbox.any (fun m => m.vcd / 2 == 2 && le m.bytes 0 1 == s.addr)

/-- Every step of the drain but the last has ended: no job, no completion entry (R937), ring entry, flip, posted record, commit or log
record is left (Table 20-5). -/
def drained (s : State) : Bool :=
  s.sched.run.isNone && s.sched.hold.isNone && s.egs.flips.isEmpty && s.egs.ringWork.all (fun x => x.complete) &&
    !s.recordWaits && s.nv.work.isNone && s.sched.entries.isEmpty && s.faults.queue.isEmpty

/-- HOLD is entered: ports off, what their buffers held gone, POWER_STATE 4 (Table 20-5 steps 6 to 9). -/
def enterHold4 (s : State) (d : Drain) : State :=
  let s1 := (List.range 8).foldl disablePort s.scrubAccounts
  let s2 := { s1 with coast := { s1.coast with inbox := [] } }
  let s3 := (s2.reachCheck.setNum Obj.POWER_STATE 4).inc32 Obj.HOLD_ENTRIES 1
  { s3.setNum Obj.LAST_DRAIN_US ((s.clock - d.at_) / 50 % 2 ^ 32) with power := { s3.power with drain := none } }

/-- A maintenance job for a request accepted: it is eligible at once (R932, R940). -/
def queueTest (s : State) (kind bank : Nat) : State :=
  let j : Job := { client := 0, pos := s.sched.maintNext, desc := {}, maint := some (kind, bank), candAt := some s.now,
                   elig := some s.now, displaced := 0, aborts := 0, bad := false }
  ({ s with sched := { s.sched with
      maintNext := s.sched.maintNext + 1, slots := s.sched.slots ++ [j] } }).eventIfFree.settle

/-- A self-test request joins the queue; one for the sensors waits for its window (R939, R940, Table 20-6). -/
def testRequest (s : State) (kind bank : Nat) : State :=
  if kind = 6 then { s with power := { s.power with tests := s.power.tests ++ [nextAt 0x200 1024 (s.now + 1)] } }
  else s.queueTest kind bank

/-- The levels that a cold and a warm reset set (R425, R955). -/
def resetLevels (s : State) : State :=
  let s1 := (s.setNum Obj.RATE_NOW (curveLowest (s.octs Obj.THROTTLE_POINTS 0 64))).setNum Obj.DISPATCH_LEVEL
    (curveLowest (s.octs Obj.DISPATCH_POINTS 0 64))
  { s1 with
    csa := { s1.csa with candidates := [] }
    power := { s1.power with candidates := [], limited := false } }

/-- A level after a sample: RATE_NOW or DISPATCH_LEVEL with its minimum (R408, R409, R927, R928). -/
def csaLevel (s : State) (c : Nat) : State :=
  let r := if bit (s.num Obj.THROTTLE_DISABLE) 4 then (64, []) else levelStep (s.num Obj.RATE_NOW) s.csa.candidates c
  let s1 := { s.setNum Obj.RATE_NOW r.1 with csa := { s.csa with candidates := r.2 } }
  if r.1 < s.num Obj.RATE_MIN then s1.setNum Obj.RATE_MIN r.1 else s1
def dispatchLevel (s : State) (c : Nat) : State :=
  let r := if bit (s.num Obj.DISPATCH_THROTTLE_DISABLE) 4 then (64, [])
    else levelStep (s.num Obj.DISPATCH_LEVEL) s.power.candidates c
  let s1 := { s.setNum Obj.DISPATCH_LEVEL r.1 with power := { s.power with candidates := r.2 } }
  if r.1 < s.num Obj.DISPATCH_LEVEL_MIN then s1.setNum Obj.DISPATCH_LEVEL_MIN r.1 else s1

/-- The candidate of a curve at a temperature; the lowest RATE while a sensor of the group is faulty (R407, R411, R925, R930). -/
def thermalCandidate (s : State) (curve : Nat) (t : Option Int) (faulty : Bool) : Nat :=
  let l := s.octs curve 0 64
  match t with
  | some x => if faulty then curveLowest l else curveAt x (curvePoints l)
  | none => curveLowest l

end State

/-- THROTTLE_SAMPLE (R407 to R411, R413, R425): at TIDE_NOW[9:0] = 000h, by the curve as it stood at the end of the commit cycle
before. -/
def execThrottleSample (s : State) : Host.Outcome State Fault Refusal :=
  let t := s.hottest 17 4
  let s1 := match t with
    | some x => s.setNum Obj.CSA_TEMP (ofSigned 16 x)
    | none => s
  let s2 := s1.csaLevel (s.before.thermalCandidate Obj.THROTTLE_POINTS t (s.anyFaulty 17 4))
  .next (s.live (decide (s.tide.nextThrottle ≤ s.now) && s.tideAt 0 1024)
    { s2 with tide := { s2.tide with nextThrottle := nextAt 0 1024 (s.now + 1) } })

/-- DISPATCH_SAMPLE (R925 to R930): at TIDE_NOW[9:0] = 000h, with the power estimate in watts averaged since the last sample and
the joules drawn since then. -/
def execDispatchSample (power energy : Nat) (s : State) : Host.Outcome State Fault Refusal :=
  let p := if power < 65536 then power else 65535
  let c := s.before.thermalCandidate Obj.DISPATCH_POINTS (s.hottest 0 17) (s.anyFaulty 0 17)
  let limit := s.num Obj.POWER_LIMIT
  let cp := if limit ≠ 0 ∧ limit < p then max 1 (s.num Obj.DISPATCH_LEVEL - 4) else 64
  let s1 := (((s.setNum Obj.POWER_NOW p).inc64 Obj.ENERGY_J energy).dispatchLevel (min c cp))
  .next (s.live (decide (s.tide.nextDispatch ≤ s.now) && s.tideAt 0 1024)
    { s1 with
      power := { s1.power with limited := decide (cp < c) }
      tide := { s1.tide with nextDispatch := nextAt 0 1024 (s.now + 1) } })

/-- SENSOR_READING (R919, R920, R922, R929 to R931): the readings of the 32 sensors and of the 8 HBM stacks, in 1/16 °C; a reading
not given leaves the last one. -/
def execSensorReading (temps stackTemps : List Int) (s : State) : Host.Outcome State Fault Refusal :=
  let s1 := (temps.take 32).foldl (fun (x : Nat × State) t => (x.1 + 1, x.2.takeReading x.1 t)) (0, s)
  let s2 := s1.2.setOcts Obj.HBM_STACK_TEMPS 0 ((stackTemps.take 8).flatMap (fun t => leBytes 2 (ofSigned 16 t)))
  .next (s.live true s2.temperatures)

/-- SENSOR_CALIBRATION (R921, R922, R940, R942, Table 20-6): the window of one sensor opens, or that of all sensors for the SENSORS
requests due; `errors` gives, by sensor, how far each that is calibrated is from its reference, in 1/16 °C. -/
def execSensorCalibration (errors : List Int) (s : State) : Host.Outcome State Fault Refusal :=
  let due := if s.tideAt 0x200 1024 then s.power.tests.filter (fun t => decide (t ≤ s.now)) else []
  if s.tide.nextSensor ≤ s.now ∧ s.tideAt 0 1048576 = true then
    let k := s.now / 1048576 % 32
    let s1 := ((s.inc64 Obj.CALIBRATIONS 1).calibrate k (errors.getD k 0)).temperatures
    .next (s.live true { s1 with tide := { s1.tide with nextSensor := nextAt 0 1048576 (s.now + 1) } })
  else
    let bad := (List.range 32).any (fun k => decide (errors.getD k 0 < -64) || decide (64 < errors.getD k 0))
    let s1 := (List.range 32).foldl (fun (t : State) k => t.calibrate k (errors.getD k 0)) s
    let s2 := { s1 with power := { s1.power with
      tests := s1.power.tests.filter (fun t => !decide (t ≤ s.now)), calUntil := s.now + 256 } }
    .next (s.live (!due.isEmpty) (due.foldl (fun (t : State) _ => t.testRan 6 0 (!bad)) s2.temperatures))

/-- THERMAL_TRIP (R949, R950, R998, R1013): a sensor site reaches 110 °C. The latch sets whatever the state of POR_N; the device
raises 0A20h unless it is held in reset, and every SHORE driver is forced off. -/
def execThermalTrip (s : State) : Host.Outcome State Fault Refusal :=
  let s1 := (List.range 16).foldl (fun (t : State) n =>
    t.setNum (Obj.DRIVE_ENABLE n) (t.num (Obj.DRIVE_ENABLE n) % 2)) (s.setNum Obj.TRIP_LATCHED 1)
  .next (s.when (!s.pins.off && s.num Obj.TRIP_LATCHED == 0)
    (if s.held then s1 else (s1.deviceStop 0x0A20 11 0 0).settle))

/-- AUTO_WAKE (R917): 800 tt before the least NEXT_LAUNCH of the enabled generators an automatic LULL ends. -/
def execAutoWake (s : State) : Host.Outcome State Fault Refusal :=
  let due := (List.range 16).any (fun g => s.num (Obj.ENABLE g) == 1 && decide (s.num (Obj.NEXT_LAUNCH g) ≤ s.now + 800))
  .next (s.live (s.powerState == 1 && s.power.automatic && due) s.enterWaking)

/-- WAKE_DONE (R912, Table 20-2): 800 tt after WAKING was entered the chip is ACTIVE; a LULL request made meanwhile is then
entered. -/
def execWakeDone (s : State) : Host.Outcome State Fault Refusal :=
  .next (s.live (s.powerState == 2 && decide (s.power.wakeAt + 800 ≤ s.now)) (s.setNum Obj.POWER_STATE 0).lullFollows.settle)

/-- DRAIN_DONE (R934, R935): the drain has ended and the chip is in HOLD. -/
def execDrainDone (s : State) : Host.Outcome State Fault Refusal :=
  match s.power.drain with
  | some d => .next (s.live s.drained (s.enterHold4 d))
  | none => .next s

end Sys2Proof.Machine
end

