-- ==== Sys2Proof/Machine/Tide.lean ====
section
/-!
DEFINITION. The tide: cadence generators, mastership, syncs and delays, corrections, the restep, PPS and wall time (spec/02:
R43 to R92, R1033, R1037).
-/

namespace Sys2Proof.Machine

namespace State

/-! ### Cadence generators -/

/-- The generator has been enabled while the chip was FREE and has not started (R1037). -/
def startPending (s : State) (g : Nat) : Bool := bit s.tide.pendingStart g
def setPending (s : State) (g : Nat) (b : Bool) : State :=
  { s with tide := { s.tide with pendingStart := setBit s.tide.pendingStart g b } }

/-- NEXT_LAUNCH and the accumulator after one launch (R48), where the accumulator may lie above a DENOMINATOR lowered since. -/
def cadenceStep (period num den next acc : Nat) : Nat × Nat :=
  if den ≤ acc + num then (next + period + 1, acc + num - den) else (next + period, acc + num)

/-- As `cadenceStep`, `k` times. While the accumulator lies below DENOMINATOR the fraction is carried exactly. -/
def cadenceRun (period num den : Nat) : Nat → Nat → Nat → Nat × Nat
  | 0, next, acc => (next, acc)
  | k + 1, next, acc =>
    if acc < den ∧ num ≤ den then (next + (k + 1) * period + (acc + (k + 1) * num) / den, (acc + (k + 1) * num) % den)
    else
      let p := cadenceStep period num den next acc
      cadenceRun period num den k p.1 p.2

/-- How many launches from `next` on lie below `t`; the fuel covers the launches in which a high accumulator falls. -/
def cadenceBelow (period num den t : Nat) : Nat → Nat → Nat → Nat
  | 0, _, _ => 0
  | fuel + 1, next, acc =>
    if t ≤ next then 0
    else if acc < den ∧ num ≤ den then ((t - next) * den - acc + (period * den + num) - 1) / (period * den + num)
    else
      let p := cadenceStep period num den next acc
      cadenceBelow period num den t fuel p.1 p.2 + 1

/-- Launches from NEXT_LAUNCH on that lie below `t` (R48): the count that must be passed to reach `t`. -/
def launchesBelow (s : State) (g t : Nat) : Nat :=
  cadenceBelow (s.num (Obj.PERIOD_INT g)) (s.num (Obj.NUMERATOR g)) (s.num (Obj.DENOMINATOR g)) t
    (s.num (Obj.ACCUMULATOR g) + 2) (s.num (Obj.NEXT_LAUNCH g)) (s.num (Obj.ACCUMULATOR g))

/-- NEXT_LAUNCH and the accumulator after `k` launches by R48. -/
def passLaunches (s : State) (g k : Nat) : State :=
  let p := cadenceRun (s.num (Obj.PERIOD_INT g)) (s.num (Obj.NUMERATOR g)) (s.num (Obj.DENOMINATOR g)) k
    (s.num (Obj.NEXT_LAUNCH g)) (s.num (Obj.ACCUMULATOR g))
  (s.setNum (Obj.NEXT_LAUNCH g) (p.1 % 2 ^ 64)).setNum (Obj.ACCUMULATOR g) p.2

/-- Launches below `t` passed over without being taken: counted, and the jobs that waited for them retired (R51, R83,
R665). -/
def skipLaunches (s : State) (g t : Nat) : State :=
  let k := s.launchesBelow g t
  if k = 0 then s
  else
    let last := (s.passLaunches g (k - 1)).num (Obj.NEXT_LAUNCH g)
    ((s.passLaunches g k).inc32 (Obj.SKIPPED g) k).launchSeen g last false

/-- A generator starts from PHASE at the present tick (R50, R51). -/
def startGenerator (s : State) (g : Nat) : State :=
  let s1 := (s.setNum (Obj.ACCUMULATOR g) 0).setNum (Obj.NEXT_LAUNCH g) (s.num (Obj.PHASE g))
  (s1.setPending g false).skipLaunches g (s.now + 16)

/-- ENABLE is committed to 1 (R50, R51, R1037); a launch still owed falls to the new start. -/
def enableGenerator (s : State) (g : Nat) : State :=
  let s0 := if bit s.tide.offDue g then
    ({ s with tide := { s.tide with offDue := setBit s.tide.offDue g false } }).generatorOff g else s
  let s1 := s0.setNum (Obj.ENABLE g) 1
  if s.aligned then s1.startGenerator g else if s.num Obj.TIDE_STATE = 0 then s1.setPending g true else s1.startGenerator g

/-- ENABLE is committed to 0 (R665, R1037). A launch tick of the same LCLK cycle that has not been taken is still to be taken,
and the jobs that wait on the generator are retired after it (R75). -/
def disableGenerator (s : State) (g : Nat) : State :=
  let s1 := (s.setNum (Obj.ENABLE g) 0).setPending g false
  if !s.startPending g && decide (s.num (Obj.NEXT_LAUNCH g) ≤ s.now + (1 - s.clock % 2)) then
    { s1 with tide := { s1.tide with offDue := setBit s1.tide.offDue g true } }
  else s1.generatorOff g

/-- A launch still owed to a generator that is off (R75). -/
def launchOwed (s : State) (g : Nat) : Bool := bit s.tide.offDue g
def clearOwed (s : State) (g : Nat) : State := { s with tide := { s.tide with offDue := setBit s.tide.offDue g false } }

/-- A generator takes the launch of NEXT_LAUNCH (R48, R49, R52, R53), and goes off where it is off already (R75). -/
def takeLaunch (s : State) (g : Nat) : State :=
  let t := s.num (Obj.NEXT_LAUNCH g)
  let s1 := (((s.passLaunches g 1).inc64 (Obj.LAUNCH_COUNT g) 1).markLaunch g).launchSeen g t true
  let s2 := { s1 with tide := { s1.tide with
    launches := (g, s.lclk, t, s.num (Obj.ACCUMULATOR g)) :: s1.tide.launches.filter (fun p => p.1 != g) } }
  if s.launchOwed g then (s2.clearOwed g).generatorOff g else s2

/-- A parameter of a running generator is committed: a launch that it took in the same LCLK cycle computes its successor with
the new value (R48, R74). -/
def paramWritten (s : State) (g : Nat) : State :=
  match s.tide.launches.find? (fun p => p.1 == g && p.2.1 == s.lclk) with
  | some (_, _, t, a) =>
    if s.num (Obj.ENABLE g) = 1 then ((s.setNum (Obj.NEXT_LAUNCH g) t).setNum (Obj.ACCUMULATOR g) a).passLaunches g 1 else s
  | none => s

end State

/-- GENERATOR_PENDING_START (R89, R1037). -/
def execGeneratorPendingStart (g : Nat) (s : State) : Host.Outcome State Fault Refusal :=
  act (decide (g < 16)) (s.live (s.startPending g && s.aligned) (s.startGenerator g).settle)

/-- CADENCE_LAUNCH (R48, R49, R52 to R54, R60, R61, R75, R664, R665). -/
def execCadenceLaunch (g : Nat) (s : State) : Host.Outcome State Fault Refusal :=
  act (decide (g < 16))
    (s.live ((s.num (Obj.ENABLE g) == 1 || s.launchOwed g) && !s.startPending g && decide (s.num (Obj.NEXT_LAUNCH g) ≤ s.now))
      (s.takeLaunch g).settle)

/-! ### Mastership and measurement -/

/-- The 56 payload octets of an ordered set, and the fields of a payload (Table 2-3, R62; little-endian, log entry 154). -/
def sosOctets (m : OrderedSet) : List Byte :=
  [m.kind, m.sender, m.master, m.flags, m.hop, 0].flatMap (leBytes 1) ++ leBytes 2 m.seq ++ leBytes 8 m.tideAtTx ++
    leBytes 2 m.txSub ++ leBytes 2 0 ++ leBytes 8 m.reqRxTide ++ leBytes 2 m.reqRxSub ++ List.replicate 26 0
def parseSos (l : List Byte) : OrderedSet :=
  { kind := le l 0 1, sender := le l 1 1, master := le l 2 1, flags := le l 3 1, hop := le l 4 1, seq := le l 6 2,
    tideAtTx := le l 8 8, txSub := le l 16 2, reqRxTide := le l 20 8, reqRxSub := le l 28 2,
    reserved := le l 5 1 != 0 || le l 18 2 != 0 || (l.drop 30).any (fun b => b != 0) }

/-- Rank of a chip: lower wins (R55). -/
def rank (pps : Bool) (a : Nat) : Nat := (if pps then 0 else 64) + a

namespace State

def isMaster (s : State) : Bool := s.num Obj.TIDE_STATE == 1 && s.num Obj.MASTER_ADDR == s.addr

/-- The chip has PPS lock. -/
def ppsLock (s : State) : Bool := s.num Obj.PPS_LOCK == 1

/-- Rank of the chip itself and of its current master. -/
def ownRank (s : State) : Nat := rank s.ppsLock s.addr
def masterRank (s : State) : Nat :=
  if s.num Obj.MASTER_ADDR = s.addr then s.ownRank else rank s.tide.masterPps (s.num Obj.MASTER_ADDR)

/-- Ports in state UP. -/
def upPorts (s : State) : List Nat := (List.range 8).filter (fun p => s.num (Obj.PORT_STATE p) == 2)

/-- Subtick at which an ordered set leaves its lane: set by the link, and free in the model (R638; log entry 24). -/
def txSub (s : State) : Nat := Config.openResult 21 s.clock % 96

/-- PORT_DELAY of a port, in root cycles. -/
def portDelay (s : State) (p : Nat) : Nat := ofLe (s.octs Obj.PORT_DELAY (p * 4) 4)

/-- The TIDE-channel flags of this chip (Table 2-3). -/
def sosFlags (s : State) (masterPps : Bool) : Nat :=
  b2n masterPps + 2 * b2n (s.num Obj.TIDE_STATE == 2) + 4 * b2n s.ppsLock

/-- The ordered set that this chip sends now, of a kind (R62). -/
def sos (s : State) (kind : Nat) : OrderedSet :=
  { kind := kind, sender := s.addr, master := s.num Obj.MASTER_ADDR,
    flags := s.sosFlags (if s.num Obj.MASTER_ADDR = s.addr then s.ppsLock else s.tide.masterPps),
    hop := s.num Obj.HOP_COUNT, seq := s.tide.seqOut, tideAtTx := s.now, txSub := s.txSub, reqRxTide := 0, reqRxSub := 0,
    reserved := false }

/-- A master of lower rank heard, adopted at the next multiple of 4,096 (R55, R64). -/
def hearMaster (s : State) (a : Nat) (pps : Bool) : State :=
  let best := match s.tide.pending with
    | some (b, q) => decide (rank pps a < rank q b)
    | none => true
  if decide (rank pps a < s.masterRank) && best then
    { s with tide := { s.tide with pending := some (a, pps), adoptAt := (s.now / 4096 + 1) * 4096 } }
  else s

/-- The chip judges its own rank against its master's (R55). -/
def electSelf (s : State) : State :=
  if s.num Obj.MASTER_ADDR ≠ s.addr ∧ s.num Obj.TIDE_STATE ≠ 0 then s.hearMaster s.addr s.ppsLock else s

/-- The windows whose opening the tide counts, and the adoption of a master heard, are next due at or after the present value
(R64, R70, R82). -/
def windowsFrom (s : State) : State :=
  { s with tide := { s.tide with
      adoptAt := nextAt 0 4096 s.now, nextSync := nextAt 0 4096 s.now, nextDelay := nextAt 0x800 4096 s.now, nextScrub := nextAt 0x400 4096 s.now,
      nextCal := nextAt (s.num Obj.HBM_CAL_OFFSET) 4194304 s.now, nextThrottle := nextAt 0 1024 s.now,
      nextDispatch := nextAt 0 1024 s.now, nextDecay := nextAt 0 65536 s.now, nextSensor := nextAt 0 1048576 s.now } }

/-- A tide state is entered; entering MASTER or LOCKED lets reach jobs and pending generators go on. -/
def enterTide (s : State) (v : Nat) : State :=
  let s1 := s.setNum Obj.TIDE_STATE v
  if v = 1 ∨ v = 2 then ({ s1 with tide := { s1.tide with everAligned := true } }).eventIfFree else s1

/-- The chip is the master: no upstream port, no hops. -/
def becomeMaster (s : State) : State :=
  let s1 := ((s.setNum Obj.MASTER_ADDR s.addr).setNum Obj.UPSTREAM_PORT 255).setNum Obj.HOP_COUNT 0
  ({ s1 with tide := { s1.tide with
      pending := none, portHop := [], offset := 0, rateDen := 0, rateRem := 0, syncClock := none } }).enterTide 1

/-- Syncs of the current master come in on the port: one has within 12,288 tt (log entry 156). -/
def portHeard (s : State) (p : Nat) : Bool :=
  Store.get (fun _ => 64) s.tide.portHop p != 64 && decide (s.clock < Store.get (fun _ => 0) s.tide.portSeen p + 12288)

/-- The port with the smallest hop count heard from the current master, the lower on a tie. -/
def bestPort (s : State) : Option Nat :=
  ((List.range 8).filter s.portHeard).foldl (fun b p =>
    match b with
    | none => some p
    | some q => if Store.get (fun _ => 64) s.tide.portHop p < Store.get (fun _ => 64) s.tide.portHop q then some p
        else some q) none

/-- A sync's measured offset sets the rate and the tide state (R56, R58, Table 2-5). -/
def measured (s : State) (off : Int) : State :=
  let t := s.tide
  let den := match t.syncClock with
    | some c => t.clock - c
    | none => 0
  let s1 := { s with tide := { t with
    offset := off, rateNum := off - t.syncOffset + t.corrSince, rateDen := den, rateRem := 0, syncOffset := off,
    syncClock := some t.clock, corrSince := 0, stepOffset := off } }
  let st := s.num Obj.TIDE_STATE
  let a := off.natAbs
  if st = 5 then s1
  else if a ≤ 96 then (if st = 2 then s1 else s1.enterTide 2)
  else if a ≤ 6144 then s1.setNum Obj.TIDE_STATE 3
  else (s1.setNum Obj.TIDE_STATE 5).eventNote 0x0821 9 0 0

/-- OFFSET_LAST: a signed 32-bit field; the spec states no value for an offset outside it (log entry 8). -/
def offsetField (off : Int) : Nat :=
  if -(2 ^ 31 : Int) ≤ off ∧ off < (2 ^ 31 : Int) then ofSigned 32 off else Config.openResult 20 (ofSigned 64 off) % 2 ^ 32

/-- The first sync of a chip that has never been aligned sets TIDE_NOW (R87). -/
def tideAcquire (s : State) (target : Int) (rxSub : Nat) : State :=
  let n := (target / 96).toNat
  let rest : Int := target - (n * 96 + rxSub : Nat)
  let s1 := { s with tide := { s.tide with
    now := n % 2 ^ 64, double := false, offset := rest, syncOffset := rest, syncClock := some s.tide.clock, corrSince := 0, rateDen := 0 } }
  s1.windowsFrom.enterTide 2

/-- The sync of the current master, relayed on the other active ports. -/
def relaySync (s : State) (port : Nat) (m : OrderedSet) : State :=
  if 63 ≤ m.hop then s
  else (s.upPorts.filter (fun p => p != port)).foldl (fun t p =>
    t.emit (.tide p (sosOctets { m with
      sender := t.addr, flags := t.sosFlags (bit m.flags 0), hop := m.hop + 1, tideAtTx := t.now, txSub := t.txSub
      reqRxTide := 0, reqRxSub := 0, reserved := false }))) s

/-- A sync taken from a port whose master is the current one. -/
def followSync (s : State) (port : Nat) (m : OrderedSet) (rxSub : Nat) : State :=
  let s1 := ({ s with tide := { s.tide with
    masterPps := bit m.flags 0, portHop := Store.set (fun _ => 64) s.tide.portHop port m.hop
    portSeen := Store.set (fun _ => 0) s.tide.portSeen port s.clock } }).electSelf
  let up := s1.bestPort.getD 255
  let s2 := s1.setNum Obj.UPSTREAM_PORT up
  if up ≠ port then s2
  else
    let target : Int := (m.tideAtTx * 96 + m.txSub + s.portDelay port : Nat)
    let off : Int := target - (s.now * 96 + rxSub : Nat)
    let s3 := (s2.setNum Obj.HOP_COUNT (m.hop + 1)).setNum Obj.OFFSET_LAST (offsetField off)
    let s4 := if s.num Obj.TIDE_STATE = 0 ∨ !s.tide.everAligned then s3.tideAcquire target rxSub else s3.measured off
    s4.relaySync port m

/-- An ordered set holds no reserved encoding (Table 2-3, R63). -/
def sosOk (m : OrderedSet) : Bool :=
  !m.reserved && decide (1 ≤ m.kind) && decide (m.kind ≤ 3) && decide (m.sender < 64) && decide (m.flags < 8) &&
    decide (m.hop < 64) && decide (m.txSub < 96)

/-- A TIDE flit comes in on a port: it is discarded and counted when reserved (R63), and taken only on an UP port and in the
command of its kind. -/
def sosIn (s : State) (port kind : Nat) (m : OrderedSet) (t : State) : State :=
  let up := s.num (Obj.PORT_STATE port) == 2
  if !sosOk m then s.live up (s.inc32 Obj.SOS_REJECTED 1) else s.live (up && m.kind == kind) t

end State

/-- SYNC (R55, R56, R58, R62 to R65, R80, R87). A chip that is FREE, or in HOLDOVER, takes the master that the sync names
(Table 2-5; log entry 156). -/
def execSync (port : Nat) (payload : List Byte) (rxSub : Nat) (s : State) : Host.Outcome State Fault Refusal :=
  let m := parseSos payload
  let s1 := { s.inc32 Obj.SOS_RECEIVED 1 with tide := { s.tide with lastSync := s.clock } }
  let pps := bit m.flags 0
  let t :=
    if s.num Obj.TIDE_STATE = 0 ∨ (s.num Obj.TIDE_STATE = 4 ∧ m.master ≠ s.num Obj.MASTER_ADDR ∧ m.master ≠ s.addr) then
      let s2 := { s1.setNum Obj.MASTER_ADDR m.master with tide := { s1.tide with masterPps := pps, portHop := [] } }
      (s2.followSync port m rxSub).electSelf
    else if m.master = s.num Obj.MASTER_ADDR ∧ m.master ≠ s.addr then s1.followSync port m rxSub
    else if m.master = s.addr then s1
    else s1.hearMaster m.master pps
  act (decide (port < 8) && decide (rxSub < 96)) (s.sosIn port 1 m t.settle)

/-- DELAY_REQUEST (R62): answered on its port, with the time of its receipt. -/
def execDelayRequest (port : Nat) (payload : List Byte) (rxSub : Nat) (s : State) : Host.Outcome State Fault Refusal :=
  let m := parseSos payload
  act (decide (port < 8) && decide (rxSub < 96))
    (s.sosIn port 2 m (s.emit (.tide port (sosOctets { s.sos 3 with seq := m.seq, reqRxTide := s.now, reqRxSub := rxSub }))))

/-- DELAY_RESPONSE (R62): the one-way delay of the port; a negative difference has no stated result (log entry 5). -/
def execDelayResponse (port : Nat) (payload : List Byte) (rxSub : Nat) (s : State) : Host.Outcome State Fault Refusal :=
  let m := parseSos payload
  let t1 : Int := (Store.get (fun _ => 0) s.tide.requestAt port - 1 : Nat)
  let t2 : Int := (m.reqRxTide * 96 + m.reqRxSub : Nat)
  let t3 : Int := (m.tideAtTx * 96 + m.txSub : Nat)
  let t4 : Int := (s.now * 96 + rxSub : Nat)
  let d := (t4 - t1) - (t3 - t2)
  let v := if d < 0 then Config.negativeDelay d % 2 ^ 32 else (d / 2).toNat % 2 ^ 32
  let s1 := { s.setOcts Obj.PORT_DELAY (port * 4) (leBytes 4 v) with
    tide := { s.tide with requestAt := Store.set (fun _ => 0) s.tide.requestAt port 0 } }
  act (decide (port < 8) && decide (rxSub < 96))
    (s.sosIn port 3 m (s.when (Store.get (fun _ => 0) s.tide.requestAt port != 0) s1))

/-- SYNC_SEND (R62, R70, R638): the master's sync on every active port. -/
def execSyncSend (s : State) : Host.Outcome State Fault Refusal :=
  let s1 := s.upPorts.foldl (fun t p => t.emit (.tide p (sosOctets (t.sos 1)))) s
  .next (s.live (s.isMaster && decide (s.tide.nextSync ≤ s.now) && s.tideAt 0 4096)
    { s1 with tide := { s1.tide with nextSync := (s.now / 4096 + 1) * 4096, seqOut := (s.tide.seqOut + 1) % 65536 } })

/-- DELAY_REQUEST_SEND (R62, R70, R638). -/
def execDelayRequestSend (s : State) : Host.Outcome State Fault Refusal :=
  let s1 := s.upPorts.foldl (fun t p =>
    let m := t.sos 2
    { t.emit (.tide p (sosOctets m)) with tide := { t.tide with
        requestAt := Store.set (fun _ => 0) t.tide.requestAt p (m.tideAtTx * 96 + m.txSub + 1) } }) s
  .next (s.live (decide (s.tide.nextDelay ≤ s.now) && s.tideAt 0x800 4096)
    { s1 with tide := { s1.tide with nextDelay := s.now / 4096 * 4096 + 4096 + 0x800 } })

/-- MASTER_ADOPT (R55, R64, R65). -/
def execMasterAdopt (s : State) : Host.Outcome State Fault Refusal :=
  match s.tide.pending with
  | none => .next s
  | some (a, pps) =>
    let s1 := { (s.setNum Obj.MASTER_ADDR a).setNum Obj.UPSTREAM_PORT 255 with
      tide := { s.tide with pending := none, masterPps := pps, portHop := [] } }
    .next (s.live (decide (s.tide.adoptAt ≤ s.now)) (if a = s.addr then s.becomeMaster.settle else s1))

/-- SYNC_TIMEOUT (R55, R80, R84): no sync for 12,288 tt, or for 65,536 tt more. A chip in MASTER that has adopted another master
and hears no sync for 65,536 tt is its own master again: Table 2-5 is silent on it (DESIGN CHOICE, log entry 129). -/
def execSyncTimeout (s : State) : Host.Outcome State Fault Refusal :=
  let idle := s.clock - s.tide.lastSync
  let hold := { ((s.setNum Obj.TIDE_STATE 4).inc32 Obj.LOCK_LOSSES 1).eventNote 0x0820 9 0 0 with
    tide := { s.tide with holdSince := s.clock, portHop := [] } }
  let t := match s.num Obj.TIDE_STATE with
    | 0 => s.when (decide (65536 ≤ idle)) s.becomeMaster.settle
    | 1 => s.when (s.num Obj.MASTER_ADDR != s.addr && decide (65536 ≤ idle)) s.becomeMaster.settle
    | 2 => s.when (decide (12288 ≤ idle)) hold
    | 3 => s.when (decide (12288 ≤ idle)) hold
    | 4 => s.when (decide (max s.tide.holdSince s.tide.lastSync + 65536 ≤ s.clock)) s.becomeMaster.settle
    | _ => s
  .next (s.live true t)

namespace State

/-- A TCLK edge with a hold or a double advance in the direction of the offset (R56, R81). -/
def correct (s : State) : State :=
  let fwd := decide (0 < s.tide.offset)
  let s1 := (s.tclk (if fwd then 2 else 0)).inc32 Obj.CORRECTIONS 1
  let c : Int := if fwd then 96 else -96
  { s1 with
    tide := { s1.tide with
      offset := s1.tide.offset - c, corrSince := s1.tide.corrSince + c, lastCorrection := some s.clock }
    pps := { s1.pps with corr := s1.pps.corr + c } }

/-- At least `n` TCLK cycles have passed since the last correction. -/
def correctionFree (s : State) (n : Nat) : Bool :=
  match s.tide.lastCorrection with
  | none => true
  | some c => decide (c + n ≤ s.clock)

end State

/-- TIDE_CORRECTION (R43, R56 to R58, R67): one hold or double advance. -/
def execTideCorrection (s : State) : Host.Outcome State Fault Refusal :=
  .next (s.live ((s.num Obj.TIDE_STATE == 2 || (s.isMaster && s.ppsLock)) && decide (96 ≤ s.tide.offset.natAbs) &&
      s.correctionFree 1024)
    s.correct)

/-- SLEW_STEP (R81): a correction every 64 TCLK cycles until the offset is within ±96 root cycles. -/
def execSlewStep (s : State) : Host.Outcome State Fault Refusal :=
  let s1 := if 96 < s.tide.offset.natAbs then s.correct else s
  .next (s.live (s.num Obj.TIDE_STATE == 3 && s.correctionFree 64)
    (if s1.tide.offset.natAbs ≤ 96 then (s1.enterTide 2).settle else s1))

/-- RESTEP (R43, R79, R82 to R84, R581). -/
def execRestep (s : State) : Host.Outcome State Fault Refusal :=
  let target : Int := (s.now : Int) * 96 + s.tide.offset
  let n : Nat := (target / 96).toNat % 2 ^ 64
  let step : Int := (n : Int) - s.now
  let from_ := if 0 < step then max s.tide.reclaimFrom (n + step.toNat) else s.tide.reclaimFrom
  let u := s.scrubAccounts
  let s1 := { u with tide := { s.tide with
    now := n, double := false, offset := target % 96, syncOffset := target % 96, corrSince := 0, rateDen := 0, reclaimFrom := from_
    shifts := if 0 < step then s.tide.shifts ++ [(s.now, step.toNat, s.egs.retireTail)] else s.tide.shifts } }
  let s2 := (s1.windowsFrom.scrubRestart).eventNote 0x0822 9 (ofSigned 64 step) 0
  let s3 := (List.range 16).foldl (fun t g =>
    if t.num (Obj.ENABLE g) = 1 ∧ !t.startPending g then t.skipLaunches g n else t) s2
  .next (s.live (s.num Obj.TIDE_STATE == 5 && s.chipFree) (s3.enterTide 2).settle)

/-! ### PPS and wall time -/

namespace State

/-- PPS lock is lost (R55, R66, R84). -/
def losePps (s : State) : State :=
  let s1 := { s.setNum Obj.PPS_LOCK 0 with pps := { s.pps with inRange := 0 } }
  if s.ppsLock then s1.eventNote 0x0823 9 0 0 else s1

/-- An edge interval judged (R66, R67). R67 states no law for the discipline: a master with PPS lock adds to its offset what the
interval, less the corrections made in it, lacks of 50,000,000 tt (DESIGN CHOICE, log entry 155). -/
def ppsInterval (s : State) (d : Int) : State :=
  let nominal : Int := 4800000000
  if (d - nominal).natAbs ≤ 48000 then
    let s1 := { s with pps := { s.pps with inRange := s.pps.inRange + 1 } }
    let s2 := if 4 ≤ s1.pps.inRange ∧ !s.ppsLock then (s1.setNum Obj.PPS_LOCK 1).electSelf else s1
    if s.ppsLock && s.isMaster then { s2 with tide := { s2.tide with offset := s2.tide.offset + (nominal - (d - s.pps.corr)) } } else s2
  else (s.inc32 Obj.PPS_OUT_OF_RANGE 1).losePps

end State

/-- PPS_EDGE (R66 to R68, R78): an edge on PPS_IN at a subtick of the present tick, high for `high` tt; one that is high for
less than 1 µs is discarded (spec/22: Table 22-12). An edge in the LCLK cycle in which TAI_NEXT_EDGE was written takes the label
that stood before. -/
def execPpsEdge (sub : Nat) (high : Nat) (s : State) : Host.Outcome State Fault Refusal :=
  let stamp := s.now * 96 + sub
  let s1 := s.inc32 Obj.PPS_EDGES 1
  let s2 := match s.pps.lastEdge with
    | some e => s1.ppsInterval ((stamp : Int) - e)
    | none => s1
  let s3 := { s2 with pps := { s2.pps with lastEdge := some stamp, corr := 0 } }
  let fresh := s.pps.labelCycle == s.lclk + 1
  let s4 := match if fresh then s.pps.labelWas else s.pps.label with
    | none => s3
    | some l =>
      let u := (s3.setNum Obj.TIDE_AT_EDGE s.now).setNum Obj.TAI_AT_EDGE l
      { u with pps := { u.pps with
        mapped := true
        label := if fresh then s.pps.label else some ((l + 1) % 2 ^ 64)
        labelWas := some ((l + 1) % 2 ^ 64) } }
  act (decide (sub < 96)) (s.live (decide (50 ≤ high)) s4)

/-- PPS_TIMEOUT (R66): no edge within 50,005,000 tt of the previous one. -/
def execPpsTimeout (s : State) : Host.Outcome State Fault Refusal :=
  match s.pps.lastEdge with
  | none => .next s
  | some e => .next (s.live (s.ppsLock && decide (e + 50005000 * 96 ≤ s.now * 96)) s.losePps)

/-- PPS_OUT_PULSE (R69): the pulse of the TAI second that the mapping gives now. -/
def execPpsOutPulse (s : State) : Host.Outcome State Fault Refusal :=
  let k := (s.now - s.num Obj.TIDE_AT_EDGE) / 50000000
  let second := (s.num Obj.TAI_AT_EDGE + k) % 2 ^ 64
  .next (s.live (s.pps.mapped && decide (s.num Obj.TIDE_AT_EDGE ≤ s.now) && s.pps.lastPulse != some second)
    { s with pps := { s.pps with
        lastPulse := some second
        outUntil := s.num Obj.TIDE_AT_EDGE + k * 50000000 + 500000 } })

/-- PLL_LOCK_LOSS (R84, R85, R781): the device is held in reset until POR_N is asserted and released; HBM is lost. -/
def execPllLockLoss (s : State) : Host.Outcome State Fault Refusal :=
  let s1 := ((s.setNum Obj.PLL_STATE 0).inc32 Obj.PLL_LOCK_LOSSES 1).deviceFault 0x0A10 9 0 0
  .next (s.live true { s1 with
    pins := { s1.pins with pllLost := true }
    sched := { s1.sched with run := none, tear := none }
    wall := { s1.wall with closed := true }
    hbm := { s1.hbm with mem := [] } })

end Sys2Proof.Machine
end

