-- ==== Sys2Proof/Machine/View.lean ====
section
/-!
DEFINITION. What a read of a dictionary object returns: the stored value, or the value of the structure that the hardware keeps
for it (spec/18: R804 to R807, R862; spec/23: R1021 to R1029, Tables 23-3 to 23-16).
-/

namespace Sys2Proof.Machine

/-- ASCII octets of a text. -/
def ascii (t : String) : List Byte := t.toList.map (fun c => BitVec.ofNat 8 c.toNat)

/-- The type code, access code and kind code of an OBJECT_LIST entry (Tables 18-1 and 18-12). -/
def typeCode : ObjType → Nat
  | .bool => 1
  | .u8 => 2
  | .u16 => 3
  | .u32 => 4
  | .u64 => 5
  | .i16 => 6
  | .i32 => 7
  | .f32 => 9
  | .str => 10
  | .octets => 11
  | .blob => 12
def accessCode : ObjAccess → Nat
  | .ro => 0
  | .rw => 1
  | .rwq => 2
  | .const => 4
def kindCode : ObjKind → Nat
  | .ctrl => 0
  | .stat => 1
  | .w1c => 2
  | .count => 3
  | .cmd => 4
  | .forced => 5

/-- The object's value is octets rather than a number. -/
def octetType : ObjType → Bool
  | .str => true
  | .octets => true
  | .blob => true
  | _ => false

/-- The row of an object, with subindex 00h of every record (R1022). -/
def objectRow (k : Nat) : Option ObjRow :=
  let i := keyIndex k
  if keySub k = 0 ∧ indexExists i ∧ !plainObject i then
    some { lo := i, hi := i, subLo := 0, subHi := 0, ty := .u8, access := .const, persist := false, kind := .stat, size := 1,
           dflt := lastSub i }
  else rowOf k

/-- One entry of OBJECT_LIST (R1027, Table 18-12). -/
def listEntry (i j : Nat) : List Byte :=
  match objectRow (i * 256 + j) with
  | none => []
  | some r => leBytes 2 i ++ leBytes 1 j ++ leBytes 1 (typeCode r.ty) ++ leBytes 1 (accessCode r.access + 8 * b2n r.persist) ++
      leBytes 1 (kindCode r.kind) ++ leBytes 2 0 ++ leBytes 4 r.size

/-- The keys of every object of a leading digit, in ascending order (R1027). -/
def keysOf (d : Nat) : List (Nat × Nat) :=
  (((catalogueOf d).map (fun r => (r.lo, r.hi))).eraseDups).flatMap (fun (p : Nat × Nat) =>
    (List.range (p.2 + 1 - p.1)).flatMap (fun n =>
      let i := p.1 + n
      if plainObject i then [(i, 0)] else (List.range (lastSub i + 1)).map (fun j => (i, j))))

/-- Every object of the dictionary, in ascending order of index and subindex. -/
def allKeys : List (Nat × Nat) := (List.range 15).flatMap keysOf

def objectList : List Byte := allKeys.flatMap (fun (p : Nat × Nat) => listEntry p.1 p.2)

/-- Silicon revision as text: A0, A1, B0, B1 and so on (R1000). -/
def revisionText (n : Nat) : List Byte := leBytes 1 (65 + n / 2) ++ leBytes 1 (48 + n % 2)

namespace State

/-- SHADOW_STATE and SHADOW_CLIENT (Table 3-12). -/
def shadowState (s : State) : Nat :=
  match s.sched.load with
  | some l => if l.ready then 2 else 1
  | none => 0
def shadowClient (s : State) : Nat :=
  match s.sched.load with
  | some l => l.client
  | none => 255

/-- REMAINING_MS: whole milliseconds left of a MANAGER lease, a part of one counted as one. -/
def remainingMs (s : State) : Nat := if s.shore.lease = 1 then (s.shore.leaseEnd - s.clock + 49999) / 50000 else 0

/-- UNIT_STATE of the selection unit of a physical course (Table 7-9). -/
def unitState (s : State) (c : Nat) : Nat :=
  if s.sel.failed.contains c then 2 else if s.courseState c = 0 then 0 else 1

/-- PORT_STATUS: the coordinator bit; beacons are seen on the segment, which the model does not hold (log entry 40). -/
def portStatus (s : State) : Nat := if s.shore.plca.getD 0 0 = 1 ∧ s.shore.plca.getD 1 0 = 0 then 2 else 0

/-- The objects of a CSA bank that the bank itself keeps (Table 8-8, Table 9-8). -/
def bankView (s : State) (b j : Nat) : Option Nat :=
  let k := s.csaBank b
  if j = 5 then some k.state
  else if j = 6 then some (s.csaValid b).length
  else if j = 7 then some (s.csaE b - (s.csaValid b).length)
  else if j = 8 then some k.gen
  else if j = 13 then some k.longest
  else if j = 14 then some (s.csaOwner b)
  else if j = 16 then some k.scrub
  else none

/-- The number of an object that a structure of the state holds; none for one that is stored as an object. -/
def hardNum (s : State) (k : Nat) : Option Nat :=
  let i := keyIndex k
  let j := keySub k
  if k = Obj.CHIP_ADDR_0010 ∨ k = Obj.CHIP_ADDR_9000 ∨ k = Obj.STRAP_ADDR then some s.addr
  else if k = Obj.STRAP_BOOT then some s.nv.boot
  else if k = Obj.STRAP_SECURE then some (b2n s.nv.secure)
  else if k = Obj.SECURE_FORCE then some (b2n s.nv.otp.secureForce)
  else if k = Obj.PORT_STATUS then some s.portStatus
  else if k = Obj.NOTIFY_PENDING then some s.shore.notes.length
  else if k = Obj.LEASE_STATE then some s.shore.lease
  else if k = Obj.DELEGATED then some (b2n s.shore.delegated)
  else if k = Obj.REMAINING_MS then some s.remainingMs
  else if k = Obj.TIDE_NOW then some s.now
  else if k = Obj.EPOCH_NOW then some (s.now / 65536)
  else if k = Obj.SLOTS_FREE then some (256 - s.slotsTaken)
  else if 0x3100 ≤ i ∧ i ≤ 0x313F ∧ j = 3 then some (s.clientRegions (i - 0x3100)).length
  else if k = Obj.LOGICAL_COURSES then some s.logicalCourses
  else if k = Obj.SPARES_LEFT then some s.sparesLeft
  else if i = 0x4010 then some (s.courseMap.getD (j - 1) 255)
  else if i = 0x4020 then some (s.courseState (j - 1))
  else if k = Obj.SHADOW_STATE then some s.shadowState
  else if k = Obj.SHADOW_CLIENT then some s.shadowClient
  else if k = Obj.USABLE_BYTES then some s.usableBytes
  else if k = Obj.REGIONS_PENDING then some (b2n s.hbm.regionsPending)
  else if k = Obj.RETIRED_COUNT then some s.hbm.retired.length
  else if k = Obj.TABLES_VALID then some (validTables s.egs.desc).length
  else if k = Obj.EMB_PENDING then some (b2n s.egs.pending)
  else if k = Obj.HEAT_HEAD then some s.egs.heatHead
  else if k = Obj.HEAT_TAIL_NOW then some s.egs.heatTail
  else if k = Obj.UPD_RING_HEAD_NOW then some s.egs.ringHead
  else if k = Obj.UPD_RING_TAIL_NOW then some s.egs.ringTail
  else if 0x7000 ≤ i ∧ i ≤ 0x703F then s.bankView (i - 0x7000) j
  else if k = Obj.TABLES_PENDING then some (b2n s.tables.pending)
  else if k = Obj.STAGED_DIFFERS then some (b2n s.stagedDiffers)
  else if i = 0x8021 then some (s.unitState (j - 1))
  else if k = Obj.REACH_SIZE then some s.reachSize
  else if k = Obj.QUEUED then some s.testsQueued
  else if 0xE000 ≤ i ∧ i ≤ 0xE00F ∧ j = 9 then some (b2n (s.pinLevel (i - 0xE000)))
  else none

/-- The number that a read of an object returns; NEXT_LAUNCH holds a launch just taken until its cycle's commit point (R1033). -/
def viewNum (s : State) (k : Nat) : Nat :=
  if 0x2020 ≤ keyIndex k ∧ keyIndex k ≤ 0x202F ∧ keySub k = 7 then (s.launchNow (keyIndex k - 0x2020)).getD (s.num k)
  else (s.hardNum k).getD (s.num k)

/-- The ring position that RECORD shows, where the ring still holds that record (R791). -/
def recordAt (s : State) : Option Nat :=
  let d := (s.num Obj.LOG_WRITTEN + 2 ^ 32 - s.num Obj.RECORD_SEQ) % 2 ^ 32
  if 1 ≤ d ∧ d ≤ 512 then some (s.num Obj.RECORD_SEQ % 512) else none

/-- The record of the fault log that RECORD_SEQ names; zeros where there is none, or its CRC fails (R791, R799). -/
def recordView (s : State) : List Byte :=
  match s.recordAt with
  | none => leBytes 64 0
  | some p =>
    match s.faults.ring.find? (fun (q : Nat × LogRec) => q.1 == p) with
    | some q => if s.faults.ringBad.contains p then leBytes 64 0 else q.2.bytes
    | none => leBytes 64 0

/-- Address of the spill record that SPILL_SEQ names, where it lies within the bound of R791. -/
def spillAt (s : State) : Option Nat :=
  let d := (s.num Obj.LOG_WRITTEN + 2 ^ 32 - s.num Obj.SPILL_SEQ) % 2 ^ 32
  if 1 ≤ d ∧ d ≤ 262144 then some (0x2FFE000000 + 64 * (s.num Obj.SPILL_SEQ % 262144)) else none

/-- The record of the spill ring that SPILL_SEQ names; zeros where there is none, its LOG_SEQ differs, or HBM gives none
(R791). -/
def spillView (s : State) : List Byte :=
  match s.spillAt with
  | none => leBytes 64 0
  | some a =>
    let l := s.hbmBytes a 64
    if s.hbmDead a || le l 4 4 != s.num Obj.SPILL_SEQ then leBytes 64 0 else l

/-- ARENA_COUNTS of the table that ARENA_TABLE names (Table 13-9). -/
def arenaCounts (s : State) : List Byte :=
  (List.range 3).flatMap (fun t =>
    let f := s.freeRing (s.num Obj.ARENA_TABLE) t
    leBytes 4 f.count ++ leBytes 4 f.pending ++ leBytes 4 f.inFlight)

/-- The octets that a read of an OCTETS, BLOB or STR object returns. -/
def viewOcts (s : State) (k : Nat) (r : ObjRow) : List Byte :=
  if k = Obj.OBJECT_LIST then objectList
  else if k = Obj.VENDOR then ascii "Viantot"
  else if k = Obj.PART then ascii "SWV-4096"
  else if k = Obj.REVISION then revisionText s.nv.otp.revision
  else if k = Obj.SERIAL then s.nv.otp.serial
  else if k = Obj.MAC_ADDRESS then beBytes 6 s.nv.otp.mac
  else if k = Obj.HOLDER_MAC then beBytes 6 s.shore.holder
  else if k = Obj.KEY_HASH then s.nv.otp.keyHash
  else if k = Obj.REGION_ENTRY then s.octs Obj.REGION_TABLE (32 * s.num Obj.REGION_INDEX) 32
  else if k = Obj.RETIRED_NOW then s.hbm.retired.flatMap (leBytes 4)
  else if k = Obj.RETIRED_BLOCKS then s.octs k 0 (s.num k)
  else if k = Obj.PC_STATE then (List.range 256).map (fun n => BitVec.ofNat 8 (s.pcState n))
  else if k = Obj.TABLE_ENTRY then Store.getMany zeroByte s.egs.descStaged (128 * s.num Obj.TABLE_INDEX) 128
  else if k = Obj.FREE_RINGS then Store.getMany zeroByte s.egs.ringsStaged (48 * s.num Obj.ARENA_TABLE) 48
  else if k = Obj.ARENA_COUNTS then s.arenaCounts
  else if k = Obj.RECORD then s.recordView
  else if k = Obj.SPILL_RECORD then s.spillView
  else if k = Obj.STAGE_WINDOW then
    Store.getMany zeroByte s.nv.stage (32768 * s.num Obj.STAGE_WINDOW_INDEX) 32768
  else s.octs k 0 r.size

/-- An object's value as the wire carries it (R806, R807). -/
def valueOf (s : State) (k : Nat) (r : ObjRow) : List Byte :=
  if octetType r.ty then s.viewOcts k r
  else if keySub k = 0 ∧ !plainObject (keyIndex k) then beBytes r.size r.dflt
  else beBytes r.size (s.viewNum k)

/-- The address that the port answers to: with an unreadable OTP 02-5A-57-FF-FF-xx, xx being 40h plus STRAP_ADDR (R909). -/
def portMac (s : State) : Nat := if s.nv.otp.bad then 0x025A57FFFF40 + s.addr else s.nv.otp.mac

end State

end Sys2Proof.Machine
end

