-- ==== Sys2Proof/Machine/Values.lean ====
section
/-!
DEFINITION. Judging a written value: its reserved bits (R14), its reserved encodings and its range by the object's chapter
(spec/18: R806, R1030, Table 18-9a orders 11 to 13; spec/02: R72; spec/06: R257, R258, R261; spec/09: R412; spec/11: R444;
spec/12: R488; spec/13: R552; spec/14: R635, R1031; spec/17: R792; spec/20: Table 20-8; spec/22: R983).
-/

namespace Sys2Proof.Machine

/-- The field of `w` in the bits `hi` to `lo`, where it stands. -/
def keepBits (w hi lo : Nat) : Nat := bits w hi lo * 2 ^ lo

/-- A number as it is stored: its reserved bits are ignored (R14). -/
def normNum (k v : Nat) : Nat :=
  let i := keyIndex k
  let j := keySub k
  if k = Obj.RING_BASE ∨ k = Obj.UPD_RING_BASE then keepBits v 47 6
  else if k = Obj.WORK_BASE then keepBits v 47 12
  else if 0x9010 ≤ i ∧ i ≤ 0x9017 ∧ j = 19 then v % 8
  else if 0xE000 ≤ i ∧ i ≤ 0xE00F ∧ j = 2 then v % 16
  else v

/-- An 8-octet field of an image with only the bits `hi` to `lo` kept. -/
def keepField (l : List Byte) (hi lo : Nat) : List Byte := leBytes 8 (keepBits (ofLe l) hi lo)

/-- A region entry without its reserved bits (Table 11-3). -/
def normRegion (l : List Byte) : List Byte :=
  keepField (l.take 8) 47 12 ++ keepField ((l.drop 8).take 8) 47 12 ++ keepField ((l.drop 16).take 8) 63 1 ++
    leBytes 1 (le l 24 1 % 16) ++ leBytes 7 0

/-- A table descriptor without its reserved bits (Table 12-1). -/
def normTable (l : List Byte) : List Byte :=
  l.take 7 ++ leBytes 1 (le l 7 1 % 4) ++ keepField ((l.drop 8).take 8) 63 1 ++ keepField ((l.drop 16).take 8) 47 12 ++
    keepField ((l.drop 24).take 8) 47 6 ++ keepField ((l.drop 32).take 8) 47 12 ++ (l.drop 40).take 1 ++ leBytes 3 0 ++
    (l.drop 44).take 1 ++ leBytes 19 0 ++
    (List.range 3).flatMap (fun t => keepField ((l.drop (64 + 16 * t)).take 8) 47 6 ++ (l.drop (72 + 16 * t)).take 4 ++
      leBytes 4 0) ++ leBytes 16 0

/-- An update rule without its reserved bits (Table 13-2). -/
def normRule (l : List Byte) : List Byte :=
  l.take 1 ++ leBytes 1 (le l 1 1 % 4) ++ leBytes 2 0 ++ (l.drop 4).take 20 ++ keepField (l.drop 24) 47 12

/-- Octets as they are stored: reserved bits read as 0 (R12, R14). -/
def normOcts (k : Nat) (l : List Byte) : List Byte :=
  let i := keyIndex k
  let j := keySub k
  if k = Obj.RETIRED_SET then l.take 8 ++ leBytes 1 (le l 8 1 % 16)
  else if k = Obj.REGION_TABLE then (chunked 1024 32 l).flatMap normRegion
  else if k = Obj.REGION_ENTRY then normRegion l
  else if k = Obj.RETIRED_BLOCKS then (chunked 4096 4 l).flatMap (fun b => leBytes 4 (ofLe b % 2 ^ 27))
  else if k = Obj.TABLE_ENTRY then normTable l
  else if i = 0x6030 then normRule l
  else if k = Obj.FREE_RINGS then
    (chunked 3 16 l).flatMap (fun b => keepField (b.take 8) 47 6 ++ (b.drop 8).take 4 ++ leBytes 4 0)
  else if k = Obj.THROTTLE_POINTS ∨ k = Obj.DISPATCH_POINTS then (chunked 16 4 l).flatMap (fun b => b.take 3 ++ leBytes 1 0)
  else if 0x8100 ≤ i ∧ i ≤ 0x810F then l.take 6 ++ leBytes 1 (le l 6 1 % 16) ++ (l.drop 7).take 2 ++ leBytes 7 0
  else if 0x8400 ≤ i ∧ i ≤ 0x840F ∧ j = 2 then l.map (fun b => BitVec.ofNat 8 (b.toNat % 32))
  else if 0x8400 ≤ i ∧ i ≤ 0x840F ∧ j = 4 then (chunked 2048 2 l).flatMap (fun b => leBytes 2 (ofLe b / 128 * 128))
  else l

/-- Octets as they are stored beside the other objects: the field entries of a parse table from its FIELD_COUNT upward are reserved
(Table 6-4, R12, R14). -/
def State.normIn (s : State) (k : Nat) (l : List Byte) : List Byte :=
  let i := keyIndex k
  if 0x8400 ≤ i ∧ i ≤ 0x840F ∧ keySub k = 3 then
    let n := 2 * s.num (Obj.FIELD_COUNT (i - 0x8400))
    l.take n ++ List.replicate (l.length - n) 0
  else normOcts k l

/-- A number is 0 or a power of two from 64 to 65,536 (6010h:05, 6020h:02). -/
def ringSizeOk (v : Nat) : Bool := v == 0 || (decide (64 ≤ v) && decide (v ≤ 65536) && 2 ^ Nat.log2 v == v)

/-- A binary32 pattern is finite; is above 0; lies below 1. -/
def finite32 (x : Nat) : Bool := bits x 30 23 != 255
def above0 (x : Nat) : Bool := finite32 x && decide (0 < x) && decide (x < 2 ^ 31)
def below1 (x : Nat) : Bool := decide (x < 0x3F800000) || x == 2 ^ 31

/-- INV_STEP: 256 ÷ (X_MAX − X_MIN), each operation rounded to nearest-even (Table 6-3). -/
def invStep (lo hi : Nat) : Nat :=
  let d := r32 ((decodeNum fmtF32 hi).add (decodeNum fmtF32 lo).neg)
  bits32 ((decodeNum fmtF32 0x43800000).div d)

/-- X_MIN and X_MAX are finite, X_MAX lies above X_MIN, and INV_STEP is neither infinite nor zero (R261). -/
def curveOk (lo hi : Nat) : Bool :=
  let x := invStep lo hi
  finite32 lo && finite32 hi && Num.lt false (decodeNum fmtF32 lo) (decodeNum fmtF32 hi) && above0 x

/-- A number carries a reserved encoding (Table 18-9a order 12). -/
def reservedNum (k v : Nat) (ty : ObjType) : Bool :=
  let i := keyIndex k
  let j := keySub k
  (ty == .bool && decide (1 < v)) ||
  (if 0x7000 ≤ i ∧ i ≤ 0x703F ∧ j = 2 then decide (1 < v)
   else if 0x8200 ≤ i ∧ i ≤ 0x823F ∧ j = 3 then decide (1 < v)
   else if 0x8300 ≤ i ∧ i ≤ 0x8307 ∧ j = 1 then decide (2 < v)
   else if 0x8300 ≤ i ∧ i ≤ 0x8307 ∧ j = 2 then v == 0 || decide (64 < v)
   else if 0x8400 ≤ i ∧ i ≤ 0x840F ∧ j = 1 then decide (32 < v)
   else if k = Obj.TOPOLOGY then decide (2 < v)
   else if 0xE000 ≤ i ∧ i ≤ 0xE00F ∧ j = 1 then decide (7 < v)
   else if 0xE000 ≤ i ∧ i ≤ 0xE00F ∧ j = 4 then decide (2 < v)
   else if 0xE000 ≤ i ∧ i ≤ 0xE00F ∧ j = 5 then decide (1 < v)
   else false)

/-- Octets carry a reserved encoding (Table 18-9a order 12). -/
def reservedOcts (k : Nat) (l : List Byte) : Bool :=
  let i := keyIndex k
  let j := keySub k
  if k = Obj.TABLE_ENTRY then
    le l 4 2 == 0 || decide (2048 < le l 4 2) || !(le l 6 1 == 1 || le l 6 1 == 3) || decide (20 < le l 40 1) ||
      decide (15 < le l 44 1)
  else if i = 0x6030 then decide (3 < le l 0 1)
  else if 0x8100 ≤ i ∧ i ≤ 0x810F then
    decide (3 < le l 0 1) || !([4, 8, 16, 32, 64].contains (le l 1 1)) || le l 3 1 != 0 || le l 4 2 != 0 ||
      le l 6 1 % 8 != 0 || le l 7 1 != 0 || le l 8 1 != 0
  else if 0x8400 ≤ i ∧ i ≤ 0x840F ∧ j = 3 then (List.range 32).any (fun f => decide (4 < le l (2 * f) 1))
  else if 0x8400 ≤ i ∧ i ≤ 0x840F ∧ j = 4 then (chunked 2048 2 l).any (fun b => decide (4 < ofLe b / 128 % 8))
  else false

/-- A region entry is in range: a VALID one has LIMIT at or above BASE and ends within usable HBM (R444). -/
def regionOk (l : List Byte) : Bool :=
  !bit (le l 24 1) 3 || (decide (le l 0 8 ≤ le l 8 8) && decide (le l 8 8 + 4096 ≤ usableEnd))

/-- A table descriptor is in range: a VALID one has its bases and arenas within usable HBM (R488). -/
def tableOk (l : List Byte) : Bool :=
  let d := parseTable l
  !d.valid || (decide (d.dir < usableEnd) && decide (d.shard < usableEnd) && decide (d.replicaDir < usableEnd) &&
    (List.range 3).all (fun t =>
      let a := d.arena.getD t (0, 0)
      decide (a.1 < usableEnd) && decide (a.1 + a.2 * d.slotBytes t ≤ usableEnd)))

/-- An update rule is in range (R552, Table 13-2). -/
def ruleOk (l : List Byte) : Bool :=
  let kind := le l 0 1
  let clip := bit (le l 1 1) 1
  finiteNonNeg (le l 4 4) && finiteNonNeg (le l 20 4) &&
    (if kind = 2 then below1 (le l 8 4) else le l 8 4 == 0) &&
    (if kind = 3 then above0 (le l 12 4) else le l 12 4 == 0) &&
    (if clip then above0 (le l 16 4) else le l 16 4 == 0)

/-- A throttle curve: TEMP strictly rising, RATE from 1 to 64 and not rising (R412, Table 20-8). -/
def pointsOk (l : List Byte) : Bool :=
  let t := fun n => toSigned 16 (le l (4 * n) 2)
  let r := fun n => le l (4 * n + 2) 1
  (List.range 16).all (fun n => decide (1 ≤ r n) && decide (r n ≤ 64)) &&
    (List.range 15).all (fun n => decide (t n < t (n + 1)) && decide (r (n + 1) ≤ r n))

/-- Some pin but `n` has a function in force, or its change to it under way (R983). -/
def functionTaken (s : State) (n f : Nat) : Bool := (List.range 16).any (fun m => m != n && s.pinFn m == f)

namespace State

/-- A cadence parameter is in range with the others as committed (R72). -/
def cadenceOk (s : State) (g j v : Nat) : Bool :=
  let p := if j = 2 then v else s.num (Obj.PERIOD_INT g)
  let n := if j = 3 then v else s.num (Obj.NUMERATOR g)
  let d := if j = 4 then v else s.num (Obj.DENOMINATOR g)
  let u := if j = 6 then v else s.num (Obj.GUARD g)
  !(2 ≤ j && j ≤ 6 && j != 5) || (decide (256 ≤ p) && decide (1 ≤ d) && decide (n < d) && decide (u < p))

/-- A number written to an object lies in its range (Table 18-9a order 13). -/
def rangeNum (s : State) (k v : Nat) : Bool :=
  let i := keyIndex k
  let j := keySub k
  let within := fun lo hi => decide (lo ≤ v) && decide (v ≤ hi)
  if 0x2020 ≤ i ∧ i ≤ 0x202F then s.cadenceOk (i - 0x2020) j v
  else if 0x3100 ≤ i ∧ i ≤ 0x313F ∧ j = 2 then within 0 7
  else if 0x3100 ≤ i ∧ i ≤ 0x313F ∧ j = 4 then !s.bankSetClash (i - 0x3100) v
  else if 0x7000 ≤ i ∧ i ≤ 0x703F ∧ j = 1 then [1, 2, 4].contains v
  else if 0x7000 ≤ i ∧ i ≤ 0x703F ∧ j = 3 then [8, 16, 32, 64, 128, 256].contains v
  else if 0x8200 ≤ i ∧ i ≤ 0x823F ∧ j = 1 then curveOk v (s.num (k + 1))
  else if 0x8200 ≤ i ∧ i ≤ 0x823F ∧ j = 2 then curveOk (s.num (k - 1)) v
  else if 0x9010 ≤ i ∧ i ≤ 0x9017 ∧ j = 16 then within 0 10 || v == 255
  else if 0xE000 ≤ i ∧ i ≤ 0xE00F ∧ j = 1 then !((v == 2 || v == 3) && functionTaken s (i - 0xE000) v)
  else if k = Obj.PLCA_NODE_ID then within 0 7
  else if k = Obj.PLCA_NODE_COUNT then within 1 8
  else if k = Obj.PLCA_TO_TIMER ∨ k = Obj.PLCA_BURST_TIMER then within 1 255
  else if k = Obj.NOTIFY_RETRY_MS then within 10 10000
  else if k = Obj.NOTIFY_TRIES then within 1 255
  else if k = Obj.LEASE_DEFAULT_MS then within 100 600000
  else if k = Obj.HBM_CAL_OFFSET then within 0 4193280
  else if k = Obj.REGION_INDEX then within 0 1023
  else if k = Obj.PATROL_INTERVAL then within 64 65535
  else if k = Obj.RETIRE_CE_LIMIT then within 1 255
  else if k = Obj.TABLE_INDEX ∨ k = Obj.ARENA_TABLE then within 0 4095
  else if k = Obj.HOT_THRESHOLD then within 1 65535
  else if k = Obj.RING_BASE ∨ k = Obj.UPD_RING_BASE then decide (v < usableEnd)
  else if k = Obj.RING_ENTRIES ∨ k = Obj.UPD_RING_ENTRIES then ringSizeOk v
  else if k = Obj.UNITS_PER_WINDOW then [64, 128, 256, 512, 1024].contains v
  else if k = Obj.DIM_X then within 1 64 && decide (v * s.num Obj.DIM_Y ≤ 64)
  else if k = Obj.DIM_Y then within 1 64 && decide (v * s.num Obj.DIM_X ≤ 64)
  else if k = Obj.LAUNCH_LEAD then within 64 1048576
  else if k = Obj.LULL_MIN_GAP then within 1600 16777216
  else if k = Obj.ALERT_TEMP then within 1280 1712
  else if k = Obj.POWER_LIMIT then v == 0 || within 300 1000
  else if k = Obj.LOG_READ then
    let d := (v + 2 ^ 32 - s.num Obj.LOG_WRITTEN) % 2 ^ 32
    d == 0 || decide (2 ^ 31 ≤ d)
  else if k = Obj.STAGE_WINDOW_INDEX then within 0 31
  else if k = Obj.STAGE_LENGTH then v == 0 || within 64 1044480
  else if k = Obj.UART_DIVISOR then within 8 65535
  else true

/-- Octets written to an object lie in its range (Table 18-9a order 13). -/
def rangeOcts (s : State) (k : Nat) (l : List Byte) : Bool :=
  let i := keyIndex k
  let j := keySub k
  if k = Obj.REGION_TABLE then (chunked 1024 32 l).all regionOk
  else if k = Obj.REGION_ENTRY then regionOk l
  else if k = Obj.RETIRED_BLOCKS then (chunked 4096 4 l).all (fun b => decide (ofLe b < 0x5FF8000))
  else if k = Obj.TABLE_ENTRY then tableOk l
  else if i = 0x6030 then ruleOk l
  else if k = Obj.FREE_RINGS then
    (List.range 3).all (fun t =>
      decide (le l (16 * t + 8) 4 ≤
        ofLe (Store.getMany zeroByte s.egs.descStaged (128 * s.num Obj.ARENA_TABLE + 72 + 16 * t) 4)))
  else if k = Obj.THROTTLE_POINTS ∨ k = Obj.DISPATCH_POINTS then pointsOk l
  else if 0x8100 ≤ i ∧ i ≤ 0x810F then le l 0 1 == 3 && decide (le l 2 1 < le l 1 1)
  else if 0x8200 ≤ i ∧ i ≤ 0x823F ∧ j = 5 then (chunked 257 4 l).all (fun b => finite32 (ofLe b))
  else true

end State

/-- The element of a BLOB of variable length, in octets; 0 for one of fixed length (Table 23-16). -/
def blobElement (k : Nat) : Nat :=
  if k = Obj.OBJECT_LIST then 12 else if k = Obj.RETIRED_BLOCKS ∨ k = Obj.RETIRED_NOW then 4 else 0

/-- The length of a value is the one of its type (R806, R808, R841). -/
def lengthOk (k : Nat) (r : ObjRow) (n : Nat) : Bool :=
  if r.ty = .blob ∧ blobElement k ≠ 0 then decide (n ≤ r.size) && n % blobElement k == 0 else n == r.size

/-- Orders 11 to 13 of Table 18-9a for a value that is no command: 0 where it passes. -/
def State.valueCode (s : State) (k : Nat) (r : ObjRow) (l : List Byte) : Nat :=
  if !lengthOk k r l.length then 0x8204
  else if octetType r.ty then
    let x := s.normIn k l
    if reservedOcts k x then 0x8402 else if s.rangeOcts k x then 0 else 0x8401
  else
    let v := normNum k (ofBe l)
    if reservedNum k v r.ty then 0x8402 else if s.rangeNum k v then 0 else 0x8401

end Sys2Proof.Machine
end

