-- ==== Sys2Proof/Machine/Write.lean ====
section
/-!
DEFINITION. The commit of a written value by its kind, with what the write does beside storing it, and the state checks of a
write (spec/00: R8 to R16, Table 0-2; spec/18: R809 to R814, R862, R865, Table 18-9a order 14; spec/02: R50, R73; spec/08:
R341, R391; spec/09: R415; spec/15: R669; spec/19: R889, R896, R903, R904; spec/20: R914, R939; spec/22: R991 to R994).
-/

namespace Sys2Proof.Machine

/-- The go bit of a command object (kind CMD). -/
def goBit (k : Nat) : Nat :=
  if k = Obj.RETIRE_COURSE ∨ k = Obj.WARM_RESET ∨ k = Obj.SELFTEST_REQUEST then 15
  else if k = Obj.RETIRE_BLOCK then 31
  else if k = Obj.POWER_REQUEST ∨ k = Obj.RESTORE_FACTORY then 7
  else if k = Obj.NV_COMMIT then 63
  else 0

/-- A command object once the command is accepted: GO reads 0, its other fields as written, reserved bits 0. -/
def cmdStored (k v : Nat) : Nat :=
  if k = Obj.RETIRE_COURSE then v % 128
  else if k = Obj.RETIRE_BLOCK then v % 2 ^ 27
  else if k = Obj.POWER_REQUEST then bits v 6 6 * 64 + v % 4
  else if k = Obj.RESTORE_FACTORY then v % 4
  else if k = Obj.NV_COMMIT then v % 2 ^ 32
  else if k = Obj.SELFTEST_REQUEST then bits v 11 8 * 256 + v % 64
  else 0

namespace State

/-- The factory default of a number (R813): PLCA_NODE_ID depends on the reach address (Table 18-12). -/
def factoryNum (s : State) (k : Nat) : Nat := if k = Obj.PLCA_NODE_ID then s.addr % 7 + 1 else Obj.default k

/-- RWQ objects may be written: the scheduler was FREE or LOADING before this LCLK cycle, and no job is selected in it (R810). -/
def quiet (s : State) : Bool := decide (s.schedBefore ≤ 1) && !s.sched.waits.any (fun x => x.2.1 == s.lclk)

/-- INV_STEP of a curve, computed at the commit of X_MIN or X_MAX (Table 6-13). -/
def setInvStep (s : State) (n : Nat) : State :=
  s.setNum (Obj.INV_STEP n) (invStep (s.num (Obj.X_MIN n)) (s.num (Obj.X_MAX n)))

/-- ENABLE of a generator is committed (R50, R51, R76, R665, R1037). -/
def enableWritten (s : State) (g v : Nat) : State :=
  if v = s.num (Obj.ENABLE g) then s else if v = 1 then (s.enableGenerator g).settle else (s.disableGenerator g).settle

/-- CLIENT_ENABLE is committed: enabling a client is a selection event (R669). -/
def clientEnableWritten (s : State) (c v : Nat) : State :=
  let s1 := s.setNum (Obj.CLIENT_ENABLE c) v
  (if v = 1 ∧ s.num (Obj.CLIENT_ENABLE c) = 0 then s1.eventIfFree else s1).settle

/-- FUNCTION of a pin is committed: a change starts Table 22-5 (R991, R995). -/
def functionWritten (s : State) (n v : Nat) : State :=
  let s1 := s.setNum (Obj.FUNCTION n) v
  if v = s.pinFn n then s1 else s1.changeFunction n v

/-- FIELD_COUNT of a parse table is committed: the field entries from it upward read 0 (Table 6-4, R12). -/
def fieldCountWritten (s : State) (t v : Nat) : State :=
  let k := Obj.FIELDS t
  let n := 64 - 2 * v
  ((s.noteOct 0 (k * 65536 + 2 * v) (s.octs k (2 * v) n)).setNum (Obj.FIELD_COUNT t) v).setOcts k (2 * v) (List.replicate n 0)

/-- A CTRL number is committed, with what its object does at that. -/
def ctrlWritten (s : State) (k v : Nat) : State :=
  let i := keyIndex k
  let j := keySub k
  let t := s.setNum k v
  if 0x2020 ≤ i ∧ i ≤ 0x202F ∧ j = 1 then s.enableWritten (i - 0x2020) v
  else if 0x3100 ≤ i ∧ i ≤ 0x313F ∧ j = 1 then s.clientEnableWritten (i - 0x3100) v
  else if 0x3100 ≤ i ∧ i ≤ 0x313F ∧ j = 2 then t.settle
  else if 0x3100 ≤ i ∧ i ≤ 0x313F ∧ j = 4 then s.bankSetWritten (i - 0x3100) v
  else if 0x7000 ≤ i ∧ i ≤ 0x703F ∧ j ≤ 2 then s.bankConfig k (i - 0x7000) v
  else if 0x7000 ≤ i ∧ i ≤ 0x703F ∧ j = 3 then s.holeWritten (i - 0x7000) v
  else if 0x8200 ≤ i ∧ i ≤ 0x823F ∧ j ≤ 2 then t.setInvStep (i - 0x8200)
  else if 0x8400 ≤ i ∧ i ≤ 0x840F ∧ j = 1 then s.fieldCountWritten (i - 0x8400) v
  else if 0xE000 ≤ i ∧ i ≤ 0xE00F ∧ j = 1 then s.functionWritten (i - 0xE000) v
  else if 0xE000 ≤ i ∧ i ≤ 0xE00F ∧ j = 6 then t.polarityChanged (i - 0xE000) (s.pinPol (i - 0xE000))
  else if i = 0x1000 ∧ 2 ≤ j ∧ j ≤ 7 then
    (if v = s.num k then t else { t with shore := { t.shore with plcaDue := true } })
  else if k = Obj.HBM_CAL_OFFSET then { t with tide := { t.tide with nextCal := nextAt v 4194304 t.now } }
  else if 0x2020 ≤ i ∧ i ≤ 0x202F ∧ 2 ≤ j ∧ j ≤ 4 then t.paramWritten (i - 0x2020)
  else if k = Obj.TAI_NEXT_EDGE then { t with pps := { t.pps with
    label := some v, labelCycle := s.lclk + 1
    labelWas := if s.pps.labelCycle = s.lclk + 1 then s.pps.labelWas else s.pps.label } }
  else if k = Obj.UNITS_PER_WINDOW then s.unitsWritten v
  else if k = Obj.SCRUB_ENABLE then s.scrubAccounts.setNum k v
  else if k = Obj.ALERT_TEMP then t.temperatures
  else t

/-- A FORCED object is written: the requested sub-field takes bit 0, and it is effective unless hardware forces 0 (R9, R811,
R410, R929, R1013). -/
def forcedWritten (s : State) (k v : Nat) : State :=
  if k = Obj.THROTTLE_DISABLE then (s.setNum k (forcedField (bit v 0) s.csa.forced)).disableHolds true
  else if k = Obj.DISPATCH_THROTTLE_DISABLE then (s.setNum k (forcedField (bit v 0) s.power.forced)).disableHolds false
  else s.setNum k (forcedField (bit v 0) (s.num Obj.TRIP_LATCHED == 1))

/-- A preset of CLIENT_WAIT_MAX: the wait of a selection of the same LCLK cycle is compared with it (R695). -/
def waitPreset (s : State) (c v : Nat) : Nat :=
  match s.sched.waits.find? (fun x => x.1 == c && x.2.1 == s.lclk) with
  | some x => max v x.2.2
  | none => v

/-- The value of a number when this LCLK cycle began. -/
def startNum (s : State) (k : Nat) : Nat := Store.get Obj.default s.shore.start k

/-- A preset of a COUNT object: the increments of its LCLK cycle are added to the value written (Table 0-2, R974). -/
def preset (s : State) (k size v : Nat) : Nat :=
  if size = 8 then wrap64 (v + (s.num k + 2 ^ 64 - s.startNum k) % 2 ^ 64)
  else min (2 ^ (8 * size) - 1) (v + (s.num k - s.startNum k))

/-- A write of 1 clears a W1C bit, unless hardware has set it in the same LCLK cycle (Table 0-2). -/
def cleared (s : State) (k size v : Nat) : Nat :=
  let m := 2 ^ (8 * size) - 1
  Nat.land (s.num k) (Nat.lor (m - v % (m + 1)) (m - Nat.land (s.startNum k) m))

/-- An accepted number takes effect by its kind (R811); the write replaces the whole word (R862). -/
def commitNum (s : State) (k : Nat) (r : ObjRow) (v : Nat) : State :=
  let t := { s with badObj := s.badObj.filter (fun p => p.1 != k) }
  match r.kind with
  | .w1c => t.setNum k (s.cleared k r.size v)
  | .forced => t.forcedWritten k v
  | .count => t.setNum k (if 0x3100 ≤ keyIndex k ∧ keyIndex k ≤ 0x313F ∧ keySub k = 6 then t.waitPreset (keyIndex k - 0x3100) v
      else s.preset k r.size v)
  | _ => (t.noteNum k).ctrlWritten k v

/-- Accepted octets take effect; REGION_ENTRY, TABLE_ENTRY, FREE_RINGS and STAGE_WINDOW are windows (R484, R895). -/
def commitOcts (s : State) (k : Nat) (l : List Byte) : State :=
  let t := { s with badObj := s.badObj.filter (fun p => p.1 != k) }
  let keep := fun (u : State) (k at_ : Nat) => u.noteOct 0 (k * 65536 + at_) (u.octs k at_ l.length)
  if k = Obj.REGION_ENTRY then
    (keep t Obj.REGION_TABLE (32 * t.num Obj.REGION_INDEX)).setOcts Obj.REGION_TABLE (32 * t.num Obj.REGION_INDEX) l
  else if k = Obj.TABLE_ENTRY then
    let a := 128 * t.num Obj.TABLE_INDEX
    let u := t.noteOct 1 a (Store.getMany zeroByte t.egs.descStaged a l.length)
    { u with egs := { u.egs with descStaged := Store.setMany zeroByte u.egs.descStaged a l } }
  else if k = Obj.FREE_RINGS then
    let a := 48 * t.num Obj.ARENA_TABLE
    let u := t.noteOct 2 a (Store.getMany zeroByte t.egs.ringsStaged a l.length)
    { u with egs := { u.egs with ringsStaged := Store.setMany zeroByte u.egs.ringsStaged a l } }
  else if k = Obj.STAGE_WINDOW then { t with nv := { t.nv with
    stage := Store.setMany zeroByte t.nv.stage (32768 * t.num Obj.STAGE_WINDOW_INDEX) l } }
  else if k = Obj.RETIRED_BLOCKS then (t.setOcts k 0 (l ++ leBytes (t.num k - l.length) 0)).setNum k l.length
  else (keep t k 0).setOcts k 0 l

/-- Order 14 of Table 18-9a for a write that is no command: R810, R865, R73 and R904. -/
def stateCode (s : State) (k : Nat) (r : ObjRow) : Nat :=
  let i := keyIndex k
  if s.nv.warm && decide (0x2000 ≤ i) then 0x8303
  else if r.access == .rwq && !s.quiet then 0x8303
  else if 0x2020 ≤ i ∧ i ≤ 0x202F ∧ keySub k = 5 ∧ s.num (Obj.ENABLE (i - 0x2020)) = 1 then 0x8303
  else if i = 0xC004 ∧ s.num Obj.NV_STATE ≠ 0 then 0x8303
  else 0

/-- ACTIVE_SEQUENCE plus 1 modulo 2^32, skipping 0 (R889). -/
def nextImageSeq (s : State) : Nat :=
  let n := (s.num Obj.ACTIVE_SEQUENCE + 1) % 2 ^ 32
  if n = 0 then 1 else n

/-- Orders 12 and 13 of Table 18-9a for a command with GO set: reserved encodings and ranges. -/
def cmdValueCode (s : State) (k v : Nat) : Nat :=
  if k = Obj.RETIRE_COURSE then (if 68 ≤ v % 128 then 0x8402 else 0)
  else if k = Obj.POWER_REQUEST then (if v % 4 = 3 then 0x8402 else 0)
  else if k = Obj.SELFTEST_REQUEST then
    (if bits v 11 8 = 0 ∨ 6 < bits v 11 8 ∨ (bits v 11 8 ≠ 5 ∧ v % 64 ≠ 0) then 0x8402 else 0)
  else if k = Obj.RESTORE_FACTORY then (if v % 4 = 0 then 0x8402 else 0)
  else if k = Obj.RETIRE_BLOCK then (if 0x5FF8000 ≤ v % 2 ^ 27 then 0x8401 else 0)
  else if k = Obj.NV_COMMIT then (if v % 2 ^ 32 = s.nextImageSeq then 0 else 0x8401)
  else 0

/-- POWER_REQUEST is refused in its present state (R914). -/
def powerRefused (s : State) (target : Nat) : Bool :=
  if target = 0 then s.powerState == 3 || s.num Obj.TRIP_LATCHED == 1 else s.powerState == 3 || s.powerState == 4

/-- Order 14 of Table 18-9a for a command with GO set (R812, R865, R889, R896, R903, R905, R914, R939, R947, R967). -/
def cmdStateCode (s : State) (k v : Nat) : Nat :=
  if k = Obj.WARM_RESET then (if s.nv.warm then 0x8304 else if s.warmRefused then 0x8303 else 0)
  else if s.nv.warm && !(k == Obj.START_RELEASE && s.nv.warmAt == s.lclk + 1) then 0x8303
  else if k = Obj.POWER_REQUEST then (if s.powerRefused (v % 4) then 0x8303 else 0)
  else if k = Obj.SELFTEST_REQUEST then
    (if bits v 11 8 = 1 ∨ (bits v 11 8 = 5 ∧ s.bankOwned (v % 64)) ∨ 3 ≤ s.powerState then 0x8303
     else if 4 ≤ s.testsQueued then 0x8304 else 0)
  else if k = Obj.NV_COMMIT then
    (if s.num Obj.NV_STATE = 5 then 0x8303 else if s.num Obj.NV_STATE ≠ 0 then 0x8304
     else if s.num Obj.SECURE_BOOT = 1 ∧ s.num Obj.STAGE_LENGTH = 0 then 0x8303 else 0)
  else if k = Obj.RESTORE_FACTORY then
    (if bit v 1 && !s.quiet then 0x8303 else if s.num Obj.NV_STATE ≠ 0 then 0x8304 else 0)
  else 0

/-- Orders 12 to 14 for a command with GO set: 0 where it is accepted. -/
def cmdCode (s : State) (k v : Nat) : Nat :=
  if s.cmdValueCode k v = 0 then s.cmdStateCode k v else s.cmdValueCode k v

/-! ### Live factory defaults -/

/-- The P objects of some keys whose value differs from the factory default, in rising order (R890, R896). -/
def changedKeys (s : State) : List Nat :=
  let ks := s.obj.map Prod.fst ++ (s.oct.map (fun (p : Nat × Byte) => p.1 / 65536)).eraseDups ++ [Obj.PLCA_NODE_ID]
  sortBy (fun (k : Nat) => [k]) ((ks.eraseDups).filter (fun k =>
    match rowOf k with
    | some r => r.persist && (octetType r.ty || s.num k != s.factoryNum k)
    | none => false))

/-- One P object back to its factory default, as a write of that value would put it (R896). -/
def restoreObject (s : State) (k : Nat) : State :=
  match rowOf k with
  | none => s
  | some r =>
    if octetType r.ty then
      let u := s.noteOct 0 (k * 65536) (s.octs k 0 r.size)
      let t := { u with
        oct := Store.clear s.oct (k * 65536) (k * 65536 + 65536)
        badObj := s.badObj.filter (fun p => p.1 != k) }
      if k = Obj.RETIRED_BLOCKS then t.setNum k 0 else t
    else s.commitNum k r (s.factoryNum k)

/-- LIVE: every P object takes its factory default (R896). -/
def restoreLive (s : State) : State := s.changedKeys.foldl restoreObject s

end State

end Sys2Proof.Machine
end

