-- ==== Sys2Proof/Machine/Shore.lean ====
section
/-!
DEFINITION. Serving a Shoreline request: its row, its duplicates, the checks of Table 18-9a, the response and what each opcode
does (spec/18: R817 to R863, Tables 18-3 to 18-11; spec/16: R733, R734; spec/19: R909; spec/20: R936).
-/

namespace Sys2Proof.Machine

/-- The row of the command table that a request belongs to: a write of an object with a row of its own, else its opcode. -/
inductive Row where
  | generatorEnable | retireCourse | tablesApply | csaBankset | entryUnits | priorityMode | retireBlock | regionsApply | embApply
  | read | write | blockReadInit | blockReadSegment | blockWriteInit | blockWriteSegment | blockEnd | blockCancel
  | leaseClaim | leaseRenew | leaseRelease | leaseDelegate | leaseRecall | identify | notifyAck
  | startRelease | nvCommit | eraseImages | restoreFactoryLive | warmReset | powerActive | powerLull | powerHold
  | router | brickLogic | brickSram | selection | csaBank | sensors | function
deriving DecidableEq, Repr

/-- The row of a POWER_REQUEST with GO set, by TARGET; a reserved one belongs to WRITE. -/
def powerRow : Nat → Row
  | 0 => .powerActive
  | 1 => .powerLull
  | 2 => .powerHold
  | _ => .write

/-- The row of a SELFTEST_REQUEST with GO set, by KIND (Table 20-6). -/
def testRow : Nat → Row
  | 1 => .router
  | 2 => .brickLogic
  | 3 => .brickSram
  | 4 => .selection
  | 5 => .csaBank
  | 6 => .sensors
  | _ => .write

/-- The row of a write with GO set to a command object. -/
def cmdRow (k v : Nat) : Row :=
  if k = Obj.RETIRE_COURSE then .retireCourse
  else if k = Obj.TABLES_APPLY then .tablesApply
  else if k = Obj.RETIRE_BLOCK then .retireBlock
  else if k = Obj.REGIONS_APPLY then .regionsApply
  else if k = Obj.EMB_APPLY then .embApply
  else if k = Obj.START_RELEASE then .startRelease
  else if k = Obj.NV_COMMIT then .nvCommit
  else if k = Obj.WARM_RESET then .warmReset
  else if k = Obj.RESTORE_FACTORY then (if bit v 1 then .restoreFactoryLive else if bit v 0 then .eraseImages else .write)
  else if k = Obj.POWER_REQUEST then powerRow (v % 4)
  else if k = Obj.SELFTEST_REQUEST then testRow (bits v 11 8)
  else .write

/-- The object that a request names. -/
def reqKey (q : Request) : Nat := q.index * 256 + q.sub

/-- The number that a WRITE carries. -/
def reqValue (q : Request) : Nat := ofBe q.body

/-- The row of a WRITE. -/
def writeRow (q : Request) : Row :=
  let i := q.index
  if 0x2020 ≤ i ∧ i ≤ 0x202F ∧ q.sub = 1 then .generatorEnable
  else if 0x3100 ≤ i ∧ i ≤ 0x313F ∧ q.sub = 4 then .csaBankset
  else if 0x7000 ≤ i ∧ i ≤ 0x703F ∧ q.sub = 1 then .entryUnits
  else if 0x7000 ≤ i ∧ i ≤ 0x703F ∧ q.sub = 2 then .priorityMode
  else if 0xE000 ≤ i ∧ i ≤ 0xE00F ∧ q.sub = 1 then .function
  else if bit (reqValue q) (goBit (reqKey q)) then cmdRow (reqKey q) (reqValue q)
  else .write

/-- The row of a request; one whose opcode has no row belongs to READ (log entry 41). -/
def rowOfRequest (q : Request) : Row :=
  match q.opcode with
  | 0x02 => writeRow q
  | 0x03 => .blockReadInit
  | 0x04 => .blockReadSegment
  | 0x05 => .blockWriteInit
  | 0x06 => .blockWriteSegment
  | 0x07 => .blockEnd
  | 0x08 => .blockCancel
  | 0x10 => .leaseClaim
  | 0x11 => .leaseRenew
  | 0x12 => .leaseRelease
  | 0x13 => .leaseDelegate
  | 0x14 => .leaseRecall
  | 0x21 => .notifyAck
  | 0x30 => .identify
  | _ => .read

/-- What a request is answered with (R822, R823). -/
inductive Answer where
  | done (body : List Byte)
  | ignored
  | aborted (code : Nat)
deriving DecidableEq, Repr

/-- An SDU (Table 18-4). -/
def sduOf (op result index sub : Nat) (body : List Byte) : List Byte :=
  leBytes 1 op ++ leBytes 1 result ++ beBytes 2 (8 + body.length) ++ beBytes 2 index ++ leBytes 1 sub ++ leBytes 1 0 ++ body

/-- The response SDU of an answer (R823). -/
def answerSdu (q : Request) : Answer → List Byte
  | .done body => sduOf (q.opcode + 0x80) 0 q.index q.sub body
  | .ignored => sduOf (q.opcode + 0x80) 2 q.index q.sub []
  | .aborted code => sduOf (q.opcode + 0x80) 1 q.index q.sub (beBytes 2 code ++ leBytes 2 0)

/-- Opcodes that Table 18-5 defines. -/
def opcodeKnown (op : Nat) : Bool :=
  (decide (1 ≤ op) && decide (op ≤ 8)) || (decide (0x10 ≤ op) && decide (op ≤ 0x14)) || op == 0x20 || op == 0x21 || op == 0x30

/-- The opcode is permitted from its source (R853). -/
def opcodePermitted (q : Request) : Bool :=
  match q.src with
  | .port _ => q.opcode != 0x20
  | .mailbox => decide (q.opcode ≤ 8) || [0x10, 0x12, 0x30].contains q.opcode

/-- Opcodes that name an object (Table 18-5). -/
def namesObject (op : Nat) : Bool := decide (1 ≤ op) && decide (op ≤ 7)

/-- The SDU lengths that an opcode takes (Table 18-5). -/
def sduLengthOk (op n : Nat) : Bool :=
  if op = 2 then decide (8 ≤ n)
  else if op = 6 then decide (12 ≤ n)
  else if op = 4 then n == 16
  else if [5, 7, 0x10, 0x11].contains op then n == 12
  else n == 8

/-- Orders 1 to 4 of Table 18-9a. -/
def headerCode (q : Request) : Nat :=
  if q.version ≠ 1 then 0x8103
  else if !opcodeKnown q.opcode then 0x8101
  else if !opcodePermitted q then 0x8104
  else if q.reserved || q.length != 8 + q.body.length || !sduLengthOk q.opcode q.length ||
      (!namesObject q.opcode && q.opcode != 8 && (q.index != 0 || q.sub != 0)) then 0x8102
  else 0

/-- The requests that a device with an unreadable OTP takes on the port (R909). -/
def otpTakes (q : Request) : Bool :=
  q.opcode == 0x30 || ([1, 3, 4, 7, 8].contains q.opcode &&
    (decide (q.index < 0x1000) || (decide (0xC000 ≤ q.index) && decide (q.index ≤ 0xC005))))

namespace State

/-! ### Taking and answering -/

/-- The mailbox was granted the lease in this LCLK cycle: a claim whose frame came after it is of the next one (R856). -/
def mailboxClaimed (s : State) : Bool :=
  s.shore.leaseWas.1 == s.lclk + 1 && s.shore.leaseWas.2.1 == 0 && s.shore.lease == 2

/-- The request is the next one of its source to be taken, and its source has had none taken in this LCLK cycle (R833). -/
def waits (s : State) (q : Request) : Bool :=
  match q.src with
  | .port _ => s.shore.queue.head? == some q && s.shore.portAt != s.lclk + 1 && !(q.opcode == 0x10 && s.mailboxClaimed)
  | .mailbox => s.host.request == some q && s.shore.mailAt != s.lclk + 1

/-- The request leaves its queue; a mailbox request stays until it is answered. -/
def dequeue (s : State) (q : Request) : State :=
  match q.src with
  | .port _ => { s with shore := { s.shore with queue := s.shore.queue.drop 1, portAt := s.lclk + 1 } }
  | .mailbox => { s with shore := { s.shore with mailAt := s.lclk + 1 } }

/-- A frame leaves on the management port (R819). -/
def sendFrame (s : State) (dest seq : Nat) (sdu : List Byte) : State :=
  (s.emit (.frame dest seq sdu)).inc64 Obj.FRAMES_SENT 1

/-- The state kept for a node. -/
def sourceOf (s : State) (mac : Nat) : Option SourceState := s.shore.sources.find? (fun x => x.mac == mac)

/-- The state of a node put last, as the one heard most recently; at most eight are kept (R831). -/
def putSource (s : State) (x : SourceState) : State :=
  let l := s.shore.sources.filter (fun y => y.mac != x.mac) ++ [x]
  { s with shore := { s.shore with sources := l.drop (l.length - 8) } }

/-- SEQUENCE is a duplicate of a request heard (R829). -/
def isDuplicate (s : State) (mac seq : Nat) : Bool :=
  match s.sourceOf mac with
  | some x =>
    let d := (seq + 65536 - x.last) % 65536
    d == 0 || decide (64513 ≤ d)
  | none => false

/-- A duplicate is answered with its stored response, or dropped (R830). -/
def resend (s : State) (mac seq : Nat) : State :=
  match s.sourceOf mac with
  | none => s
  | some x =>
    match x.responses.find? (fun (p : Nat × List Byte) => p.1 == seq) with
    | some p => ((s.putSource x).inc32 Obj.DUPLICATES_RESENT 1).sendFrame mac seq p.2
    | none => (s.putSource x).inc32 Obj.DUPLICATES_DROPPED 1

/-- A new request of a node sets LAST (R829). -/
def hearNew (s : State) (mac seq : Nat) : State :=
  s.putSource { mac := mac, last := seq, responses := match s.sourceOf mac with
    | some x => x.responses
    | none => [] }

/-- A response of a node is stored: the last 16 are kept. -/
def storeResponse (s : State) (mac seq : Nat) (sdu : List Byte) : State :=
  match s.sourceOf mac with
  | none => s
  | some x =>
    let l := x.responses ++ [(seq, sdu)]
    s.putSource { x with responses := l.drop (l.length - 16) }

/-- The mailbox's response area is written, and RESPONSE_READY raised (R733, R734, Table 16-9). -/
def mailboxReply (s : State) (sdu : List Byte) : State :=
  let s1 := { s with host := { s.host with
    mailbox := Store.setMany zeroByte s.host.mailbox 0x880 sdu
    respLen := sdu.length
    busy := false
    ready := true
    request := none } }
  (s1.regSet 0x10008 (setBit (s1.regGet 0x10008) 0 true)).raiseGlobal 3

/-- The answer goes out: aborts are counted (Table 18-12), the response is stored and sent (R823, R835). -/
def finish (s : State) (q : Request) (a : Answer) : State :=
  let s1 := match a with
    | .aborted c =>
      ((s.inc32 Obj.ABORTS 1).setNum Obj.LAST_ABORT c).setNum Obj.LAST_ABORT_OBJECT (q.index * 256 + q.sub)
    | _ => s
  match q.src with
  | .port mac => (s1.storeResponse mac q.seq (answerSdu q a)).sendFrame mac q.seq (answerSdu q a)
  | .mailbox => s1.mailboxReply (answerSdu q a)

/-! ### Objects -/

/-- A request meets an uncorrectable word of the object: counted when it is first found (R862). -/
def storageError (s : State) (k : Nat) : State :=
  if s.badObj.any (fun p => p.1 == k && !p.2) then
    { s with badObj := s.badObj.map (fun (p : Nat × Bool) => if p.1 = k then (k, true) else p) }.inc32 Obj.STORAGE_ERRORS 1
  else s

/-- A value read, with what the read meets: an uncorrectable word, a ring record with a bad CRC, the HBM of the spill ring
(R799, R862; log entry 42). -/
def readObject (s : State) (k : Nat) (r : ObjRow) : Option (List Byte) × State :=
  if s.wordBad k then (none, s.storageError k)
  else if k = Obj.RECORD then
    (some (s.valueOf k r),
      match s.recordAt with
      | some p => if s.faults.ringBad.contains p then s.setSticky Obj.LOG_STICKY 3 else s
      | none => s)
  else if k = Obj.SPILL_RECORD then
    match s.spillAt with
    | some a =>
      let m := s.memRead a 64
      if m.1 = 1 then (none, m.2.2.inc32 Obj.STORAGE_ERRORS 1) else (some (s.valueOf k r), m.2.2)
    | none => (some (s.valueOf k r), s)
  else (some (s.valueOf k r), s)

/-- Orders 10 to 14 and the commit of a whole value (R808 to R812). `cmd` is what an accepted command does. -/
def writeObject (s : State) (k : Nat) (r : ObjRow) (l : List Byte) (cmd : State → State) : Answer × State :=
  if r.access = .ro then (.ignored, s.statWrite)
  else if r.kind = .cmd then
    let v := ofBe l
    if l.length ≠ r.size then (.aborted 0x8204, s)
    else if !bit v (goBit k) then (.done [], s)
    else
      let c := s.cmdCode k v
      if c ≠ 0 then (.aborted c, s)
      else (.done [], cmd ({ s.setNum k (cmdStored k v) with badObj := s.badObj.filter (fun p => p.1 != k) }))
  else
    let c := s.valueCode k r l
    if c ≠ 0 then (.aborted c, s)
    else if s.stateCode k r ≠ 0 then (.aborted (s.stateCode k r), s)
    else if octetType r.ty then (.done [], s.commitOcts k (s.normIn k l))
    else (.done [], s.commitNum k r (normNum k (ofBe l)))

/-! ### Block transfers -/

def transferOf (s : State) (src : Source) : Option Transfer := s.shore.transfers.find? (fun t => t.src == src)

def closeTransfer (s : State) (src : Source) : State :=
  { s with shore := { s.shore with transfers := s.shore.transfers.filter (fun t => t.src != src) } }

def putTransfer (s : State) (t : Transfer) : State :=
  { s with shore := { s.shore with transfers := s.shore.transfers.filter (fun x => x.src != t.src) ++ [t] } }

/-- No further transfer can be opened by the source (R841, R854; Table 18-11). -/
def transfersFull (s : State) (src : Source) : Bool :=
  src != .mailbox && decide (4 ≤ (s.shore.transfers.filter (fun t => t.src != .mailbox)).length)

/-- The source's transfer of the object in a direction (R838). -/
def ownTransfer (s : State) (q : Request) (write : Bool) : Option Transfer :=
  (s.transferOf q.src).filter (fun t => t.key == reqKey q && t.write == write)

/-- BLOCK_READ_INIT (R838, R839, R841). -/
def blockReadInit (s : State) (q : Request) (k : Nat) (r : ObjRow) : Answer × State :=
  if (s.transferOf q.src).isSome then (.aborted 0x8605, s)
  else if s.transfersFull q.src then (.aborted 0x8701, s)
  else
    let x := s.readObject k r
    match x.1 with
    | none => (.aborted 0x8702, x.2)
    | some v => (.done (beBytes 4 v.length),
        x.2.putTransfer { src := q.src, key := k, write := false, total := v.length, data := v, at_ := s.clock })

/-- BLOCK_WRITE_INIT (R838, R841). -/
def blockWriteInit (s : State) (q : Request) (k : Nat) (r : ObjRow) : Answer × State :=
  let n := ofBe q.body
  if (s.transferOf q.src).isSome then (.aborted 0x8605, s)
  else if !lengthOk k r n then (.aborted 0x8604, s)
  else if s.transfersFull q.src then (.aborted 0x8701, s)
  else (.done [], s.putTransfer { src := q.src, key := k, write := true, total := n, data := [], at_ := s.clock })

/-- BLOCK_READ_SEGMENT (R840). -/
def blockReadSegment (s : State) (q : Request) : Answer × State :=
  match s.ownTransfer q false with
  | none => (.aborted 0x8601, s)
  | some t =>
    let s1 := s.putTransfer { t with at_ := s.clock }
    let off := ofBe (q.body.take 4)
    let n := ofBe ((q.body.drop 4).take 2)
    if n = 0 ∨ 1024 < n then (.aborted 0x8604, s1)
    else if t.total ≤ off then (.aborted 0x8602, s1)
    else (.done (beBytes 4 off ++ (t.data.drop off).take n), s1)

/-- BLOCK_WRITE_SEGMENT (R842). -/
def blockWriteSegment (s : State) (q : Request) : Answer × State :=
  match s.ownTransfer q true with
  | none => (.aborted 0x8601, s)
  | some t =>
    let s1 := s.putTransfer { t with at_ := s.clock }
    let off := ofBe (q.body.take 4)
    let d := q.body.drop 4
    if d = [] ∨ 1024 < d.length then (.aborted 0x8604, s1)
    else if off ≠ t.data.length ∨ t.total < off + d.length then (.aborted 0x8602, s1)
    else (.done (beBytes 4 (off + d.length)), s.putTransfer { t with data := t.data ++ d, at_ := s.clock })

/-- BLOCK_END of a write: the CRC, the length, and the whole value by orders 10 to 14 (R843, R860). -/
def endWrite (s : State) (q : Request) (k : Nat) (r : ObjRow) (t : Transfer) : Answer × State :=
  let c := crc32c t.data
  if c ≠ ofBe q.body then (.aborted 0x8603, s)
  else if t.data.length ≠ t.total then (.aborted 0x8604, s)
  else
    let x := s.writeObject k r t.data id
    (match x.1 with
      | .done _ => .done (beBytes 4 c)
      | a => a, x.2)

/-- BLOCK_END: the transfer closes either way (R843). -/
def blockEnd (s : State) (q : Request) (k : Nat) (r : ObjRow) : Answer × State :=
  match s.ownTransfer q true, s.ownTransfer q false with
  | some t, _ => (s.closeTransfer q.src).endWrite q k r t
  | none, some t => (.done (beBytes 4 (crc32c t.data)), s.closeTransfer q.src)
  | none, none => (.aborted 0x8601, s)

/-! ### The lease -/

/-- LEASE_MS of a claim or renewal: 0 asks for the default; none when out of range (R827). -/
def leaseMs (s : State) (q : Request) : Option Nat :=
  let n := ofBe (q.body.take 4)
  if n = 0 then some (s.num Obj.LEASE_DEFAULT_MS) else if 100 ≤ n ∧ n ≤ 600000 then some n else none

/-- A claim or renewal refused because the lease is another's is counted (1010h:08). -/
def claimRefused (s : State) (code : Nat) : Answer × State := (.aborted code, s.inc32 Obj.CLAIMS_REFUSED 1)

/-- A claim of the lease that the port's next request makes, to be taken in this LCLK cycle (R833, R856). -/
def portClaims (s : State) : Bool :=
  match s.shore.queue with
  | q :: _ =>
    (match q.src with
      | .port m => s.shore.portAt != s.lclk + 1 && !s.nv.otp.bad && !s.isDuplicate m q.seq && q.opcode == 0x10 &&
          headerCode q == 0 && (s.leaseMs q).isSome
      | .mailbox => false)
  | [] => false

/-- LEASE_CLAIM (Table 18-7, R827, R828); of claims of one LCLK cycle the port's wins (R751, R856). -/
def leaseClaim (s : State) (q : Request) : Answer × State :=
  match s.leaseMs q with
  | none => (.aborted 0x8401, s)
  | some ms =>
    match q.src with
    | .port mac =>
      if s.shore.lease = 0 then (.done (beBytes 4 ms), (s.setLease 1 mac false 1).setTimer ms)
      else if s.shore.lease = 1 ∧ s.shore.holder = mac then (.done (beBytes 4 ms), s.setTimer ms)
      else s.claimRefused 0x8502
    | .mailbox =>
      if s.shore.lease = 0 ∧ s.portClaims then s.claimRefused 0x8502
      else if s.shore.lease = 0 then
        (if s.num Obj.MAILBOX_CLAIM_ENABLE = 1 then (.done (beBytes 4 0), s.setLease 2 0 false 1) else s.claimRefused 0x8503)
      else if s.shore.lease = 2 then (.done (beBytes 4 0), s)
      else s.claimRefused 0x8502

/-- LEASE_RENEW (Table 18-7, R857). -/
def leaseRenew (s : State) (q : Request) : Answer × State :=
  match s.leaseMs q with
  | none => (.aborted 0x8401, s)
  | some ms => if s.shore.lease = 1 ∧ s.holdsLease q.src then (.done (beBytes 4 ms), s.setTimer ms) else (.aborted 0x8501, s)

/-- LEASE_RELEASE (Table 18-7). -/
def leaseRelease (s : State) (q : Request) : Answer × State :=
  if !s.holdsLease q.src then (.aborted 0x8501, s)
  else if s.shore.lease = 2 then (.done [], s.leaseBack 2)
  else (.done [], s.setLease 0 0 false 2)

/-- LEASE_DELEGATE (Table 18-7). -/
def leaseDelegate (s : State) (q : Request) : Answer × State :=
  if s.shore.lease = 1 ∧ s.holdsLease q.src then (.done [], s.setLease 2 s.shore.holder true 4) else (.aborted 0x8501, s)

/-- LEASE_RECALL (Table 18-7). -/
def leaseRecall (s : State) (q : Request) : Answer × State :=
  match q.src with
  | .mailbox => (.aborted 0x8501, s)
  | .port mac =>
    if s.shore.lease = 2 ∧ (!s.shore.delegated ∨ s.shore.holder = mac) then
      (.done [], (s.setLease 1 mac false 5).setTimer (s.num Obj.LEASE_DEFAULT_MS))
    else (.aborted 0x8501, s)

/-- IDENTIFY (Table 18-5). -/
def identifyBody (s : State) : List Byte :=
  ascii "SWV-4096" ++ revisionText s.nv.otp.revision ++ leBytes 1 s.addr ++ leBytes 1 (s.num Obj.PLCA_NODE_ID) ++
    leBytes 1 s.shore.lease ++ leBytes 3 0 ++ (s.nv.otp.serial ++ List.replicate 16 0x20).take 16

/-! ### Dispatch -/

/-- A request that writes its object: WRITE, a block write, or the end of one. -/
def reqWrites (s : State) (q : Request) : Bool :=
  [2, 5, 6].contains q.opcode || (q.opcode == 7 && (s.ownTransfer q true).isSome)

/-- Orders 5 to 9 of Table 18-9a for a request that names an object (R836, R837). -/
def objectCode (s : State) (q : Request) : Nat :=
  if 0xF000 ≤ q.index then 0x8203
  else if !indexExists q.index then 0x8201
  else match objectRow (reqKey q) with
    | none => 0x8202
    | some r =>
      if s.reqWrites q && !s.heldLease q.src then 0x8501
      else if s.reqWrites q && r.access == .const then 0x8301
      else if q.opcode ≤ 2 ∧ r.ty = .blob then 0x8205
      else if 3 ≤ q.opcode ∧ r.ty ≠ .blob then 0x8206
      else 0

/-- A request for an object that has passed orders 1 to 9. -/
def objectRequest (s : State) (q : Request) (r : ObjRow) (cmd : State → State) : Answer × State :=
  let k := reqKey q
  match q.opcode with
  | 1 =>
    let x := s.readObject k r
    (match x.1 with
      | some v => .done v
      | none => .aborted 0x8702, x.2)
  | 2 => s.writeObject k r q.body cmd
  | 3 => s.blockReadInit q k r
  | 4 => s.blockReadSegment q
  | 5 => s.blockWriteInit q k r
  | 6 => s.blockWriteSegment q
  | _ => s.blockEnd q k r

/-- A mailbox request that HOLD refuses: it neither reads an object nor targets POWER_REQUEST (R936). -/
def holdRefuses (s : State) (q : Request) : Bool :=
  s.powerState == 4 && q.src == .mailbox && reqKey q != Obj.POWER_REQUEST &&
    !([1, 3, 4].contains q.opcode || (q.opcode == 7 && (s.ownTransfer q false).isSome))

/-- What a new request is answered, and what it does (R836). `cmd` is what an accepted command object does. -/
def judge (s : State) (q : Request) (cmd : State → State) : Answer × State :=
  let h := headerCode q
  if h ≠ 0 then (.aborted h, s)
  else if s.holdRefuses q then (.aborted 0x8303, s)
  else if namesObject q.opcode then
    let c := s.objectCode q
    if c ≠ 0 then (.aborted c, if q.opcode = 7 ∧ c = 0x8501 then s.closeTransfer q.src else s)
    else match objectRow (reqKey q) with
      | some r => s.objectRequest q r cmd
      | none => (.aborted 0x8202, s)
  else match q.opcode with
    | 0x08 => (.done [], s.closeTransfer q.src)
    | 0x10 => s.leaseClaim q
    | 0x11 => s.leaseRenew q
    | 0x12 => s.leaseRelease q
    | 0x13 => s.leaseDelegate q
    | 0x14 => s.leaseRecall q
    | _ => (.done s.identifyBody, s)

/-- A request is taken, judged and answered; a duplicate is answered again or dropped (R829, R830, R833). Its own
counts come after it, so that a read of one does not show itself (R7). -/
def serve (s : State) (q : Request) (cmd : State → State) : State :=
  let s1 := s.dequeue q
  match q.src with
  | .mailbox =>
    let x := s1.judge q cmd
    (x.2.inc64 Obj.REQUESTS 1).finish q x.1
  | .port mac =>
    if s1.nv.otp.bad && !otpTakes q then s1
    else if s1.isDuplicate mac q.seq then s1.resend mac q.seq
    else
      let x := (s1.hearNew mac q.seq).judge q cmd
      (x.2.inc64 Obj.REQUESTS 1).finish q x.1

/-- The commands of a request: carried out where it is the next of its source and belongs to the row. -/
def answer (s : State) (row : Row) (q : Request) (cmd : State → State) : Host.Outcome State Fault Refusal :=
  .next (s.live (s.waits q && rowOfRequest q == row) (s.serve q cmd))

end State

end Sys2Proof.Machine
end

