-- ==== Sys2Proof/Machine/Manage.lean ====
section
/-!
DEFINITION. The commands of the management port and the mailbox: frames, the requests by their rows, notifications, transfers
and PLCA settings (spec/18: R815 to R867), with the writes that have rows of their own (spec/02, 03, 06, 08, 11, 12, 19, 20, 22).
-/

namespace Sys2Proof.Machine

/-! ### Frames -/

/-- The broadcast address. -/
def broadcastMac : Nat := 0xFFFFFFFFFFFF

/-- The frame's length is that of its SDU, or the 64 octets to which a short one is padded (R821, R822). -/
def frameLengthOk (f : Frame) : Bool := f.length == max 64 (22 + f.request.length)

/-- The port may take the frame (R817, R818). -/
def frameWanted (s : State) (f : Frame) : Bool :=
  (f.dest == s.portMac || (f.dest == broadcastMac && f.request.opcode == 0x30)) && !f.tagged && f.etherType == 0x88B5 &&
    decide (64 ≤ f.length) && decide (f.length ≤ 1518)

/-- The request comes from a node of the segment. -/
def fromPort (q : Request) : Bool :=
  match q.src with
  | .port _ => true
  | .mailbox => false

/-- FRAME_RECEIVE (R817, R818, R834): from start-up step 8 on. -/
def execFrameReceive (f : Frame) (s : State) : Host.Outcome State Fault Refusal :=
  let q := { f.request with reserved := f.request.reserved || !frameLengthOk f }
  let t :=
    if !f.fcsOk then s.inc32 Obj.FCS_ERRORS 1
    else if !frameWanted s f then s.inc32 Obj.FRAMES_DISCARDED 1
    else
      let s1 := s.inc64 Obj.FRAMES_RECEIVED 1
      if 16 ≤ s1.shore.queue.length then s1.inc32 Obj.QUEUE_DROPS 1
      else { s1 with shore := { s1.shore with queue := s1.shore.queue ++ [q] } }
  act (fromPort f.request) (s.live (decide (8 ≤ s.nv.step)) t)

/-! ### Requests without an effect of their own -/

/-- READ (R809, R836, R862), and a request whose opcode has no row (R824). -/
def execRead (q : Request) (s : State) : Host.Outcome State Fault Refusal := s.answer .read q id

/-- WRITE (R8 to R16, R809 to R814, R836): a write that has no row of its own. -/
def execWrite (q : Request) (s : State) : Host.Outcome State Fault Refusal := s.answer .write q id

/-- BLOCK_READ_INIT (R838, R839). -/
def execBlockReadInit (q : Request) (s : State) : Host.Outcome State Fault Refusal := s.answer .blockReadInit q id

/-- BLOCK_READ_SEGMENT (R840). -/
def execBlockReadSegment (q : Request) (s : State) : Host.Outcome State Fault Refusal := s.answer .blockReadSegment q id

/-- BLOCK_WRITE_INIT (R838, R841). -/
def execBlockWriteInit (q : Request) (s : State) : Host.Outcome State Fault Refusal := s.answer .blockWriteInit q id

/-- BLOCK_WRITE_SEGMENT (R842). -/
def execBlockWriteSegment (q : Request) (s : State) : Host.Outcome State Fault Refusal := s.answer .blockWriteSegment q id

/-- BLOCK_END (R843, R860). -/
def execBlockEnd (q : Request) (s : State) : Host.Outcome State Fault Refusal := s.answer .blockEnd q id

/-- BLOCK_CANCEL (R845). -/
def execBlockCancel (q : Request) (s : State) : Host.Outcome State Fault Refusal := s.answer .blockCancel q id

/-- LEASE_CLAIM (R825 to R828, Table 18-7). -/
def execLeaseClaim (q : Request) (s : State) : Host.Outcome State Fault Refusal := s.answer .leaseClaim q id

/-- LEASE_RENEW (R827, Table 18-7). -/
def execLeaseRenew (q : Request) (s : State) : Host.Outcome State Fault Refusal := s.answer .leaseRenew q id

/-- LEASE_RELEASE (Table 18-7). -/
def execLeaseRelease (q : Request) (s : State) : Host.Outcome State Fault Refusal := s.answer .leaseRelease q id

/-- LEASE_DELEGATE (Table 18-7). -/
def execLeaseDelegate (q : Request) (s : State) : Host.Outcome State Fault Refusal := s.answer .leaseDelegate q id

/-- LEASE_RECALL (Table 18-7). -/
def execLeaseRecall (q : Request) (s : State) : Host.Outcome State Fault Refusal := s.answer .leaseRecall q id

/-- IDENTIFY (R818, Table 18-5). -/
def execIdentify (q : Request) (s : State) : Host.Outcome State Fault Refusal := s.answer .identify q id

/-! ### Writes with a row of their own -/

/-- GENERATOR_ENABLE (R50, R51, R76, R665, R1037). -/
def execGeneratorEnable (q : Request) (s : State) : Host.Outcome State Fault Refusal := s.answer .generatorEnable q id

/-- CSA_BANKSET (R340, R341, R386). -/
def execCsaBankset (q : Request) (s : State) : Host.Outcome State Fault Refusal := s.answer .csaBankset q id

/-- ENTRY_UNITS (R391). -/
def execEntryUnits (q : Request) (s : State) : Host.Outcome State Fault Refusal := s.answer .entryUnits q id

/-- PRIORITY_MODE (R391). -/
def execPriorityMode (q : Request) (s : State) : Host.Outcome State Fault Refusal := s.answer .priorityMode q id

/-- FUNCTION (R983, R991, R995). -/
def execFunction (q : Request) (s : State) : Host.Outcome State Fault Refusal := s.answer .function q id

/-- RETIRE_COURSE (R146, R952). -/
def execRetireCourse (q : Request) (s : State) : Host.Outcome State Fault Refusal :=
  s.answer .retireCourse q (fun t => t.retirePending (reqValue q % 128))

/-- TABLES_APPLY (R247, R285): an apply is pending until a boundary, or TABLES_APPLY_PERFORM on a free chip. -/
def execTablesApply (q : Request) (s : State) : Host.Outcome State Fault Refusal :=
  s.answer .tablesApply q (fun t => { t with tables := { t.tables with pending := true, asked := t.askedAt t.tables.pending t.tables.asked } })

/-- RETIRE_BLOCK (R477). -/
def execRetireBlock (q : Request) (s : State) : Host.Outcome State Fault Refusal :=
  s.answer .retireBlock q (fun t => t.retireBlock (reqValue q % 2 ^ 27))

/-- REGIONS_APPLY (R447). -/
def execRegionsApply (q : Request) (s : State) : Host.Outcome State Fault Refusal :=
  s.answer .regionsApply q (fun t => { t with hbm := { t.hbm with regionsPending := true, regionsAsked := t.askedAt t.hbm.regionsPending t.hbm.regionsAsked } })

/-- EMB_APPLY (R489). -/
def execEmbApply (q : Request) (s : State) : Host.Outcome State Fault Refusal :=
  s.answer .embApply q (fun t => { t with egs := { t.egs with pending := true, asked := t.askedAt t.egs.pending t.egs.asked } })

/-- POWER_REQUEST, TARGET ACTIVE (R914, R938, Table 20-2). -/
def execPowerActive (q : Request) (s : State) : Host.Outcome State Fault Refusal :=
  s.answer .powerActive q (fun t => t.powerActive)

/-- POWER_REQUEST, TARGET LULL (R914, R915). -/
def execPowerLull (q : Request) (s : State) : Host.Outcome State Fault Refusal :=
  s.answer .powerLull q (fun t => t.powerLull)

/-- POWER_REQUEST, TARGET HOLD (R934). -/
def execPowerHold (q : Request) (s : State) : Host.Outcome State Fault Refusal :=
  s.answer .powerHold q (fun t => t.powerHold (bit (reqValue q) 6))

/-- SELFTEST_REQUEST, KIND ROUTER: refused with 8303h (R939). -/
def execRouter (q : Request) (s : State) : Host.Outcome State Fault Refusal := s.answer .router q id

/-- SELFTEST_REQUEST, KIND BRICK_LOGIC (R932, R939, R940). -/
def execBrickLogic (q : Request) (s : State) : Host.Outcome State Fault Refusal :=
  s.answer .brickLogic q (fun t => t.testRequest 2 0)

/-- SELFTEST_REQUEST, KIND BRICK_SRAM (R932, R939, R940). -/
def execBrickSram (q : Request) (s : State) : Host.Outcome State Fault Refusal :=
  s.answer .brickSram q (fun t => t.testRequest 3 0)

/-- SELFTEST_REQUEST, KIND SELECTION (R932, R939, R940). -/
def execSelection (q : Request) (s : State) : Host.Outcome State Fault Refusal :=
  s.answer .selection q (fun t => t.testRequest 4 0)

/-- SELFTEST_REQUEST, KIND CSA_BANK (R932, R939, R940, R948). -/
def execCsaBank (q : Request) (s : State) : Host.Outcome State Fault Refusal :=
  s.answer .csaBank q (fun t => t.testRequest 5 (reqValue q % 64))

/-- SELFTEST_REQUEST, KIND SENSORS (R939, R940). -/
def execSensors (q : Request) (s : State) : Host.Outcome State Fault Refusal :=
  s.answer .sensors q (fun t => t.testRequest 6 0)

/-- START_RELEASE (R885, R905): the hold ends, READY is set and START_US is complete. -/
def execStartRelease (q : Request) (s : State) : Host.Outcome State Fault Refusal :=
  s.answer .startRelease q (fun t =>
    if t.nv.hold then
      { t.setNum Obj.START_US (sat32 (t.nv.startUs + (t.clock - t.nv.startClock) / 50)) with
        nv := { t.nv with hold := false, ready := !t.nv.warm, step := 9 } }
    else t)

/-- WARM_RESET (R897, R898, R903): GO reads 1 until the reset completes. -/
def execWarmReset (q : Request) (s : State) : Host.Outcome State Fault Refusal :=
  s.answer .warmReset q (fun t => (t.setNum Obj.WARM_RESET 0x8000).warmStart)

/-! ### Notifications -/

namespace State

/-- The body of a notification (Table 18-9). -/
def noteBody (n : Note) : List Byte := beBytes 2 n.event ++ leBytes 2 0 ++ beBytes 4 n.logSeq ++ beBytes 8 n.tide ++ beBytes 8 n.detail

def setNotes (s : State) (l : List Note) : State := { s with shore := { s.shore with notes := l } }

/-- Notifications sent and not acknowledged. -/
def unacked (s : State) : Nat := (s.shore.notes.filter (fun n => n.seq.isSome)).length

/-- One notification sent, for the first time or again (R848, R849). -/
def sendNote (s : State) (n : Note) (seq : Nat) : State :=
  let m := { n with seq := some seq, tries := n.tries + 1, sentAt := s.clock }
  (s.setNotes (s.shore.notes.map (fun x => if x = n then m else x))).sendFrame s.notifyMac seq (sduOf 0x20 0 0 0 (noteBody n))

/-- A notification held is dropped. -/
def dropNote (s : State) (n : Note) : State := s.setNotes (s.shore.notes.erase n)

/-- The first notification not yet sent. -/
def nextNote (s : State) : Option Note := s.shore.notes.find? (fun n => n.seq.isNone)

end State

/-- NOTIFY_SEND (R847, R848, R861): the first notification not yet sent; NOTIFY_MAC 0 sends none and drops it. -/
def execNotifySend (s : State) : Host.Outcome State Fault Refusal :=
  match s.nextNote with
  | none => .next s
  | some n =>
    let s1 := { s with shore := { s.shore with noteSeq := (s.shore.noteSeq + 1) % 65536 } }
    .next (s.live (decide (8 ≤ s.nv.step) && decide (s.unacked < 4))
      (if s.notifyMac = 0 then s.dropNote n else (s1.sendNote n s.shore.noteSeq).inc64 Obj.NOTIFY_SENT 1))

/-- NOTIFY_RETRY (R849): NOTIFY_RETRY_MS after its last send, the notification is sent again or dropped. -/
def execNotifyRetry (seq : Nat) (s : State) : Host.Outcome State Fault Refusal :=
  match s.shore.notes.find? (fun n => n.seq == some seq) with
  | none => .next s
  | some n =>
    .next (s.live (decide (n.sentAt + s.num Obj.NOTIFY_RETRY_MS * 50000 ≤ s.clock))
      (if s.num Obj.NOTIFY_TRIES ≤ n.tries then (s.dropNote n).inc32 Obj.NOTIFY_LOST 1
       else if s.notifyMac = 0 then s.dropNote n
       else s.sendNote n seq))

/-- NOTIFY_ACK (R851): it is not a request and is not answered. One from the mailbox is no permitted opcode (R853). -/
def execNotifyAck (q : Request) (s : State) : Host.Outcome State Fault Refusal :=
  if fromPort q then
    let s1 := s.dequeue q
    let t := match s1.shore.notes.find? (fun n => n.seq == some q.seq) with
      | some n => if q.version = 1 then s1.dropNote n else s1
      | none => s1
    .next (s.live (s.waits q && rowOfRequest q == .notifyAck) t)
  else s.answer .notifyAck q id

/-! ### Timers -/

/-- TRANSFER_ABANDON (R844): 50,000,000 lc without a request. -/
def execTransferAbandon (src : Source) (s : State) : Host.Outcome State Fault Refusal :=
  match s.transferOf src with
  | none => .next s
  | some t => .next (s.live (decide (t.at_ + 100000000 ≤ s.clock)) ((s.closeTransfer src).inc32 Obj.TRANSFERS_ABANDONED 1))

/-- PLCA_SETTINGS_APPLY (R867): the settings written take effect, their response having left. -/
def execPlcaSettingsApply (s : State) : Host.Outcome State Fault Refusal :=
  .next (s.live s.shore.plcaDue { s with shore := { s.shore with
    plca := (List.range 6).map (fun n => s.num (Obj.PLCA_ENABLE + n))
    plcaDue := false } })

end Sys2Proof.Machine
end

