-- ==== Sys2Proof/Machine/Crypto.lean ====
section
/-!
DEFINITION. SHA-384 and the verification of an ECDSA P-384 signature, which R878 and Table 19-5 name and do not spell out: both are
taken from FIPS 180-4 and FIPS 186-4 (PRESUMED, log entry 44).
-/

namespace Sys2Proof.Machine

/-! ### SHA-384 -/

/-- The largest `x` below 2^n whose `k`-th power is at most `v`. -/
def rootBelow (k v : Nat) : Nat → Nat → Nat
  | 0, x => x
  | n + 1, x => rootBelow k v n (if (x + 2 ^ n) ^ k ≤ v then x + 2 ^ n else x)

/-- The first `n` prime numbers. -/
def firstPrimes (n : Nat) : List Nat :=
  ((List.range 410).filter (fun x => decide (2 ≤ x) && (List.range x).all (fun d => decide (d < 2) || x % d != 0))).take n

/-- The 80 round constants: the first 64 bits of the fractional parts of the cube roots of the first 80 primes. -/
def shaRound : List Nat := (firstPrimes 80).map (fun p => rootBelow 3 (p * 2 ^ 192) 68 0 % 2 ^ 64)

/-- The initial value: the fractional parts of the square roots of the ninth to sixteenth primes. -/
def shaStart : List Nat := ((firstPrimes 16).drop 8).map (fun p => rootBelow 2 (p * 2 ^ 128) 68 0 % 2 ^ 64)

/-- Rotation to the right of a 64-bit word. -/
def rotr (n x : Nat) : Nat := x / 2 ^ n + x % 2 ^ n * 2 ^ (64 - n)

def shaSum (a b c x : Nat) : Nat := xorN (xorN (rotr a x) (rotr b x)) (rotr c x)
def shaMix (a b c x : Nat) : Nat := xorN (xorN (rotr a x) (rotr b x)) (x / 2 ^ c)

/-- The message schedule: the newest word stands first. -/
def shaSchedule : Nat → List Nat → List Nat
  | 0, w => w
  | n + 1, w => shaSchedule n
      ((shaMix 19 61 6 (w.getD 1 0) + w.getD 6 0 + shaMix 1 8 7 (w.getD 14 0) + w.getD 15 0) % 2 ^ 64 :: w)

/-- One round on the eight working words, with the round constant and the schedule word. -/
def shaStep (v : List Nat) (p : Nat × Nat) : List Nat :=
  match v with
  | [a, b, c, d, e, f, g, h] =>
    let t := h + shaSum 14 18 41 e + xorN (Nat.land e f) (Nat.land (2 ^ 64 - 1 - e) g) + p.1 + p.2
    let u := shaSum 28 34 39 a + xorN (xorN (Nat.land a b) (Nat.land a c)) (Nat.land b c)
    [(t + u) % 2 ^ 64, a, b, c, (d + t) % 2 ^ 64, e, f, g]
  | _ => v

/-- One block of 128 octets. -/
def shaBlock (v : List Nat) (l : List Byte) : List Nat :=
  let w := (shaSchedule 64 ((chunked 16 8 l).map ofBe).reverse).reverse
  let x := (shaRound.zip w).foldl shaStep v
  (v.zip x).map (fun p => (p.1 + p.2) % 2 ^ 64)

/-- SHA-384 of octets: 48 octets. -/
def sha384 (l : List Byte) : List Byte :=
  let n := l.length
  let m := l ++ (0x80 : Byte) :: List.replicate ((239 - n % 128) % 128) 0 ++ beBytes 16 (8 * n)
  (((chunked m.length 128 m).foldl shaBlock shaStart).take 6).flatMap (beBytes 8)

/-! ### ECDSA over P-384 -/

/-- The field prime, the order of the base point, the coefficient b, and the base point. -/
def p384P : Nat := 2 ^ 384 - 2 ^ 128 - 2 ^ 96 + 2 ^ 32 - 1
def p384N : Nat := 0xFFFFFFFFFFFFFFFFFFFFFFFFFFFFFFFFFFFFFFFFFFFFFFFFC7634D81F4372DDF581A0DB248B0A77AECEC196ACCC52973
def p384B : Nat := 0xB3312FA7E23EE7E4988E056BE3F82D19181D9C6EFE8141120314088F5013875AC656398D8A2ED19D2A85C8EDD3EC2AEF
def p384G : Nat × Nat :=
  (0xAA87CA22BE8B05378EB1C71EF320AD746E1D3B628BA79B9859F741E082542A385502F25DBF55296C3A545E3872760AB7,
   0x3617DE4A96262C6F5D9E98BF9292DC29F8F41DBD289A147CE9DA3113B5F0B8C00A60B1CE1D7E819D7A431D7C90EA0E5F)

/-- `b` to the power of the low `n` bits of `e`, modulo `m`. -/
def powMod (m : Nat) : Nat → Nat → Nat → Nat
  | 0, _, _ => 1
  | n + 1, b, e => (if e % 2 = 1 then b else 1) * powMod m n (b * b % m) (e / 2) % m

/-- The inverse modulo a prime. -/
def invMod (m x : Nat) : Nat := powMod m 384 (x % m) (m - 2)

/-- The sum of two points of the curve; none is the point at infinity. -/
def addPoint : Option (Nat × Nat) → Option (Nat × Nat) → Option (Nat × Nat)
  | none, b => b
  | a, none => a
  | some (x1, y1), some (x2, y2) =>
    let line : Option Nat :=
      if x1 ≠ x2 then some ((y2 + p384P - y1) * invMod p384P (x2 + p384P - x1) % p384P)
      else if y1 ≠ y2 ∨ y1 = 0 then none
      else some ((3 * x1 * x1 + p384P - 3) * invMod p384P (2 * y1) % p384P)
    line.map (fun k =>
      let x := (k * k + 2 * p384P - x1 - x2) % p384P
      (x, (k * (x1 + p384P - x) + p384P - y1) % p384P))

/-- The low `n` bits of `k` times a point. -/
def mulPoint : Nat → Nat → Option (Nat × Nat) → Option (Nat × Nat)
  | 0, _, _ => none
  | n + 1, k, p =>
    let r := mulPoint n (k / 2) (addPoint p p)
    if k % 2 = 1 then addPoint p r else r

/-- A point other than infinity lies on the curve. -/
def onCurve (q : Nat × Nat) : Bool :=
  decide (q.1 < p384P) && decide (q.2 < p384P) &&
    q.2 * q.2 % p384P == (q.1 * q.1 * q.1 + (p384P - 3) * q.1 + p384B) % p384P

/-- A signature of 96 octets over a SHA-384 hash verifies under a public key of 96 octets (R878). -/
def ecdsaVerify (key hash sig : List Byte) : Bool :=
  let q := (ofBe (key.take 48), ofBe (key.drop 48))
  let r := ofBe (sig.take 48)
  let t := ofBe (sig.drop 48)
  let w := invMod p384N t
  decide (1 ≤ r ∧ r < p384N ∧ 1 ≤ t ∧ t < p384N) && onCurve q &&
    (match addPoint (mulPoint 384 (ofBe hash * w % p384N) (some p384G)) (mulPoint 384 (r * w % p384N) (some q)) with
     | some x => x.1 % p384N == r
     | none => false)

end Sys2Proof.Machine
end

