-- ==== Sys2Proof/Machine/Nv.lean ====
section
/-!
DEFINITION. The user image: its header, records and marker, the checks of a copy, the choice at start-up, the commit and the
erasure of the images in flash (spec/19: R868 to R882, R889 to R896, R902, R907 to R911).
-/

namespace Sys2Proof.Machine

/-- What a flash octet that is not listed reads as: erased. -/
def erasedByte (_ : Nat) : Byte := 0xFF

/-- `n` zero octets or more, none of another value. -/
def allZero (l : List Byte) : Bool := l.all (fun b => b == 0)

/-! ### The layout of an image -/

/-- An object record (Table 19-3): the value and zeros up to a multiple of 8. -/
def imageRecord (k ty : Nat) (v : List Byte) : List Byte :=
  leBytes 2 (keyIndex k) ++ leBytes 1 (keySub k) ++ leBytes 1 ty ++ leBytes 2 v.length ++ leBytes 2 0 ++ v ++
    leBytes ((8 - v.length % 8) % 8) 0

/-- A header over an unsigned body (Table 19-2). -/
def imageHeader (seq : Nat) (body : List Byte) : List Byte :=
  let h := leBytes 4 0x564E5753 ++ leBytes 2 1 ++ leBytes 2 64 ++ leBytes 4 seq ++ leBytes 4 body.length ++
    leBytes 4 (crc32c body) ++ leBytes 1 0 ++ leBytes 1 0 ++ leBytes 2 1 ++ leBytes 36 0
  h ++ leBytes 4 (crc32c h)

/-- The commit marker of an image (Table 19-4). -/
def imageMarker (header : List Byte) : List Byte :=
  let m := leBytes 4 0x4D435753 ++ leBytes 4 (le header 8 4) ++ leBytes 4 (le header 60 4) ++ leBytes 4 (le header 16 4) ++
    leBytes 44 0
  m ++ leBytes 4 (crc32c m)

/-- Check 1 of Table 19-5. -/
def markerOk (m : List Byte) : Bool := le m 0 4 == 0x4D435753 && crc32c (m.take 60) == le m 60 4

/-- Check 2 of Table 19-5, but for the marker (R17, R876). -/
def imageHeaderOk (h : List Byte) : Bool :=
  le h 0 4 == 0x564E5753 && le h 4 2 == 1 && le h 6 2 == 64 && decide (1 ≤ le h 8 4) && le h 12 4 % 8 == 0 &&
    decide (le h 12 4 ≤ 1044224) && decide (le h 20 1 ≤ 1) && le h 21 1 == 0 && le h 22 2 == 1 &&
    allZero ((h.drop 24).take 36) && crc32c (h.take 60) == le h 60 4

/-- The header agrees with its marker in SEQUENCE, HEADER_CRC and BODY_CRC. -/
def markerAgrees (m h : List Byte) : Bool := le m 4 4 == le h 8 4 && le m 8 4 == le h 60 4 && le m 12 4 == le h 16 4

/-- The records of a body: object, type code and value; none where they break Table 19-3. -/
def parseRecords : Nat → List Byte → Option (List (Nat × Nat × List Byte))
  | _, [] => some []
  | 0, _ => none
  | f + 1, l =>
    let n := le l 4 2
    let m := 8 + (n + 7) / 8 * 8
    if l.length < m ∨ le l 6 2 ≠ 0 ∨ !allZero ((l.take m).drop (8 + n)) then none
    else (parseRecords f (l.drop m)).map (fun r => (le l 0 2 * 256 + le l 2 1, le l 3 1, (l.drop 8).take n) :: r)

/-- The records stand in strictly ascending order of index and subindex (R877). -/
def ascending : List Nat → Bool
  | a :: b :: r => decide (a < b) && ascending (b :: r)
  | _ => true

/-- A record names a P object by its type. -/
def recordNames (x : Nat × Nat × List Byte) : Bool :=
  match rowOf x.1 with
  | some r => r.persist && typeCode r.ty == x.2.1
  | none => false

namespace State

/-- The state with every object at its factory default (R813, R869). -/
def atFactory (s : State) : State :=
  let t := { s with obj := [], oct := [], badObj := [] }
  t.setNum Obj.PLCA_NODE_ID (t.factoryNum Obj.PLCA_NODE_ID)

/-- One record's value laid over the defaults; a FORCED field takes its requested bit. -/
def recordApplied (s : State) (x : Nat × Nat × List Byte) : State :=
  match rowOf x.1 with
  | none => s
  | some r =>
    if octetType r.ty then
      let t := s.setOcts x.1 0 (s.normIn x.1 x.2.2)
      if x.1 = Obj.RETIRED_BLOCKS then t.setNum x.1 x.2.2.length else t
    else if r.kind = .forced then s.setNum x.1 (forcedField (bit (ofBe x.2.2) 0) false)
    else s.setNum x.1 (normNum x.1 (ofBe x.2.2))

/-- Every value passes orders 11 to 13 of Table 18-9a beside the others, and no UART function has two pins (R983). -/
def recordValuesOk (s : State) (l : List (Nat × Nat × List Byte)) : Bool :=
  l.all (fun x =>
    match rowOf x.1 with
    | some r => s.valueCode x.1 r x.2.2 == 0
    | none => false) &&
  decide (((List.range 16).filter (fun n => s.num (Obj.FUNCTION n) == 2)).length ≤ 1) &&
  decide (((List.range 16).filter (fun n => s.num (Obj.FUNCTION n) == 3)).length ≤ 1)

/-- Check 4 of Table 19-5: the records of a body laid over the factory defaults. -/
def bodyOk (s : State) (body : List Byte) : Bool :=
  match parseRecords body.length body with
  | none => false
  | some l =>
    ascending (l.map Prod.fst) && l.all recordNames && (l.foldl recordApplied s.atFactory).recordValuesOk l

/-- Checks 5 to 7 of Table 19-5, made where secure boot is effective: 0, or the reason. -/
def signatureCode (s : State) (rd : Nat → Nat → List Byte) : Nat :=
  let n := 64 + le (rd 0 64) 12 4
  let key := rd n 96
  if le (rd 0 64) 20 1 ≠ 1 then 6
  else if allZero s.nv.otp.keyHash || sha384 key != s.nv.otp.keyHash then 7
  else if ecdsaVerify key (sha384 (rd 0 n)) (rd (n + 96) 96) then 0
  else 5

/-- Checks 2 to 7 of Table 19-5 on an image read by `rd`, with `marker` beside it where it has one: 0, or the reason. -/
def imageCode (s : State) (rd : Nat → Nat → List Byte) (marker : Option (List Byte)) : Nat :=
  let h := rd 0 64
  let agrees := match marker with
    | some m => markerAgrees m h
    | none => true
  if !imageHeaderOk h || !agrees then 2
  else
    let body := rd 64 (le h 12 4)
    if crc32c body ≠ le h 16 4 then 3
    else if !s.bodyOk body then 4
    else if s.num Obj.SECURE_BOOT = 1 then s.signatureCode rd
    else 0

/-! ### Choosing a copy -/

/-- Octets of the flash, and of a slot: 0 A, 1 B. -/
def flashBytes (s : State) (a n : Nat) : List Byte := Store.getMany erasedByte s.nv.flash a n
def slotBytes (s : State) (slot a n : Nat) : List Byte := s.flashBytes (slot * 0x100000 + a) n
def slotMarker (s : State) (slot : Nat) : List Byte := s.slotBytes slot 0xFF000 64

/-- The checks of Table 19-5 on a slot: 0 where it holds a valid copy, else the reason (R880). -/
def slotCode (s : State) (slot : Nat) : Nat :=
  let m := s.slotMarker slot
  if markerOk m then s.imageCode (s.slotBytes slot) (some m) else 1

/-- The slot whose header has the newer SEQUENCE (R881). -/
def newerSlot (s : State) : Nat :=
  let d := (le (s.slotBytes 0 8 4) 0 4 + 2 ^ 32 - le (s.slotBytes 1 8 4) 0 4) % 2 ^ 32
  if d ≤ 2 ^ 31 then 0 else 1

/-- The reason of a slot recorded. -/
def setReject (s : State) (slot code : Nat) : State := s.setNum (if slot = 0 then Obj.REJECT_A else Obj.REJECT_B) code

/-- A copy is chosen: its values are laid over the factory defaults (R869, R910). -/
def copyChosen (s : State) (slot : Nat) : State :=
  let h := s.slotBytes slot 0 64
  let t := ((parseRecords (le h 12 4) (s.slotBytes slot 64 (le h 12 4))).getD []).foldl recordApplied s
  (((t.setNum Obj.ACTIVE_SEQUENCE (le h 8 4)).setNum Obj.ACTIVE_SLOT slot).setNum Obj.BOOT_IMAGE (slot + 1)).setNum Obj.COPY_VALID
    (2 ^ slot)

/-- The image chosen at start-up under STRAP_BOOT 00b or 10b (R880 to R882, R907, R908). -/
def chooseCopy (s : State) : State :=
  if !s.nv.flashOk then s.setSticky Obj.BOOT_STICKY 3
  else
    let a := s.newerSlot
    let x := s.slotCode a
    if x = 0 then s.copyChosen a
    else
      let y := s.slotCode (1 - a)
      let s1 := s.setReject a x
      if y = 0 then (if 2 ≤ x then s1.setSticky Obj.BOOT_STICKY 0 else s1).copyChosen (1 - a)
      else (s1.setReject (1 - a) y).setSticky Obj.BOOT_STICKY 1

/-! ### The commit -/

/-- The body of an image of the live values: one record for each P object that differs from its factory default (R890). -/
def liveBody (s : State) : List Byte :=
  s.changedKeys.flatMap (fun k =>
    match rowOf k with
    | some r => imageRecord k (typeCode r.ty) (s.valueOf k r)
    | none => [])

/-- The staged octets, and whether they make an image that may be committed with a SEQUENCE (R891). -/
def staged (s : State) (a n : Nat) : List Byte := Store.getMany zeroByte s.nv.stage a n
def stagedOk (s : State) (seq : Nat) : Bool :=
  let h := s.staged 0 64
  s.imageCode s.staged none == 0 && le h 8 4 == seq && s.num Obj.STAGE_LENGTH == 64 + le h 12 4 + 192 * (le h 20 1 % 2)

def setWork (s : State) (nvState : Nat) (w : Option FlashJob) : State :=
  { s.setNum Obj.NV_STATE nvState with nv := { s.nv with work := w } }

/-- A commit begins: the slot that is not ACTIVE_SLOT, or slot A (R892). -/
def beginCommit (s : State) (image : List Byte) (seq : Nat) : State :=
  let j : FlashJob := { slot := if s.num Obj.ACTIVE_SLOT = 0 then 1 else 0, image := image, seq := seq, step := .eraseMarker }
  s.setWork 1 (some j)

/-- NV_COMMIT accepted with a SEQUENCE: the live values, or the staged image where it passes (R890, R891). -/
def nvCommit (s : State) (seq : Nat) : State :=
  if s.num Obj.STAGE_LENGTH = 0 then s.beginCommit (imageHeader seq s.liveBody ++ s.liveBody) seq
  else if s.stagedOk seq then s.beginCommit (s.staged 0 (s.num Obj.STAGE_LENGTH)) seq
  else s.setNum Obj.LAST_COMMIT_RESULT 5

/-- ERASE_IMAGES accepted: the marker sectors of both slots are to be erased (R896). -/
def beginErase (s : State) : State := s.setWork 1 (some { slot := 0, image := [], seq := 0, step := .eraseImages 0 })

def flashErase (s : State) (a n : Nat) : State := { s with nv := { s.nv with flash := Store.clear s.nv.flash a (a + n) } }
def flashProgram (s : State) (a : Nat) (l : List Byte) : State :=
  { s with nv := { s.nv with flash := Store.setMany erasedByte s.nv.flash a l } }

/-- Octets of flash that an operation which failed leaves open (log entry 8). -/
def flashOpen (s : State) (a n : Nat) : State :=
  s.flashProgram a ((List.range n).map (fun i => BitVec.ofNat 8 (Config.openResult 22 (s.clock * 2 ^ 21 + a + i))))

/-- The commit fails (R894). -/
def commitFails (s : State) (result : Nat) : State :=
  (((s.setWork 0 none).setNum Obj.LAST_COMMIT_RESULT result).inc32 Obj.COMMIT_FAILURES 1).setSticky Obj.BOOT_STICKY 4

/-- The commit is done (R893). -/
def commitDone (s : State) (j : FlashJob) : State :=
  ((((s.setWork 0 none).setNum Obj.ACTIVE_SEQUENCE j.seq).setNum Obj.ACTIVE_SLOT j.slot).setNum Obj.LAST_COMMIT_RESULT 1).inc32
    Obj.COMMITS 1

/-- First octet and length in flash of what an operation of a job works on. -/
def flashRange (j : FlashJob) : Nat × Nat :=
  let a := j.slot * 0x100000
  match j.step with
  | .eraseMarker => (a + 0xFF000, 4096)
  | .eraseBlock n => (a + n * 65536, 65536)
  | .page n => (a + n * 256, min 256 (j.image.length - n * 256))
  | .verify => (a, 0)
  | .mark => (a + 0xFF000, 64)
  | .eraseImages k => (k * 0x100000 + 0xFF000, 4096)

/-- A flash operation has ended: the next one of R892 begins, or the commit or the erasure is done (R892 to R894, R896).
`same` says whether what was read back is what was to be there. -/
def flashDone (s : State) (j : FlashJob) (same : Bool) : State :=
  let r := flashRange j
  match j.step with
  | .eraseMarker => (s.flashErase r.1 r.2).setWork 1 (some { j with step := .eraseBlock 0 })
  | .eraseBlock n =>
    let s1 := s.flashErase r.1 r.2
    if (n + 1) * 65536 < j.image.length then s1.setWork 1 (some { j with step := .eraseBlock (n + 1) })
    else s1.setWork 2 (some { j with step := .page 0 })
  | .page n =>
    let s1 := s.flashProgram r.1 ((j.image.drop (n * 256)).take 256)
    if (n + 1) * 256 < j.image.length then s1.setWork 2 (some { j with step := .page (n + 1) })
    else s1.setWork 3 (some { j with step := .verify })
  | .verify => if same then s.setWork 4 (some { j with step := .mark }) else s.commitFails 4
  | .mark => if same then (s.flashProgram r.1 (imageMarker j.image)).commitDone j else (s.flashOpen r.1 r.2).commitFails 4
  | .eraseImages 0 => (s.flashErase r.1 r.2).setWork 1 (some { j with step := .eraseImages 1 })
  | .eraseImages _ => ((s.flashErase r.1 r.2).setWork 0 none).setNum Obj.ACTIVE_SLOT 255

/-- A flash operation has exceeded twice its maximum time (R894); the read-back is none. -/
def flashTimeout (s : State) (j : FlashJob) : State :=
  let r := flashRange j
  match j.step with
  | .verify => s
  | .page _ => (s.flashOpen r.1 r.2).commitFails 3
  | .mark => (s.flashOpen r.1 r.2).commitFails 3
  | .eraseMarker => (s.flashOpen r.1 r.2).commitFails 2
  | .eraseBlock _ => (s.flashOpen r.1 r.2).commitFails 2
  | .eraseImages _ => (s.flashOpen r.1 r.2).setWork 0 none

/-- A job that a loss of power or POR_N cuts short: a commit leaves the slot without a marker, an erasure of images leaves the
sector it was at open (spec/19: Choosing a copy; Table 19-8). -/
def flashCut (s : State) : State :=
  match s.nv.work with
  | none => s
  | some j =>
    match j.step with
    | .eraseImages _ => s.flashOpen (flashRange j).1 (flashRange j).2
    | _ => s.flashErase (j.slot * 0x100000 + 0xFF000) 4096

end State

/-- NV_COMMIT (R889 to R891, R902). -/
def execNvCommit (q : Request) (s : State) : Host.Outcome State Fault Refusal :=
  s.answer .nvCommit q (fun t => t.nvCommit (reqValue q % 2 ^ 32))

/-- RESTORE_FACTORY, ERASE_IMAGES alone (R896). -/
def execEraseImages (q : Request) (s : State) : Host.Outcome State Fault Refusal :=
  s.answer .eraseImages q (fun t => t.beginErase)

/-- RESTORE_FACTORY with LIVE, and with ERASE_IMAGES or without (R896). -/
def execRestoreFactoryLive (q : Request) (s : State) : Host.Outcome State Fault Refusal :=
  s.answer .restoreFactoryLive q (fun t => if bit (reqValue q) 0 then t.restoreLive.beginErase else t.restoreLive)

/-- FLASH_OPERATION_DONE (R892 to R894, R896, R911). -/
def execFlashOperationDone (same : Bool) (s : State) : Host.Outcome State Fault Refusal :=
  match s.nv.work with
  | none => .next s
  | some j => .next (s.live true (s.flashDone j same))

/-- FLASH_OPERATION_TIMEOUT (R894). -/
def execFlashOperationTimeout (s : State) : Host.Outcome State Fault Refusal :=
  match s.nv.work with
  | none => .next s
  | some j => .next (s.live true (s.flashTimeout j))

end Sys2Proof.Machine
end

