-- ==== Sys2Proof/Machine/Flags.lean ====
section
/-!
DEFINITION. The levels of the status pins, computed from the state (spec/22: R997, R998, Table 22-4; spec/02: R69; spec/20: R931;
spec/19: R909).
-/

namespace Sys2Proof.Machine

namespace State

/-- ALERT_N is asserted: one of the causes of R997 holds. -/
def alertAsserted (s : State) : Bool :=
  s.pins.por || s.pins.pllLost || s.faults.device || s.power.hot || s.nv.otp.bad

/-- THERM_TRIP_N is asserted (R949, R998). -/
def tripAsserted (s : State) : Bool := s.num Obj.TRIP_LATCHED == 1

/-- The level of PPS_OUT (R69). -/
def ppsOut (s : State) : Bool := !s.held && decide (s.now < s.pps.outUntil)

end State

end Sys2Proof.Machine
end

