-- ==== Sys2Proof/Machine/Reset.lean ====
section
/-!
DEFINITION. Resets: POR_N, the rails, JTAG, the cold start by Table 19-6, and the end of a warm reset by Table 19-7, with what each
does to every block (spec/19: R868 to R872, R883 to R910, Table 19-8; spec/02: R85 to R89; spec/03: R141 to R144; spec/08: R388 to
R390; spec/09: R421 to R425; spec/11: R481 to R483; spec/13: R597 to R599; spec/14: R651, R652; spec/20: R954, R955; spec/22: R998 to
R1002, R1018, R1019).
-/

namespace Sys2Proof.Machine

/-- The JTAG instructions that hold every block in reset: EXTEST, EXTEST_PULSE, EXTEST_TRAIN, CLAMP and HIGHZ (R1002). -/
def jtagHolds (code : Nat) : Bool := decide (3 ≤ code) && decide (code ≤ 7)

/-- A reserved instruction acts as BYPASS (Table 22-6). -/
def jtagCode (code : Nat) : Nat := if 1 ≤ code ∧ code ≤ 7 then code else 0xFF

namespace State

/-! ### Every block in reset -/

/-- What stays while every block is held in reset: OTP, flash, the levels that the board drives, and the queue of commands. -/
def bare (s : State) : State :=
  { nv := {
      otp := s.nv.otp, flash := s.flashCut.nv.flash, flashId := s.nv.flashId, flashBytes := s.nv.flashBytes
      flashOk := s.nv.flashOk, step := 0, ready := false }
    host := { perst := s.host.perst }
    pins := {
      shore := s.pins.shore.filterMap (fun (p : Nat × Pin) => if p.2.pad then some (p.1, { pad := true }) else none)
      off := s.pins.off, por := s.pins.por, pllLost := s.pins.pllLost, jtagHeld := s.pins.jtagHeld, jtag := s.pins.jtag
      scan := s.pins.scan, acCells := s.pins.acCells }
    out := s.out
    pending := s.pending }

def setPins (s : State) (p : Pins) : State := { s with pins := p }

/-- The thermal latch keeps its state (R949, R998). -/
def withTrip (s : State) (v : Nat) : State := s.setNum Obj.TRIP_LATCHED v

/-! ### The test access port -/

/-- The device identification register (R1000); Viantot's manufacturer code is not given and is left open. -/
def idcode (s : State) : Nat := s.nv.otp.revision % 16 * 2 ^ 28 + 0x4096 * 2 ^ 12 + Config.openResult 23 0 % 2048 * 2 + 1

/-- The levels that the boundary-scan cells capture, pin by pin in the order of Table 22-2 (R1001): the SHORE pins, SPI (6) and the test
access port (5), the straps, POR_N, PERST_N, ALERT_N, THERM_TRIP_N, PPS_IN and PPS_OUT. What drives SPI, the test port and PPS_IN at that
instant is open. -/
def scanLevels (s : State) : List Bool :=
  let free := fun (i : Nat) => Config.openResult 24 (s.clock * 64 + i) % 2 == 1
  (List.range 16).map s.padLevel ++ (List.range 11).map free ++ (List.range 6).map (fun i => bit s.nv.addr i) ++
    (List.range 2).map (fun i => bit s.nv.boot i) ++ [s.nv.secure, !s.pins.por, !s.host.perst, !s.alertAsserted,
      !s.tripAsserted, free 11, s.ppsOut]

/-- What an instruction captures as it becomes current: SAMPLE/PRELOAD the pins, the two of IEEE 1149.6 the lanes, whose levels are open
(R1001, Table 22-6). -/
def captured (s : State) (code : Nat) : Pins :=
  if code = 2 then { s.pins with scan := s.scanLevels }
  else if code = 4 ∨ code = 5 then
    { s.pins with acCells := (List.range 96).map (fun i => Config.openResult 25 (s.clock * 128 + i) % 2 == 1) }
  else s.pins

/-! ### The cold start -/

/-- Steps 1 to 3 (R86, R869 to R872, R910): straps, the tide, factory defaults. -/
def coldDefaults (s : State) (c : ColdStart) : State :=
  let s1 := { s with
    nv := { s.nv with
      otp := { s.nv.otp with bad := !c.otpOk }
      addr := c.addr, boot := c.boot, secure := c.secure, step := 9, startUs := c.micros, startClock := c.ticks }
    tide := { now := c.ticks % 2 ^ 64, clock := c.ticks } }
  let s2 := ((s1.atFactory.setNum Obj.PLL_STATE 1).setNum Obj.MASTER_ADDR c.addr).setNum Obj.UNREACHABLE_MASK
    (2 ^ 64 - 1 - 2 ^ c.addr)
  let s3 := (s2.setNum Obj.SECURE_BOOT (b2n (c.secure || s.nv.otp.secureForce))).setOcts Obj.FLASH_ID 0 (beBytes 3 s.nv.flashId)
  let s4 := (s3.setNum Obj.FLASH_BYTES s.nv.flashBytes).setNum Obj.NV_STATE (if s.nv.flashOk then 0 else 5)
  if c.boot = 3 then s4.setSticky Obj.BOOT_STICKY 2 else s4

/-- Step 4: a copy is chosen, unless STRAP_BOOT asks for the factory defaults (R871, R881). -/
def coldImage (s : State) : State := if s.nv.boot % 2 = 1 then s else s.chooseCopy

/-- Step 5 and the region tables (R481): channels that PC_DISABLED_SET names or that fail training, retired blocks. -/
def coldHbm (s : State) (channels : List Nat) : State :=
  let off := ofLe (s.octs Obj.PC_DISABLED_SET 0 32)
  let s1 := { s with hbm := { s.hbm with
    channels := (bitsOf 256 off).map (fun n => (n, 2))
    retired := (List.range (s.num Obj.RETIRED_BLOCKS / 4)).foldl (fun (l : List Nat) i =>
      let b := ofLe (s.octs Obj.RETIRED_BLOCKS (4 * i) 4)
      if l.contains b then l else l.takeWhile (fun x => x < b) ++ b :: l.dropWhile (fun x => x < b)) []
    regionsPending := true } }
  (channels.filter (fun n => decide (n < 256) && !bit off n)).foldl failChannel (s1.regionsFrom s1)

/-- The tables of spec/06 in force (R290). -/
def coldTables (s : State) : State :=
  let s1 := (List.range 64).foldl setInvStep s
  { s1 with tables := { s1.tables with num := s1.stagedNum, oct := s1.stagedOct } }

/-- A course state set without a record. -/
def putCourse (s : State) (c v : Nat) : State :=
  { s with wall := { s.wall with courseState := Store.set courseDefault s.wall.courseState c v } }

/-- The courses that RETIRED_SET names, spares in their places, and one record for each course that differs from R94 (R141,
R142). -/
def coldCourses (s : State) : State :=
  let named := bitsOf 68 (ofLe (s.octs Obj.RETIRED_SET 0 9))
  let s1 := named.foldl (fun (t : State) c => t.putCourse c 2) s
  let s2 := (named.filter (fun c => courseDefault c == 0)).foldl (fun (t : State) c =>
    match t.nearestSpare c with
    | some x => t.putCourse x 0
    | none => t) s1
  (List.range 68).foldl (fun (t : State) c =>
    if t.courseState c = courseDefault c then t
    else t.eventNote 0x0A30 0 (c + 256 * courseDefault c + 65536 * t.courseState c) 0) s2

/-- A CSA bank after a cold reset (R388, R421, R425): one that is not FAILED has been cleared. -/
def coldBank (s : State) (b : Nat) : State :=
  let o := s.csaOwner b
  let off := bit (s.num Obj.DISABLED_SET) b
  let k : CsaBank := { state := if off then 4 else if o = 255 then 0 else 2, lastOwner := o }
  (s.setCsaBank b k).putHeader b (if off then 1 else 2)

/-- A CSA bank that its start-up self-test finds failed is not cleared (R388). -/
def coldBankFails (s : State) (b : Nat) : State := (s.csaFail b).putHeader b 1

/-- A router that fails its test at start-up raises 0A42h, which stands until a cold reset (R242, R899). -/
def routersFail (s : State) : State :=
  let t := s.deviceFault 0x0A42 1 0 0
  { t with nv := { t.nv with routersFailed := true } }

/-- Step 6: what the start-up self-tests found (R138, R142, R242, R388, R922, R954). -/
def coldTests (s : State) (c : ColdStart) : State :=
  let under := fun (n : Nat) (l : List Nat) => l.filter (fun x => decide (x < n))
  let s1 := ((under 68 c.courses) ++ (under 68 c.srams)).foldl retirePending s
  let s2 := (under 68 c.units).foldl (fun (t : State) u => t.unitFailed 4 0 u) s1
  let s3 := ((under 64 c.banks).foldl coldBankFails s2).coursesApplied
  let s4 := (under 32 c.sensors).foldl sensorFails s3
  let s5 := if c.sensors = [] then s4
    else ((s4.csaForcing (s4.anyFaulty 17 4)).dispatchForcing (s4.anyFaulty 0 17)).alertTemp
      (if (List.range 32).all s4.sensorFaulty then none else some 0)
  let s6 := if c.routers = [] then s5 else s5.routersFail
  s6.setNum Obj.STARTUP_RESULTS (2 * b2n (c.routers != []) + 4 * b2n (c.courses != []) + 8 * b2n (c.srams != []) +
    16 * b2n (c.units != []) + 32 * b2n (c.banks != []) + 64 * b2n (c.sensors != []))

/-- A SHORE pin takes its function from the default layers (R1019): its change has settled before READY. -/
def coldPin (s : State) (n : Nat) : State :=
  let f := s.num (Obj.FUNCTION n)
  let s1 := (s.setNum (Obj.FUNCTION_NOW n) f).setPin n { s.pin n with driving := outputFunction f, tachFrom := s.clock }
  let s2 := if s1.num Obj.TRIP_LATCHED = 1 then s1.setNum (Obj.DRIVE_ENABLE n) (s1.num (Obj.DRIVE_ENABLE n) % 2) else s1
  s2.setPin n { s2.pin n with sample := some (s2.padLevel n) }

/-- Generators stored with ENABLE 1 wait for the tide (R89). -/
def coldGenerators (s : State) : State :=
  { s with tide := { s.tide with pendingStart := maskOf 16 (fun g => s.num (Obj.ENABLE g) == 1) } }

/-- Step 7: defaults are applied (Table 19-6). -/
def coldApply (s : State) (c : ColdStart) : State :=
  let s1 := ((s.coldHbm c.channels).coldTables).coldCourses
  let s2 := ((List.range 64).foldl coldBank s1).resetLevels
  let s3 := (((s2.coldTests c).coldGenerators).windowsFrom)
  let s4 := (List.range 16).foldl coldPin s3
  { s4 with shore := { s4.shore with plca := (List.range 6).map (fun n => s4.num (Obj.PLCA_ENABLE + n)) } }

/-- Steps 8 and 9: ports train, and READY is set unless the hold of R885 or an unreadable OTP keeps it back (R651, R885, R909). -/
def coldReady (s : State) (c : ColdStart) : State :=
  if !c.otpOk then { s with nv := { s.nv with step := 8, ready := false } }
  else
    let s1 := s.trainPorts (List.range 8)
    if c.boot = 2 then { s1 with nv := { s1.nv with step := 8, hold := true, ready := false } }
    else
      let s2 := s1.setNum Obj.START_US (sat32 c.micros)
      { s2 with nv := { s2.nv with step := 9, ready := true } }

/-- The power-on sequence to READY (R883, R884, Table 19-6); a trip that stands is a device-level fault (R906, R950). -/
def coldStart (s : State) (c : ColdStart) : State :=
  let trip := s.num Obj.TRIP_LATCHED
  let s1 := (((s.coldDefaults c).withTrip trip).coldImage).coldApply c
  let s2 := if trip = 1 then s1.deviceFault 0x0A20 11 0 0 else s1
  (s2.coldReady c).settle

/-! ### The end of a warm reset -/

/-- The update engines (R541, R598, R599): flips not accepted give their slots back, ring entries not complete restart, command
stores and sketches are empty. -/
def warmEgs (s : State) : State :=
  let s1 := s.egs.flips.foldl dropFlip s
  { s1 with egs := { s1.egs with
      store := [], work := [], reserved := [], sketch := [], flips := []
      ringWork := s1.egs.ringWork.filter (fun x => x.complete), ringNext := s1.egs.ringHead } }

/-- The lines that the reload of a bank reads: its header, its unit images, and the metadata images of its entries (R423, Table 9-1). -/
def reloadLines (s : State) (b : Nat) : List Nat :=
  headerAt b / 64 :: (linesOf (unitImageAt b 0) 0x20000 ++ linesOf (metaImageAt b 0) (16 * s.csaE b))

/-- The header of a bank's shadow is whole, holds no reserved encoding and agrees with the bank's objects (R424). -/
def headerGood (s : State) (b : Nat) : Bool :=
  let h := (s.csaBank b).header
  h.crcOk && [1, 2, 4].contains h.units && decide (h.mode ≤ 1) && [8, 16, 32, 64, 128, 256].contains h.hole && h.epoch != 0 &&
    h.units == s.num (Obj.ENTRY_UNITS b) && h.mode == s.num (Obj.PRIORITY_MODE b) && h.hole == s.num (Obj.HOLE_INTERVAL b)

/-- The bank's shadow cannot be used for a reload (R424). -/
def shadowLost (s : State) (b : Nat) : Bool :=
  let l := s.reloadLines b
  !s.headerGood b || s.linesBad l || l.any (fun x => s.hbmDead (64 * x))

/-- One CSA bank after a warm reset: reloaded from its shadow, or cleared, and READY (R390, R423 to R425; log entry 94). -/
def warmBank (s0 : State) (b : Nat) : State :=
  if (s0.csaBank b).state = 4 then s0.setCsaBank b { s0.csaBank b with run := none, scrub := 0 }
  else
    let s := if (s0.csaBank b).clearDue then s0.clearNow b else s0
    let r := s.readLines (s.reloadLines b)
    let ready := fun (t : State) => (t.setCsaBank b { t.csaBank b with state := 2, run := none, scrub := 0 }).scrubAccount b
    if s.shadowLost b then (ready (r.clearNow b)).eventNote 0x0611 3 0 0
    else
      let l := (List.range (s.csaE b)).map (fun i => (b * 8192 + i, s.shadowEntry b i))
      let s1 := { r with csa := { r.csa with entries := l.foldl (fun (m : Store CsaEntry) (x : Nat × CsaEntry) =>
        Store.set (fun _ => ({} : CsaEntry)) m x.1 x.2) (Store.clear r.csa.entries (b * 8192) (b * 8192 + 8192)) } }
      ready (s1.setCsaBank b { s1.csaBank b with ce := [], ue := [] })

/-- The search array and the selection units (R332, R389, R390). -/
def warmArrays (s : State) : State :=
  let s1 := { s with
    sel := { s.sel with queue := [], run := [], ce := [], ue := [] }
    csa := { s.csa with queue := [] } }
  ((List.range 64).foldl warmBank s1).resetLevels

/-- The wall and the mortar (R143, R144, R189, R243, R244): emptied, zeroised, and the books closed. -/
def warmWall (s : State) : State :=
  let s1 := { s with
    mortar := { s.mortar with flight := [], parity := 0, credits := [], booksFault := false, headerFault := false }
    faults := { s.faults with reports := [] }
    wall := { s.wall with active := [], activeCe := [], activeUe := [] } }
  (s1.zeroiseSram.shadowEmpty).closeBooks

/-- The Coastline (R652): buffers discarded, UP ports retrained, a new reset epoch, credit given back (R630). -/
def warmCoast (s : State) : State :=
  let up := (List.range 8).filter s.portUp
  let s1 := s.setNum Obj.RESET_EPOCH ((s.num Obj.RESET_EPOCH + 1) % 256)
  let s2 := { s1 with coast := { s1.coast with
    inbox := [], waiting := [], launches := [], go := none
    ports := s1.coast.ports.map (fun (p : Nat × Port) => (p.1, { p.2 with assembly := [], queue := [] }))
    members := s1.coast.members.map (fun (p : Nat × Member) =>
      (p.1, { p.2 with received := 0, freedOut := 0, reported := 0, advanced := none })) } }
  let s3 := (s2.trainPorts up).reachCheck
  s3.others.foldl sendCredit s3

/-- READY returns and the reset is recorded (R803, R899, R903, R955, R967). -/
def warmReady (s : State) : State :=
  let s1 := (s.setNum Obj.POWER_STATE 0).setNum Obj.LULL_HELD 0
  let s2 := { s1 with
    power := { s1.power with tests := [], lullDue := false, automatic := false }
    faults := { s1.faults with device := s1.nv.routersFailed }
    nv := { s1.nv with warm := false, ready := !s1.nv.hold && !s1.nv.otp.bad, warmEnd := some s1.clock } }
  let s3 := (s2.inc32 Obj.WARM_RESETS 1).setNum Obj.WARM_RESET 0
  ((s3.event 0x0A01 7 0 0).raiseGlobal 0).settle

/-- All of Table 19-7 after the teardown (R898). -/
def warmDone (s : State) : State := (s.warmEgs.warmArrays.warmWall.warmCoast).warmReady

end State

/-! ### The commands -/

/-- COLD_RESET (R870, R883 to R886, R901, R906 to R910, R998): POR_N rises with the rails up. While a JTAG instruction holds the
device, it stays in reset (R1002). -/
def execColdReset (c : ColdStart) (s : State) : Host.Outcome State Fault Refusal :=
  let trip := s.num Obj.TRIP_LATCHED
  let s0 := s.bare.setPins { s.bare.pins with off := false, por := false, pllLost := false, jtagHeld := jtagHolds s.pins.jtag }
  let t := if s0.pins.jtagHeld then s0.withTrip trip else (s0.withTrip trip).coldStart c
  act (decide (c.addr < 64) && decide (c.boot < 4)) (s.when (s.pins.off || s.pins.por) t)

/-- WARM_RESET_DONE (R898, R899, R903, Table 19-7). -/
def execWarmResetDone (s : State) : Host.Outcome State Fault Refusal := .next (s.live s.nv.warm s.warmDone)

/-- JTAG_INSTRUCTION (R999, R1001, R1002, Table 22-6): an instruction becomes current; some hold every block in reset, from which only POR_N
frees them. -/
def execJtagInstruction (code : Nat) (s : State) : Host.Outcome State Fault Refusal :=
  let k := jtagCode code
  let c := s.captured k
  let s1 := (s.setPins c).bare.withTrip (s.num Obj.TRIP_LATCHED)
  let t := if jtagHolds k then s1.setPins { s1.pins with jtag := k, jtagHeld := true } else s.setPins { c with jtag := k }
  act (decide (code < 256)) (s.when (!s.pins.off) t)

/-- POR_N_ASSERTION (R85, R901, R998, R1002, R1018): every block is held in reset, and the latch of THERM_TRIP_N clears. -/
def execPorNAssertion (s : State) : Host.Outcome State Fault Refusal :=
  .next (s.when (!s.pins.off) (s.bare.setPins { s.bare.pins with por := true }))

/-- RAILS_REMOVED (R912, Table 20-2): OFF; POR_N is low with the rails (R990). -/
def execRailsRemoved (s : State) : Host.Outcome State Fault Refusal :=
  .next (s.bare.setPins { s.bare.pins with off := true, por := true, pllLost := false, jtagHeld := false, jtag := 1 })

end Sys2Proof.Machine
end

