-- ==== Sys2Proof/Machine/Dispatch.lean ====
section
/-!
DEFINITION. The dispatch: one arm for each command of the block, in the order of the opcode table.
-/

namespace Sys2Proof.Machine

/-- The effect of a command on everything but the queue. -/
def exec (i : Instr) (s : State) : Host.Outcome State Fault Refusal :=
  match i with
  | .generatorEnable q => Sys2Proof.Machine.execGeneratorEnable q s
  | .generatorPendingStart g => Sys2Proof.Machine.execGeneratorPendingStart g s
  | .cadenceLaunch g => Sys2Proof.Machine.execCadenceLaunch g s
  | .syncSend => Sys2Proof.Machine.execSyncSend s
  | .delayRequestSend => Sys2Proof.Machine.execDelayRequestSend s
  | .sync port payload rxSub => Sys2Proof.Machine.execSync port payload rxSub s
  | .delayRequest port payload rxSub => Sys2Proof.Machine.execDelayRequest port payload rxSub s
  | .delayResponse port payload rxSub => Sys2Proof.Machine.execDelayResponse port payload rxSub s
  | .tideCorrection => Sys2Proof.Machine.execTideCorrection s
  | .masterAdopt => Sys2Proof.Machine.execMasterAdopt s
  | .slewStep => Sys2Proof.Machine.execSlewStep s
  | .syncTimeout => Sys2Proof.Machine.execSyncTimeout s
  | .restep => Sys2Proof.Machine.execRestep s
  | .ppsEdge sub high => Sys2Proof.Machine.execPpsEdge sub high s
  | .ppsTimeout => Sys2Proof.Machine.execPpsTimeout s
  | .ppsOutPulse => Sys2Proof.Machine.execPpsOutPulse s
  | .pllLockLoss => Sys2Proof.Machine.execPllLockLoss s
  | .opDispatch bc brick => Sys2Proof.Machine.execOpDispatch bc brick s
  | .relay bc brick => Sys2Proof.Machine.execRelay bc brick s
  | .endOp bc brick => Sys2Proof.Machine.execEndOp bc brick s
  | .firingComplete bc brick => Sys2Proof.Machine.execFiringComplete bc brick s
  | .token bc m => Sys2Proof.Machine.execToken bc m s
  | .jobEnd failed => Sys2Proof.Machine.execJobEnd failed s
  | .remoteRead m => Sys2Proof.Machine.execRemoteRead m s
  | .remoteWrite m => Sys2Proof.Machine.execRemoteWrite m s
  | .readData m => Sys2Proof.Machine.execReadData m s
  | .writeAccepted m => Sys2Proof.Machine.execWriteAccepted m s
  | .readFailed m => Sys2Proof.Machine.execReadFailed m s
  | .bankLine brick line upset => Sys2Proof.Machine.execBankLine brick line upset s
  | .retireCourse q => Sys2Proof.Machine.execRetireCourse q s
  | .tablesApply q => Sys2Proof.Machine.execTablesApply q s
  | .tablesApplyPerform => Sys2Proof.Machine.execTablesApplyPerform s
  | .select course upset => Sys2Proof.Machine.execSelect course s upset
  | .unique course upset => Sys2Proof.Machine.execUnique course s upset
  | .segReduce course upset => Sys2Proof.Machine.execSegReduce course s upset
  | .selGrant m => Sys2Proof.Machine.execSelGrant m s
  | .selData m => Sys2Proof.Machine.execSelData m s
  | .selLastData m => Sys2Proof.Machine.execSelLastData m s
  | .selResultWrite m => Sys2Proof.Machine.execSelResultWrite m s
  | .selDone m => Sys2Proof.Machine.execSelDone m s
  | .search bank upset => Sys2Proof.Machine.execSearch bank s upset
  | .insert bank upset => Sys2Proof.Machine.execInsert bank s upset
  | .delete bank upset => Sys2Proof.Machine.execDelete bank s upset
  | .updateData bank upset => Sys2Proof.Machine.execUpdateData bank s upset
  | .csaRead bank upset => Sys2Proof.Machine.execCsaRead bank s upset
  | .bulkLoad bank upset => Sys2Proof.Machine.execBulkLoad bank s upset
  | .respace bank upset => Sys2Proof.Machine.execRespace bank s upset
  | .clear bank upset => Sys2Proof.Machine.execClear bank s upset
  | .csaGrant m => Sys2Proof.Machine.execCsaGrant m s
  | .csaData m => Sys2Proof.Machine.execCsaData m s
  | .csaLastData m => Sys2Proof.Machine.execCsaLastData m s
  | .csaResultWrite m => Sys2Proof.Machine.execCsaResultWrite m s
  | .csaDone m => Sys2Proof.Machine.execCsaDone m s
  | .csaBankset q => Sys2Proof.Machine.execCsaBankset q s
  | .entryUnits q => Sys2Proof.Machine.execEntryUnits q s
  | .priorityMode q => Sys2Proof.Machine.execPriorityMode q s
  | .csaClearingDone bank => Sys2Proof.Machine.execCsaClearingDone bank s
  | .scrubStep bank => Sys2Proof.Machine.execScrubStep bank s
  | .throttleSample => Sys2Proof.Machine.execThrottleSample s
  | .hbmRead m => Sys2Proof.Machine.execHbmRead m s
  | .hbmWrite m => Sys2Proof.Machine.execHbmWrite m s
  | .hbmReadData m => Sys2Proof.Machine.execHbmReadData m s
  | .hbmWriteAccepted m => Sys2Proof.Machine.execHbmWriteAccepted m s
  | .hbmReadFailed m => Sys2Proof.Machine.execHbmReadFailed m s
  | .refresh channel => Sys2Proof.Machine.execRefresh channel s
  | .calWindow => Sys2Proof.Machine.execCalWindow s
  | .patrolRead channel => Sys2Proof.Machine.execPatrolRead channel s
  | .retireBlock q => Sys2Proof.Machine.execRetireBlock q s
  | .regionsApply q => Sys2Proof.Machine.execRegionsApply q s
  | .regionsApplyPerform => Sys2Proof.Machine.execRegionsApplyPerform s
  | .poolNone egs upset => Sys2Proof.Machine.execPoolNone egs s upset
  | .poolSum egs upset => Sys2Proof.Machine.execPoolSum egs s upset
  | .poolMean egs upset => Sys2Proof.Machine.execPoolMean egs s upset
  | .poolWeightedSum egs upset => Sys2Proof.Machine.execPoolWeightedSum egs s upset
  | .listData m => Sys2Proof.Machine.execListData m s
  | .egsRowFetched egs tag row => Sys2Proof.Machine.execEgsRowFetched egs tag row s
  | .egsResultWrite m => Sys2Proof.Machine.execEgsResultWrite m s
  | .egsDone m => Sys2Proof.Machine.execEgsDone m s
  | .remoteRowTimeout egs tag row => Sys2Proof.Machine.execRemoteRowTimeout egs tag row s
  | .heatDecay => Sys2Proof.Machine.execHeatDecay s
  | .embApply q => Sys2Proof.Machine.execEmbApply q s
  | .embApplyPerform => Sys2Proof.Machine.execEmbApplyPerform s
  | .update egs upset => Sys2Proof.Machine.execUpdate egs s upset
  | .flipCommit flip => Sys2Proof.Machine.execFlipCommit flip s
  | .reclaim egs => Sys2Proof.Machine.execReclaim egs s
  | .updRingTail value => Sys2Proof.Machine.execUpdRingTail value s
  | .putRow => Sys2Proof.Machine.execPutRow s
  | .removeRow => Sys2Proof.Machine.execRemoveRow s
  | .retier => Sys2Proof.Machine.execRetier s
  | .replicate => Sys2Proof.Machine.execReplicate s
  | .unreplicate => Sys2Proof.Machine.execUnreplicate s
  | .dataFlit port octets => Sys2Proof.Machine.execDataFlit port octets s
  | .creditAck port octets => Sys2Proof.Machine.execCreditAck port octets s
  | .controlFlitDue port => Sys2Proof.Machine.execControlFlitDue port s
  | .ident port octets lanes => Sys2Proof.Machine.execIdent port octets lanes s
  | .trainingTimeout port => Sys2Proof.Machine.execTrainingTimeout port s
  | .laneLoss port lanes => Sys2Proof.Machine.execLaneLoss port lanes s
  | .retrainDone port lanes => Sys2Proof.Machine.execRetrainDone port lanes s
  | .reserveWindow port => Sys2Proof.Machine.execReserveWindow port s
  | .messageForward port upset => Sys2Proof.Machine.execMessageForward port upset s
  | .rowReq port upset => Sys2Proof.Machine.execRowReq port upset s
  | .rowData port upset => Sys2Proof.Machine.execRowData port upset s
  | .rowNak port upset => Sys2Proof.Machine.execRowNak port upset s
  | .grad port upset => Sys2Proof.Machine.execGrad port upset s
  | .replicaPut port upset => Sys2Proof.Machine.execReplicaPut port upset s
  | .replicaRemove port upset => Sys2Proof.Machine.execReplicaRemove port upset s
  | .updCredit port upset => Sys2Proof.Machine.execUpdCredit port upset s
  | .updCreditTimer member => Sys2Proof.Machine.execUpdCreditTimer member s
  | .discard port upset => Sys2Proof.Machine.execDiscard port upset s
  | .probe port upset => Sys2Proof.Machine.execProbe port upset s
  | .probeAck port upset => Sys2Proof.Machine.execProbeAck port upset s
  | .probeTimer member => Sys2Proof.Machine.execProbeTimer member s
  | .launchReady port upset => Sys2Proof.Machine.execLaunchReady port upset s
  | .launchWaitExpiry job => Sys2Proof.Machine.execLaunchWaitExpiry job s
  | .launchGo port upset => Sys2Proof.Machine.execLaunchGo port upset s
  | .reachStart => Sys2Proof.Machine.execReachStart s
  | .launchAbort port upset => Sys2Proof.Machine.execLaunchAbort port upset s
  | .reachTeardown port upset => Sys2Proof.Machine.execReachTeardown port upset s
  | .reachHoldTimeout => Sys2Proof.Machine.execReachHoldTimeout s
  | .sqTail client value => Sys2Proof.Machine.execSqTail client value s
  | .descriptorFetch client data status => Sys2Proof.Machine.execDescriptorFetch client data status s
  | .fetchTimeout client => Sys2Proof.Machine.execFetchTimeout client s
  | .jobSelect upset => Sys2Proof.Machine.execJobSelect s upset
  | .loadComplete => Sys2Proof.Machine.execLoadComplete s
  | .bulkEligible client => Sys2Proof.Machine.execBulkEligible client s
  | .deadlineExpiry client => Sys2Proof.Machine.execDeadlineExpiry client s
  | .runWatchdog => Sys2Proof.Machine.execRunWatchdog s
  | .cqHead client value => Sys2Proof.Machine.execCqHead client value s
  | .enable client => Sys2Proof.Machine.execEnable client s
  | .stop client => Sys2Proof.Machine.execStop client s
  | .disable client => Sys2Proof.Machine.execDisable client s
  | .resume client => Sys2Proof.Machine.execResume client s
  | .resumeFlush client => Sys2Proof.Machine.execResumeFlush client s
  | .mbDoorbell value => Sys2Proof.Machine.execMbDoorbell value s
  | .bar2Read off len bufferBad => Sys2Proof.Machine.execBar2Read off len s bufferBad
  | .bar2Write off data poisoned bufferBad => Sys2Proof.Machine.execBar2Write off data poisoned s bufferBad
  | .bar0Write bar off size value poisoned => Sys2Proof.Machine.execBar0Write bar off size value poisoned s
  | .resetRequest value => Sys2Proof.Machine.execResetRequest value s
  | .hostReset kind => Sys2Proof.Machine.execHostReset kind s
  | .linkRetrain => Sys2Proof.Machine.execLinkRetrain s
  | .msixSend vector => Sys2Proof.Machine.execMsixSend vector s
  | .faultReport count parityError => Sys2Proof.Machine.execFaultReport count s parityError
  | .reservationExpiry => Sys2Proof.Machine.execReservationExpiry s
  | .logRecordWrite crcBad => Sys2Proof.Machine.execLogRecordWrite s crcBad
  | .uartLine => Sys2Proof.Machine.execUartLine s
  | .frameReceive f => Sys2Proof.Machine.execFrameReceive f s
  | .read q => Sys2Proof.Machine.execRead q s
  | .write q => Sys2Proof.Machine.execWrite q s
  | .blockReadInit q => Sys2Proof.Machine.execBlockReadInit q s
  | .blockReadSegment q => Sys2Proof.Machine.execBlockReadSegment q s
  | .blockWriteInit q => Sys2Proof.Machine.execBlockWriteInit q s
  | .blockWriteSegment q => Sys2Proof.Machine.execBlockWriteSegment q s
  | .blockEnd q => Sys2Proof.Machine.execBlockEnd q s
  | .blockCancel q => Sys2Proof.Machine.execBlockCancel q s
  | .leaseClaim q => Sys2Proof.Machine.execLeaseClaim q s
  | .leaseRenew q => Sys2Proof.Machine.execLeaseRenew q s
  | .leaseRelease q => Sys2Proof.Machine.execLeaseRelease q s
  | .leaseDelegate q => Sys2Proof.Machine.execLeaseDelegate q s
  | .leaseRecall q => Sys2Proof.Machine.execLeaseRecall q s
  | .leaseExpiry => Sys2Proof.Machine.execLeaseExpiry s
  | .identify q => Sys2Proof.Machine.execIdentify q s
  | .notifyAck q => Sys2Proof.Machine.execNotifyAck q s
  | .notifySend => Sys2Proof.Machine.execNotifySend s
  | .notifyRetry seq => Sys2Proof.Machine.execNotifyRetry seq s
  | .transferAbandon src => Sys2Proof.Machine.execTransferAbandon src s
  | .plcaSettingsApply => Sys2Proof.Machine.execPlcaSettingsApply s
  | .coldReset c => Sys2Proof.Machine.execColdReset c s
  | .startRelease q => Sys2Proof.Machine.execStartRelease q s
  | .nvCommit q => Sys2Proof.Machine.execNvCommit q s
  | .flashOperationDone same => Sys2Proof.Machine.execFlashOperationDone same s
  | .eraseImages q => Sys2Proof.Machine.execEraseImages q s
  | .restoreFactoryLive q => Sys2Proof.Machine.execRestoreFactoryLive q s
  | .warmReset q => Sys2Proof.Machine.execWarmReset q s
  | .warmResetDone => Sys2Proof.Machine.execWarmResetDone s
  | .powerActive q => Sys2Proof.Machine.execPowerActive q s
  | .powerLull q => Sys2Proof.Machine.execPowerLull q s
  | .powerHold q => Sys2Proof.Machine.execPowerHold q s
  | .autoWake => Sys2Proof.Machine.execAutoWake s
  | .wakeDone => Sys2Proof.Machine.execWakeDone s
  | .drainDone => Sys2Proof.Machine.execDrainDone s
  | .thermalTrip => Sys2Proof.Machine.execThermalTrip s
  | .dispatchSample power energy => Sys2Proof.Machine.execDispatchSample power energy s
  | .sensorCalibration errors => Sys2Proof.Machine.execSensorCalibration errors s
  | .router q => Sys2Proof.Machine.execRouter q s
  | .brickLogic q => Sys2Proof.Machine.execBrickLogic q s
  | .brickSram q => Sys2Proof.Machine.execBrickSram q s
  | .selection q => Sys2Proof.Machine.execSelection q s
  | .csaBank q => Sys2Proof.Machine.execCsaBank q s
  | .sensors q => Sys2Proof.Machine.execSensors q s
  | .function q => Sys2Proof.Machine.execFunction q s
  | .jtagInstruction code => Sys2Proof.Machine.execJtagInstruction code s
  | .sensorReading temps stackTemps => Sys2Proof.Machine.execSensorReading temps stackTemps s
  | .porNAssertion => Sys2Proof.Machine.execPorNAssertion s
  | .railsRemoved => Sys2Proof.Machine.execRailsRemoved s
  | .perstNDeassertion => Sys2Proof.Machine.execPerstNDeassertion s
  | .linkSettled rate flit width => Sys2Proof.Machine.execLinkSettled rate flit width s
  | .bar0Read bar off size => Sys2Proof.Machine.execBar0Read bar off size s
  | .skipFlit port crcOk errors => Sys2Proof.Machine.execSkipFlit port crcOk errors s
  | .shoreInputEdge pin level => Sys2Proof.Machine.execShoreInputEdge pin level s
  | .uartRxCharacter => Sys2Proof.Machine.execUartRxCharacter s
  | .tachPeriodTimeout pin => Sys2Proof.Machine.execTachPeriodTimeout pin s
  | .flashOperationTimeout => Sys2Proof.Machine.execFlashOperationTimeout s

end Sys2Proof.Machine
end

