-- ==== Sys2Proof/Machine/Step.lean ====
section
/-!
DEFINITION. One step of the block: the command at the front of the queue, or a tick of TCLK on an empty queue; and a
command that a word spells put at the front of the queue.
-/

namespace Sys2Proof.Machine

/-- Run the front command on the state with the queue's rest; on an empty queue one edge of TCLK passes (DESIGN CHOICE, log entry
1). -/
def step (s : State) : Host.Outcome State Fault Refusal :=
  match s.pending with
  | [] => .next (s.tclk 1)
  | i :: r => exec i { s with pending := r }

/-- `s` with the command that a word spells at the front of its queue; `s` itself where the word spells none. -/
def State.withFetchWord (s : State) (nbits w : Nat) : State :=
  match decodeTableWord nbits w with
  | none => s
  | some i => { s with pending := i :: s.pending }

end Sys2Proof.Machine
end

