-- ==== Sys2Proof/WellFormed.lean ====
section
/-!
DEFINITION. When a command is well formed: every unit that it names exists, and every field fits the width that the spec gives it
(spec/02: Table 2-3; spec/05: Table 5-1; spec/14: R603; spec/16; spec/18: Tables 18-3 and 18-4; spec/19: Table
19-1; spec/20; spec/22).
-/

namespace Sys2Proof

/-- A number of `n` bits. -/
def fits (n x : Nat) : Bool := decide (x < 2 ^ n)

/-- An end point that the chip has: 68 × 64 bricks, 68 selection units, 64 banks, 256 channels, 16 engines. -/
def nodeWf : Node → Bool
  | .brick b => decide (b < 68 * 64)
  | .unit c => decide (c < 68)
  | .bank b => decide (b < 64)
  | .channel n => decide (n < 256)
  | .egs e => decide (e < 16)
  | .south => true

/-- Upsets of a message of at most 32 flits: 8 payload words each, and at most 132 routers that check its header. -/
def upsetWf (u : Upset) : Bool := decide (u.words ≤ 256) && decide (u.headers ≤ 4224)

/-- A mortar message between end points that exist. -/
def msgWf (m : Msg) : Bool :=
  nodeWf m.src && nodeWf m.dst && fits 8 m.tag && fits 1 m.parity && upsetWf m.upset

def sourceWf : Source → Bool
  | .port mac => fits 48 mac
  | .mailbox => true

/-- A request's header fields. -/
def requestWf (q : Request) : Bool :=
  sourceWf q.src && fits 16 q.seq && fits 8 q.version && fits 8 q.opcode && fits 16 q.length && fits 16 q.index && fits 8 q.sub

/-- A frame from a node of the segment. -/
def frameWf (f : Frame) : Bool :=
  fits 48 f.dest && fits 16 f.etherType && requestWf f.request && f.request.src != .mailbox

/-- Straps within their pins (Table 19-1). -/
def coldStartWf (c : ColdStart) : Bool := decide (c.addr < 64) && decide (c.boot < 4)

/-- A port, a client with a ring, a CSA bank, an engine, a channel, a course, a pin. -/
def portWf (p : Nat) : Bool := decide (p < 8)
def clientWf (c : Nat) : Bool := decide (1 ≤ c) && decide (c < 64)
def bankWf (b : Nat) : Bool := decide (b < 64)
def engineWf (e : Nat) : Bool := decide (e < 16)
def channelWf (n : Nat) : Bool := decide (n < 256)
def courseWf (c : Nat) : Bool := decide (c < 68)
def brickWf (b : Nat) : Bool := decide (b < 68 * 64)
def pinWf (n : Nat) : Bool := decide (n < 16)

/-- A source of Coastline messages: a port, or 8 for this chip itself. -/
def sourcePortWf (p : Nat) : Bool := decide (p ≤ 8)

/-- An access within BAR0 or BAR4. -/
def barWf (bar off size : Nat) : Bool :=
  (bar == 0 && decide (off + size ≤ 0x10000)) || (bar == 4 && decide (off + size ≤ 0x1000))

/-- A command that some sender of the block can form. -/
def Instr.wf : Instr → Bool
  | .generatorEnable q | .retireCourse q | .tablesApply q | .csaBankset q | .entryUnits q | .priorityMode q | .retireBlock q
  | .regionsApply q | .embApply q | .read q | .write q | .blockReadInit q | .blockReadSegment q | .blockWriteInit q
  | .blockWriteSegment q | .blockEnd q | .blockCancel q | .leaseClaim q | .leaseRenew q | .leaseRelease q | .leaseDelegate q
  | .leaseRecall q | .identify q | .notifyAck q | .startRelease q | .nvCommit q | .eraseImages q | .restoreFactoryLive q
  | .warmReset q | .powerActive q | .powerLull q | .powerHold q | .router q | .brickLogic q | .brickSram q | .selection q
  | .csaBank q | .sensors q | .function q => requestWf q
  | .generatorPendingStart g | .cadenceLaunch g => decide (g < 16)
  | .sync p l r | .delayRequest p l r | .delayResponse p l r => portWf p && l.length == 56 && decide (r < 96)
  | .ppsEdge sub _ => decide (sub < 96)
  | .opDispatch _ b | .relay _ b | .endOp _ b | .firingComplete _ b => brickWf b
  | .token _ m => msgWf m && (match m.dst, m.body with
    | .brick _, .token _ _ _ _ => true
    | _, _ => false)
  | .remoteRead m => msgWf m && (match m.dst, m.body with
    | .brick _, .readReq _ _ => true
    | _, _ => false)
  | .remoteWrite m => msgWf m && (match m.dst, m.body with
    | .brick _, .writeReq _ _ => true
    | _, _ => false)
  | .readData m => msgWf m && (match m.dst, m.body with
    | .brick _, .readData _ => true
    | _, _ => false)
  | .writeAccepted m => msgWf m && (match m.dst, m.body with
    | .brick _, .writeAccepted _ => true
    | _, _ => false)
  | .selGrant m => msgWf m && (match m.src, m.dst, m.body with
    | .unit _, .brick _, .selGrant _ => true
    | _, _, _ => false)
  | .selData m => msgWf m && (match m.src, m.dst, m.body with
    | .brick _, .unit _, .selData _ false => true
    | _, _, _ => false)
  | .selLastData m => msgWf m && (match m.src, m.dst, m.body with
    | .brick _, .unit _, .selData _ true => true
    | _, _, _ => false)
  | .selResultWrite m => msgWf m && (match m.dst, m.body with
    | .brick _, .selResult _ _ => true
    | _, _ => false)
  | .selDone m => msgWf m && (match m.dst, m.body with
    | .brick _, .selDone _ => true
    | _, _ => false)
  | .csaGrant m => msgWf m && (match m.src, m.dst, m.body with
    | .bank _, .brick _, .csaGrant _ => true
    | _, _, _ => false)
  | .csaData m => msgWf m && (match m.src, m.dst, m.body with
    | .brick _, .bank _, .csaData _ false => true
    | _, _, _ => false)
  | .csaLastData m => msgWf m && (match m.src, m.dst, m.body with
    | .brick _, .bank _, .csaData _ true => true
    | _, _, _ => false)
  | .csaResultWrite m => msgWf m && (match m.dst, m.body with
    | .brick _, .csaResult _ _ => true
    | _, _ => false)
  | .csaDone m => msgWf m && (match m.dst, m.body with
    | .brick _, .csaDone _ _ _ _ => true
    | _, _ => false)
  | .hbmRead m => msgWf m && (match m.dst, m.body with
    | .channel _, .hbmRead _ _ => true
    | _, _ => false)
  | .hbmWrite m => msgWf m && (match m.dst, m.body with
    | .channel _, .hbmWrite _ _ => true
    | _, _ => false)
  | .hbmReadData m => msgWf m && (match m.dst, m.body with
    | .brick _, .hbmReadData _ => true
    | _, _ => false)
  | .hbmWriteAccepted m => msgWf m && (match m.dst, m.body with
    | .brick _, .hbmWriteAccepted _ => true
    | _, _ => false)
  | .hbmReadFailed m => msgWf m && (match m.dst, m.body with
    | .brick _, .hbmReadFailed _ => true
    | _, _ => false)
  | .listData m => msgWf m && (match m.src, m.dst, m.body with
    | .brick _, .egs _, .listData _ => true
    | _, _, _ => false)
  | .egsResultWrite m => msgWf m && (match m.dst, m.body with
    | .brick _, .egsResult _ _ => true
    | _, _ => false)
  | .egsDone m => msgWf m && (match m.dst, m.body with
    | .brick _, .egsDone _ _ _ _ => true
    | _, _ => false)
  | .readFailed m => msgWf m && (match m.src, m.dst, m.body with
    | .brick _, .egs _, .readFailed _ => true
    | _, .brick _, .readFailed _ => true
    | _, _, _ => false)
  | .bankLine b l u => decide (b < 4096) && decide (l < 256) && upsetWf u
  | .select c u | .unique c u | .segReduce c u => courseWf c && upsetWf u
  | .search b u | .insert b u | .delete b u | .updateData b u | .csaRead b u | .bulkLoad b u | .respace b u | .clear b u =>
    bankWf b && upsetWf u
  | .csaClearingDone b | .scrubStep b => bankWf b
  | .refresh n | .patrolRead n => channelWf n
  | .poolNone e u | .poolSum e u | .poolMean e u | .poolWeightedSum e u | .update e u => engineWf e && upsetWf u
  | .reclaim e => engineWf e
  | .egsRowFetched e t r | .remoteRowTimeout e t r => engineWf e && fits 8 t && fits 32 r
  | .updRingTail v | .mbDoorbell v | .resetRequest v => fits 32 v
  | .dataFlit p l | .creditAck p l => portWf p && l.length == 64
  | .ident p d l => portWf p && d.length == 64 && fits 4 l
  | .controlFlitDue p | .trainingTimeout p | .reserveWindow p => portWf p
  | .laneLoss p l | .retrainDone p l => portWf p && fits 4 l
  | .messageForward p u => portWf p && decide (u ≤ 2)
  | .rowReq p u | .rowData p u | .rowNak p u | .grad p u | .replicaPut p u | .replicaRemove p u
  | .updCredit p u | .discard p u | .probe p u | .probeAck p u | .launchReady p u | .launchGo p u | .launchAbort p u
  | .reachTeardown p u => sourcePortWf p && decide (u ≤ 2)
  | .updCreditTimer d | .probeTimer d => decide (d < 64)
  | .sqTail c v | .cqHead c v => clientWf c && fits 32 v
  | .descriptorFetch c l st => clientWf c && l.length == 256 && decide (st ≤ 2)
  | .fetchTimeout c | .enable c | .stop c | .disable c | .resume c | .resumeFlush c => clientWf c
  | .bulkEligible c | .deadlineExpiry c => decide (c < 64)
  | .bar2Read off n _ => decide (1 ≤ n) && decide (off + n ≤ 2 ^ 38)
  | .bar2Write off l _ _ => decide (1 ≤ l.length) && decide (off + l.length ≤ 2 ^ 38)
  | .bar0Write b off n v _ => barWf b off n && fits (8 * n) v
  | .bar0Read b off n => barWf b off n
  | .hostReset k => decide (1 ≤ k) && decide (k ≤ 5)
  | .msixSend v => decide (v < 128)
  | .faultReport n _ => decide (1 ≤ n)
  | .frameReceive f => frameWf f
  | .notifyRetry q => fits 16 q
  | .transferAbandon x => sourceWf x
  | .coldReset c => coldStartWf c
  | .dispatchSample p _ => fits 16 p
  | .sensorCalibration l => l.length == 32
  | .sensorReading t h => decide (t.length ≤ 32) && decide (h.length ≤ 8)
  | .jtagInstruction c => fits 8 c
  | .linkSettled r _ w => decide (1 ≤ r) && decide (r ≤ 6) && [1, 2, 4, 8, 16].contains w
  | .skipFlit p _ l => portWf p && l.length == 4
  | .shoreInputEdge n _ | .tachPeriodTimeout n => pinWf n
  | .launchWaitExpiry j => fits 32 j
  | .syncSend | .delayRequestSend | .tideCorrection | .masterAdopt | .slewStep | .syncTimeout | .restep | .ppsTimeout
  | .ppsOutPulse | .pllLockLoss | .jobEnd _ | .tablesApplyPerform | .throttleSample | .calWindow | .regionsApplyPerform
  | .heatDecay | .embApplyPerform | .flipCommit _ | .putRow | .removeRow | .retier | .replicate | .unreplicate | .reachStart
  | .reachHoldTimeout | .jobSelect .. | .loadComplete | .runWatchdog | .linkRetrain | .reservationExpiry | .logRecordWrite ..
  | .uartLine | .leaseExpiry | .notifySend | .plcaSettingsApply | .flashOperationDone _ | .warmResetDone | .autoWake
  | .wakeDone | .drainDone | .thermalTrip | .porNAssertion | .railsRemoved | .perstNDeassertion | .uartRxCharacter
  | .flashOperationTimeout => true

end Sys2Proof
end

