-- ==== Sys2Proof/Safety.lean ====
section
/-!
DEFINITION. What claims about runs are stated in: the form that the state keeps, the parts of the state that a command leaves
alone, the commands a sender can form, and a step that does not stop.
-/

namespace Sys2Proof.Machine

/-- External memory stands in its canonical form. -/
abbrev Memory.wf (m : List (Nat × Byte)) : Bool := Store.wf zeroByte m

/-- The parts of the state that claims speak of: the fields of `State`, the dictionary's numbers by the first digit of their
index, and five fields within fields: the device-level fault, the SRAM and the op slots of the wall, the running job and the octets
of HBM. -/
inductive Part where
  | num (i : Nat)
  | tide | pps | oct | badObj | reg | faults | wall | mortar | tables | sel | csa | hbm | egs | coast | sched | host | shore
  | nv | power | pins | out | device | sram | run | mem | slots
deriving DecidableEq, Repr

/-- A part stands in `t` as it stood in `s`. -/
def Part.same (s t : State) : Part → Prop
  | .num i => ∀ k, k / 0x100000 = i → t.num k = s.num k
  | .tide => t.tide = s.tide
  | .pps => t.pps = s.pps
  | .oct => t.oct = s.oct
  | .badObj => t.badObj = s.badObj
  | .reg => t.reg = s.reg
  | .faults => t.faults = s.faults
  | .wall => t.wall = s.wall
  | .mortar => t.mortar = s.mortar
  | .tables => t.tables = s.tables
  | .sel => t.sel = s.sel
  | .csa => t.csa = s.csa
  | .hbm => t.hbm = s.hbm
  | .egs => t.egs = s.egs
  | .coast => t.coast = s.coast
  | .sched => t.sched = s.sched
  | .host => t.host = s.host
  | .shore => t.shore = s.shore
  | .nv => t.nv = s.nv
  | .power => t.power = s.power
  | .pins => t.pins = s.pins
  | .out => t.out = s.out
  | .device => t.faults.device = s.faults.device
  | .sram => t.wall.sram = s.wall.sram
  | .run => t.sched.run = s.sched.run
  | .mem => t.hbm.mem = s.hbm.mem
  | .slots => t.wall.slots = s.wall.slots

namespace State

/-- HBM, as a list of octets, is in canonical form. -/
def memoryOk (s : State) : Prop := Memory.wf s.hbm.mem = true

/-- Every waiting command is one that a sender can form. -/
def queueOk (s : State) : Prop := s.pending.all Instr.wf = true

/-- The wall is open, the device runs, and `m`, with a legal header, is the next message to come out of the mortar at its end
point, unhurt. -/
def delivers (s : State) (m : Msg) : Prop :=
  s.held = false ∧ s.wall.closed = false ∧ s.nextInFlight m = true ∧ s.msgLegal m = true ∧ m.upset = {}

/-- The next step does not stop. -/
def stepSafe (s : State) : Prop := ∃ t, step s = .next t

/-- The request is the next of its source, and it is taken as a new one (R829, R833, R909). -/
def takes (s : State) (q : Request) : Prop :=
  s.held = false ∧ s.waits q = true ∧
    match q.src with
    | .port mac => s.nv.otp.bad = false ∧ s.isDuplicate mac q.seq = false
    | .mailbox => True

/-- The state in which a request taken as a new one is judged: out of its queue, its SEQUENCE heard. -/
def heard (s : State) (q : Request) : State :=
  match q.src with
  | .port mac => (s.dequeue q).hearNew mac q.seq
  | .mailbox => s.dequeue q

/-- A request is counted and answered. -/
def replies (s : State) (q : Request) (a : Answer) : State := (s.inc64 Obj.REQUESTS 1).finish q a

/-- A request passes the checks of Table 18-9a that come before those of its object and value, and HOLD does not
refuse it (R936). -/
def passes (s : State) (q : Request) : Prop := s.takes q ∧ headerCode q = 0 ∧ s.holdRefuses q = false

/-- A request passes the checks of its object too: orders 1 to 9. -/
def reaches (s : State) (q : Request) (r : ObjRow) : Prop :=
  s.passes q ∧ objectRow (reqKey q) = some r ∧ (s.heard q).objectCode q = 0

/-- A write with GO set to a command object passes every check of Table 18-9a. -/
def accepts (s : State) (q : Request) : Prop :=
  (∃ r, s.reaches q r ∧ q.body.length = r.size) ∧ (s.heard q).cmdCode (reqKey q) (reqValue q) = 0

/-- The state in which an accepted command takes effect: its object keeps what was written, GO reads 0. -/
def commanded (s : State) (q : Request) : State :=
  let u := s.heard q
  { u.setNum (reqKey q) (cmdStored (reqKey q) (reqValue q)) with badObj := u.badObj.filter (fun p => p.1 != reqKey q) }

end State

/-- The command that a request of a row is. -/
def Row.command (r : Row) (q : Request) : Instr :=
  match r with
  | .generatorEnable => .generatorEnable q
  | .retireCourse => .retireCourse q
  | .tablesApply => .tablesApply q
  | .csaBankset => .csaBankset q
  | .entryUnits => .entryUnits q
  | .priorityMode => .priorityMode q
  | .retireBlock => .retireBlock q
  | .regionsApply => .regionsApply q
  | .embApply => .embApply q
  | .read => .read q
  | .write => .write q
  | .blockReadInit => .blockReadInit q
  | .blockReadSegment => .blockReadSegment q
  | .blockWriteInit => .blockWriteInit q
  | .blockWriteSegment => .blockWriteSegment q
  | .blockEnd => .blockEnd q
  | .blockCancel => .blockCancel q
  | .leaseClaim => .leaseClaim q
  | .leaseRenew => .leaseRenew q
  | .leaseRelease => .leaseRelease q
  | .leaseDelegate => .leaseDelegate q
  | .leaseRecall => .leaseRecall q
  | .identify => .identify q
  | .notifyAck => .notifyAck q
  | .startRelease => .startRelease q
  | .nvCommit => .nvCommit q
  | .eraseImages => .eraseImages q
  | .restoreFactoryLive => .restoreFactoryLive q
  | .warmReset => .warmReset q
  | .powerActive => .powerActive q
  | .powerLull => .powerLull q
  | .powerHold => .powerHold q
  | .router => .router q
  | .brickLogic => .brickLogic q
  | .brickSram => .brickSram q
  | .selection => .selection q
  | .csaBank => .csaBank q
  | .sensors => .sensors q
  | .function => .function q

/-- The parts that every change of the jobs and their records may reach: entries written back, records, vectors and lines. -/
def Part.settling (p : Part) : Bool := p ∈ [Part.num 1, .num 3, .num 4, .num 5, .num 8, .num 10, .num 11, .reg, .faults,
  .wall, .tables, .hbm, .sched, .host, .shore, .power, .out]

/-- The parts that a stop of the running job may reach. -/
def Part.stopping (p : Part) : Bool := p ∈ [Part.num 1, .num 3, .num 4, .num 5, .num 9, .num 11, .num 13, .reg, .faults,
  .wall, .mortar, .sel, .csa, .hbm, .egs, .coast, .sched, .host, .shore, .out, .device, .mem]

/-- The parts that a command may change; a request and a reset may change any. -/
def mayChange (p : Part) : Instr → Bool
  | .uartLine .. => p ∈ [.num 14, .pins, .out]
  | .shoreInputEdge .. => p ∈ [.num 14, .pins]
  | .uartRxCharacter .. | .tachPeriodTimeout .. => p ∈ [.num 14]
  | .descriptorFetch .. | .fetchTimeout .. | .bulkEligible .. | .deadlineExpiry .. | .sqTail .. | .cqHead .. | .enable ..
    | .stop .. | .resume .. | .resumeFlush .. | .linkSettled .. | .wakeDone .. => p.settling
  | .jobSelect .. | .reachStart .. => p.stopping || p ∈ [.num 8, .num 10, .tables, .power, .sram, .run, .slots]
  | .loadComplete .. => p.settling || p ∈ [.num 9, .mortar, .sel, .csa, .egs, .coast, .device, .sram, .run, .mem, .slots]
  | .jobEnd .. => p.settling || p ∈ [.num 7, .num 13, .sel, .csa, .run]
  | .faultReport .. => p.settling || p ∈ [.num 9, .num 13, .sel, .csa, .egs, .coast, .device, .mem, .slots]
  | .bar2Read .. | .bar2Write .. => p.settling || p ∈ [.num 9, .num 13, .sel, .csa, .egs, .coast, .device, .mem]
  | .runWatchdog .. => p ∈ [.faults]
  | .logRecordWrite .. => p ∈ [.num 1, .num 3, .num 4, .num 5, .num 6, .num 9, .num 10, .num 11, .num 14, .reg, .faults,
    .mortar, .hbm, .egs, .coast, .sched, .shore, .power, .pins, .out, .mem]
  | .reservationExpiry .. | .updRingTail .. => p ∈ [.egs]
  | .token .. => p.stopping || p ∈ [.slots]
  | .remoteRead .. | .bankLine .. | .selGrant .. | .csaGrant .. => p.stopping
  | .remoteWrite .. | .selResultWrite .. | .csaResultWrite .. | .egsResultWrite .. => p.stopping || p ∈ [.sram]
  | .opDispatch .. => p ∈ [.num 1, .num 4, .num 8, .num 9, .num 11, .faults, .wall, .mortar, .tables, .sel, .csa, .egs, .coast,
    .shore, .out, .sram, .slots]
  | .relay .. => p ∈ [.num 4, .faults, .wall, .mortar, .slots]
  | .endOp .. => p ∈ [.num 4, .faults, .wall, .slots]
  | .firingComplete .. => p ∈ [.num 4, .num 9, .faults, .wall, .mortar, .coast, .out, .slots]
  | .readData .. | .writeAccepted .. | .hbmReadData .. | .hbmWriteAccepted .. | .hbmReadFailed .. | .selDone ..
    | .csaDone .. | .hbmRead .. | .hbmWrite .. | .egsDone .. => p.stopping || p ∈ [.num 8, .tables, .sram]
  | .readFailed .. => p.stopping || p ∈ [.num 6, .num 8, .tables, .sram]
  | .select .. | .unique .. | .segReduce .. => p.stopping || p ∈ [.num 8, .tables]
  | .selData .. | .selLastData .. => p.stopping || p ∈ [.num 8]
  | .search .. | .insert .. | .delete .. | .updateData .. | .csaRead .. | .bulkLoad .. | .respace .. | .clear ..
    | .csaData .. | .csaLastData .. => p.stopping || p ∈ [.num 7]
  | .csaClearingDone .. => p ∈ [.num 4, .num 7, .mortar, .csa, .hbm]
  | .scrubStep .. => p ∈ [.num 1, .num 5, .num 7, .num 11, .faults, .csa, .hbm, .shore]
  | .refresh .. => p ∈ [.hbm]
  | .calWindow .. => p ∈ [.num 5, .tide, .hbm]
  | .patrolRead .. => p ∈ [.num 1, .num 5, .num 11, .faults, .hbm, .shore]
  | .regionsApplyPerform .. => p ∈ [.num 5, .hbm]
  | .tablesApplyPerform .. => p ∈ [.num 8, .tables]
  | .leaseExpiry .. => p ∈ [.num 1, .num 11, .faults, .shore]
  | .disable .. => p ∈ [.num 3, .reg]
  | .mbDoorbell .. => p ∈ [.reg, .host]
  | .bar0Write .. => p.stopping || p ∈ [.num 7, .num 8, .num 10, .tables, .nv, .power, .sram, .run, .slots]
  | .bar0Read .. => p ∈ [.reg, .out]
  | .resetRequest .. => p ∈ [.num 1, .num 3, .num 4, .num 5, .num 7, .num 10, .num 11, .num 13, .reg, .faults, .wall, .mortar,
    .sel, .csa, .hbm, .egs, .sched, .host, .shore, .nv, .power, .out, .device, .run, .mem, .slots]
  | .hostReset .. => p.settling || p ∈ [.run]
  | .linkRetrain .. => p ∈ [.num 3, .host]
  | .msixSend .. => p ∈ [.num 3, .host, .out]
  | .perstNDeassertion .. => p ∈ [.host]
  | .poolNone .. | .poolSum .. | .poolMean .. | .poolWeightedSum .. | .update .. | .listData .. => p.stopping || p ∈ [.num 6]
  | .egsRowFetched .. | .flipCommit .. | .grad .. | .replicaPut ..
    | .replicaRemove .. => p ∈ [.num 1, .num 4, .num 5, .num 6, .num 9, .num 11, .faults, .mortar, .hbm, .egs, .coast, .host,
    .shore, .out, .mem]
  | .remoteRowTimeout .. => p ∈ [.num 1, .num 4, .num 5, .num 6, .num 11, .faults, .mortar, .hbm, .egs, .shore, .mem]
  | .heatDecay .. => p ∈ [.tide, .egs]
  | .embApplyPerform .. => p ∈ [.egs, .coast]
  | .reclaim .. | .putRow .. | .removeRow .. | .retier .. | .replicate ..
    | .unreplicate .. => p ∈ [.num 1, .num 4, .num 5, .num 6, .num 11, .faults, .mortar, .hbm, .egs, .host, .shore, .mem]
  | .dataFlit .. => p ∈ [.num 9, .coast]
  | .creditAck .. | .updCreditTimer .. | .probeTimer .. | .launchWaitExpiry .. => p ∈ [.num 9, .coast, .out]
  | .controlFlitDue .. => p ∈ [.coast, .out]
  | .ident .. | .trainingTimeout .. | .laneLoss .. | .retrainDone .. => p.settling || p ∈ [.num 6, .num 9, .mortar, .egs,
    .coast, .mem]
  | .skipFlit .. => p ∈ [.num 9, .oct, .coast]
  | .reserveWindow .. => p ∈ [.coast]
  | .messageForward .. | .updCredit .. | .probe .. | .probeAck .. | .launchReady ..
    | .reachTeardown .. => p ∈ [.num 9, .num 11, .faults, .coast, .out]
  | .rowReq .. => p ∈ [.num 1, .num 5, .num 6, .num 9, .num 11, .faults, .hbm, .egs, .coast, .host, .shore, .out, .mem]
  | .rowData .. => p ∈ [.num 1, .num 4, .num 5, .num 6, .num 9, .num 11, .faults, .mortar, .hbm, .egs, .coast, .shore, .out,
    .mem]
  | .rowNak .. | .discard .. => p ∈ [.num 1, .num 3, .num 4, .num 5, .num 6, .num 9, .num 10, .num 11, .reg, .faults, .mortar,
    .hbm, .egs, .coast, .sched, .shore, .power, .out, .mem]
  | .launchGo .. => p ∈ [.num 9, .num 11, .faults, .coast, .sched, .out]
  | .launchAbort .. => p.settling || p ∈ [.num 9, .coast]
  | .reachHoldTimeout .. => p.settling || p ∈ [.num 9]
  | .throttleSample .. => p ∈ [.num 7, .tide, .csa]
  | .dispatchSample .. => p ∈ [.num 10, .tide, .power]
  | .sensorReading .. => p ∈ [.num 1, .num 7, .num 10, .num 11, .oct, .faults, .csa, .shore, .power]
  | .sensorCalibration .. => p ∈ [.num 1, .num 7, .num 10, .num 11, .num 13, .tide, .faults, .csa, .shore, .power]
  | .thermalTrip .. => p.settling || p ∈ [.num 9, .num 13, .num 14, .sel, .csa, .egs, .coast, .device, .mem]
  | .autoWake .. => p ∈ [.num 10, .power]
  | .drainDone .. => p.settling || p ∈ [.num 6, .num 7, .num 9, .mortar, .csa, .egs, .coast, .mem]
  | .generatorPendingStart .. | .sync .. | .masterAdopt .. | .syncTimeout .. => p.settling || p ∈ [.num 2, .tide]
  | .cadenceLaunch .. => p.settling || p ∈ [.num 2, .tide, .pins]
  | .delayRequest .. => p ∈ [.num 2, .out]
  | .delayResponse .. => p ∈ [.num 2, .tide, .oct]
  | .syncSend .. | .delayRequestSend .. => p ∈ [.tide, .out]
  | .tideCorrection .. | .slewStep .. => p.settling || p ∈ [.num 2, .num 7, .num 9, .num 14, .tide, .pps, .mortar, .sel, .csa,
    .egs, .coast, .pins, .device, .run, .mem, .slots]
  | .restep .. => p.settling || p ∈ [.num 2, .num 7, .tide, .csa]
  | .ppsEdge .. => p ∈ [.num 1, .num 2, .num 11, .tide, .pps, .faults, .shore]
  | .ppsTimeout .. => p ∈ [.num 1, .num 2, .num 11, .pps, .faults, .shore]
  | .ppsOutPulse .. => p ∈ [.pps]
  | .pllLockLoss .. => p ∈ [.num 1, .num 2, .num 11, .reg, .faults, .wall, .hbm, .sched, .host, .shore, .pins, .device, .run,
    .mem]
  | .frameReceive .. => p ∈ [.num 1, .shore]
  | .notifySend .. | .notifyRetry .. => p ∈ [.num 1, .shore, .out]
  | .transferAbandon .. => p ∈ [.num 11, .shore]
  | .plcaSettingsApply .. => p ∈ [.shore]
  | .flashOperationDone .. | .flashOperationTimeout .. => p ∈ [.num 12, .nv]
  | .warmResetDone .. => p.settling || p ∈ [.num 6, .num 7, .num 9, .num 12, .mortar, .sel, .csa, .egs, .coast, .nv, .device,
    .sram, .mem, .slots]
  | .porNAssertion | .railsRemoved | .jtagInstruction .. => p != .out
  | _ => true

end Sys2Proof.Machine
end

