-- ==== Sys2Proof/Certificates/Slice0/Obligations.lean ====
section
/-!
DEFINITION. The statements for the provers. Each docstring names the rules of spec/ that its clauses follow; OBLIGATIONS.json says
which rules a statement states whole, and what in it is the model's own choice.
-/

section
open Sys2Proof Sys2Proof.Machine

/-- The command at the front of the queue is what a step runs, on the state with the queue's rest. -/
def Obligations.StepRunsTheFrontCommand : Prop :=
  ∀ (s : State) (c : Instr) (r : List Instr), s.pending = c :: r → step s = exec c { s with pending := r }

/-- On an empty queue one edge of TCLK passes (R43, R44; the model's choice, log entry 1): TIDE_NOW advances by 1 modulo 2^64,
and with no teardown and no answer held nothing else of the wall, the scheduler, the mortar and external memory changes; a
teardown ends at its instant 480. While every block is held in reset nothing happens. -/
def Obligations.EmptyQueuePassesATick : Prop :=
  ∀ s : State, s.pending = [] → (s.held = true → step s = .next s) ∧
    (s.held = false → ∃ t, step s = .next t ∧ t.now = (s.now + 1) % 2 ^ 64 ∧ t.clock = s.clock + 1 ∧ t.pending = [] ∧
      t.hbm.mem = s.hbm.mem ∧
      (s.sched.tear = none → s.hbm.held = [] → s.hbm.heldReplies = [] →
        t.sched = s.sched ∧ t.wall = s.wall ∧ t.hbm = s.hbm ∧ t.mortar = s.mortar) ∧
      (∀ r d, s.sched.run = some r → s.sched.tear = some d → d.at_ ≤ s.clock + 1 → t.sched.run = none ∧ t.sched.tear = none))

/-- Every well-formed command completes, in every state: none ends in a fault or a refusal. -/
def Obligations.WellFormedCommandsNeverStop : Prop :=
  ∀ (c : Instr) (s : State), c.wf = true → ∃ t, exec c s = .next t

/-- No command touches the queue of waiting commands, and what has been put out stays put out. -/
def Obligations.CommandsKeepTheQueueAndTheOutputs : Prop :=
  ∀ (c : Instr) (s t : State), exec c s = .next t → t.pending = s.pending ∧ s.out <+: t.out

/-- Every command leaves every part of the state outside its own parts as it was. -/
def Obligations.FrameOfEveryCommand : Prop :=
  ∀ (c : Instr) (s t : State) (p : Part), exec c s = .next t → mayChange p c = false → p.same s t

/-- The invariant of a run: external memory in canonical form, TIDE_NOW a number of 64 bits (R42), every waiting command
well-formed. Every step from a state that has it answers a next state, and that state has it. -/
def Obligations.InvariantIsKeptByEveryStep : Prop :=
  ∀ s : State, s.memoryOk → s.now < 2 ^ 64 → s.queueOk →
    ∃ t, step s = .next t ∧ t.memoryOk ∧ t.now < 2 ^ 64 ∧ t.queueOk

/-- R868: no step changes the OTP; a cold reset only finds out whether it can be read (R909). -/
def Obligations.OtpIsNeverWritten : Prop :=
  ∀ s t : State, step s = .next t → { t.nv.otp with bad := s.nv.otp.bad } = s.nv.otp ∧
    ((∀ c r, s.pending ≠ .coldReset c :: r) → t.nv.otp = s.nv.otp)

/-- R43, R56: no command takes TIDE_NOW back, and none moves it on by more than two, but for a restep, a sync that an unaligned
chip takes its tide from (R87), and the resets. -/
def Obligations.TideNeverDecreases : Prop :=
  ∀ (c : Instr) (s t : State), exec c s = .next t → s.now + 2 < 2 ^ 64 →
    c ≠ .restep → (∀ p m x, c ≠ .sync p m x) → (∀ x, c ≠ .coldReset x) → c ≠ .porNAssertion → c ≠ .railsRemoved →
    (∀ n, c ≠ .jtagInstruction n) → s.now ≤ t.now ∧ t.now ≤ s.now + 2

/-- The state after reset has the invariant: an empty queue, memory with nothing listed, no job, the lease FREE. -/
def Obligations.ResetMeetsTheInvariant : Prop :=
  let s := State.reset
  s.memoryOk ∧ s.now = 0 ∧ s.queueOk ∧ s.pending = [] ∧ s.hbm.mem = [] ∧ s.num Obj.TIDE_STATE = 0 ∧ s.shore.lease = 0 ∧
    s.sched.run = none ∧ s.sched.slots = [] ∧ s.powerState = 0 ∧ s.nv.ready = true ∧ s.held = false

/-- R597, and R86, R697, R802, R864, R955 in part: what a cold reset leaves, whatever it finds. -/
def Obligations.ColdResetLeavesTheStatedState : Prop :=
  ∀ (s : State) (c : ColdStart), c.addr < 64 → c.boot < 4 → (s.pins.off = true ∨ s.pins.por = true) →
    jtagHolds s.pins.jtag = false →
    ∃ t, exec (.coldReset c) s = .next t ∧ t.egs.free = [] ∧ (∀ e, t.retireHead e = 0 ∧ t.retireTail e = 0) ∧
      t.egs.ringHead = 0 ∧ t.egs.ringWork = [] ∧ t.egs.flips = [] ∧ t.num Obj.TIDE_STATE = 0 ∧ t.sched.slots = [] ∧ t.sched.entries = [] ∧
      t.num Obj.LOG_WRITTEN = 0 ∧ t.num Obj.LOG_READ = 0 ∧ t.faults.ring = [] ∧ t.shore.lease = 0 ∧
      t.shore.delegated = false ∧ t.shore.sources = [] ∧ t.shore.transfers = [] ∧ t.shore.queue = [] ∧ t.shore.noteSeq = 0 ∧
      t.powerState = 0 ∧ t.num Obj.LULL_HELD = 0 ∧ t.power.tests = []

/-- R85, R1002: while every block is held in reset a well-formed command changes nothing, but for the resets, the pins and the
trip comparators. -/
def Obligations.HeldDeviceIgnoresCommands : Prop :=
  ∀ (c : Instr) (s : State), c.wf = true → s.held = true →
    (∀ x, c ≠ .coldReset x) → c ≠ .porNAssertion → c ≠ .railsRemoved → (∀ n, c ≠ .jtagInstruction n) → c ≠ .thermalTrip →
    (∀ n v, c ≠ .shoreInputEdge n v) → exec c s = .next s

/-- R266: a conversion whose source value the target can represent gives that value and raises no event, in every rounding mode
and with SATURATE 0 or 1: `y` is the target's pattern of the value m × 2^e, in whatever form m and e carry it. -/
def Obligations.RepresentableValuesConvertExactly : Prop :=
  ∀ (f : Fmt) (mode : Round) (saturate neg : Bool) (y m n : Nat) (e d : Int),
    (f.cls = 0 ∧ f.width = 1 + f.exp + f.mant ∧ 1 ≤ f.exp ∨ f.cls = 1 ∧ f.exp = 0 ∨ f.cls = 3) → 1 ≤ f.width → y < 2 ^ f.width →
    (∀ r, mode = .stochastic r → r < 65536) →
    decodeNum f y = .fin neg n d → m * 2 ^ (e - min e d).toNat = n * 2 ^ (d - min e d).toNat →
    convertNum f mode saturate (.fin neg m e) = { bits := y, sat := false, nan := false }

/-- R272: ADD, SUB, MUL and NEG of integers, ABS, MIN and MAX give the exact result where the format holds it, with no event,
and else the nearest limit of the format with a saturation event. -/
def Obligations.IntegerArithmeticSaturates : Prop :=
  ∀ (f : Fmt) (a b c : Nat), f.cls = 1 → f.exp = 0 → 1 ≤ f.width →
    let v := fun x : Nat => if f.signed then toSigned f.width x else ((x % 2 ^ f.width : Nat) : Int)
    let gives := fun (op : Nat) (r : Int) =>
      (f.lo ≤ r → r ≤ f.hi → v (arithElem f op a b c).bits = r ∧ (arithElem f op a b c).sat = false) ∧
      (r < f.lo → v (arithElem f op a b c).bits = f.lo ∧ (arithElem f op a b c).sat = true) ∧
      (f.hi < r → v (arithElem f op a b c).bits = f.hi ∧ (arithElem f op a b c).sat = true)
    gives 0 (v a + v b) ∧ gives 1 (v a - v b) ∧ gives 2 (v a * v b) ∧ gives 3 (v a * v b + v c) ∧ gives 4 (min (v a) (v b)) ∧
      gives 5 (max (v a) (v b)) ∧ gives 6 (v a).natAbs ∧ gives 7 (-v a)

/-- R50, R51, R89, R1037: a pending generator, with parameters as R72 admits them, starts when the chip is MASTER or LOCKED. -/
def Obligations.PendingGeneratorStartsFromPhase : Prop :=
  ∀ (g : Nat) (s : State), g < 16 → s.held = false → s.startPending g = true → s.aligned = true →
    let p := s.num (Obj.PHASE g)
    let n := s.num (Obj.NUMERATOR g)
    let d := s.num (Obj.DENOMINATOR g)
    let i := s.num (Obj.PERIOD_INT g)
    n < d →
    let k := if s.now + 16 ≤ p then 0 else ((s.now + 16 - p) * d + (i * d + n) - 1) / (i * d + n)
    ∃ t, exec (.generatorPendingStart g) s = .next t ∧ t.startPending g = false ∧
      (k = 0 → t.num (Obj.NEXT_LAUNCH g) = p ∧ t.num (Obj.ACCUMULATOR g) = 0 ∧
        t.num (Obj.SKIPPED g) = s.num (Obj.SKIPPED g)) ∧
      (k ≠ 0 → t.num (Obj.NEXT_LAUNCH g) = (p + k * i + k * n / d) % 2 ^ 64 ∧ t.num (Obj.ACCUMULATOR g) = k * n % d ∧
        t.num (Obj.SKIPPED g) = (s.inc32 (Obj.SKIPPED g) k).num (Obj.SKIPPED g)) ∧
      t.num (Obj.LAUNCH_COUNT g) = s.num (Obj.LAUNCH_COUNT g)

/-- R48, R49, R52, R53. -/
def Obligations.LaunchAdvancesTheGenerator : Prop :=
  ∀ (g : Nat) (s : State), g < 16 → s.held = false → s.num (Obj.ENABLE g) = 1 → s.startPending g = false →
    s.num (Obj.NEXT_LAUNCH g) ≤ s.now →
    let a := s.num (Obj.ACCUMULATOR g) + s.num (Obj.NUMERATOR g)
    let d := s.num (Obj.DENOMINATOR g)
    let p := s.num (Obj.NEXT_LAUNCH g) + s.num (Obj.PERIOD_INT g)
    ∃ t, exec (.cadenceLaunch g) s = .next t ∧
      (d ≤ a → t.num (Obj.ACCUMULATOR g) = a - d ∧ t.num (Obj.NEXT_LAUNCH g) = (p + 1) % 2 ^ 64) ∧
      (a < d → t.num (Obj.ACCUMULATOR g) = a ∧ t.num (Obj.NEXT_LAUNCH g) = p % 2 ^ 64) ∧
      t.num (Obj.LAUNCH_COUNT g) = (s.inc64 (Obj.LAUNCH_COUNT g) 1).num (Obj.LAUNCH_COUNT g) ∧ t.now = s.now

/-- R62, R70, Table 2-3: what the chip sends on the TIDE channel of every active port, and nothing else changes. R63. R62, R56:
a delay request is answered on its port with the time of its receipt; the response gives half the difference of the two round
trips as the delay of the port. -/
def Obligations.TideOrderedSetsAreExchanged : Prop :=
  (
  (∀ s : State, s.held = false → s.isMaster = true → s.tide.nextSync ≤ s.now → s.tideAt 0 4096 = true →
    exec .syncSend s = .next { s with
      out := s.out ++ s.upPorts.map (fun p => .tide p (sosOctets (s.sos 1)))
      tide := { s.tide with nextSync := (s.now / 4096 + 1) * 4096, seqOut := (s.tide.seqOut + 1) % 65536 } }) ∧
  (∀ s : State, s.held = false → s.tide.nextDelay ≤ s.now → s.tideAt 0x800 4096 = true →
    ∃ r, exec .delayRequestSend s = .next { s with
      out := s.out ++ s.upPorts.map (fun p => .tide p (sosOctets (s.sos 2)))
      tide := { s.tide with requestAt := r, nextDelay := s.now / 4096 * 4096 + 4096 + 0x800 } } ∧
    (∀ p ∈ s.upPorts, Store.get (fun _ => 0) r p = s.now * 96 + s.txSub + 1) ∧
    ∀ p, p ∉ s.upPorts → Store.get (fun _ => 0) r p = Store.get (fun _ => 0) s.tide.requestAt p)
  ) ∧ (
  ∀ (s : State) (p sub : Nat) (l : List Byte), s.held = false → p < 8 → sub < 96 → s.num (Obj.PORT_STATE p) = 2 →
    State.sosOk (parseSos l) = false →
    exec (.sync p l sub) s = .next (s.inc32 Obj.SOS_REJECTED 1) ∧
    exec (.delayRequest p l sub) s = .next (s.inc32 Obj.SOS_REJECTED 1) ∧
    exec (.delayResponse p l sub) s = .next (s.inc32 Obj.SOS_REJECTED 1)
  ) ∧ (
  ∀ (s : State) (p sub : Nat) (l : List Byte), s.held = false → p < 8 → sub < 96 → s.num (Obj.PORT_STATE p) = 2 →
    let m := parseSos l
    State.sosOk m = true →
    (m.kind = 2 → exec (.delayRequest p l sub) s = .next { s with
      out := s.out ++ [.tide p (sosOctets { s.sos 3 with seq := m.seq, reqRxTide := s.now, reqRxSub := sub })] }) ∧
    (m.kind = 3 → ∀ sent, Store.get (fun _ => 0) s.tide.requestAt p = sent + 1 →
      ∀ d : Nat, ((s.now * 96 + sub : Nat) - sent : Int) -
        ((m.tideAtTx * 96 + m.txSub : Nat) - (m.reqRxTide * 96 + m.reqRxSub : Nat)) = d →
      ∃ r o, exec (.delayResponse p l sub) s = .next { s with oct := o, tide := { s.tide with requestAt := r } } ∧
        Store.getMany Obj.octDefault o (Obj.PORT_DELAY * 65536 + p * 4) 4 = leBytes 4 (d / 2 % 2 ^ 32) ∧
        (∀ x, x < Obj.PORT_DELAY * 65536 + p * 4 ∨ Obj.PORT_DELAY * 65536 + p * 4 + 4 ≤ x →
          Store.get Obj.octDefault o x = Store.get Obj.octDefault s.oct x) ∧
        Store.get (fun _ => 0) r p = 0 ∧ ∀ i, i ≠ p → Store.get (fun _ => 0) r i = Store.get (fun _ => 0) s.tide.requestAt i)
  )

/-- R87, R62, R64, Table 2-5: a sync is counted and timed; a FREE chip takes its master; a chip with another master waits for
the next multiple of 4,096; a sync from the upstream port gives the hops, the offset and the tide state, and a chip never
aligned sets its tide. That a chip in HOLDOVER takes the master that a sync names is the model's reading (log entry 156). -/
def Obligations.SyncIsTaken : Prop :=
  ∀ (s : State) (p sub : Nat) (l : List Byte), s.held = false → p < 8 → sub < 96 → s.num (Obj.PORT_STATE p) = 2 →
    let m := parseSos l
    State.sosOk m = true → m.kind = 1 →
    let target := m.tideAtTx * 96 + m.txSub + s.portDelay p
    let off : Int := (target : Int) - (s.now * 96 + sub : Nat)
    let own := m.master = s.num Obj.MASTER_ADDR ∧ m.master ≠ s.addr
    let takes := s.num Obj.TIDE_STATE = 0 ∨
      (s.num Obj.TIDE_STATE = 4 ∧ m.master ≠ s.num Obj.MASTER_ADDR ∧ m.master ≠ s.addr)
    ∃ t, exec (.sync p l sub) s = .next t ∧ t.tide.lastSync = s.clock ∧
      t.num Obj.SOS_RECEIVED = (s.inc32 Obj.SOS_RECEIVED 1).num Obj.SOS_RECEIVED ∧
      (takes → t.num Obj.MASTER_ADDR = m.master) ∧ (¬takes → t.num Obj.MASTER_ADDR = s.num Obj.MASTER_ADDR) ∧
      (¬takes → m.master ≠ s.num Obj.MASTER_ADDR → m.master ≠ s.addr → s.tide.pending = none →
        rank (bit m.flags 0) m.master < s.masterRank →
        t.tide.pending = some (m.master, bit m.flags 0) ∧ t.tide.adoptAt = (s.now / 4096 + 1) * 4096) ∧
      (takes ∨ own → t.num Obj.UPSTREAM_PORT = p →
        t.num Obj.HOP_COUNT = m.hop + 1 ∧
        t.num Obj.OFFSET_LAST = State.offsetField off ∧
        (s.num Obj.TIDE_STATE ≠ 0 → s.num Obj.TIDE_STATE ≠ 5 → s.tide.everAligned = true → t.now = s.now ∧
          t.num Obj.TIDE_STATE = if off.natAbs ≤ 96 then 2 else if off.natAbs ≤ 6144 then 3 else 5) ∧
        (s.num Obj.TIDE_STATE = 0 ∨ s.tide.everAligned = false →
          t.now = target / 96 % 2 ^ 64 ∧ t.num Obj.TIDE_STATE = 2))

/-- R64, R55, R80, R84, Table 2-5: adoption of a master, mastership by silence and HOLDOVER. That a MASTER that has adopted
another chip is its own master again after 65,536 ticks of silence is the model's choice (log entry 129). -/
def Obligations.MastershipFollowsTheSyncs : Prop :=
  (∀ (s : State) (a : Nat) (pps : Bool), s.held = false → s.tide.pending = some (a, pps) → s.tide.adoptAt ≤ s.now →
    (a ≠ s.addr → exec .masterAdopt s = .next { (s.setNum Obj.MASTER_ADDR a).setNum Obj.UPSTREAM_PORT 255 with
      tide := { s.tide with pending := none, masterPps := pps, portHop := [] } }) ∧
    (a = s.addr → ∃ t, exec .masterAdopt s = .next t ∧ t.num Obj.MASTER_ADDR = s.addr ∧ t.num Obj.UPSTREAM_PORT = 255 ∧
      t.num Obj.HOP_COUNT = 0 ∧ t.num Obj.TIDE_STATE = 1 ∧ t.tide.pending = none ∧ t.now = s.now)) ∧
  (∀ s : State, s.held = false → s.num Obj.TIDE_STATE = 2 ∨ s.num Obj.TIDE_STATE = 3 → 12288 ≤ s.clock - s.tide.lastSync →
    exec .syncTimeout s = .next { ((s.setNum Obj.TIDE_STATE 4).inc32 Obj.LOCK_LOSSES 1).eventNote 0x0820 9 0 0 with
      tide := { s.tide with holdSince := s.clock, portHop := [] } }) ∧
  (∀ s : State, s.held = false →
    (s.num Obj.TIDE_STATE = 0 ∧ 65536 ≤ s.clock - s.tide.lastSync) ∨
      (s.num Obj.TIDE_STATE = 1 ∧ s.num Obj.MASTER_ADDR ≠ s.addr ∧ 65536 ≤ s.clock - s.tide.lastSync) ∨
      (s.num Obj.TIDE_STATE = 4 ∧ max s.tide.holdSince s.tide.lastSync + 65536 ≤ s.clock) →
    ∃ t, exec .syncTimeout s = .next t ∧ t.num Obj.MASTER_ADDR = s.addr ∧ t.num Obj.TIDE_STATE = 1 ∧
      t.num Obj.UPSTREAM_PORT = 255 ∧ t.num Obj.HOP_COUNT = 0 ∧ t.now = s.now)

/-- R56, R57, R81: a correction holds the tide or advances it by two in one TCLK cycle and takes 96 root cycles from the
offset; a slewing chip is LOCKED again within 96. R82, Table 2-5: a chip in STEP_PENDING that no job owns takes the master's
value and is LOCKED. -/
def Obligations.CorrectionsAndRestepMoveTheTide : Prop :=
  (
  (∀ s : State, s.held = false → s.num Obj.TIDE_STATE = 2 ∨ (s.isMaster = true ∧ s.ppsLock = true) →
    96 ≤ s.tide.offset.natAbs → s.correctionFree 1024 = true →
    let drift := if s.tide.rateDen = 0 ∨ s.num Obj.TIDE_STATE ≠ 2 then 0
      else (s.tide.rateRem + s.tide.rateNum) / (s.tide.rateDen : Int)
    ∃ t, exec .tideCorrection s = .next t ∧ t.clock = s.clock + 1 ∧ t.tide.lastCorrection = some s.clock ∧
      t.num Obj.CORRECTIONS = (s.inc32 Obj.CORRECTIONS 1).num Obj.CORRECTIONS ∧
      (0 < s.tide.offset → t.now = (s.now + 2) % 2 ^ 64 ∧ t.tide.offset = s.tide.offset + drift - 96) ∧
      (s.tide.offset < 0 → t.now = s.now % 2 ^ 64 ∧ t.tide.offset = s.tide.offset + drift + 96)) ∧
  (∀ s : State, s.held = false → s.num Obj.TIDE_STATE = 3 → s.correctionFree 64 = true →
    (s.tide.offset.natAbs ≤ 96 → ∃ t, exec .slewStep s = .next t ∧ t.num Obj.TIDE_STATE = 2 ∧ t.now = s.now ∧
      t.tide.offset = s.tide.offset) ∧
    (96 < s.tide.offset.natAbs → ∃ t, exec .slewStep s = .next t ∧ t.clock = s.clock + 1 ∧
      t.num Obj.CORRECTIONS = (s.inc32 Obj.CORRECTIONS 1).num Obj.CORRECTIONS ∧
      t.num Obj.TIDE_STATE = (if t.tide.offset.natAbs ≤ 96 then 2 else 3) ∧
      (0 < s.tide.offset → t.now = (s.now + 2) % 2 ^ 64 ∧ t.tide.offset = s.tide.offset - 96) ∧
      (s.tide.offset < 0 → t.now = s.now % 2 ^ 64 ∧ t.tide.offset = s.tide.offset + 96)))
  ) ∧ (
  ∀ s : State, s.held = false → s.num Obj.TIDE_STATE = 5 → s.chipFree = true →
    ∃ t, exec .restep s = .next t ∧ t.now = (((s.now : Int) * 96 + s.tide.offset) / 96).toNat % 2 ^ 64 ∧
      t.tide.offset = ((s.now : Int) * 96 + s.tide.offset) % 96 ∧ t.num Obj.TIDE_STATE = 2 ∧ t.clock = s.clock ∧
      ∀ g, g < 16 → s.num (Obj.ENABLE g) ≠ 1 → t.num (Obj.NEXT_LAUNCH g) = s.num (Obj.NEXT_LAUNCH g)
  )

/-- R66, R67, R68, R69, R78: edges of PPS_IN, their labels, PPS lock and the pulses of PPS_OUT. What an interval adds to the
master's offset is the model's choice (log entry 155). R85, R781: loss of the root PLL's lock holds every block in reset, ends
the job and loses HBM. -/
def Obligations.PpsAndPllEventsAct : Prop :=
  (
  (∀ (s : State) (sub high : Nat), s.held = false → sub < 96 → 50 ≤ high →
    let fresh := s.pps.labelCycle == s.lclk + 1
    let label := if fresh then s.pps.labelWas else s.pps.label
    ∃ t, exec (.ppsEdge sub high) s = .next t ∧ t.pps.lastEdge = some (s.now * 96 + sub) ∧
      t.num Obj.PPS_EDGES = (s.inc32 Obj.PPS_EDGES 1).num Obj.PPS_EDGES ∧
      (∀ l, label = some l → t.num Obj.TIDE_AT_EDGE = s.now ∧ t.num Obj.TAI_AT_EDGE = l ∧
        t.pps.label = (if fresh then s.pps.label else some ((l + 1) % 2 ^ 64)) ∧ t.pps.mapped = true) ∧
      (label = none → t.pps.label = s.pps.label ∧ t.num Obj.TAI_AT_EDGE = s.num Obj.TAI_AT_EDGE) ∧
      (∀ e, s.pps.lastEdge = some e →
        let d : Int := (s.now * 96 + sub : Nat) - (e : Int)
        ((d - 4800000000).natAbs ≤ 48000 → t.pps.inRange = s.pps.inRange + 1 ∧
          (s.ppsLock = true → s.isMaster = true → t.tide.offset = s.tide.offset + (4800000000 - (d - s.pps.corr))) ∧
          (3 ≤ s.pps.inRange → s.num Obj.PPS_LOCK ≤ 1 → t.num Obj.PPS_LOCK = 1) ∧
          (s.pps.inRange < 3 → t.num Obj.PPS_LOCK = s.num Obj.PPS_LOCK)) ∧
        (48000 < (d - 4800000000).natAbs → t.pps.inRange = 0 ∧ t.num Obj.PPS_LOCK = 0 ∧
          t.num Obj.PPS_OUT_OF_RANGE = (s.inc32 Obj.PPS_OUT_OF_RANGE 1).num Obj.PPS_OUT_OF_RANGE))) ∧
  (∀ (s : State) (e : Nat), s.held = false → s.pps.lastEdge = some e → s.num Obj.PPS_LOCK = 1 →
    e + 50005000 * 96 ≤ s.now * 96 →
    ∃ t, exec .ppsTimeout s = .next t ∧ t.num Obj.PPS_LOCK = 0 ∧ t.pps = { s.pps with inRange := 0 } ∧ t.tide = s.tide) ∧
  (∀ s : State, s.held = false → s.pps.mapped = true → s.num Obj.TIDE_AT_EDGE ≤ s.now →
    let k := (s.now - s.num Obj.TIDE_AT_EDGE) / 50000000
    s.pps.lastPulse ≠ some ((s.num Obj.TAI_AT_EDGE + k) % 2 ^ 64) →
    exec .ppsOutPulse s = .next { s with pps := { s.pps with
      lastPulse := some ((s.num Obj.TAI_AT_EDGE + k) % 2 ^ 64)
      outUntil := s.num Obj.TIDE_AT_EDGE + k * 50000000 + 500000 } })
  ) ∧ (
  ∀ s : State, s.held = false →
    ∃ t, exec .pllLockLoss s = .next t ∧ t.held = true ∧ t.pins.pllLost = true ∧ t.num Obj.PLL_STATE = 0 ∧
      t.sched.run = none ∧ t.sched.tear = none ∧ t.wall.closed = true ∧ t.hbm.mem = [] ∧ t.faults.device = true ∧ t.tide = s.tide
  )

/-- R155, R156, R158, R161, R163, R165: the chosen op of a brick dispatches by its kind: FIRINGS_LEFT falls, COUNTER takes
RELOAD less EARLY, pending inputs are captured, and the brick dispatches once in the bc. A TEMPLATE op executes; a RELAY op is
over in the next bc and sends a token to each of its successors; END marks the end of the job. In which bc a RELAY's same-brick
token changes its COUNTER is the model's choice (log entry 160). -/
def Obligations.DispatchRunsTheChosenSlot : Prop :=
  (∀ (s : State) (bc b n : Nat), b < 68 * 64 → s.held = false → s.dispatchChoice b bc = some n → s.mayDispatch b bc = true →
    (s.slotAt (b * 256 + n)).parityBad = false → (s.configTouch b n).1 = false →
    let e := s.opEntry b n
    let u := s.slotAt (b * 256 + n)
    let counted := fun (v : Slot) => v.firingsLeft = u.firingsLeft - 1 ∧ v.fired = u.fired + 1 ∧
      (1 < u.firingsLeft → v.counter = e.reload - u.early ∧ v.early = 0) ∧
      (u.firingsLeft ≤ 1 → v.counter = u.counter ∧ v.early = u.early) ∧
      (u.in0.status = .pending → v.in0 = { u.in0 with status := .captured }) ∧
      (u.in1.status = .pending → v.in1 = { u.in1 with status := .captured })
    (e.kind = 0 → ∃ t, exec (.opDispatch bc b) s = .next t ∧ counted (t.slotAt (b * 256 + n)) ∧
      (t.slotAt (b * 256 + n)).executing = true ∧ (t.slotAt (b * 256 + n)).ready = none ∧
      ∀ k, k ≠ b * 256 + n → t.slotAt k = s.slotAt k) ∧
    (e.kind = 1 → ∃ t, exec (.relay bc b) s = .next t ∧ counted (t.slotAt (b * 256 + n)) ∧
      (t.slotAt (b * 256 + n)).executing = false ∧ (t.slotAt (b * 256 + n)).busyTo = bc + 2 ∧
      t.mayDispatch b bc = false ∧
      t.mortar.flight = e.succs.foldl (fun l x =>
        let d := match x.far with
          | some (c, p) => (s.physBrick c p).getD b
          | none => b
        l ++ [{ cls := .tok, src := .brick b, dst := .brick d, tag := 0, parity := s.mortar.parity
                body := .token x.slot x.handleIn 0 0
                due := if b = d then State.tokenSlot l b l.length (bc + 2) else bc + 2 }]) s.mortar.flight) ∧
    (e.kind = 2 → ∃ t, exec (.endOp bc b) s = .next t ∧ counted (t.slotAt (b * 256 + n)) ∧ t.wall.ended = true ∧
      t.mortar.flight = s.mortar.flight ∧ t.mayDispatch b bc = false)) ∧
  (∀ (s : State) (bc b n : Nat) (x : Bool),
    ((s.dispatchSlot b bc n x).brickAt b).lastDispatch = some bc ∧
      (s.dispatchSlot b bc n x).slotAt (b * 256 + n) = State.dispatched (s.slotAt (b * 256 + n)) (s.opEntry b n) x)

/-- R149, R156, R160, R168: a firing whose results have left and whose writes are accepted completes, and its brick is free for
the next bc. -/
def Obligations.CompletionFreesTheBrick : Prop :=
  ∀ (s : State) (bc b : Nat) (f : Firing), b < 68 * 64 → s.held = false → (s.brickAt b).firing = some f → s.wallRuns = true →
    s.bcOpen bc = true → f.at_ < bc → f.phase = .finished → f.segs.all Segment.done = true →
    ∃ t, exec (.firingComplete bc b) s = .next t ∧ (t.brickAt b).firing = none ∧ (t.brickAt b).freeAt = bc + 1 ∧
      (t.slotAt (b * 256 + f.slot)).executing = false ∧ t.wall.bc = bc ∧ t.wall.sram = s.wall.sram

/-- R153, R154, R163, R180: a token lowers the COUNTER of its slot, or counts as early where COUNTER is 0; the slot is ready
when COUNTER reaches 0; a handle goes to the input register that HANDLE_IN names. -/
def Obligations.TokensLowerTheCounter : Prop :=
  ∀ (s : State) (bc b n hin h fill : Nat) (m : Msg), s.delivers m → m.dst = .brick b → m.body = .token n hin h fill →
    s.mayApply b bc m = true →
    let x := s.slotAt (b * 256 + n)
    x.parityBad = false → x.firingsLeft ≠ 0 → (x.counter = 0 → x.early < 255) →
    (hin = 1 → x.in0.status ≠ .pending) → (hin = 2 → x.in1.status ≠ .pending) →
    ∃ t, exec (.token bc m) s = .next t ∧ t.mortar = (s.ejected m).mortar ∧ t.faults = s.faults ∧ t.wall.bc = bc ∧
      let y := t.slotAt (b * 256 + n)
      (0 < x.counter → y.counter = x.counter - 1 ∧ y.early = x.early ∧ (x.counter = 1 → y.ready = some bc) ∧
        (x.counter ≠ 1 → y.ready = x.ready)) ∧
      (x.counter = 0 → y.counter = 0 ∧ y.early = x.early + 1 ∧ y.ready = x.ready) ∧
      y.in0 = (if hin = 1 then { status := .pending, handle := h, fill := fill } else x.in0) ∧
      y.in1 = (if hin = 2 then { status := .pending, handle := h, fill := fill } else x.in1) ∧
      y.firingsLeft = x.firingsLeft ∧ ∀ k, k ≠ b * 256 + n → t.slotAt k = s.slotAt k

/-- R166, R167, R675: the running job ends when its books are done: the chip is free and its entry is owed. -/
def Obligations.JobEndFreesTheChip : Prop :=
  ∀ (s : State) (r : Run) (failed : List Nat), s.held = false → s.sched.run = some r → s.sched.tear = none →
    (r.job.maint = none → s.jobDone = true →
      ∃ t, exec (.jobEnd failed) s = .next t ∧ t.sched.run = none ∧ t.tide = s.tide ∧ t.hbm.mem = s.hbm.mem ∧
        t.wall.sram = s.wall.sram) ∧
    (∀ k b, r.job.maint = some (k, b) → s.faults.reports = [] →
      ∃ t, exec (.jobEnd failed) s = .next t ∧ t.sched.run = none ∧ t.tide = s.tide)

/-- R96, R134, R135, R214 to R216: a far brick answers a read with the octets of its SRAM, and with a read failure where a word
that it touches is uncorrectable; SRAM stands. R96, R98, R127, R214, R215: a far brick writes its SRAM and answers write
accepted; no other octet of the wall changes. -/
def Obligations.RemoteAccessesReachTheSram : Prop :=
  (
  ∀ (s : State) (m : Msg) (b off n : Nat), s.delivers m → m.dst = .brick b → m.body = .readReq off n →
    ((∀ w ∈ State.sramWords b off n, w ∉ s.wall.sramUe ∧ w ∉ s.wall.sramCe) →
      exec (.remoteRead m) s = .next ((s.ejected m).send .rsp m.dst m.src m.tag
        (State.readAnswer m.src (Store.getMany s.wall.sramDefault s.wall.sram (b * 2 ^ 18 + off) n)))) ∧
    ((∃ w ∈ State.sramWords b off n, w ∈ s.wall.sramUe) →
      ∃ t, exec (.remoteRead m) s = .next t ∧ t.wall.sram = s.wall.sram ∧
        t.mortar.flight = (s.ejected m).mortar.flight ++ [{ cls := .rsp, src := m.dst, dst := m.src, tag := m.tag, parity := s.mortar.parity, body := .readFailed 1 }])
  ) ∧ (
  ∀ (s : State) (m : Msg) (b off : Nat) (d : List Byte), s.delivers m → m.dst = .brick b → m.body = .writeReq off d →
    (∀ w ∈ State.partialWords b off d.length, w ∉ s.wall.sramUe) →
    ∃ t, exec (.remoteWrite m) s = .next t ∧
      Store.getMany t.wall.sramDefault t.wall.sram (b * 2 ^ 18 + off) d.length = d ∧
      (∀ a, a < b * 2 ^ 18 + off ∨ b * 2 ^ 18 + off + d.length ≤ a →
        Store.get t.wall.sramDefault t.wall.sram a = Store.get s.wall.sramDefault s.wall.sram a) ∧
      (∀ w ∈ State.sramWords b off d.length, w ∉ t.wall.sramUe ∧ w ∉ t.wall.sramCe) ∧
      t.mortar.flight = (s.ejected m).mortar.flight ++ [{ cls := .rsp, src := m.dst, dst := m.src, tag := m.tag, parity := s.mortar.parity, body := .writeAccepted 0 }] ∧
      t.hbm.mem = s.hbm.mem ∧ t.sched = s.sched
  )

/-- R149, R214, R219, R450, R453, R454, R475, R476: an answer goes to the request of the firing of its brick that holds its
tag: the data of a read is kept, a firing that writes is over with its last acceptance, and a failure faults its op. -/
def Obligations.AnswersGoToTheFiring : Prop :=
  (∀ (s : State) (m : Msg) (b : Nat) (f : Firing), s.delivers m → m.dst = .brick b → (s.brickAt b).firing = some f →
    let mine := fun (hbm : Bool) (x : Segment) => x.tag == some m.tag && !x.done && x.hbm == hbm
    let taken := fun (hbm : Bool) (d : List Byte) => f.segs.map (fun x => if mine hbm x then { x with done := true, data := d } else x)
    let kept := fun (c : Instr) (g : Firing) => ∃ t, exec c s = .next t ∧ (t.brickAt b).firing = some g ∧
      t.mortar = (s.ejected m).mortar ∧ t.faults = s.faults ∧ t.wall.sram = s.wall.sram
    let reads := fun (c : Instr) (hbm : Bool) (d : List Byte) => f.phase = .gather →
      (f.segs.find? (mine hbm)).any (fun g => g.stream != 2) = true → (∀ x ∈ f.segs, x.done = true ∨ x.tag.isSome = true) →
      (∃ x ∈ f.segs, x.done = false ∧ mine hbm x = false) → kept c { f with segs := taken hbm d }
    let writes := fun (c : Instr) (hbm : Bool) => f.phase = .writing →
      (f.segs.find? (mine hbm)).any (fun g => g.stream == 2) = true → (∀ x ∈ f.segs, x.done = true ∨ mine hbm x = true) →
      kept c { f with segs := taken hbm [], phase := .finished }
    let fails := fun (c : Instr) (hbm : Bool) (code : Nat) => code ≠ 0 → f.faulted = false →
      (f.segs.find? (mine hbm)).isSome = true →
      ∃ t r, exec c s = .next t ∧ t.mortar = (s.ejected m).mortar ∧ t.faults.reports = s.faults.reports ++ [r] ∧
        r.code = code ∧ r.phys = b / 64 ∧ r.pos = b % 64 ∧ r.slot = f.slot ∧
        ∃ g, (t.brickAt b).firing = some g ∧ g.faulted = true ∧ g.phase = .finished ∧ g.slot = f.slot
    (∀ d, m.body = .readData d → reads (.readData m) false d) ∧
    (∀ d, m.body = .hbmReadData d → reads (.hbmReadData m) true d) ∧
    (m.body = .writeAccepted 0 → writes (.writeAccepted m) false) ∧
    (m.body = .hbmWriteAccepted 0 → writes (.hbmWriteAccepted m) true) ∧
    (∀ st, m.body = .writeAccepted st → fails (.writeAccepted m) false (brickStatus st)) ∧
    (∀ st, m.body = .readFailed st → fails (.readFailed m) false (brickStatus st)) ∧
    (∀ st, m.body = .hbmWriteAccepted st → fails (.hbmWriteAccepted m) true (hbmStatus st true)) ∧
    (∀ st, m.body = .hbmReadFailed st → fails (.hbmReadFailed m) true (hbmStatus st false))) ∧
  (∀ (s : State) (m : Msg) (b : Nat), s.delivers m → m.dst = .brick b → (s.brickAt b).firing = none →
    (s.brickAt b).posted = [] →
    (∀ d, m.body = .readData d → exec (.readData m) s = .next (s.ejected m)) ∧
    (∀ st, m.body = .writeAccepted st → exec (.writeAccepted m) s = .next (s.ejected m)) ∧
    (∀ st, m.body = .readFailed st → exec (.readFailed m) s = .next (s.ejected m)) ∧
    (∀ d, m.body = .hbmReadData d → exec (.hbmReadData m) s = .next (s.ejected m)) ∧
    (∀ st, m.body = .hbmWriteAccepted st → exec (.hbmWriteAccepted m) s = .next (s.ejected m)) ∧
    (∀ st, m.body = .hbmReadFailed st → exec (.hbmReadFailed m) s = .next (s.ejected m)))

/-- R236 to R239, R229, Table 5-9: what an upset on the way does to a message of the running job. -/
def Obligations.UpsetFlitsHaveTheirOutcome : Prop :=
  ∀ (s : State) (m : Msg) (k : State → Bool → State), s.nextInFlight m = true → s.wall.closed = false →
    let e := s.ejected m
    (e.msgLegal m = true → m.upset = {} → s.arrive m k = k e false) ∧
    (∀ n, 0 < n → e.msgLegal m = true → m.upset = { headers := n } →
      s.arrive m k = k (e.inc32 Obj.HEADER_CORRECTED n) false) ∧
    (∀ n, 0 < n → e.msgLegal m = true → m.upset = { words := n } →
      s.arrive m k = k ((e.inc32 Obj.FLIT_CORRECTED n).setSticky Obj.MORTAR_STICKY 0) false) ∧
    (e.msgLegal m = true → m.upset = { poisoned := true } →
      s.arrive m k = k ((e.inc32 Obj.FLIT_UNCORRECTED 1).mortarError (routerAt m.dst m.src) 1) true) ∧
    (m.upset.lost.isSome = true ∨ e.msgLegal m = false →
      (s.arrive m k).faults.device = true ∧ (s.arrive m k).mortar.headerFault = true ∧
      (s.sched.run.isSome = true → s.sched.tear = none →
        (s.arrive m k).wall.closed = true ∧ (s.arrive m k).schedState = 4 ∧ (s.arrive m k).sched.tear.isSome = true))

/-- R121, R175: a CFG flit puts its line into the shadow bank of its brick, and the last line of a load makes it ready; no
other octet of the bank changes. -/
def Obligations.BankLineReachesTheShadow : Prop :=
  ∀ (s : State) (b n : Nat) (ld : Load) (j : Job) (p : Nat × List Byte), s.held = false → s.sched.load = some ld →
    s.jobAt ld.client ld.pos = some j → (s.loadLines j.desc.bundle).find? (fun p => p.1 == b * 256 + n) = some p →
    ld.ready = false → b * 256 + n ∉ ld.lines → b < 4096 → n < 256 →
    s.msgLegal { cls := .cfg, src := .south, dst := .brick (s.courseMap.getD (b / 64) 0 * 64 + b % 64), tag := n, parity := 0
                 body := .bankLine p.2 } = true →
    ∃ t, exec (.bankLine b n {}) s = .next t ∧
      Store.getMany zeroByte t.wall.shadow (b * 16384 + n * 64) p.2.length = p.2 ∧
      (∀ a, a < b * 16384 + n * 64 ∨ b * 16384 + n * 64 + p.2.length ≤ a →
        Store.get zeroByte t.wall.shadow a = Store.get zeroByte s.wall.shadow a) ∧
      t.wall.active = s.wall.active ∧ t.wall.sram = s.wall.sram ∧
      t.sched.load = some { ld with
        lines := (b * 256 + n) :: ld.lines
        ready := (s.loadLines j.desc.bundle).all (fun q => ((b * 256 + n) :: ld.lines).contains q.1) }

/-- R299 to R301, R306, R307, R320: an idle selection unit takes the command at the head of its queue by its MODE, and grants
it or refuses it with its code. R293, R297, R311, R314, R315: a unit takes the elements of a data message; with the last of
them it writes its results and sends done. -/
def Obligations.SelectionUnitsWork : Prop :=
  (
  ∀ (s : State) (c : Nat) (x : HubCmd), c < 68 → s.held = false → s.wall.closed = false → s.selHead c = some x →
    (s.sel.run.any fun p => p.1 == c) = false → s.msgLegal (x.message (.unit c) {}) = true →
    let mode := (parseSel x.block).mode
    let code := (s.selCode x.block).1
    let queue := s.sel.queue.erase (c, x)
    let sent := fun (t : State) (body : MsgBody) => t.mortar.flight = s.mortar.flight ++ [{
      cls := .rsp, src := .unit c, dst := .brick x.brick, tag := 0x40, parity := s.mortar.parity, body := body }]
    let takes := fun (i : Instr) =>
      (code = 0 → ∃ t, exec i s = .next t ∧ t.sel = { s.sel with
          queue := queue
          run := s.sel.run ++ [(c, { brick := x.brick, parity := x.parity, block := x.block, taken := 0, rows := [] })] } ∧
        sent t (.selGrant (parseSel x.block).unit)) ∧
      (code ≠ 0 → ∃ t, exec i s = .next t ∧ t.sel.queue = queue ∧ t.sel.run = s.sel.run ∧
        t.num Obj.LAST_FAULT_CODE = code ∧ t.num Obj.SEL_REFUSED = (s.inc32 Obj.SEL_REFUSED 1).num Obj.SEL_REFUSED ∧
        sent t (.selDone code))
    ((mode = 0 ∨ mode = 3) → takes (.select c {})) ∧ (mode = 1 → takes (.unique c {})) ∧ (mode = 2 → takes (.segReduce c {}))
  ) ∧ (
  ∀ (s : State) (m : Msg) (b c : Nat) (l : List Elem) (r : SelRun), s.delivers m → m.src = .brick b → m.dst = .unit c →
    s.sel.run.find? (fun p => p.1 == c && p.2.brick == b) = some (c, r) →
    (s.sel.ue.any fun y => y / 512 == c) = false → (s.sel.ce.any fun y => y / 512 == c) = false →
    let q := parseSel r.block
    (m.body = .selData l false → r.taken + l.length ≤ q.n * q.rows →
      ∃ t, exec (.selData m) s = .next t ∧ t.mortar = (s.ejected m).mortar ∧
        t.sel = { s.sel with run := s.sel.run.map (fun p => if p.1 == c then (p.1, s.selElements r l) else p) }) ∧
    (m.body = .selData l true → r.taken + l.length = q.n * q.rows →
      ∃ t, exec (.selLastData m) s = .next t ∧ t.sel.run = s.sel.run.filter (fun p => p.1 != c) ∧
        t.sel.queue = s.sel.queue ∧
        t.mortar.flight = (s.ejected m).mortar.flight ++
          ((selWrites q ((s.fmtOf q.format).width / 8) (s.selElements r l).rows).map (fun x => MsgBody.selResult x.1 x.2) ++
            [MsgBody.selDone 0]).map (fun x => {
              cls := .rsp, src := .unit c, dst := .brick b, tag := 0x40, parity := s.mortar.parity, body := x }))
  )

/-- R297, R301, R302, R343, R348: a grant lets the brick that waits for it send its elements, cut into data messages, and its
firing is finished. -/
def Obligations.GrantsSendTheElements : Prop :=
  ∀ (s : State) (m : Msg) (b x : Nat) (f : Firing), s.delivers m → m.dst = .brick b → (s.brickAt b).firing = some f →
    f.phase = .waitGrant →
    let elems := fun size : Nat => f.elems.map (fun y => (y.1, y.2 % 2 ^ (8 * size)))
    (∀ c, m.src = .unit c → m.body = .selGrant x →
      let q := parseSel (s.runBlock c)
      let w := if q.seg then 8 else (s.fmtOf q.format).width / 8
      ∃ t, exec (.selGrant m) s = .next t ∧
        (t.brickAt b).firing = some { f with phase := .finished, elems := [] } ∧
        t.mortar.flight = (s.ejected m).mortar.flight ++ (State.dataFlits (56 / w) (elems w)).map (fun y => {
          cls := .req, src := .brick b, dst := .unit c, tag := 0x40, parity := s.mortar.parity, body := .selData y.1 y.2 })) ∧
    (∀ k, m.src = .bank k → m.body = .csaGrant x →
      ∃ t, exec (.csaGrant m) s = .next t ∧
        (t.brickAt b).firing = some { f with phase := .finished, elems := [] } ∧
        t.mortar.flight = (s.ejected m).mortar.flight ++ (State.dataFlits 7 (elems 8)).map (fun y => {
          cls := .req, src := .brick b, dst := .bank k, tag := 0x41, parity := s.mortar.parity, body := .csaData y.1 y.2 }))

/-- R99, R314, R354, R379: a result write of an edge block puts its octets into the SRAM of its brick, and no other octet of
the wall changes. -/
def Obligations.ResultsReachTheSram : Prop :=
  ∀ (s : State) (m : Msg) (b off : Nat) (d : List Byte), s.delivers m → m.dst = .brick b →
    (∀ w ∈ State.partialWords b off d.length, w ∉ s.wall.sramUe) →
    let stored := fun t : State => Store.getMany t.wall.sramDefault t.wall.sram (b * 2 ^ 18 + off) d.length = d ∧
      (∀ a, a < b * 2 ^ 18 + off ∨ b * 2 ^ 18 + off + d.length ≤ a →
        Store.get t.wall.sramDefault t.wall.sram a = Store.get s.wall.sramDefault s.wall.sram a) ∧
      t.mortar = (s.ejected m).mortar ∧ t.hbm = s.hbm ∧ t.sched = s.sched
    (m.body = .selResult off d → ∃ t, exec (.selResultWrite m) s = .next t ∧ stored t) ∧
    (m.body = .csaResult off d → ∃ t, exec (.csaResultWrite m) s = .next t ∧ stored t) ∧
    (m.body = .egsResult off d → ∃ t, exec (.egsResultWrite m) s = .next t ∧ stored t)

/-- R316, R317, R368, R384: done ends the outstanding command of its tag; without a fault the token of the command goes to its
successor, with one the op faults. -/
def Obligations.DonesPassTheToken : Prop :=
  ∀ (s : State) (m : Msg) (b tag : Nat) (o : Outstanding), s.delivers m → m.dst = .brick b →
    (s.brickAt b).out.find? (fun x => x.tag == tag) = some o → (s.brickAt b).firing = none →
    let done := fun (c : Instr) (code : Nat) => ∃ t, exec c s = .next t ∧
      (t.brickAt b).out = (s.brickAt b).out.filter (fun x => x.tag != tag) ∧
      (code ≠ 0 → t.mortar = (s.ejected m).mortar ∧ ∃ f, t.faults.reports = s.faults.reports ++ [f] ∧ f.code = code ∧
        f.phys = b / 64 ∧ f.pos = b % 64 ∧ f.slot = o.slot) ∧
      (code = 0 → o.succEn = false → t.faults = s.faults ∧ t.mortar = (s.ejected m).mortar) ∧
      (code = 0 → ∀ d, o.succEn = true → s.physBrick o.succCourse (o.succPos % 64) = some d → t.faults = s.faults ∧
          t.mortar.flight = (s.ejected m).mortar.flight ++ [{
            cls := .tok, src := .brick b, dst := .brick d, tag := 0, parity := s.mortar.parity
            body := .token o.succSlot 0 0 0
            due := if b = d then State.tokenSlot (s.ejected m).mortar.flight b (s.ejected m).mortar.flight.length (s.wall.bc + 2) else s.wall.bc + 2 }]) ∧
      (code = 0 → o.succEn = true → s.physBrick o.succCourse (o.succPos % 64) = none → t.mortar = (s.ejected m).mortar ∧
        ∃ f, t.faults.reports = s.faults.reports ++ [f] ∧ f.code = 0x0212 ∧ f.slot = o.slot)
    (∀ code, tag = 0x40 → m.body = .selDone code → done (.selDone m) code) ∧
    (∀ code u v g, tag = 0x41 → m.body = .csaDone code u v g → done (.csaDone m) code) ∧
    (∀ code u v g, tag = m.tag → m.body = .egsDone code u v g → done (.egsDone m) code)

/-- R339, R344, R347, R348, R361, R364, R365, R371: an idle bank takes the command at the head of its queue by its OP, and
refuses it with its code where a check fails. A command of a reserved OP is refused in the place of SEARCH, which is the
model's choice of row. -/
def Obligations.BankTakesItsHead : Prop :=
  ∀ (s : State) (b : Nat) (x : HubCmd), b < 64 → s.held = false → s.wall.closed = false →
    (s.csa.queue.find? (fun p => p.1 == b)).map Prod.snd = some x → (s.csaBank b).run = none → (s.csaBank b).state ≠ 1 →
    (s.csaBank b).state ≠ 3 → s.calPause = false → s.msgLegal (x.message (.bank b) {}) = true →
    let q := parseCsa x.block
    let c : Instr := match q.op with
      | 0 => .search b {}
      | 1 => .insert b {}
      | 2 => .delete b {}
      | 3 => .updateData b {}
      | 4 => .csaRead b {}
      | 5 => .bulkLoad b {}
      | 6 => .respace b {}
      | 7 => .clear b {}
      | _ => .search b {}
    let code := s.csaCode b x
    let sent := fun (t : State) (l : List MsgBody) => t.csa.queue = s.csa.queue.erase (b, x) ∧
      t.mortar.flight = s.mortar.flight ++ l.map (fun y => {
        cls := .rsp, src := .bank b, dst := .brick x.brick, tag := 0x41, parity := s.mortar.parity, body := y })
    let gen := (s.csaBank b).gen
    let good := (s.csaBank b).ce = [] ∧ (s.csaBank b).ue = []
    (code ≠ 0 → ∃ t, exec c s = .next t ∧ sent t [.csaDone code 0 0 gen] ∧ (t.csaBank b).run = none ∧
      t.csa.entries = s.csa.entries ∧ t.num Obj.CSA_REFUSED = (s.inc32 Obj.CSA_REFUSED 1).num Obj.CSA_REFUSED) ∧
    (code = 0 → q.op < 6 → q.op ≠ 4 → ∃ t, exec c s = .next t ∧ sent t [.csaGrant b] ∧
      (t.csaBank b).run = some (State.csaRunOf x) ∧ t.csa.entries = s.csa.entries ∧
      (t.csaBank b).gen = if q.op = 5 then (gen + 1) % 65536 else gen) ∧
    (code = 0 → q.op = 4 → good →
      let at_ := (List.range q.count).map (fun n => q.start + n)
      let held := fun i => (s.csaEntry b i).valid
      ∃ t, exec c s = .next t ∧ t.csa.entries = s.csa.entries ∧ (t.csaBank b).run = none ∧
        sent t ((resultWrites q.out (at_.flatMap (fun i => csaRecord (s.csaW b) (if held i then s.csaEntry b i else {})))).map
          (fun y => MsgBody.csaResult y.1 y.2) ++ [.csaDone 0 (at_.filter held).length 0 gen])) ∧
    (code = 0 → q.op = 6 → good →
      let v := s.csaValid b
      let place := fun j => if v.length ≤ s.csaCapacity b then j + j / (s.csaH b - 1) else j * s.csaE b / v.length
      let mv := (numbered 0 v).filter (fun p => place p.1 != p.2.1)
      let put := fun (l : Store CsaEntry) (i : Nat) (e : CsaEntry) => Store.set (fun _ => ({} : CsaEntry)) l (b * 8192 + i) (normEntry e)
      ∃ t, exec c s = .next t ∧ (t.csaBank b).run = none ∧ (t.csaBank b).gen = (gen + 1) % 65536 ∧
        t.csa.entries = mv.foldl (fun l p => put l (place p.1) p.2.2) (mv.foldl (fun l p => put l p.2.1 {}) s.csa.entries) ∧
        sent t [.csaDone 0 0 mv.length ((gen + 1) % 65536)]) ∧
    (code = 0 → q.op = 7 → ∃ t, exec c s = .next t ∧ sent t [] ∧ (t.csaBank b).state = 1 ∧
      (t.csaBank b).run = some (State.csaRunOf x) ∧ (t.csaBank b).gen = (gen + 1) % 65536 ∧
      ∀ i, i < 8192 → t.csaEntry b i = {})

/-- R454, R457, R462, R463, R468, R473, R478: a write request stores its octets in HBM and is accepted; no other octet of HBM
changes. A dead block and an unusable address answer with their status, and nothing is stored; a write in the tick of the
patrol read that retired its block replaces the line (log entry 172). In a calibration pause the answers that wait for service
are kept. R454, R462, R463, R468, R475, R478: a read request gives the octets of HBM; an uncorrectable word, a dead block and
an unusable address answer with a read failure; HBM's octets stand. In a calibration pause the answer is kept until the pause
ends. -/
def Obligations.HbmServesReadsAndWrites : Prop :=
  (
  ∀ (s : State) (m : Msg) (n a : Nat) (d : List Byte), s.delivers m → m.dst = .channel n → m.body = .hbmWrite a d →
    let answer := fun st : Nat => ({
      cls := .rsp, src := m.dst, dst := m.src, tag := m.tag, parity := s.mortar.parity, body := .hbmWriteAccepted st } : Msg)
    let merged := State.mergedLines a d.length
    let answered := fun (t : State) (st : Nat) =>
      (s.calPause = true ∧ (st ≠ 0 ∨ merged ≠ []) → t.mortar.flight = (s.ejected m).mortar.flight ∧
        t.hbm.held = s.hbm.held ++ [answer st]) ∧
      (¬(s.calPause = true ∧ (st ≠ 0 ∨ merged ≠ [])) → t.mortar.flight = (s.ejected m).mortar.flight ++ [answer st] ∧
        t.hbm.held = s.hbm.held)
    let replaced := ∃ p, s.hbm.patrolHit = some p ∧ p.2 = s.clock ∧ d ≠ [] ∧ a / 64 ≤ p.1 ∧ p.1 ≤ (a + d.length - 1) / 64 ∧
      s.pcState (pcOf a) = 0
    (State.addressOk s.runClient a d.length = true → s.hbmDead a = false ∨ replaced →
      (∀ w ∈ s.hbm.ce ++ s.hbm.ue, w / 8 ∉ merged) →
      ∃ t, exec (.hbmWrite m) s = .next t ∧ t.hbmBytes a d.length = d ∧
        (∀ x, x < a ∨ a + d.length ≤ x → t.hbmByte x = s.hbmByte x) ∧ answered t 0 ∧ t.wall = s.wall ∧
        t.sched = s.sched ∧ t.csa = s.csa) ∧
    (State.addressOk s.runClient a d.length = true → s.hbmDead a = true → ¬replaced →
      ∃ t, exec (.hbmWrite m) s = .next t ∧ t.hbm = { s.hbm with held := t.hbm.held } ∧ answered t 2) ∧
    (State.addressOk s.runClient a d.length = false →
      ∃ t, exec (.hbmWrite m) s = .next t ∧ t.hbm = { s.hbm with held := t.hbm.held } ∧
        (s.calPause = true → t.mortar.flight = (s.ejected m).mortar.flight ∧ t.hbm.held = s.hbm.held ++ [answer 3]) ∧
        (s.calPause = false → t.mortar.flight = (s.ejected m).mortar.flight ++ [answer 3] ∧ t.hbm.held = s.hbm.held))
  ) ∧ (
  ∀ (s : State) (m : Msg) (c a n : Nat), s.delivers m → m.dst = .channel c → m.body = .hbmRead a n →
    let answer : Msg := {
      cls := .rsp, src := m.dst, dst := m.src, tag := m.tag, parity := s.mortar.parity
      body :=
        if State.addressOk s.runClient a n = false then .hbmReadFailed 3
        else if s.hbmDead a = true then .hbmReadFailed 2
        else if s.linesBad (linesOf a n) = true then .hbmReadFailed 1
        else .hbmReadData (s.hbmBytes a n) }
    ∃ t, exec (.hbmRead m) s = .next t ∧ t.hbm.mem = s.hbm.mem ∧ t.wall = s.wall ∧ t.sched = s.sched ∧
      (s.calPause = false → t.mortar.flight = (s.ejected m).mortar.flight ++ [answer] ∧ t.hbm.held = s.hbm.held) ∧
      (s.calPause = true → t.mortar.flight = (s.ejected m).mortar.flight ∧ t.hbm.held = s.hbm.held ++ [answer])
  )

/-- R461, R462, R465, R70, R472: refresh, calibration windows and the patrol scrub change no content of HBM. R247, R248, R447,
R489, R548: a pending apply is performed at once on a chip that no job owns. When a free ring starts at its declaration is the
model's choice (log entry 32). -/
def Obligations.HbmUpkeepAndApplies : Prop :=
  (
  (∀ (s : State) (n : Nat), n < 256 → s.held = false → s.asleep = false →
    let x := Store.set (fun _ => 0) s.hbm.refreshes n (Store.get (fun _ => 0) s.hbm.refreshes n + 1)
    exec (.refresh n) s = .next { s with hbm := { s.hbm with refreshes := x } }) ∧
  (∀ s : State, s.held = false → s.tide.nextCal ≤ s.now → s.tideAt (s.num Obj.HBM_CAL_OFFSET) 4194304 = true → s.asleep = false →
    ∃ t, exec .calWindow s = .next t ∧ t.calPause = true ∧
      t.hbm = { s.hbm with calAt := some (if s.now % 4194304 = s.num Obj.HBM_CAL_OFFSET then s.now else s.now - 1) } ∧
      t.num Obj.CAL_WINDOWS = (s.inc64 Obj.CAL_WINDOWS 1).num Obj.CAL_WINDOWS ∧
      t.tide = { s.tide with nextCal := nextAt (s.num Obj.HBM_CAL_OFFSET) 4194304 (s.now + 1) }) ∧
  (∀ (s : State) (n : Nat), n < 256 → s.held = false → s.calPause = false → s.asleep = false →
    let p := Store.get (fun _ => 0) s.hbm.patrol n
    let due := Store.get (fun _ => 0) s.hbm.patrolDue n
    due ≤ 16 * s.clock + 15 →
    ∃ t, exec (.patrolRead n) s = .next t ∧ t.hbm.mem = s.hbm.mem ∧
      Store.get (fun _ => 0) t.hbm.patrol n = (if p + 1 = channelLines then 0 else p + 1) ∧
      Store.get (fun _ => 0) t.hbm.patrolDue n = max due (16 * s.clock) + s.num Obj.PATROL_INTERVAL ∧
      (∀ c, c ≠ n → Store.get (fun _ => 0) t.hbm.patrol c = Store.get (fun _ => 0) s.hbm.patrol c ∧
        Store.get (fun _ => 0) t.hbm.patrolDue c = Store.get (fun _ => 0) s.hbm.patrolDue c) ∧
      (s.hbmDead (patrolAddress n p) = false → ∀ w ∈ t.hbm.ce, w / 8 ≠ patrolAddress n p / 64))
  ) ∧ (
  ∀ s : State, s.held = false → s.applyIdle = true →
    (s.hbm.regionsPending = true → ∃ t, exec .regionsApplyPerform s = .next t ∧ t.hbm.regionsPending = false ∧
      t.hbm.regions = (s.oct.filter (fun p => p.1 / 32768 == Obj.REGION_TABLE * 2)).map (fun p => (p.1 % 32768, p.2)) ∧
      t.hbm.mem = s.hbm.mem) ∧
    (s.tables.pending = true → ∃ t, exec .tablesApplyPerform s = .next t ∧
      t.tables = { s.tables with
        num := s.stagedNum, oct := s.stagedOct, ue := [], ce := [], restore := [], pending := false, appliedNow := false } ∧
      t.num Obj.APPLIES = (s.inc32 Obj.APPLIES 1).num Obj.APPLIES ∧ t.oct = s.oct) ∧
    (s.egs.pending = true → ∃ t, exec .embApplyPerform s = .next t ∧ t.egs.pending = false ∧
      t.egs.desc = s.egs.descStaged ∧ t.egs.rings = s.egs.ringsStaged ∧ t.oct = s.oct ∧
      (∀ i, i < 16 → t.ruleImage i = s.octs (Obj.UPDATE_RULE i) 0 32) ∧
      (∀ n tier, n ∈ validTables s.egs.descStaged → n ∉ validTables s.egs.desc → tier < 3 →
        let x := Store.getMany zeroByte s.egs.ringsStaged (48 * n + 16 * tier) 16
        t.freeRing n tier = { base := le x 0 8, cap := ((t.tableDesc n).arena.getD tier (0, 0)).2, count := le x 8 4 }))
  )

/-- R506, R508, R509, R528, R558, R586: an engine takes the command at the head of its store, and sends the reads of its lists
or refuses it with its code. How many list reads stand at once is the model's choice (log entry 173). R507, R509, R511 to R514,
R538, R560: list data and rows reach the command that waits for them; list data that cannot be had and a remote row not
answered in 65,536 tt (0708h) end its command. A line is kept for its command as log entry 174 has it. -/
def Obligations.EnginesWorkTheirCommands : Prop :=
  (
  ∀ (s : State) (e i tag : Nat) (c : HubCmd), e < 16 → s.held = false → s.wall.closed = false →
    s.egs.store.find? (fun p => p.1 == e) = some (i, tag, c) → s.msgLegal (c.message (.egs e) {}) = true →
    (s.egs.work.filter fun w => w.1 == e).length < 2 → ((s.egs.work.filter fun w => w.1 == e).all fun x => x.2.sorted) = true →
    let table := le c.block 4 2 % 4096
    let code := if isUpdate c.block then s.updateCode c.client c.block else s.lookupCode c.client c.block
    let reads := (s.listTags e c.brick).zip (commandReads c.block (s.tableDesc table).dim)
    let takes := fun (x : Instr) => ∃ t, exec x s = .next t ∧ t.egs.store = s.egs.store.erase (e, tag, c) ∧
      (code = 0 → t.mortar.flight = s.mortar.flight ++ reads.map (fun g => {
          cls := .req, src := .egs e, dst := .brick c.brick, tag := g.1, parity := s.mortar.parity, body := .readReq g.2.addr g.2.len }) ∧
        ∃ w, t.egs.work.getLast? = some (e, w) ∧ w.cmd = c ∧ w.tag = tag ∧ w.sorted = false ∧ w.rows = [] ∧
          w.desc = s.tableImage table ∧ w.lists.length = (commandReads c.block (s.tableDesc table).dim).length) ∧
      (code ≠ 0 → t.mortar.flight = s.mortar.flight ++ [{
        cls := .rsp, src := .egs e, dst := .brick c.brick, tag := tag, parity := s.mortar.parity, body := .egsDone code 0 0 0 }] ∧
        (isUpdate c.block = false → t.num Obj.LAST_LOOKUP_FAULT = code))
    (isLookup 0 c.block = true → takes (.poolNone e {})) ∧
    (isLookup 1 c.block = true → takes (.poolSum e {})) ∧
    (isLookup 2 c.block = true → takes (.poolMean e {})) ∧
    (isLookup 3 c.block = true → takes (.poolWeightedSum e {})) ∧
    (isUpdate c.block = true → takes (.update e {}))
  ) ∧ (
  let ends := fun (u t : State) (e code : Nat) (c : EgsCmd) =>
    (∀ w ∈ t.egs.work, ¬(w.1 = e ∧ w.2.tag = c.tag ∧ w.2.cmd.brick = c.cmd.brick)) ∧
    t.mortar.flight = u.mortar.flight ++ [{
      cls := .rsp, src := .egs e, dst := .brick c.cmd.brick, tag := c.tag, parity := u.mortar.parity
      body := .egsDone code c.rows.length c.remote c.missing }]
  (∀ (s : State) (m : Msg) (e b : Nat) (c : EgsCmd), s.delivers m → m.src = .brick b → m.dst = .egs e →
    s.listReader e b = some c →
    let mine := fun (g : Segment) => g.tag == some m.tag && !g.done
    c.lists.any mine = true →
    (∀ l, m.body = .listData l → (∀ g ∈ c.lists, g.tag.isSome = true) → (c.lists.any fun g => !g.done && !mine g) = true →
      ∃ t, exec (.listData m) s = .next t ∧ t.mortar = (s.ejected m).mortar ∧
        t.egs = { s.egs with work := s.egs.work.map (fun w =>
          if w.1 == e && w.2.tag == c.tag && w.2.cmd.brick == c.cmd.brick then
            (e, { c with lists := c.lists.map (fun g => if mine g then { g with data := l, done := true } else g) })
          else w) }) ∧
    (∀ st, m.body = .readFailed st → ∃ t, exec (.readFailed m) s = .next t ∧ ends (s.ejected m) t e (brickStatus st) c)) ∧
  (∀ (s : State) (m : Msg) (e b : Nat) (l : List Byte), s.delivers m → m.src = .brick b → m.dst = .egs e →
    m.body = .listData l → exec (.listData m) s = .next ((s.ejected m).listIn e b m.tag l)) ∧
  (∀ (s : State) (e row : Nat) (c : EgsCmd) (r : RowWork), e < 16 → s.held = false → s.wall.closed = false → s.calPause = false →
    s.egsFirst e = some c → c.sorted = true → c.rows.find? (fun r => r.row == row) = some r →
    let d := parseTable c.desc
    let table := le c.cmd.block 4 2 % 4096
    let put := fun (x : RowWork) => c.rows.map (fun y => if y.row == row then x else y)
    exec (.egsRowFetched e c.tag row) s =
      .next (if isUpdate c.cmd.block then s.updateRow e c r else s.lookupRow e c r) ∧
    (isUpdate c.cmd.block = false → r.phase = .dir → c.lines = [] →
      let a := s.tableRead (d.shardAt row / 64 * 64) 64
      let at_ := d.entryAt (ofLe ((a.2.1.drop (d.shardAt row % 64)).take 4) % 65536) row
      let b := a.2.2.tableRead (at_ / 64 * 64) 64
      let x := ofLe ((b.2.1.drop (at_ % 64)).take 16)
      a.1 = 0 → shardOwner (ofLe ((a.2.1.drop (d.shardAt row % 64)).take 4)) = s.addr → s.addr < 64 → s.addr < s.reachSize →
      at_ / 64 ≠ d.shardAt row / 64 → b.1 = 0 → entLegal x = true → entPresent x = true → entRow x = row →
      ∃ t w, exec (.egsRowFetched e c.tag row) s = .next t ∧ t.egsFirst e = some w ∧ t.mortar = s.mortar ∧
        w.rows = put { r with entry := x, via := 0, phase := .slot, askedAt := s.clock }) ∧
    (isUpdate c.cmd.block = false → r.phase = .slot → s.clock ≤ r.askedAt + 16384 →
      let a := s.tableRead (d.slotAt (entTier r.entry) (entSlot r.entry)) (d.slotBytes (entTier r.entry))
      a.1 = 0 → slotHeaderOk table row r.entry a.2.1 = true → (c.rows.any fun y => y.row != row && y.phase != .done) = true →
      ∃ t, exec (.egsRowFetched e c.tag row) s = .next t ∧ t.mortar = s.mortar ∧ t.egsFirst e = some { c with
        rows := put { r with
          version := entVersion r.entry, tier := entTier r.entry, elems := widenSlot d (entTier r.entry) a.2.1, phase := .done }
        remote := c.remote + b2n (r.via == 2), missing := c.missing + b2n r.absent })) ∧
  (∀ (s : State) (e i tag row : Nat) (c : EgsCmd), e < 16 → s.held = false →
    (s.egs.work.filter (fun w => w.1 == e && w.2.tag == tag)).find? (fun w =>
      w.2.rows.any (fun r => r.row == row && r.phase == .remote && decide (r.askedAt + 65536 ≤ s.clock))) = some (i, c) →
    ∃ t, exec (.remoteRowTimeout e tag row) s = .next t ∧ ends s t e 0x0708 c ∧
      (isUpdate c.cmd.block = false → t.num Obj.LAST_LOOKUP_FAULT = 0x0708)) ∧
  (∀ (s : State) (e code : Nat) (c : EgsCmd), ends s (s.egsEnd e c code) e code c)
  )

/-- R501, R532: at an epoch boundary that DECAY_EPOCHS divides every counter of the sketches is halved. R44, R79, R579, R580,
R582, R594: the record at the head of a retire queue is reclaimed once three epochs old, a restep apart, and not before. -/
def Obligations.EpochWorkOfTheEngines : Prop :=
  (
  ∀ s : State, s.held = false → s.tide.nextDecay ≤ s.now → s.asleep = false → s.num Obj.DECAY_EPOCHS ≠ 0 →
    s.now / 65536 % s.num Obj.DECAY_EPOCHS = 0 →
    exec .heatDecay s = .next { s with
      egs := { s.egs with sketch := (s.egs.sketch.map (fun p : Nat × Nat => (p.1, p.2 / 2))).filter (fun p => p.2 != 0) }
      tide := { s.tide with nextDecay := (s.now / 65536 + 1) * 65536 } }
  ) ∧ (
  ∀ (s : State) (e : Nat), e < 16 → s.held = false → s.asleep = false → s.calPause = false → s.retireHead e < s.retireTail e →
    s.tide.reclaimFrom ≤ s.now →
    let l := s.hbmBytes (s.retireAt e (s.retireHead e)) 16
    let r := s.tableRead (s.retireAt e (s.retireHead e)) 16
    let old := 3 ≤ (s.now / 65536 + 65536 - le l 10 2) % 65536 ∧ s.graceEnd e (s.retireHead e) (le l 10 2) ≤ s.now
    let table := le l 8 2 % 4096
    let tier := bits (le l 8 2) 13 12
    let d := s.tableDesc table
    (s.tide.shifts = [] → s.graceEnd e (s.retireHead e) (le l 10 2) =
      (s.now / 65536 + 3 - (s.now / 65536 + 65536 - le l 10 2) % 65536) * 65536) ∧
    (r.1 = 0 → old → exec (.reclaim e) s = .next (r.2.2.reclaimRecord e l)) ∧
    (r.1 = 0 → old → d.valid = false → ∃ t, exec (.reclaim e) s = .next t ∧ t.retireHead e = s.retireHead e + 1 ∧
      t.egs.free = s.egs.free ∧ t.hbm.mem = s.hbm.mem) ∧
    (r.1 = 0 → old → d.valid = true → bit (le l 8 2) 14 = false → s.egs.flips = [] →
      let u := (r.2.2.retirePop e).tableRead (d.shardAt (le l 0 4)) 4
      let v := u.2.2.tableRead (d.entryAt (ofLe u.2.1 % 65536) (le l 0 4)) 16
      let x := ofLe v.2.1
      u.1 = 0 → v.1 = 0 → entLegal x = true → entPending x = true → entVersion x = le l 12 1 →
      ∃ t, exec (.reclaim e) s = .next t ∧ t.retireHead e = s.retireHead e + 1 ∧
        t.num Obj.RECLAIMED = (s.inc64 Obj.RECLAIMED 1).num Obj.RECLAIMED ∧
        t.freeRing table tier = { s.freeRing table tier with
          count := (s.freeRing table tier).count + 1, pending := (s.freeRing table tier).pending - 1 }) ∧
    (r.1 = 0 → ¬old → exec (.reclaim e) s = .next s) ∧
    (r.1 ≠ 0 → ∃ t, exec (.reclaim e) s = .next t ∧ t.retireHead e = s.retireHead e + 1 ∧
      t.num Obj.SLOTS_LOST = (s.inc32 Obj.SLOTS_LOST 1).num Obj.SLOTS_LOST)
  )

/-- R542 to R544, R546, R550, R562, R587: the conditional write of a flip is made where its entry still reads as it did, and is
tried again where it does not. -/
def Obligations.FlipsCommitConditionally : Prop :=
  ∀ (s : State) (n : Nat) (f : Flip), s.held = false → s.asleep = false → s.calPause = false → s.egs.flips[n]? = some f →
    f.phase = .ready → s.flipFirst n f = true →
    let r := s.tableRead f.entryAddr 16
    (r.1 = 0 → ofLe r.2.1 = f.old → exec (.flipCommit n) s = .next (r.2.2.flipAccepted f)) ∧
    (r.1 = 0 → ofLe r.2.1 = f.old → ∀ chip, f.source = .grad chip → f.velocity = none →
      ∃ t, exec (.flipCommit n) s = .next t ∧ t.egs.flips = s.egs.flips.erase f ∧
        t.num Obj.FLIPS = (s.inc64 Obj.FLIPS 1).num Obj.FLIPS ∧
        t.num Obj.GRAD_RECORDS_APPLIED = (s.inc64 Obj.GRAD_RECORDS_APPLIED 1).num Obj.GRAD_RECORDS_APPLIED ∧
        (entPending f.new = false ∨ entPending f.old = true → t.hbmBytes f.entryAddr 16 = leBytes 16 f.new ∧
          (∀ a, a < f.entryAddr ∨ f.entryAddr + 16 ≤ a → t.hbmByte a = s.hbmByte a) ∧ t.retireTail f.egs = s.retireTail f.egs) ∧
        (entPending f.new = true → entPending f.old = false → t.retireTail f.egs = s.retireTail f.egs + 1 ∧
          (t.freeRing f.table (entTier f.old)).pending = (s.freeRing f.table (entTier f.old)).pending + 1)) ∧
    (r.1 = 0 → ofLe r.2.1 ≠ f.old → f.slot = none →
      exec (.flipCommit n) s = .next ((r.2.2.inc64 Obj.FLIP_RETRIES 1).flipAgain f)) ∧
    (r.1 = 0 → ofLe r.2.1 ≠ f.old → ∀ p, f.slot = some p → exec (.flipCommit n) s =
      .next (((r.2.2.freeReturn f.table p.1 p.2 false).inc64 Obj.FLIP_RETRIES 1).flipAgain f)) ∧
    (r.1 ≠ 0 → exec (.flipCommit n) s = .next ((r.2.2.dropFlip f).flipEnd f (.refused r.1) 0))

/-- R6, R574 to R576, Table 13-5: the table-update ring: the tail that the host writes, and the entry that is taken next, by
its OP, which begins the flip of its row. -/
def Obligations.RingEntriesAreTakenInOrder : Prop :=
  (∀ (s : State) (v : Nat), v < 2 ^ 32 → s.held = false → s.host.linkUp = true →
    exec (.updRingTail v) s = .next { s with egs := { s.egs with ringTail := v } }) ∧
  (∀ s : State, s.held = false → s.ringRuns = true → s.calPause = false →
    let u := State.ringSkip 17 s
    let p := u.egs.ringNext
    let l := u.hbmBytes (u.ringAt p) 64
    let busy := u.egs.ringWork.filter (fun x => !x.complete)
    let table := le l 4 2 % 4096
    let row := le l 8 4
    u.num Obj.UPD_RING_ENTRIES ≠ 0 → p ≠ u.egs.ringTail → busy.length < 16 →
    (busy.any fun x => x.table == table && x.row == row) = false →
    let c : Instr := match le l 0 1 with
      | 2 => .removeRow
      | 3 => .retier
      | 4 => .replicate
      | 5 => .unreplicate
      | _ => .putRow
    let r := u.tableRead (u.ringAt p) 64
    let v := { r.2.2 with egs := { r.2.2.egs with
      ringNext := (p + 1) % 2 ^ 32
      ringWork := r.2.2.egs.ringWork ++ [({ position := p, table := table, row := row, complete := false } : RingEntry)] } }
    exec c s = .next (if r.1 = 0 then v.ringBegin p l else v.ringComplete p 6 0) ∧
    (let d := u.tableDesc table
      let o := v.ownEntry d row
      r.1 = 0 → State.ringFormOk l = true → u.num Obj.WORK_ENABLE = 1 → d.valid = true → row ≤ d.rowsM1 → ∀ a, o.1 = .inl a →
      let x := o.2.tableRead a 16
      let w := ofLe x.2.1
      x.1 = 0 → entLegal w = true →
      let begun := fun (q : Work) (new : Option Nat) => ∃ t f, exec c s = .next t ∧ t.egs.ringNext = (p + 1) % 2 ^ 32 ∧
        t.egs.ringWork = u.egs.ringWork ++ [{ position := p, table := table, row := row, complete := false }] ∧
        t.egs.flips = u.egs.flips ++ [f] ∧ f.table = table ∧ f.row = row ∧ f.source = .ring p ∧ f.work = q ∧ f.phase = .ready ∧
        (∀ n, new = some n → f.old = w ∧ f.new = n ∧ f.slot = none)
      let full := fun (y : State) => y.retireFull (State.engineAt a)
      let shadow := fun (y : State) (tier : Nat) => (y.freeRing table tier).count ≠ 0 ∧ ((y.freeTake table tier).1.any fun n =>
        ((y.freeTake table tier).2.engineWrite (d.slotAt tier n) (List.replicate (d.slotBytes tier) 0)).1 == 0) = true
      (le l 0 1 = 1 → entPresent w = false → entPending w = false →
        let z := o.2.tableRead (le l 16 6) (d.dim * d.fullBytes)
        le l 16 6 + d.dim * d.fullBytes ≤ usableEnd → z.1 = 0 → (z.2.2.tableRead a 16).1 = 0 → (z.2.2.tableRead a 16).2.1 = x.2.1 →
        shadow (z.2.2.tableRead a 16).2.2 (le l 1 1) → begun (.put (le l 1 1) (wide32 d.bf16 z.2.1) (le l 24 4)) none) ∧
      (le l 0 1 = 2 → entPresent w = true → entPending w = false → full s = false →
        begun .remove (some (mkEntry (entRow w) 0 (entSlot w) (entTier w) ((entVersion w + 1) % 256) 0 false false true))) ∧
      (le l 0 1 = 5 → entPresent w = true → entReplica w = true → begun .unreplicate (some (w - 2 ^ 82)))) ∧
    (let d := u.tableDesc table
      let o := v.ownEntry d row
      r.1 = 0 → State.ringFormOk l = true → u.num Obj.WORK_ENABLE = 1 → d.valid = true → row ≤ d.rowsM1 → ∀ a, o.1 = .inl a →
      ∀ q f, (le l 0 1 = 3 ∧ q = .retier (le l 1 1)) ∨ (le l 0 1 = 4 ∧ q = .replicate) →
      (o.2.flipTry (newFlip (State.engineAt a) table row (u.tableImage table) (u.ruleImage d.rule) (.ring p) q a)).1 = .inl f →
      ∃ t, exec c s = .next t ∧ t.egs.ringNext = (p + 1) % 2 ^ 32 ∧ t.egs.flips = u.egs.flips ++ [f] ∧
        t.egs.ringWork = u.egs.ringWork ++ [{ position := p, table := table, row := row, complete := false }] ∧
        f.table = table ∧ f.row = row ∧ f.source = .ring p ∧ f.work = q))

/-- R334, R337, R344, R352 to R355, R357, R383: a run takes the elements of its data messages. A part of a key or record waits
for the rest; an element too many, or a last message that leaves elements missing, ends the command with 0606h. The last
element of a search of one key brings the entry of the lowest address that matches, or MISS_DATA, and then done. -/
def Obligations.BankTakesElements : Prop :=
  ∀ (s : State) (m : Msg) (b k : Nat) (l : List Elem) (r : CsaRun), s.delivers m → m.src = .brick b → m.dst = .bank k →
    (s.csaBank k).run = some r → r.cmd.brick = b →
    let c := parseCsa r.cmd.block
    let w := s.csaW k
    let n := r.elems + l.length
    let reply := fun x : MsgBody => ({
      cls := .rsp, src := .bank k, dst := .brick b, tag := 0x41, parity := s.mortar.parity, body := x } : Msg)
    (c.op = 0 ∨ s.calPause = false) →
    (m.body = .csaData l false → n ≤ csaPer w c.op * c.count → r.pend.length + l.length < csaPer w c.op → r.res = [] →
      ∃ t, exec (.csaData m) s = .next t ∧ (t.csaBank k).run = some { r with pend := r.pend ++ l, elems := n } ∧
        t.mortar = (s.ejected m).mortar ∧ t.csa.entries = s.csa.entries) ∧
    (m.body = .csaData l false → csaPer w c.op * c.count < n →
      ∃ t, exec (.csaData m) s = .next t ∧ (t.csaBank k).run = none ∧
        t.mortar.flight.getLast? = some (reply (.csaDone 0x0606 r.outcome r.moves (s.csaBank k).gen))) ∧
    (m.body = .csaData l true → n ≠ csaPer w c.op * c.count →
      ∃ t, exec (.csaLastData m) s = .next t ∧ (t.csaBank k).run = none ∧
        t.mortar.flight.getLast? = some (reply (.csaDone 0x0606 r.outcome r.moves (s.csaBank k).gen))) ∧
    (m.body = .csaData l true → r = State.csaRunOf r.cmd → c.op = 0 → c.form = 0 → c.count = 1 → l.length = w →
      l.all Prod.fst = true → Store.wf (fun _ => ({} : CsaEntry)) s.csa.entries = true →
      let key := l.map Prod.snd
      let hits := fun i : Nat => (s.csaEntry k i).valid = true ∧ csaMatches key (s.csaEntry k i) = true
      let result := fun (data hit addr rank : Nat) => [
        reply (.csaResult c.out (leBytes 8 data ++ leBytes 2 (addr + hit * 2 ^ 15) ++ leBytes 2 (s.csaBank k).gen ++
          leBytes 2 rank ++ leBytes 2 0)),
        reply (.csaDone 0 hit 0 (s.csaBank k).gen)]
      (∀ i, i < 8192 → hits i → (∀ j, j < i → ¬ hits j) → 2 * i ∉ (s.csaBank k).ue →
        (s.csaExplicit k = true → 2 * i + 1 ∉ (s.csaBank k).ue) →
        ∃ t, exec (.csaLastData m) s = .next t ∧ (t.csaBank k).run = none ∧ t.csa.entries = s.csa.entries ∧
          t.mortar.flight = (s.ejected m).mortar.flight ++
            result (s.csaEntry k i).data 1 i (csaRank (s.csaExplicit k) (s.csaEntry k i))) ∧
      ((∀ i, i < 8192 → ¬ hits i) →
        ∃ t, exec (.csaLastData m) s = .next t ∧ (t.csaBank k).run = none ∧ t.csa.entries = s.csa.entries ∧
          t.mortar.flight = (s.ejected m).mortar.flight ++ result (s.num (Obj.MISS_DATA k)) 0 0 0))

/-- R341, R365, R372, R388, R391, R397: outside a calibration pause a clearing ends, its work done: READY in a client's set,
UNOWNED outside, and FAILED where the bank was so; and the done of a CLEAR is sent. R398, R400, R402, R405: in the scrub window
a bank's step works at its pointer in the first interval not yet taken that has a permitted cycle in the tick (log entry 31);
the pointer moves on by one unit and wraps after 8,191, where a pass is counted; no other bank and no octet of HBM changes. -/
def Obligations.BanksClearAndScrub : Prop :=
  (
  ∀ (s : State) (b : Nat), b < 64 → s.held = false → (s.csaBank b).state = 1 ∨ (s.csaBank b).clearDue = true →
    let k := s.csaBank b
    (s.calPause = true → exec (.csaClearingDone b) s = .next s) ∧
    (s.calPause = false → ∃ t, exec (.csaClearingDone b) s = .next t ∧ (t.csaBank b).run = none ∧
      (t.csaBank b).clearDue = false ∧
      (t.csaBank b).state = (if k.state = 4 then 4 else if s.csaOwner b = 255 then 0 else 2) ∧
      (∀ c, c ≠ b → t.csaBank c = s.csaBank c) ∧
      (k.clearDue = false → (t.csaBank b).gen = k.gen ∧ t.csa.entries = s.csa.entries) ∧
      (k.clearDue = true → (t.csaBank b).gen = (k.gen + 1) % 65536 ∧ ∀ i, i < 8192 → t.csaEntry b i = {}) ∧
      (k.run = none → t.mortar = s.mortar) ∧
      (∀ r, k.run = some r → t.mortar.flight = s.mortar.flight ++ [{
        cls := .rsp, src := .bank b, dst := .brick r.cmd.brick, tag := 0x41, parity := s.mortar.parity
        body := .csaDone 0 0 0 (t.csaBank b).gen }]))
  ) ∧ (
  ∀ (s : State) (b w n : Nat), b < 64 → s.held = false → s.scrubWindow = some w → s.calPause = false → s.asleep = false →
    s.num Obj.SCRUB_ENABLE = 1 → ((s.csaBank b).state = 0 ∨ (s.csaBank b).state = 2) →
    let k := s.csaBank b
    s.stepInterval w (s.scrubUnits s.scrubOpen) ((s.scrubAccount b).csaBank b).steps = some n →
    ∃ t, exec (.scrubStep b) s = .next t ∧ (t.csaBank b).scrub = (k.scrub + 1) % 8192 ∧ (t.csaBank b).stepWin = s.scrubOpen ∧
      (t.csaBank b).steps = n + 1 ∧ t.hbm.mem = s.hbm.mem ∧ (∀ c, c ≠ b → t.csaBank c = s.csaBank c) ∧
      t.num Obj.PASSES = (if k.scrub = 8191 then (s.inc64 Obj.PASSES 1).num Obj.PASSES else s.num Obj.PASSES)
  )

/-- R603, R605, R606, R616 to R618, Tables 14-2 and 14-5: the flits of an UP port: the DATA flit with the expected SEQ is
accepted, another is discarded with at most one NAK; a bad control flit is counted; CREDIT_ACK gives FREED, releases what it
acknowledges and answers a NAK by a replay; the port's own CREDIT_ACK carries its counts, and a port in training sends IDENT. -/
def Obligations.FlitsAreTakenInOrder : Prop :=
  ∀ (s : State) (p : Nat) (l : List Byte), p < 8 → s.held = false →
    let c := s.port p
    let f := parseFlit l
    let a := parseCredit l
    (s.num (Obj.PORT_STATE p) = 2 →
      (flitKind l = 0 → f.vc < 3 → f.seq = c.rxSeq → f.crcOk = true → f.last = false →
        ∃ t, exec (.dataFlit p l) s = .next t ∧ (t.port p).rxSeq = (c.rxSeq + 1) % 2048 ∧ t.coast.inbox = s.coast.inbox ∧
          t.num (Obj.FLITS_RECEIVED p) = (s.inc64 (Obj.FLITS_RECEIVED p) 1).num (Obj.FLITS_RECEIVED p)) ∧
      (flitKind l = 0 → f.vc < 3 → f.seq = c.rxSeq → f.crcOk = true → f.last = true → c.assembly = [] →
        le f.payload 0 1 < s.reachSize → le f.payload 1 1 < s.reachSize → typeOk f.vc (le f.payload 2 1) = true →
        ∃ t, exec (.dataFlit p l) s = .next t ∧ (t.port p).rxSeq = (c.rxSeq + 1) % 2048 ∧
          t.coast.inbox = s.coast.inbox ++ [{ port := p, vcd := f.vc * 2 + f.dateline, bytes := f.payload }]) ∧
      (f.vc < 3 → f.crcOk = false → exec (.dataFlit p l) s = .next (if c.nakSent then s
        else s.setPort p { c with nakSent := true, nakDue := true })) ∧
      (a.crcOk = false ∨ (flitKind l = 1 ∧ le l 4 1 ≠ 2 ∧ a.reserved = true) →
        exec (.creditAck p l) s = .next (s.inc32 (Obj.CRC_ERRORS p) 1)) ∧
      (flitKind l = 1 → le l 4 1 ≠ 2 → a.crcOk = true → a.reserved = false → c.queue = [] →
        let kept := c.replay.filter (fun f => decide (1024 ≤ (a.ackSeq + 2048 - f.seq) % 2048))
        ∃ t, exec (.creditAck p l) s = .next t ∧ (t.port p).replay = kept ∧
          (∀ k, k < 6 → Store.get (fun _ => 0) (t.port p).freedIn k = a.freed.getD k 0) ∧
          (a.nak = none → t.out = s.out) ∧
          (∀ n, a.nak = some n → t.out = s.out ++
            (kept.filter (fun f => decide ((f.seq + 2048 - n) % 2048 < 1024))).map (fun f =>
              .flit p (flitOctets { f with ackSeq := (c.rxSeq + 2047) % 2048 })))) ∧
      exec (.controlFlitDue p) s = .next ((s.setPort p
        { c with nakDue := false, reported := c.freedOut, lastControl := s.clock }).emit (.flit p (creditOctets {
          crcOk := true, reserved := false, ackSeq := (c.rxSeq + 2047) % 2048
          nak := if c.nakDue then some c.rxSeq else none
          freed := (List.range 6).map (fun k => Store.get (fun _ => 0) c.freedOut k) }))) ∧
      (∀ errors, exec (.skipFlit p false errors) s = .next (s.inc32 (Obj.CRC_ERRORS p) 1)) ∧
      (∀ (errors : List Nat) (i : Nat), i < 4 → i < errors.length →
        ∃ t, exec (.skipFlit p true errors) s = .next t ∧ t.octs (Obj.LANE_BIP p) (4 * i) 4 =
          leBytes 4 (sat32 (ofLe (s.octs (Obj.LANE_BIP p) (4 * i) 4) + errors.getD i 0)))) ∧
    (s.num (Obj.PORT_STATE p) = 1 ∨ s.num (Obj.PORT_STATE p) = 3 →
      exec (.controlFlitDue p) s = .next (s.emit (.flit p (identOctets {
        crcOk := true, reserved := false, sender := s.addr, senderPort := p, topology := s.num Obj.TOPOLOGY
        dimX := s.num Obj.DIM_X, dimY := s.num Obj.DIM_Y, goodLanes := Nat.land 15 (15 - c.excluded % 16)
        epoch := s.num Obj.RESET_EPOCH, reachId := s.num Obj.REACH_ID }))))

/-- R613 to R615, R619, R620, R635: a port in training becomes UP at a lane set that both directions can carry, MISWIRED where
IDENT does not agree, and DOWN after three timeouts; an UP port that loses lanes in use retrains, and comes UP again or becomes
DOWN; a reserved window opens at its offset, or at the next tick where a double advance has passed that. -/
def Obligations.PortsTrainAndRetrain : Prop :=
  ∀ (s : State) (p : Nat), p < 8 → s.held = false →
    let c := s.port p
    let st := s.num (Obj.PORT_STATE p)
    let period := 4096 * 2 ^ s.num (Obj.RESERVE_LOG2 p)
    (∀ (l : List Byte) (lanes : Nat), st = 1 →
      let i := parseIdent l
      (i.crcOk = false ∨ (flitKind l = 1 ∧ le l 4 1 = 2 ∧ i.reserved = true) →
        exec (.ident p l lanes) s = .next (s.inc32 (Obj.CRC_ERRORS p) 1)) ∧
      (flitKind l = 1 → le l 4 1 = 2 → i.crcOk = true → i.reserved = false → s.identOk p i = false →
        ∃ t, exec (.ident p l lanes) s = .next t ∧ t.num (Obj.PORT_STATE p) = 5) ∧
      (flitKind l = 1 → le l 4 1 = 2 → i.crcOk = true → i.reserved = false → s.identOk p i = true →
        let m := laneSet (Nat.land (Nat.land i.goodLanes lanes) 15)
        m ≠ 0 → ∃ t, exec (.ident p l lanes) s = .next t ∧ t.num (Obj.PORT_STATE p) = 2 ∧ t.num (Obj.LANE_MASK p) = m ∧
          t.num (Obj.WIDTH p) = popCount 4 m ∧ t.num (Obj.PEER p) = i.sender * 256 + i.senderPort ∧
          (t.member i.sender).epoch = i.epoch)) ∧
    (st = 1 → c.trainFrom + 500000 ≤ s.clock → c.attempts < 2 →
      exec (.trainingTimeout p) s = .next (s.setPort p { c with attempts := c.attempts + 1, trainFrom := s.clock })) ∧
    (st = 1 → c.trainFrom + 500000 ≤ s.clock → 2 ≤ c.attempts →
      ∃ t, exec (.trainingTimeout p) s = .next t ∧ t.num (Obj.PORT_STATE p) = 4 ∧ t.num (Obj.WIDTH p) = 0) ∧
    (∀ lanes, st = 2 → Nat.land lanes (s.num (Obj.LANE_MASK p)) ≠ 0 →
      ∃ t, exec (.laneLoss p lanes) s = .next t ∧ t.num (Obj.PORT_STATE p) = 3 ∧
        t.num (Obj.RETRAINS p) = (s.inc32 (Obj.RETRAINS p) 1).num (Obj.RETRAINS p)) ∧
    (∀ lanes, st = 3 → s.clock ≤ c.trainFrom + 5000 →
      let m := laneSet (Nat.land lanes (15 - c.excluded % 16))
      ∃ t, exec (.retrainDone p lanes) s = .next t ∧ t.num (Obj.PORT_STATE p) = (if m = 0 then 4 else 2) ∧
        t.num (Obj.LANE_MASK p) = m) ∧
    (∀ lanes, st = 3 → c.trainFrom + 5000 < s.clock → c.retrainFails < 2 →
      exec (.retrainDone p lanes) s = .next (s.setPort p
        { c with retrainFails := c.retrainFails + 1, trainFrom := s.clock })) ∧
    (∀ lanes, st = 3 → c.trainFrom + 5000 < s.clock → 2 ≤ c.retrainFails →
      ∃ t, exec (.retrainDone p lanes) s = .next t ∧ t.num (Obj.PORT_STATE p) = 4) ∧
    (s.num (Obj.RESERVE_LOG2 p) ≤ 10 → s.num (Obj.RESERVE_LENGTH p) ≠ 0 → s.tideAt (s.num (Obj.RESERVE_OFFSET p)) period = true →
      exec (.reserveWindow p) s = .next (s.setPort p { c with windowEnd := some (
        if s.now % period = s.num (Obj.RESERVE_OFFSET p) then s.now + s.num (Obj.RESERVE_LENGTH p)
        else s.now + s.num (Obj.RESERVE_LENGTH p) - 1) }))

/-- R499, R516, R517, R529, R603, R622, R625 to R627, R632, R646: messages that stand unhurt in an input buffer: one for
another chip goes on along its route, or is answered as undeliverable where its port is not UP; a row request is served and
answered; posted records count as received, or as stale under another reset epoch, and begin the flip of their row. A ROW_NAK
of a reserved STATUS is discarded: log entry 177. -/
def Obligations.MessagesAreTaken : Prop :=
  ∀ (s : State) (p : Nat) (m : CoastMsg), p ≤ 8 → s.held = false →
    let u := s.unbuffer m
    let n := coastFlits m.bytes
    let told := fun (t : State) (typ status : Nat) (body : List Byte) =>
      let bytes := s.coastMsg m.source typ status m.tag body
      (s.routePort s.addr m.source = none → t.coast.inbox = s.coast.inbox.erase m ++ [{ port := 8, vcd := 2, bytes := bytes }]) ∧
      (∀ o, s.routePort s.addr m.source = some o → s.portUp o = false → (t.port o).queue = (s.port o).queue ++ [{
        src := 8, held := 0, vc := 1, dateline := s.outSet 8 0 o, payloads := payloadsOf bytes, begun := false }])
    let ended := fun (t : State) (e : Nat) (w : EgsCmd) (code : Nat) =>
      (∀ x ∈ t.egs.work, ¬(x.1 = e ∧ x.2.tag = w.tag ∧ x.2.cmd.brick = w.cmd.brick)) ∧
      t.mortar.flight = s.mortar.flight ++ [{
        cls := .rsp, src := .egs e, dst := .brick w.cmd.brick, tag := w.tag, parity := s.mortar.parity
        body := .egsDone code w.rows.length w.remote w.missing }]
    (s.transitMessage p = some m →
      (∀ o, s.routePort m.source (le m.bytes 0 1) = some o → s.portUp o = true → p < 8 →
        let set := s.outSet m.port (m.vcd % 2) o
        let c := s.port o
        exec (.messageForward p 0) s = .next (({ s with coast := { s.coast with inbox := s.coast.inbox.erase m } }).enqueue o m.port
          m.vcd (m.vcd / 2) set m.bytes) ∧
        (c.queue = [] → c.replay.length < 1024 → m.bytes ≠ [] → m.bytes.length ≤ 56 → m.vcd < 6 →
          State.linkCredit c (m.vcd / 2 * 2 + set) = true → s.mayStart o (m.vcd / 2) = true →
          ∃ t, exec (.messageForward p 0) s = .next t ∧ t.coast.inbox = s.coast.inbox.erase m ∧
            t.out = s.out ++ [.flit o (flitOctets {
              crcOk := true, vc := m.vcd / 2, dateline := set, seq := c.txSeq, last := true, ackSeq := (c.rxSeq + 2047) % 2048
              payload := m.bytes ++ List.replicate (56 - m.bytes.length) 0 })] ∧
            (t.port o).txSeq = (c.txSeq + 1) % 2048)) ∧
      ((s.routePort m.source (le m.bytes 0 1)).all (fun o => !s.portUp o) = true → p < 8 →
        (m.vcd / 2 = 0 → ∃ t, exec (.messageForward p 0) s = .next t ∧ told t 2 3 []) ∧
        (m.vcd / 2 = 1 → exec (.messageForward p 0) s = .next (u.inc32 Obj.RSP_DISCARDED 1)) ∧
        (m.vcd / 2 = 2 → exec (.messageForward p 0) s = .next (u.discardUpd m 1)))) ∧
    (s.inMessage p 0 1 = some m → s.calPause = false →
      let x := u.serveRow m.desc (le m.body 0 2 % 4096) (le m.body 4 4) m.source
      let v := x.2.2.inc64 Obj.SERVED_FOR_PEERS 1
      exec (.rowReq p 0) s = .next (if x.1 = 0 then v.respond m.source 1 0 m.tag x.2.1 else v.respond m.source 2 x.1 m.tag []) ∧
      ((parseTable (m.desc.getD (s.tableImage (le m.body 0 2 % 4096)))).valid = false →
        ∃ t, exec (.rowReq p 0) s = .next t ∧ told t 2 4 [] ∧ t.hbm = s.hbm ∧
          t.num Obj.SERVED_FOR_PEERS = (s.inc64 Obj.SERVED_FOR_PEERS 1).num Obj.SERVED_FOR_PEERS) ∧
      (let table := le m.body 0 2 % 4096
        let row := le m.body 4 4
        let d := parseTable (m.desc.getD (s.tableImage table))
        let a := u.tableRead (d.shardAt row) 4
        let b := a.2.2.tableRead (d.entryAt (ofLe a.2.1 % 65536) row) 16
        let e := ofLe b.2.1
        d.valid = true → row ≤ d.rowsM1 → a.1 = 0 → shardOwner (ofLe a.2.1) = s.addr → b.1 = 0 → entLegal e = true →
        entPresent e = true → entRow e = row → s.num Obj.HEAT_ENABLE ≠ 1 →
        let l := b.2.2.tableRead (d.slotAt (entTier e) (entSlot e)) (d.slotBytes (entTier e))
        l.1 = 0 → slotHeaderOk table row e l.2.1 = true →
        ∃ t, exec (.rowReq p 0) s = .next t ∧ told t 1 0 l.2.1 ∧ t.hbm.mem = s.hbm.mem)) ∧
    (s.inMessage p 1 1 = some m →
      (∀ w r, s.requestOf (m.tag / 4096) (m.tag % 256) = some (w, r) → le m.body 0 4 = r.row →
        le m.body 4 2 % 4096 = le w.cmd.block 4 2 % 4096 →
        let tier := bits (le m.body 4 2) 13 12
        let got := { r with
          version := le m.body 6 1, tier := tier, elems := widenSlot (parseTable w.desc) tier m.body }
        tier < 3 → (parseTable w.desc).slotBytes tier ≤ m.body.length →
        exec (.rowData p 0) s = .next (u.rowServed (m.tag / 4096) w got) ∧
        ((w.rows.any fun x => x.row != r.row && x.phase != .done) = true →
          ∃ t, exec (.rowData p 0) s = .next t ∧ t.mortar = s.mortar ∧ (m.tag / 4096, { w with
            rows := w.rows.map (fun x => if x.row == r.row then { got with phase := .done } else x)
            remote := w.remote + b2n (r.via == 2), missing := w.missing + b2n r.absent }) ∈ t.egs.work)) ∧
      (s.requestOf (m.tag / 4096) (m.tag % 256) = none →
        s.egs.reserved.any (fun x => x.1 == m.tag / 4096 && x.2.1 == m.tag % 256) = false →
        exec (.rowData p 0) s = .next (u.inc32 Obj.RSP_DISCARDED 1))) ∧
    (s.inMessage p 1 2 = some m →
      (∀ w r, s.requestOf (m.tag / 4096) (m.tag % 256) = some (w, r) →
        (m.status = 5 → exec (.rowNak p 0) s = .next (u.rowAbsent (m.tag / 4096) w r)) ∧
        (m.status = 1 → ∃ t, exec (.rowNak p 0) s = .next t ∧ ended t (m.tag / 4096) w 0x0707) ∧
        (m.status = 2 → ∃ t, exec (.rowNak p 0) s = .next t ∧ ended t (m.tag / 4096) w 0x0706) ∧
        (m.status = 4 → ∃ t, exec (.rowNak p 0) s = .next t ∧ ended t (m.tag / 4096) w 0x0709) ∧
        (m.status = 0 ∨ 5 < m.status → exec (.rowNak p 0) s = .next (u.inc32 Obj.RSP_DISCARDED 1))) ∧
      (s.requestOf (m.tag / 4096) (m.tag % 256) = none →
        let kept := s.egs.reserved.any (fun x => x.1 == m.tag / 4096 && x.2.1 == m.tag % 256)
        exec (.rowNak p 0) s = .next (if kept then u.releaseReserved (m.tag / 4096) (m.tag % 256)
          else u.inc32 Obj.RSP_DISCARDED 1))) ∧
    (m.status ≠ s.num Obj.RESET_EPOCH → let stale := u.inc32 Obj.UPD_STALE 1
      (s.inMessage p 2 1 = some m → s.calPause = false → exec (.grad p 0) s = .next stale) ∧
      (s.inMessage p 2 2 = some m → s.calPause = false → exec (.replicaPut p 0) s = .next stale) ∧
      (s.inMessage p 2 3 = some m → s.calPause = false → exec (.replicaRemove p 0) s = .next stale) ∧
      (s.inMessage p 2 4 = some m → exec (.probe p 0) s = .next stale)) ∧
    (m.status = s.num Obj.RESET_EPOCH → s.calPause = false →
      let got := fun t : State =>
        (t.member m.source).received = ((s.member m.source).received + n) % 2 ^ 32 ∧
        (t.member m.source).freedOut = ((s.member m.source).freedOut + n) % 2 ^ 32
      let v := (u.setMember m.source { s.member m.source with
        received := ((s.member m.source).received + n) % 2 ^ 32 }).updFreed m.source n
      let table := le m.body 0 2 % 4096
      let row := le m.body 4 4
      let image := m.desc.getD (s.tableImage table)
      let d := parseTable image
      let copies := fun (c : Instr) (w : Work) => (∃ t, exec c s = .next t ∧ got t) ∧
        (∀ f, d.valid = true → w.tierOk = true → d.replicaLog2 ≠ 0 →
          (v.flipTry (newFlip (State.engineAt (d.bucketAt table row)) table row image [] (.replica m.source) w 0)).1 = .inl f →
          ∃ t, exec c s = .next t ∧ got t ∧ t.egs.flips = s.egs.flips ++ [f])
      (s.inMessage p 2 1 = some m → (∃ t, exec (.grad p 0) s = .next t ∧ got t) ∧
        (∀ a f, (v.ownEntry d row).1 = .inl a → s.num Obj.WORK_ENABLE = 1 → le (s.ruleImage d.rule) 0 1 ≠ 0 →
          ((v.ownEntry d row).2.flipTry (newFlip (State.engineAt a) table row image (s.ruleImage d.rule) (.grad m.source)
            (.grad ((u32s (m.body.drop 16)).take d.dim) (le m.body 8 4) (le m.body 12 4)) a)).1 = .inl f →
          ∃ t, exec (.grad p 0) s = .next t ∧ got t ∧ t.egs.flips = s.egs.flips ++ [f])) ∧
      (s.inMessage p 2 2 = some m → copies (.replicaPut p 0) (.replicaPut (le m.body 2 1) (m.body.drop 8))) ∧
      (s.inMessage p 2 3 = some m → copies (.replicaRemove p 0) .replicaRemove))

/-- R538, R624 to R626, R628 to R631, R653, R963: credits of posted updates, probes and reachability. -/
def Obligations.CreditsAndProbesAreAnswered : Prop :=
  ∀ (s : State) (p : Nat) (m : CoastMsg), p ≤ 8 → s.held = false →
    let d := m.source
    (s.inMessage p 1 4 = some m → ∃ t, exec (.updCredit p 0) s = .next t ∧ (t.member d).freed = le m.body 0 4 ∧
      (t.member d).epoch = m.status ∧ t.num Obj.UNREACHABLE_MASK = s.num Obj.UNREACHABLE_MASK) ∧
    (∀ x, s.inMessage p 1 3 = some m → s.routePort s.addr d = some x → s.portUp x = true →
      ∃ t, exec (.probeAck p 0) s = .next t ∧ (t.member d).freed = le m.body 0 4 ∧ (t.member d).epoch = m.status ∧
        t.num Obj.UNREACHABLE_MASK = setBit (s.num Obj.UNREACHABLE_MASK) d false) ∧
    (∀ c, (s.member d).advanced = some c → c + 32 ≤ s.clock →
      let bytes := s.coastMsg d 4 (s.num Obj.RESET_EPOCH) 0 (leBytes 4 (s.member d).freedOut)
      ∃ t, exec (.updCreditTimer d) s = .next t ∧
        t.member d = { s.member d with reported := (s.member d).freedOut, advanced := none } ∧
        (s.routePort s.addr d = none → t.coast.inbox = s.coast.inbox ++ [{ port := 8, vcd := 2, bytes := bytes }]) ∧
        (∀ o, s.routePort s.addr d = some o → s.portUp o = false → (t.port o).queue = (s.port o).queue ++ [{
          src := 8, held := 0, vc := 1, dateline := s.outSet 8 0 o, payloads := payloadsOf bytes, begun := false }])) ∧
    (s.inMessage p 2 4 = some m → m.status = s.num Obj.RESET_EPOCH →
      let sent := le m.body 0 4
      let lost := (sent + 2 ^ 32 - (s.member d).received) % 2 ^ 32
      ∃ t, exec (.probe p 0) s = .next t ∧ (t.member d).received = sent ∧
        (t.member d).freedOut = ((s.member d).freedOut + lost) % 2 ^ 32 ∧
        t.num Obj.UPD_LOST = (if lost = 0 then s.num Obj.UPD_LOST else (s.inc32 Obj.UPD_LOST lost).num Obj.UPD_LOST)) ∧
    (s.inMessage p 1 5 = some m →
      let e := le m.body 0 1
      (s.reachSize ≤ e → exec (.discard p 0) s = .next (s.unbuffer m)) ∧
      (le m.body 1 1 = 1 → e < s.reachSize → e ≠ s.addr →
        ∃ t, exec (.discard p 0) s = .next t ∧ bit (t.num Obj.UNREACHABLE_MASK) e = true)) ∧
    (∀ e, bit (s.num Obj.UNREACHABLE_MASK) e = true → e ∈ s.others → (s.member e).probeAt + 65536 ≤ s.clock →
      exec (.probeTimer e) s = .next (s.sendProbe e) ∧ ((s.sendProbe e).member e).probeAt = s.clock ∧
        ((s.sendProbe e).member e).received = (s.member e).received)

/-- R27, R639 to R642, R647, R680 to R683, R784, R786: the messages and timers of a reach launch. -/
def Obligations.ReachLaunchesGoTogether : Prop :=
  ∀ (s : State) (p : Nat) (m : CoastMsg), p ≤ 8 → s.held = false →
    let u := s.unbuffer m
    let job := le m.body 0 4
    (s.inMessage p 1 0x10 = some m →
      (s.addr ≠ 0 → exec (.launchReady p 0) s = .next u) ∧
      (s.addr = 0 → (le m.body 4 1 = 1 ∨ le m.body 4 1 = 2) → s.num Obj.UNREACHABLE_MASK = 0 → s.coast.launches = [] →
        2 ≤ s.reachSize → ∃ t, exec (.launchReady p 0) s = .next t ∧
          t.coast.launches = [{ job := job, members := [m.source], first := s.clock }] ∧ t.out = s.out)) ∧
    (∀ l, s.coast.launches.find? (fun x => x.job == job) = some l → l.first + 65536 ≤ s.clock →
      (List.range s.reachSize).all (fun d => l.members.contains d) = false →
      exec (.launchWaitExpiry job) s = .next (s.abortLaunch l 3) ∧
        (s.abortLaunch l 3).coast.launches = s.coast.launches.filter (fun x => x.job != job)) ∧
    (s.inMessage p 1 0x11 = some m → ∀ h, s.sched.hold = some h → h.job = job →
      let start := tide40 (le m.body 4 5) s.now
      (s.now + 16 ≤ start → ∃ t, exec (.launchGo p 0) s = .next t ∧ t.coast = u.coast ∧
        t.sched = { s.sched with hold := some { h with start := some start } } ∧
        t.num Obj.LAUNCHES = (s.inc64 Obj.LAUNCHES 1).num Obj.LAUNCHES) ∧
      (start < s.now + 16 → exec (.launchGo p 0) s = .next (u.respond 0 0x12 0 0 (leBytes 4 job ++ leBytes 1 1)))) ∧
    (∀ h x j, s.sched.hold = some h → h.start = some x → s.jobAt h.client h.pos = some j → x ≤ s.now → s.serving = true →
      s.loadReady j = true → exec .reachStart s = .next (s.selectJob j).drainStarted.launchPump.settle) ∧
    (s.inMessage p 1 0x12 = some m → le m.body 4 1 ≠ 1 →
      (s.holdsReach job = true → exec (.launchAbort p 0) s = .next u.abortHold.settle ∧ u.abortHold.sched.hold = none ∧
        u.abortHold.num Obj.LAUNCH_ABORTS = (s.inc32 Obj.LAUNCH_ABORTS 1).num Obj.LAUNCH_ABORTS) ∧
      (s.holdsReach job = false → exec (.launchAbort p 0) s = .next u)) ∧
    (s.inMessage p 1 0x13 = some m →
      ((s.runsReach job || s.holdsReach job) = true → ∃ t, exec (.reachTeardown p 0) s = .next t ∧ t.coast = u.coast ∧
        t.faults.reports = s.faults.reports ++
          [{ plainReport s (le m.body 4 2) 6 s.mortar.parity 0 0 with remote := some m.source }]) ∧
      ((s.runsReach job || s.holdsReach job) = false →
        exec (.reachTeardown p 0) s = .next (u.inc32 Obj.REACH_TEARDOWNS_IGNORED 1))) ∧
    (∀ h, s.sched.hold = some h → h.start = none → h.sentAt + 131072 + s.num Obj.LAUNCH_LEAD ≤ s.now →
      exec .reachHoldTimeout s = .next s.abortHold.settle ∧ s.abortHold.sched.hold = none ∧
        s.abortHold.num Obj.LAUNCH_ABORTS = (s.inc32 Obj.LAUNCH_ABORTS 1).num Obj.LAUNCH_ABORTS)

/-- R655, R656, R678, R686, R712, R713, R715, R721, R753: SQ_TAIL and CQ_HEAD are taken; the completion of a descriptor read
advances SQ_HEAD; a well-formed descriptor fills a job slot, and one that failed or timed out faults its job with 0908h and
halts the client. -/
def Obligations.DescriptorsAreFetchedInOrder : Prop :=
  ∀ (s : State) (c : Nat), 1 ≤ c → c < 64 → s.held = false →
    let d := (s.sqHead c + 1) % 2 ^ 32
    let failed := fun u : State => u.sqHead c = d ∧ u.clientHalted c = true ∧ u.num (Obj.CLIENT_LAST_FAULT c) = 0x0908 ∧
      (u.sched.fetch.any fun p => p.1 == c) = false ∧
      ∃ e : Entry, e ∈ u.sched.entries ∧ e.client = c ∧ e.pos = s.sqHead c ∧ e.outcome = 1 ∧ e.fault = 0x0908 ∧ e.early = true
    (∀ v, v < 2 ^ 32 → s.host.linkUp = true →
      ((s.ringState c = 0 ∨ (v + 2 ^ 32 - s.sqHead c) % 2 ^ 32 ≤ 2 ^ s.sqLog2 c) →
        exec (.sqTail c v) s = .next (s.setCReg c 0x14 v).settle) ∧
      (s.ringState c ≠ 0 → 2 ^ s.sqLog2 c < (v + 2 ^ 32 - s.sqHead c) % 2 ^ 32 →
        exec (.sqTail c v) s = .next (s.cSticky c 2)) ∧
      exec (.cqHead c v) s = .next (s.setCReg c 0x1C v).settle) ∧
    (∀ l : List Byte, (s.sched.fetch.any fun p => p.1 == c) = true → l.length = 256 →
      let j := parseDesc l s.now
      let n := Store.get (fun _ => 0) s.sched.seqNext c
      descWellFormed l s.now = true → (n = 0 ∨ n = j.seq + 1) → (j.cadence = true → s.num (Obj.ENABLE j.gen) ≠ 0) →
      (j.reach = true → 1 < s.reachSize) →
      ∃ u : State, exec (.descriptorFetch c l 0) s = .next u.settle ∧ u.sqHead c = d ∧
        u.num (Obj.CLIENT_LAST_SEQUENCE c) = j.seq ∧ u.clientHalted c = s.clientHalted c ∧
        (u.sched.fetch.any fun p => p.1 == c) = false ∧
        (∀ k r, s.jobsOf c = k :: r → k.candAt.isSome = true → u.sched.slots = s.sched.slots ++ [{
          client := c, pos := s.sqHead c, desc := j, maint := none, candAt := none, elig := none, displaced := 0
          aborts := 0, bad := false }])) ∧
    (∀ (l : List Byte) (st : Nat), (s.sched.fetch.any fun p => p.1 == c) = true → st ≠ 0 →
      ∃ u : State, exec (.descriptorFetch c l st) s = .next u.settle ∧ failed u) ∧
    ((s.sched.fetch.any fun p => p.1 == c && decide (p.2 + 2500000 ≤ s.clock)) = true →
      ∃ u : State, exec (.fetchTimeout c) s = .next u.settle ∧ failed u)

/-- R24, R93, R124, R147, R667, R673, R675, R679, R696: the job that the choice of R667 gives is selected once its load is
READY, at once at a selection event or when the load completes; a reach job is held. A selected job whose switch meets no check
owns the chip: the parity changes, the wall opens, and brick SRAM is zeroised on an owner change. An uncorrectable word in
other scheduler state stops the device. -/
def Obligations.SelectionSwitchesTheWall : Prop :=
  (∀ (s : State) (j : Job), s.held = false → s.sched.event = true → s.maySelect = true → s.choiceWaits = false →
    s.choose.job = some j → j.maint = none →
    let r := s.choose.refused.map (fun k => (k.client, k.pos))
    let u := s.countRefused s.choose.refused
    (s.loadReady j = true → j.desc.reach = false →
      exec (.jobSelect .none) s = .next ((u.displace (some j) r []).selectJob j).settle) ∧
    (s.loadReady j = false → ∃ t : State, exec (.jobSelect .none) s = .next t.settle ∧ t.sched.chosen = some (j.client, j.pos) ∧
      t.num Obj.SCHED_STATE = 1 ∧ t.sched.event = false ∧ t.sched.run = none)) ∧
  (∀ s : State, s.held = false → s.sched.event = true → s.maySelect = true → s.choiceWaits = false →
    (∃ t : State, exec (.jobSelect .other) s = .next t ∧ t.faults.device = true ∧ t.regGet 0x0C = 0x0A60 ∧ t.sched = s.sched) ∧
    (∀ j c p, s.jobAt c p = some j → c ≠ 0 →
      let u := (s.setJob { j with bad := true }).badSlots
      exec (.jobSelect (.slot c p)) s = .next (State.selection 8 u).settle ∧ u.clientHalted c = true ∧
        u.num (Obj.CLIENT_LAST_FAULT c) = 0x0909 ∧ u.jobAt c p = none)) ∧
  (∀ (s : State) (j : Job) (c p : Nat), s.held = false → s.sched.chosen = some (c, p) → s.jobAt c p = some j →
    s.loadReady j = true → s.maySelect = true → s.sched.event = false → j.overdue s.now = false →
    let u := s.inc64 Obj.UNPREDICTED_LOADS 1
    (j.desc.reach = false → exec .loadComplete s = .next ((u.displace (some j) [] s.sched.refused).selectJob j).settle) ∧
    (j.desc.reach = true → s.addr ≠ 0 → bit (s.num Obj.UNREACHABLE_MASK) 0 = false →
      ∃ t : State, exec .loadComplete s = .next t.settle ∧ t.num Obj.SCHED_STATE = 5 ∧ t.sched.hold = some {
        client := j.client, pos := j.pos, job := j.desc.reachJob, sentAt := s.now, start := none })) ∧
  (∀ (s : State) (j : Job), j.maint = none → s.mortar.credits = [] → (∀ m, m ∈ s.mortar.flight → m.parity = s.mortar.parity) →
    s.wall.shadowUe = [] → s.tables.pending = false → s.tables.appliedNow = false → (∀ c, c < 68 → s.courseState c ≠ 3) →
    le (s.hbmBytes j.desc.bundle 64) 16 1 ≤ s.logicalCourses →
    let t := s.selectJob j
    t.sched.run = some { job := j, start := s.now, ownerChange := j.client != s.sched.lastOwner, mute := false } ∧
      t.num Obj.CURRENT_CLIENT = j.client ∧ t.num Obj.SCHED_STATE = 3 ∧ t.jobAt j.client j.pos = none ∧
      t.sched.lastOwner = j.client ∧ t.mortar.parity = 1 - s.mortar.parity ∧ t.mortar.flight = [] ∧ t.wall.closed = false ∧
      t.num Obj.SELECTIONS = (s.inc64 Obj.SELECTIONS 1).num Obj.SELECTIONS ∧
      (j.desc.paramsEn = false → j.client ≠ s.sched.lastOwner → t.wall.sram = [] ∧ t.wall.params = []) ∧
      (j.desc.paramsEn = false → j.client = s.sched.lastOwner → t.wall.sram = s.wall.sram ∧ t.wall.params = s.wall.params))

/-- R663, R666, R676, R677, R693, R694: a bulk candidate becomes eligible at its LAUNCH_TIDE, an eligible cadence job expires
at its DEADLINE, and a running job that outlives MAX_RUN faults with 0901h. -/
def Obligations.JobTimersAct : Prop :=
  ∀ s : State, s.held = false →
    (∀ (c : Nat) (j : Job), (s.jobsOf c).head? = some j → j.candAt.isSome = true → j.elig = none → j.desc.cadence = false →
      j.desc.launch ≤ s.now →
      ∃ u : State, exec (.bulkEligible c) s = .next u.settle ∧
        u.sched.slots = s.sched.slots.map (fun k =>
          if k.client == j.client && k.pos == j.pos then { j with elig := some (max j.desc.launch (j.candAt.getD 0)) } else k) ∧
        (s.sched.run = none → u.sched.event = true)) ∧
    (∀ (c : Nat) (j : Job), (s.jobsOf c).head? = some j → j.desc.cadence = true → j.elig.isSome = true →
      j.desc.deadline ≤ s.now → s.sched.hold = none → j.maint = none →
      ∃ u : State, exec (.deadlineExpiry c) s = .next u.settle ∧ u.jobAt j.client j.pos = none ∧
        u.num (Obj.CLIENT_EXPIRED j.client) = (s.inc64 (Obj.CLIENT_EXPIRED j.client) 1).num (Obj.CLIENT_EXPIRED j.client) ∧
        ∃ e : Entry, e ∈ u.sched.entries ∧ e.client = j.client ∧ e.pos = j.pos ∧ e.outcome = 2 ∧ e.finish = s.now) ∧
    (∀ r, s.sched.run = some r → r.start + r.job.desc.maxRun ≤ s.now → s.jobDone = false → s.sched.tear = none →
      (∀ f, f ∈ s.faults.reports → f.code ≠ 0x0901) →
      exec .runWatchdog s = .next { s with faults := { s.faults with
        reports := s.faults.reports ++ [plainReport s 0x0901 7 s.mortar.parity r.job.desc.maxRun 0] } })

/-- R692, R710, R740 to R745: each client command acts in the ring states that permit it, and in another sets CMD_REFUSED. -/
def Obligations.ClientCommandsFollowTheRingState : Prop :=
  ∀ (s : State) (c : Nat), 1 ≤ c → c < 64 → s.held = false → s.host.linkUp = true → s.nv.ready = true →
    (s.ringState c = 0 → s.ringConfigOk c = true → ∃ u : State, exec (.enable c) s = .next u.settle ∧ u.ringState c = 1 ∧
      u.sqHead c = s.sqTail c ∧ u.cqTail c = s.cqHead c ∧ u.clientHalted c = false) ∧
    (s.ringState c = 1 → s.sched.hold = none → ∃ u : State, exec (.stop c) s = .next u.settle ∧ u.ringState c = 2 ∧ u.jobsOf c = [] ∧
      (u.sched.fetch.any fun p => p.1 == c) = false ∧
      ∀ j, j ∈ s.jobsOf c → j.maint = none →
        ∃ e : Entry, e ∈ u.sched.entries ∧ e.client = c ∧ e.pos = j.pos ∧ e.outcome = 4) ∧
    (s.ringState c = 3 → exec (.disable c) s = .next (s.setNum (Obj.RING_STATE c) 0)) ∧
    (s.clientHalted c = true → s.haltedNow c = none → ∃ u : State, exec (.resume c) s = .next u.settle ∧ u.clientHalted c = false ∧
      u.reg = s.reg ∧ u.sched.slots = s.sched.slots) ∧
    (s.haltedNow c = some true → ∃ u : State, exec (.resume c) s = .next u.settle ∧ u.clientHalted c = s.clientHalted c ∧
      u.sched.slots = s.sched.slots) ∧
    (s.clientHalted c = true → s.haltedNow c = none → s.sched.hold = none → ∃ u : State, exec (.resumeFlush c) s = .next u.settle ∧
      u.clientHalted c = false ∧ u.jobsOf c = [] ∧ u.sqHead c = s.sqTail c) ∧
    (s.ringState c ≠ 0 → exec (.enable c) s = .next (s.cSticky c 3)) ∧
    (s.ringState c ≠ 1 → exec (.stop c) s = .next (s.cSticky c 3)) ∧
    (s.ringState c ≠ 3 → exec (.disable c) s = .next (s.cSticky c 3)) ∧
    (s.resumable c = false → exec (.resume c) s = .next (s.cSticky c 3) ∧ exec (.resumeFlush c) s = .next (s.cSticky c 3))

/-- R91, R703 to R705, R727, R728, R730 to R733, R754, R755, R897: host reads and writes of the BARs, the doorbells, and the
messages of MSI-X. -/
def Obligations.HostAccessesAreServed : Prop :=
  ∀ s : State, s.held = false → s.host.linkUp = true →
    (∀ off n, 1 ≤ n → off + n ≤ 2 ^ s.bar2Log2 → off + n ≤ 2 ^ 38 → let a := s.bar2Window + off
      (s.hostBarred = false → s.calPause = false → a + n ≤ usableEnd → (∀ x, a ≤ x → x < a + n → s.hbmDead x = false) →
        (∀ w, w ∈ s.hbm.ce ++ s.hbm.ue → w / 8 ∉ linesOf a n) →
        exec (.bar2Read off n false) s = .next (s.emit (.reply ((s.hbmBytes a n).map some)))) ∧
      (s.hostBarred = true →
        exec (.bar2Read off n false) s = .next (s.bar2Refused.emit (.reply (List.replicate n (some 0xFF))))) ∧
      ∃ t : State, exec (.bar2Read off n true) s = .next t.settle ∧ t.faults.device = true ∧ t.regGet 0x0C = 0x0A70 ∧
        t.hbm.mem = s.hbm.mem) ∧
    (∀ off (l : List Byte), 1 ≤ l.length → off + l.length ≤ 2 ^ s.bar2Log2 → off + l.length ≤ 2 ^ 38 → let a := s.bar2Window + off
      (s.hostBarred = false → a + l.length ≤ usableEnd → (∀ x, a ≤ x → x < a + l.length → s.hbmDead x = false) →
        (∀ w, w ∈ s.hbm.ce ++ s.hbm.ue → w / 8 ∉ State.mergedLines a l.length) →
        ∃ t, exec (.bar2Write off l false false) s = .next t ∧ t.hbmBytes a l.length = l ∧
          (∀ x, x < a ∨ a + l.length ≤ x → t.hbmByte x = s.hbmByte x) ∧ t.reg = s.reg ∧ t.obj = s.obj) ∧
      (s.hostBarred = true → exec (.bar2Write off l false false) s = .next s.bar2Refused) ∧
      (∃ t : State, exec (.bar2Write off l false true) s = .next t.settle ∧ t.faults.device = true ∧ t.regGet 0x0C = 0x0A70 ∧
        t.hbm.mem = s.hbm.mem) ∧
      ∀ b, exec (.bar2Write off l true b) s = .next s.poisonedWrite) ∧
    (∀ bar off size v, (bar = 0 ∧ off + size ≤ 0x10000 ∨ bar = 4 ∧ off + size ≤ 0x1000) →
      exec (.bar0Write bar off size v true) s = .next s.poisonedWrite ∧
      (State.sizeOk bar off size = false → exec (.bar0Write bar off size v false) s = .next s.accessRefused ∧
        exec (.bar0Read bar off size) s = .next (s.accessRefused.emit (.reply ((leBytes size 0).map some))))) ∧
    (∀ v, v < 2 ^ 32 → exec (.bar0Write 0 8 4 v false) s = .next (s.regSet 8 (s.regGet 8 &&& (31 - v % 32))) ∧
      exec (.bar0Write 0 0x40 4 v false) s = .next (s.inc32 Obj.IGNORED_STAT_WRITES 1)) ∧
    exec (.bar0Read 0 0x40 8) s =
      .next ((s.regSet 0x44 (s.now / 2 ^ 32)).emit (.reply ((leBytes 8 s.now).map some))) ∧
    (∀ v, v < 2 ^ 32 → s.hostBarred = false → bit v 31 = true → s.host.busy = false →
      (1 ≤ v % 2048 → v % 2048 ≤ 1920 → ∃ t, exec (.mbDoorbell v) s = .next t ∧ t.host.busy = true ∧ t.host.ready = false ∧
        t.host.request = some (Sys2Proof.Machine.mailboxRequest (Store.getMany zeroByte s.host.mailbox 0x100 (v % 2048)))) ∧
      ((v % 2048 = 0 ∨ 1920 < v % 2048) →
        exec (.mbDoorbell v) s = .next (s.regSet 0x10008 (setBit (s.regGet 0x10008) 1 true)))) ∧
    (∀ v, v < 2 ^ 32 → bit v 31 = true → v % 65536 = 0x5752 → s.num Obj.HOST_RESET_ENABLE = 1 → s.nv.ready = true →
      s.warmRefused = false → ∃ t, exec (.resetRequest v) s = .next t ∧ t.nv.warm = true ∧ t.nv.ready = false ∧
        t.sched.run = none ∧ t.sched.slots = [] ∧ t.sched.hold = none) ∧
    (∀ v, v < 2 ^ 32 → v % 65536 ≠ 0x5752 → exec (.resetRequest v) s = .next s.accessRefused) ∧
    (∀ v, v < 128 → v ∈ s.host.due →
      (s.vectorMasked v = true → ∃ t, exec (.msixSend v) s = .next t ∧ v ∈ t.host.pba ∧ v ∉ t.host.due ∧ t.out = s.out) ∧
      (s.vectorMasked v = false → Store.get (fun _ => 0) s.host.sentAt v = 0 →
        ∃ t, exec (.msixSend v) s = .next t ∧ t.out = s.out ++ [.msix v] ∧ v ∉ t.host.due ∧ t.host.pba = s.host.pba))

/-- R699, R756 to R758, R787, R846, R886: resets of the host, retraining, PERST_N and the end of training. -/
def Obligations.HostResetsEmptyTheRings : Prop :=
  ∀ s : State, s.held = false →
    (∀ k, 1 ≤ k → k ≤ 5 → ∃ u : State, exec (.hostReset k) s = .next u.lullFollows.settle ∧ u.sched.entries = [] ∧ u.sched.fetch = [] ∧
      u.sched.hold = none ∧ u.sched.chosen = none ∧ u.sched.slots = s.sched.slots.filter (fun j => j.maint.isSome) ∧
      u.sched.run = s.sched.run.map (fun r => { r with mute := r.job.maint.isNone }) ∧ u.host.due = [] ∧ u.host.pba = [] ∧
      u.host.linkUp = (s.host.linkUp && decide (3 < k)) ∧ u.host.request = none ∧
      u.reg = s.reg.filter (fun p => p.1 == 0x44 || decide (0x10000 ≤ p.1)) ∧ u.hbm.mem = s.hbm.mem) ∧
    (s.host.linkUp = true →
      exec .linkRetrain s = .next { s.inc32 Obj.LINK_RETRAINS 1 with host := { s.host with linkUp := false } }) ∧
    exec .perstNDeassertion s = .next { s with host := { s.host with perst := false } } ∧
    (∀ rate flit width, 1 ≤ rate → rate ≤ 6 → width ∈ [1, 2, 4, 8, 16] → s.host.perst = false → s.nv.otp.bad = false →
      3 ≤ s.nv.step →
      ∃ u : State, exec (.linkSettled rate flit width) s = .next u.settle ∧ u.host.linkUp = true ∧
        u.num Obj.LINK_STATE = rate * 4096 + b2n flit * 2048 + width * 32 + s.num Obj.LINK_STATE % 4)

/-- R765, R768, R770, R774, R778, R788 to R790, R799, R801, R996, R998: a report of the running job tears it down: the record
is queued, the client is halted, the wall closes, and 480 mc later the entry is FAULTED and INDETERMINATE and the chip is free;
a report of the other parity counts as secondary, and one with a parity error stops the device. Records go to the ring and the
spill ring, lines to the UART pin. -/
def Obligations.FaultReportsTearTheJobDown : Prop :=
  ∀ s : State, s.held = false →
    (∀ (f : FaultReport) (r : Run), s.faults.reports = [f] → f.parity = s.mortar.parity → f.remote = none → f.treeError = false →
      s.sched.run = some r → r.job.maint = none → s.sched.tear = none → s.faults.queue.length < 64 →
      ∃ u : State, exec (.faultReport 1 false) s = .next u.settle ∧ u.sched.run = some r ∧ u.faults.reports = [] ∧
        u.num Obj.SCHED_STATE = 4 ∧ u.wall.closed = true ∧
        u.sched.tear = some { at_ := s.clock + 20, outcome := 1, code := f.code, owed := false } ∧
        u.num (Obj.CLIENT_LAST_FAULT r.job.client) = f.code ∧ (r.job.client ≠ 0 → u.clientHalted r.job.client = true) ∧
        ∃ x : LogRec, x ∈ u.faults.queue ∧ x.code = f.code ∧ x.kind = 1 ∧ x.client = r.job.client ∧ x.source = f.source ∧
          x.detail0 = f.detail0 ∧ x.detail1 = f.detail1) ∧
    (∀ (r : Run) (t : Teardown), s.sched.run = some r → s.sched.tear = some t → t.at_ ≤ s.clock → r.job.maint = none →
      r.mute = false → t.owed = false →
      ∃ u : State, s.tearDue = u.settle ∧ u.sched.run = none ∧ u.sched.tear = none ∧ u.num Obj.SCHED_STATE = 0 ∧
        u.num Obj.TEARDOWNS = (s.inc64 Obj.TEARDOWNS 1).num Obj.TEARDOWNS ∧
        ∃ e : Entry, e ∈ u.sched.entries ∧ e.client = r.job.client ∧ e.pos = r.job.pos ∧ e.outcome = t.outcome ∧ e.fault = t.code ∧
          e.indeterminate = true ∧ e.start = r.start ∧ e.finish = s.now % 2 ^ 64) ∧
    (∀ f : FaultReport, s.faults.reports = [f] → f.parity ≠ s.mortar.parity → f.remote = none →
      ∃ u : State, exec (.faultReport 1 false) s = .next u.settle ∧ u.sched = s.sched ∧ u.faults.reports = [] ∧
        u.num Obj.SECONDARY_FAULTS = (s.inc64 Obj.SECONDARY_FAULTS 1).num Obj.SECONDARY_FAULTS) ∧
    (∀ f l, s.faults.reports = f :: l → f.parity = s.mortar.parity →
      ∃ u : State, exec (.faultReport 1 true) s = .next u.settle ∧ u.faults.reports = l ∧ u.faults.device = true ∧
        u.regGet 0x0C = 0x0A60) ∧
    exec .reservationExpiry s = .next { s with egs := { s.egs with
      reserved := s.egs.reserved.filter (fun x => decide (s.clock < x.2.2.2.2 + 65536)) } } ∧
    (∀ (r : LogRec) (l : List LogRec), s.faults.queue = r :: l →
      let n := s.num Obj.LOG_WRITTEN
      let a := 0x2FFE000000 + 64 * (n % 262144)
      ∀ b, ∃ t, exec (.logRecordWrite b) s = .next t ∧ t.num Obj.LOG_WRITTEN = (n + 1) % 2 ^ 32 ∧ (n % 512, r) ∈ t.faults.ring ∧
        (n % 512 ∈ t.faults.ringBad ↔ b = true) ∧
        (s.hbmDead a = false → t.faults.queue = l ∧ t.hbmBytes a 64 = r.bytes ∧
          ∀ x, x < a ∨ a + 64 ≤ x → t.hbmByte x = s.hbmByte x) ∧
        (s.hbmDead a = true → t.hbm = s.hbm ∧ t.num Obj.SPILL_DROPPED = (s.inc32 Obj.SPILL_DROPPED 1).num Obj.SPILL_DROPPED)) ∧
    (∀ (x : List Byte) (r : List (List Byte)), s.pins.uart = x :: r → (s.someFn 2).isSome = true →
      ∃ t, exec .uartLine s = .next t ∧ t.out = s.out ++ [.uart x] ∧ t.pins.uart = r ∧
        t.num Obj.UART_LINES = (s.inc64 Obj.UART_LINES 1).num Obj.UART_LINES) ∧
    ((s.someFn 3).isSome = true → exec .uartRxCharacter s = .next (s.inc64 Obj.UART_RX_CHARS 1))

/-- R407 to R409, R425, R912, R917, R919 to R922, R925 to R928, R934, R935, R940, R949, R950: the samples of the two throttles,
the sensors and their calibration, the automatic wake, the end of waking and of a drain, and the thermal trip. -/
def Obligations.PowerFollowsTheSamples : Prop :=
  (∀ s : State, s.held = false → s.tide.nextThrottle ≤ s.now → s.tideAt 0 1024 = true →
    bit (s.num Obj.THROTTLE_DISABLE) 4 = false →
    let c := s.before.thermalCandidate Obj.THROTTLE_POINTS (s.hottest 17 4) (s.anyFaulty 17 4)
    let r := s.num Obj.RATE_NOW
    ∃ t, exec .throttleSample s = .next t ∧ t.tide = { s.tide with nextThrottle := nextAt 0 1024 (s.now + 1) } ∧
      t.num Obj.DISPATCH_LEVEL = s.num Obj.DISPATCH_LEVEL ∧
      (c ≤ r → t.num Obj.RATE_NOW = c ∧ t.csa.candidates = []) ∧
      (r < c → s.csa.candidates.length < 3 → t.num Obj.RATE_NOW = r ∧ t.csa.candidates = c :: s.csa.candidates) ∧
      (r < c → 3 ≤ s.csa.candidates.length → t.num Obj.RATE_NOW = s.csa.candidates.foldl min c ∧ t.csa.candidates = [])) ∧
  (∀ (s : State) (p e : Nat), s.held = false → s.tide.nextDispatch ≤ s.now → s.tideAt 0 1024 = true → p < 65536 →
    bit (s.num Obj.DISPATCH_THROTTLE_DISABLE) 4 = false →
    let c := s.before.thermalCandidate Obj.DISPATCH_POINTS (s.hottest 0 17) (s.anyFaulty 0 17)
    let level := s.num Obj.DISPATCH_LEVEL
    let limit := s.num Obj.POWER_LIMIT
    ∃ t, exec (.dispatchSample p e) s = .next t ∧ t.num Obj.POWER_NOW = p ∧
      t.num Obj.ENERGY_J = (s.inc64 Obj.ENERGY_J e).num Obj.ENERGY_J ∧ t.num Obj.RATE_NOW = s.num Obj.RATE_NOW ∧
      t.tide = { s.tide with nextDispatch := nextAt 0 1024 (s.now + 1) } ∧
      (limit ≠ 0 → limit < p → 1 < level → level ≤ 64 → t.num Obj.DISPATCH_LEVEL < level) ∧
      ((limit = 0 ∨ p ≤ limit) → c ≤ level → c ≤ 64 → t.num Obj.DISPATCH_LEVEL = c)) ∧
  (∀ (s : State) (temps hbm : List Int) (k : Nat), s.held = false → k < 32 → k < temps.length → s.calibrating k = false →
    ∃ t, exec (.sensorReading temps hbm) s = .next t ∧
      t.octs Obj.SENSOR_TEMPS (2 * k) 2 = leBytes 2 (ofSigned 16 (temps.getD k 0)) ∧
      ((temps.getD k 0 < -640 ∨ 2400 < temps.getD k 0) → bit (t.num Obj.SENSOR_FAULTY) k = true)) ∧
  (∀ (s : State) (errors : List Int), s.held = false →
    (s.tide.nextSensor ≤ s.now → s.tideAt 0 1048576 = true → ∃ t, exec (.sensorCalibration errors) s = .next t ∧
      t.num Obj.CALIBRATIONS = (s.inc64 Obj.CALIBRATIONS 1).num Obj.CALIBRATIONS ∧
      t.tide.nextSensor = nextAt 0 1048576 (s.now + 1) ∧
      let k := s.now / 1048576 % 32
      ((errors.getD k 0 < -64 ∨ 64 < errors.getD k 0) → bit (t.num Obj.SENSOR_FAULTY) k = true)) ∧
    ((s.now < s.tide.nextSensor ∨ s.tideAt 0 1048576 = false) → s.tideAt 0x200 1024 = true →
      (∃ d, d ∈ s.power.tests ∧ d ≤ s.now) → ∃ t, exec (.sensorCalibration errors) s = .next t ∧
      t.power.calUntil = s.now + 256 ∧ t.power.tests = s.power.tests.filter (fun d => !decide (d ≤ s.now)) ∧
      t.num Obj.LAST_KIND = 6)) ∧
  (∀ s : State, s.held = false → s.powerState = 1 → s.power.automatic = true →
    (∃ g, g < 16 ∧ s.num (Obj.ENABLE g) = 1 ∧ s.num (Obj.NEXT_LAUNCH g) ≤ s.now + 800) →
    exec .autoWake s = .next s.enterWaking ∧ s.enterWaking.powerState = 2 ∧ s.enterWaking.power.wakeAt = s.now) ∧
  (∀ s : State, s.held = false → s.powerState = 2 → s.power.wakeAt + 800 ≤ s.now → s.sched.run = none → s.sched.hold = none →
    s.power.drain = none →
    ∃ u : State, exec .wakeDone s = .next u.settle ∧ u.powerState = (if s.power.lullDue then 1 else 0) ∧ u.sched = s.sched) ∧
  (∀ (s : State) (d : Drain), s.held = false → s.power.drain = some d → s.drained = true →
    ∃ t, exec .drainDone s = .next t ∧ t.powerState = 4 ∧ t.power.drain = none ∧
      (∀ p, p < 8 → t.num (Obj.PORT_STATE p) = 0) ∧ t.num Obj.LAST_DRAIN_US = (s.clock - d.at_) / 50 % 2 ^ 32 ∧
      t.num Obj.HOLD_ENTRIES = (s.inc32 Obj.HOLD_ENTRIES 1).num Obj.HOLD_ENTRIES ∧ t.hbm.mem = s.hbm.mem) ∧
  (∀ s : State, s.pins.off = false → s.num Obj.TRIP_LATCHED = 0 →
    let tripped := fun t : State => t.num Obj.TRIP_LATCHED = 1 ∧
      ∀ n, n < 16 → t.num (Obj.DRIVE_ENABLE n) = s.num (Obj.DRIVE_ENABLE n) % 2
    (s.held = false → ∃ u : State, exec .thermalTrip s = .next u.settle ∧ tripped u ∧ u.faults.device = true ∧
      u.regGet 0x0C = 0x0A20 ∧ u.sched.run = s.sched.run ∧
      (s.sched.tear = none → u.sched.tear = s.sched.run.map (fun _ =>
        { at_ := s.clock + 20, outcome := 4, code := 0, owed := false }))) ∧
    (s.held = true → ∃ t, exec .thermalTrip s = .next t ∧ tripped t ∧ t.faults = s.faults ∧ t.sched = s.sched))

/-- R870, R883 to R885, R898, R899, R901, R909, R998, R1001, R1002: what each reset leaves, and the JTAG instructions that hold
every block. -/
def Obligations.ResetsLeaveTheStatedState : Prop :=
  (∀ (s : State) (c : ColdStart), c.addr < 64 → c.boot < 4 → (s.pins.off = true ∨ s.pins.por = true) → jtagHolds s.pins.jtag = false →
    ∃ t, exec (.coldReset c) s = .next t ∧ t.held = false ∧ t.nv.addr = c.addr ∧ t.nv.boot = c.boot ∧ t.now = c.ticks % 2 ^ 64 ∧
      t.nv.otp = { s.nv.otp with bad := !c.otpOk } ∧ t.nv.flash = s.flashCut.nv.flash ∧ t.wall.sram = [] ∧ t.hbm.mem = [] ∧
      t.sched.run = none ∧ t.pending = s.pending ∧ t.num Obj.TRIP_LATCHED = s.num Obj.TRIP_LATCHED ∧
      (c.otpOk = false → t.nv.ready = false ∧ t.nv.step = 8) ∧
      (c.otpOk = true → c.boot = 2 → t.nv.ready = false ∧ t.nv.hold = true) ∧
      (c.otpOk = true → c.boot ≠ 2 → t.nv.ready = true ∧ t.nv.step = 9)) ∧
  (∀ (s : State) (c : ColdStart), c.addr < 64 → c.boot < 4 → s.pins.por = true → jtagHolds s.pins.jtag = true →
    ∃ t, exec (.coldReset c) s = .next t ∧ t.held = true ∧ t.pins.por = false ∧ t.nv.otp = s.nv.otp) ∧
  (∀ s : State, s.pins.off = false → ∃ t, exec .porNAssertion s = .next t ∧ t.held = true ∧ t.pins.por = true ∧
    t.num Obj.TRIP_LATCHED = 0 ∧ t.nv.otp = s.nv.otp ∧ t.hbm.mem = [] ∧ t.out = s.out ∧ t.pending = s.pending) ∧
  (∀ s : State, ∃ t, exec .railsRemoved s = .next t ∧ t.held = true ∧ t.pins.off = true ∧ t.nv.otp = s.nv.otp ∧
    t.hbm.mem = [] ∧ t.out = s.out ∧ t.pending = s.pending) ∧
  (∀ (s : State) (code : Nat), code < 256 → s.pins.off = false →
    (3 ≤ code → code ≤ 7 → ∃ t, exec (.jtagInstruction code) s = .next t ∧ t.held = true ∧ t.pins.jtag = code ∧
      t.num Obj.TRIP_LATCHED = s.num Obj.TRIP_LATCHED) ∧
    (code = 2 → exec (.jtagInstruction code) s = .next { s with pins := { s.pins with jtag := 2, scan := s.scanLevels } } ∧
      s.scanLevels.take 16 = (List.range 16).map s.padLevel) ∧
    ((code < 2 ∨ 7 < code) → exec (.jtagInstruction code) s = .next { s with pins := { s.pins with
      jtag := if code = 1 then 1 else 0xFF } })) ∧
  (∀ s : State, s.held = false → s.nv.warm = true → ∃ t, exec .warmResetDone s = .next t ∧ t.nv.warm = false ∧
    t.nv.ready = (!s.nv.hold && !s.nv.otp.bad) ∧ t.nv.warmEnd = some s.clock ∧ t.num Obj.WARM_RESET = 0 ∧
    t.num Obj.WARM_RESETS = (s.inc32 Obj.WARM_RESETS 1).num Obj.WARM_RESETS ∧
    t.num Obj.RESET_EPOCH = (s.num Obj.RESET_EPOCH + 1) % 256 ∧ t.mortar.flight = [] ∧ t.mortar.parity = 0 ∧
    t.wall.sram = [] ∧ t.wall.active = [] ∧ t.hbm.mem = s.hbm.mem ∧ t.nv.flash = s.nv.flash)

/-- R892 to R894, R896, R982, R1016, Table 22-4: the operations on flash of a commit, one after another, and the inputs of the
SHORE pins. -/
def Obligations.FlashAndPinsFollowTheirRules : Prop :=
  (∀ (s : State) (j : FlashJob) (same : Bool), s.held = false → s.nv.work = some j →
    (∀ n, j.step = .page n → ∃ t, exec (.flashOperationDone same) s = .next t ∧
      t.flashBytes (j.slot * 0x100000 + n * 256) ((j.image.drop (n * 256)).take 256).length = (j.image.drop (n * 256)).take 256 ∧
      t.nv.work = some { j with step := if (n + 1) * 256 < j.image.length then .page (n + 1) else .verify }) ∧
    (j.step = .verify → exec (.flashOperationDone true) s = .next (s.setWork 4 (some { j with step := .mark }))) ∧
    (j.step = .mark → ∃ t, exec (.flashOperationDone true) s = .next t ∧ t.nv.work = none ∧ t.num Obj.NV_STATE = 0 ∧
      t.slotMarker j.slot = imageMarker j.image ∧ t.num Obj.ACTIVE_SLOT = j.slot ∧ t.num Obj.ACTIVE_SEQUENCE = j.seq ∧
      t.num Obj.LAST_COMMIT_RESULT = 1) ∧
    ((j.step = .verify ∨ j.step = .mark) → ∃ t, exec (.flashOperationDone false) s = .next t ∧ t.nv.work = none ∧
      t.num Obj.NV_STATE = 0 ∧ t.num Obj.LAST_COMMIT_RESULT = 4) ∧
    (j.step = .eraseMarker → ∃ t, exec (.flashOperationDone same) s = .next t ∧ t.num Obj.NV_STATE = 1 ∧
      t.slotMarker j.slot = List.replicate 64 0xFF ∧ t.nv.work = some { j with step := .eraseBlock 0 }) ∧
    (j.step = .eraseImages 0 → ∃ t, exec (.flashOperationDone same) s = .next t ∧ t.num Obj.NV_STATE = 1 ∧
      t.slotMarker 0 = List.replicate 64 0xFF ∧ t.nv.work = some { j with step := .eraseImages 1 }) ∧
    (j.step = .eraseImages 1 → ∃ t, exec (.flashOperationDone same) s = .next t ∧ t.num Obj.NV_STATE = 0 ∧
      t.slotMarker 1 = List.replicate 64 0xFF ∧ t.nv.work = none ∧ t.num Obj.ACTIVE_SLOT = 255) ∧
    (∀ n, (j.step = .eraseMarker ∨ j.step = .eraseBlock n) → ∃ t, exec .flashOperationTimeout s = .next t ∧ t.nv.work = none ∧
      t.num Obj.NV_STATE = 0 ∧ t.num Obj.LAST_COMMIT_RESULT = 2) ∧
    (∀ n, (j.step = .mark ∨ j.step = .page n) → ∃ t, exec .flashOperationTimeout s = .next t ∧ t.nv.work = none ∧
      t.num Obj.NV_STATE = 0 ∧ t.num Obj.LAST_COMMIT_RESULT = 3)) ∧
  (∀ (s : State) (n : Nat) (v : Bool), n < 16 → ∃ t, exec (.shoreInputEdge n v) s = .next t ∧ (t.pin n).pad = v ∧
    (∀ k, k ≠ n → t.pin k = s.pin k) ∧
    (s.held = false → (s.pin n).switchAt = none → s.pinDrives n = false → (t.pin n).sample = some v) ∧
    (s.pinDrives n = true → ((t.pin n).against = true ↔ v ≠ s.outLevel n))) ∧
  (∀ (s : State) (n : Nat), n < 16 → s.held = false → s.pinFn n = 4 →
    (s.pin n).tachAt.getD (s.pin n).tachFrom + 67108864 ≤ s.clock →
    exec (.tachPeriodTimeout n) s = .next (s.setNum (Obj.TACH_PERIOD n) 0xFFFFFFFF))

/-- R817, R818, R823, R829, R830, R833 to R835: frames join the queue of 16; every new request is taken from its queue and
answered once, with the response's opcode, INDEX and SUBINDEX, to its source; a duplicate is answered with its stored response
or dropped. -/
def Obligations.RequestsAreAnsweredOnce : Prop :=
  (∀ (s : State) (q : Request), s.takes q → (rowOfRequest q ≠ .notifyAck ∨ q.src = .mailbox) →
    ∃ t a, exec ((rowOfRequest q).command q) s = .next t ∧
      (∀ mac, q.src = .port mac → t.shore.queue = s.shore.queue.drop 1 ∧
        t.out.getLast? = some (.frame mac q.seq (answerSdu q a))) ∧
      (q.src = .mailbox → t.host.request = none ∧ t.host.busy = false ∧ t.host.ready = true ∧
        Store.getMany zeroByte t.host.mailbox 0x880 (answerSdu q a).length = answerSdu q a) ∧
      (answerSdu q a).take 1 = leBytes 1 (q.opcode + 0x80) ∧
      ((answerSdu q a).drop 4).take 3 = beBytes 2 q.index ++ leBytes 1 q.sub ∧
      (headerCode q ≠ 0 → a = .aborted (headerCode q))) ∧
  (∀ (s : State) (q : Request) (mac : Nat), q.src = .port mac → s.held = false → s.waits q = true → s.nv.otp.bad = false →
    rowOfRequest q ≠ .notifyAck → s.isDuplicate mac q.seq = true →
    (∀ x y, s.sourceOf mac = some x → x.responses.find? (fun p => p.1 == q.seq) = some y →
      ∃ t, exec ((rowOfRequest q).command q) s = .next t ∧ t.out = s.out ++ [.frame mac q.seq y.2] ∧ t.sched = s.sched ∧
        t.num Obj.DUPLICATES_RESENT = (s.inc32 Obj.DUPLICATES_RESENT 1).num Obj.DUPLICATES_RESENT) ∧
    (∀ x, s.sourceOf mac = some x → x.responses.find? (fun p => p.1 == q.seq) = none →
      ∃ t, exec ((rowOfRequest q).command q) s = .next t ∧ t.out = s.out ∧ t.sched = s.sched ∧
        t.num Obj.DUPLICATES_DROPPED = (s.inc32 Obj.DUPLICATES_DROPPED 1).num Obj.DUPLICATES_DROPPED)) ∧
  (∀ (s : State) (f : Frame), fromPort f.request = true → s.held = false → 8 ≤ s.nv.step →
    (f.fcsOk = false → exec (.frameReceive f) s = .next (s.inc32 Obj.FCS_ERRORS 1)) ∧
    (f.fcsOk = true → frameWanted s f = false → exec (.frameReceive f) s = .next (s.inc32 Obj.FRAMES_DISCARDED 1)) ∧
    (f.fcsOk = true → frameWanted s f = true → frameLengthOk f = true →
      (s.shore.queue.length < 16 → ∃ t, exec (.frameReceive f) s = .next t ∧ t.shore.queue = s.shore.queue ++ [f.request] ∧
        t.num Obj.FRAMES_RECEIVED = (s.inc64 Obj.FRAMES_RECEIVED 1).num Obj.FRAMES_RECEIVED) ∧
      (16 ≤ s.shore.queue.length → ∃ t, exec (.frameReceive f) s = .next t ∧ t.shore.queue = s.shore.queue ∧
        t.num Obj.QUEUE_DROPS = (s.inc32 Obj.QUEUE_DROPS 1).num Obj.QUEUE_DROPS)))

/-- R825 to R828, R856, R857, Tables 18-5 and 18-7: what each lease request does in each state of the lease, the end of its
timer, and IDENTIFY. -/
def Obligations.LeaseChangesAsItsTableSays : Prop :=
  (∀ (s : State) (q : Request), s.passes q → let u := s.heard q
    (q.opcode = 0x10 → ∀ ms, s.leaseMs q = some ms →
      (∀ mac, q.src = .port mac →
        (s.shore.lease = 0 →
          exec (.leaseClaim q) s = .next (((u.setLease 1 mac false 1).setTimer ms).replies q (.done (beBytes 4 ms)))) ∧
        (s.shore.lease = 1 → s.shore.holder = mac →
          exec (.leaseClaim q) s = .next ((u.setTimer ms).replies q (.done (beBytes 4 ms)))) ∧
        ((s.shore.lease = 1 ∧ s.shore.holder ≠ mac ∨ s.shore.lease = 2) →
          exec (.leaseClaim q) s = .next ((u.inc32 Obj.CLAIMS_REFUSED 1).replies q (.aborted 0x8502)))) ∧
      (q.src = .mailbox →
        (s.shore.lease = 0 → s.portClaims = false → s.num Obj.MAILBOX_CLAIM_ENABLE = 1 →
          exec (.leaseClaim q) s = .next ((u.setLease 2 0 false 1).replies q (.done (beBytes 4 0)))) ∧
        (s.shore.lease = 0 → s.portClaims = false → s.num Obj.MAILBOX_CLAIM_ENABLE ≠ 1 →
          exec (.leaseClaim q) s = .next ((u.inc32 Obj.CLAIMS_REFUSED 1).replies q (.aborted 0x8503))) ∧
        ((s.shore.lease = 0 ∧ s.portClaims = true ∨ s.shore.lease = 1) →
          exec (.leaseClaim q) s = .next ((u.inc32 Obj.CLAIMS_REFUSED 1).replies q (.aborted 0x8502))) ∧
        (s.shore.lease = 2 → exec (.leaseClaim q) s = .next (u.replies q (.done (beBytes 4 0)))))) ∧
    ((q.opcode = 0x10 ∨ q.opcode = 0x11) → s.leaseMs q = none →
      exec ((rowOfRequest q).command q) s = .next (u.replies q (.aborted 0x8401))) ∧
    (q.opcode = 0x11 → ∀ ms, s.leaseMs q = some ms →
      (s.shore.lease = 1 → s.holdsLease q.src = true →
        exec (.leaseRenew q) s = .next ((u.setTimer ms).replies q (.done (beBytes 4 ms)))) ∧
      ((s.shore.lease ≠ 1 ∨ s.holdsLease q.src = false) →
        exec (.leaseRenew q) s = .next (u.replies q (.aborted 0x8501)))) ∧
    (q.opcode = 0x12 →
      (s.shore.lease = 1 → s.holdsLease q.src = true →
        exec (.leaseRelease q) s = .next ((u.setLease 0 0 false 2).replies q (.done []))) ∧
      (s.shore.lease = 2 → q.src = .mailbox → s.shore.delegated = false →
        exec (.leaseRelease q) s = .next ((u.setLease 0 0 false 2).replies q (.done []))) ∧
      (s.shore.lease = 2 → q.src = .mailbox → s.shore.delegated = true →
        exec (.leaseRelease q) s = .next (((u.setLease 1 s.shore.holder false 2).setTimer
          (s.num Obj.LEASE_DEFAULT_MS)).replies q (.done []))) ∧
      (s.holdsLease q.src = false → exec (.leaseRelease q) s = .next (u.replies q (.aborted 0x8501)))) ∧
    (q.opcode = 0x13 →
      (s.shore.lease = 1 → s.holdsLease q.src = true →
        exec (.leaseDelegate q) s = .next ((u.setLease 2 s.shore.holder true 4).replies q (.done []))) ∧
      (s.holdsLease q.src = false → exec (.leaseDelegate q) s = .next (u.replies q (.aborted 0x8501)))) ∧
    (q.opcode = 0x14 → ∀ mac, q.src = .port mac →
      (s.shore.lease = 2 → (s.shore.delegated = false ∨ s.shore.holder = mac) →
        exec (.leaseRecall q) s = .next (((u.setLease 1 mac false 5).setTimer
          (s.num Obj.LEASE_DEFAULT_MS)).replies q (.done []))) ∧
      (s.shore.lease ≠ 2 → exec (.leaseRecall q) s = .next (u.replies q (.aborted 0x8501)))) ∧
    (q.opcode = 0x30 → let r := s.nv.otp.revision
      exec (.identify q) s = .next (u.replies q (.done (ascii "SWV-4096" ++ (leBytes 1 (65 + r / 2) ++ leBytes 1 (48 + r % 2)) ++
        leBytes 1 s.addr ++ leBytes 1 (s.num Obj.PLCA_NODE_ID) ++ leBytes 1 s.shore.lease ++ leBytes 3 0 ++
        (s.nv.otp.serial ++ List.replicate 16 0x20).take 16))))) ∧
  (∀ s : State, s.held = false → s.shore.lease = 1 → s.shore.leaseEnd / 2 < s.lclk →
    exec .leaseExpiry s = .next (s.setLease 0 0 false 3)) ∧
  (∀ (s : State) (st mac ms r : Nat) (d : Bool), let t := (s.setLease st mac d r).setTimer ms
    t.shore.lease = st ∧ t.shore.holder = mac ∧ t.shore.delegated = d ∧ t.shore.leaseEnd = s.clock + ms * 50000 ∧
      t.num Obj.LEASE_CHANGES = (s.inc32 Obj.LEASE_CHANGES 1).num Obj.LEASE_CHANGES)

/-- R806, R809, R811, R838 to R845, R848, R849, R851, R867, and R50, R51, R341, R391, R991, R1037 for the writes with a row of
their own: reads give the object's value, writes commit it by its kind, block transfers move it in segments; a transfer is
abandoned, notifications are sent, sent again and acknowledged, and PLCA settings take effect. -/
def Obligations.ObjectsAreReadAndWritten : Prop :=
  (∀ (s : State) (q : Request) (r : ObjRow), s.reaches q r → let u := s.heard q
    let k := reqKey q
    let done := fun (c : Instr) (t : State) => exec c s = .next (t.replies q (.done []))
    let v := normNum k (ofBe q.body)
    (q.opcode = 1 → s.wordBad k = false → k ≠ Obj.RECORD → k ≠ Obj.SPILL_RECORD →
      exec (.read q) s = .next (u.replies q (.done (u.valueOf k r))) ∧
      (octetType r.ty = false → keySub k ≠ 0 → s.hardNum k = none → ¬(0x2020 ≤ keyIndex k ∧ keyIndex k ≤ 0x202F ∧ keySub k = 7) →
        u.valueOf k r = beBytes r.size (s.num k)) ∧
      (k = Obj.TIDE_NOW → octetType r.ty = false → u.valueOf k r = beBytes r.size s.now)) ∧
    (rowOfRequest q = .write → r.access = .ro →
      exec (.write q) s = .next ((u.inc32 Obj.IGNORED_STAT_WRITES 1).replies q .ignored)) ∧
    (r.access ≠ .ro → r.kind ≠ .cmd → octetType r.ty = false → u.valueCode k r q.body = 0 → u.stateCode k r = 0 →
      (rowOfRequest q = .write → ∃ t, done (.write q) t ∧
        (r.kind = .w1c → ∀ i, i < 8 * r.size →
          bit (t.num k) i = (bit (s.num k) i && !(bit v i && bit (s.startNum k) i))) ∧
        (r.kind = .forced → bit (t.num k) 0 = bit v 0) ∧
        (r.kind = .count → (keyIndex k < 0x3100 ∨ 0x313F < keyIndex k) → s.startNum k = s.num k → t.num k = v) ∧
        (r.kind = .ctrl → (keyIndex k < 0x3100 ∨ 0x313F < keyIndex k) → t.num k = v)) ∧
      (r.kind = .ctrl → rowOfRequest q = .generatorEnable → let g := q.index - 0x2020
        (v = 1 → s.num (Obj.ENABLE g) = 0 → bit s.tide.offDue g = false →
          ∃ t : State, done (.generatorEnable q) t.settle ∧ t.num (Obj.ENABLE g) = 1 ∧
            (s.num Obj.TIDE_STATE = 0 → bit t.tide.pendingStart g = true ∧ t.num (Obj.NEXT_LAUNCH g) = s.num (Obj.NEXT_LAUNCH g)) ∧
            (s.num Obj.TIDE_STATE ≠ 0 → s.now + 16 ≤ s.num (Obj.PHASE g) → bit t.tide.pendingStart g = false ∧
              t.num (Obj.NEXT_LAUNCH g) = s.num (Obj.PHASE g) ∧ t.num (Obj.ACCUMULATOR g) = 0)) ∧
        (v = 0 → s.num (Obj.ENABLE g) = 1 →
          ∃ t : State, done (.generatorEnable q) t.settle ∧ t.num (Obj.ENABLE g) = 0 ∧ bit t.tide.pendingStart g = false)) ∧
      (let cleared := fun (t : State) (b : Nat) => (t.csaBank b).state = (if (s.csaBank b).state = 4 then 4 else 1) ∧
          (t.csaBank b).gen = ((s.csaBank b).gen + 1) % 65536 ∧ ∀ i, i < 8192 → t.csaEntry b i = {};
        (r.kind = .ctrl → rowOfRequest q = .csaBankset → s.calPause = false → let c := q.index - 0x3100
          let old := s.num (Obj.CSA_BANKSET c)
          ∃ t, done (.csaBankset q) t ∧ t.num (Obj.CSA_BANKSET c) = v ∧ ∀ b, b < 64 →
            (bit v b = bit old b → t.csaBank b = s.csaBank b) ∧
            (bit old b = true → bit v b = false → cleared t b) ∧
            (bit old b = false → bit v b = true →
              ((s.csaBank b).lastOwner ≠ c → cleared t b ∧ (t.csaBank b).lastOwner = c) ∧
              ((s.csaBank b).lastOwner = c → (s.csaBank b).state = 0 → t.csaBank b = { s.csaBank b with state := 2 }))) ∧
        (r.kind = .ctrl → ∀ c, rowOfRequest q = .entryUnits ∧ c = Instr.entryUnits q ∨ rowOfRequest q = .priorityMode ∧
            c = Instr.priorityMode q → s.calPause = false →
          ∃ t, done c t ∧ t.num k = v ∧ (s.num k ≠ v → cleared t (q.index - 0x7000)) ∧ (s.num k = v → t.csa = s.csa))) ∧
      (r.kind = .ctrl → rowOfRequest q = .function → let n := q.index - 0xE000
        ∃ t, done (.function q) t ∧ t.num (Obj.FUNCTION n) = v ∧ (s.pinFn n ≠ v → t.pinFn n = v ∧
          t.num (Obj.SWITCH_STATE n) = 1 ∧ (t.pin n).switchAt = some s.clock ∧ (t.pin n).driving = false))) ∧
    (rowOfRequest q = .write → r.access ≠ .ro → r.kind ≠ .cmd → octetType r.ty = true → u.valueCode k r q.body = 0 →
      u.stateCode k r = 0 → k ∉ [Obj.REGION_ENTRY, Obj.TABLE_ENTRY, Obj.FREE_RINGS, Obj.STAGE_WINDOW] →
      ∃ t, done (.write q) t ∧ t.octs k 0 (u.normIn k q.body).length = u.normIn k q.body) ∧
    (q.opcode = 3 → s.wordBad k = false → s.transferOf q.src = none → s.transfersFull q.src = false → k ≠ Obj.RECORD →
      k ≠ Obj.SPILL_RECORD → let v := u.valueOf k r
      exec (.blockReadInit q) s = .next ((u.putTransfer { src := q.src, key := k, write := false, total := v.length, data := v
                                                          at_ := s.clock }).replies q (.done (beBytes 4 v.length)))) ∧
    (∀ t, q.opcode = 4 → s.ownTransfer q false = some t → let off := ofBe (q.body.take 4)
      let n := ofBe ((q.body.drop 4).take 2)
      1 ≤ n → n ≤ 1024 → off < t.total →
      exec (.blockReadSegment q) s = .next ((u.putTransfer { t with at_ := s.clock }).replies q
        (.done (beBytes 4 off ++ (t.data.drop off).take n)))) ∧
    (q.opcode = 5 → s.transferOf q.src = none → lengthOk k r (ofBe q.body) = true → s.transfersFull q.src = false →
      exec (.blockWriteInit q) s = .next ((u.putTransfer { src := q.src, key := k, write := true, total := ofBe q.body, data := []
                                                           at_ := s.clock }).replies q (.done []))) ∧
    (∀ t, q.opcode = 6 → s.ownTransfer q true = some t → let d := q.body.drop 4
      d ≠ [] → d.length ≤ 1024 → ofBe (q.body.take 4) = t.data.length → t.data.length + d.length ≤ t.total →
      exec (.blockWriteSegment q) s = .next ((u.putTransfer { t with data := t.data ++ d, at_ := s.clock }).replies q
        (.done (beBytes 4 (t.data.length + d.length))))) ∧
    (∀ t, q.opcode = 7 → s.ownTransfer q true = none → s.ownTransfer q false = some t →
      exec (.blockEnd q) s = .next ((u.closeTransfer q.src).replies q (.done (beBytes 4 (crc32c t.data))))) ∧
    (∀ t, q.opcode = 7 → s.ownTransfer q true = some t → let w := u.closeTransfer q.src
      crc32c t.data = ofBe q.body → t.data.length = t.total → r.access ≠ .ro → r.kind ≠ .cmd → octetType r.ty = true →
      w.valueCode k r t.data = 0 → w.stateCode k r = 0 →
      ∃ x : State, exec (.blockEnd q) s = .next (x.replies q (.done (beBytes 4 (crc32c t.data)))) ∧ x.transferOf q.src = none ∧
        (k ∉ [Obj.REGION_ENTRY, Obj.TABLE_ENTRY, Obj.FREE_RINGS, Obj.STAGE_WINDOW] →
          x.octs k 0 (s.normIn k t.data).length = s.normIn k t.data))) ∧
  (∀ (s : State) (q : Request), s.passes q → q.opcode = 8 →
    exec (.blockCancel q) s = .next (((s.heard q).closeTransfer q.src).replies q (.done []))) ∧
  (∀ (s : State) (src : Source) (t : Transfer), s.held = false → s.transferOf src = some t → t.at_ + 100000000 ≤ s.clock →
    exec (.transferAbandon src) s = .next ((s.closeTransfer src).inc32 Obj.TRANSFERS_ABANDONED 1)) ∧
  (∀ (s : State) (n : Note), s.held = false → s.nextNote = some n → 8 ≤ s.nv.step → s.unacked < 4 → s.notifyMac ≠ 0 →
    ∃ t, exec .notifySend s = .next t ∧ t.shore.noteSeq = (s.shore.noteSeq + 1) % 65536 ∧
      t.out = s.out ++ [.frame s.notifyMac s.shore.noteSeq (sduOf 0x20 0 0 0 (State.noteBody n))] ∧
      t.shore.notes = s.shore.notes.map (fun x =>
        if x = n then { n with seq := some s.shore.noteSeq, tries := n.tries + 1, sentAt := s.clock } else x)) ∧
  (∀ (s : State) (n : Note) (q : Nat), s.held = false → s.shore.notes.find? (fun n => n.seq == some q) = some n →
    n.sentAt + s.num Obj.NOTIFY_RETRY_MS * 50000 ≤ s.clock →
    (n.tries < s.num Obj.NOTIFY_TRIES → s.notifyMac ≠ 0 → ∃ t, exec (.notifyRetry q) s = .next t ∧
      t.out = s.out ++ [.frame s.notifyMac q (sduOf 0x20 0 0 0 (State.noteBody n))] ∧ t.shore.queue = s.shore.queue) ∧
    (s.num Obj.NOTIFY_TRIES ≤ n.tries →
      exec (.notifyRetry q) s = .next ((s.setNotes (s.shore.notes.erase n)).inc32 Obj.NOTIFY_LOST 1))) ∧
  (∀ (s : State) (q : Request) (mac : Nat) (n : Note), s.held = false → s.waits q = true → q.src = .port mac → q.opcode = 0x21 →
    q.version = 1 → s.shore.notes.find? (fun n => n.seq == some q.seq) = some n →
    exec (.notifyAck q) s = .next { s with shore := { s.shore with
      queue := s.shore.queue.drop 1, portAt := s.lclk + 1, notes := s.shore.notes.erase n } }) ∧
  (∀ s : State, s.held = false → s.shore.plcaDue = true → exec .plcaSettingsApply s = .next { s with shore := { s.shore with
    plca := (List.range 6).map (fun n => s.num (Obj.PLCA_ENABLE + n)), plcaDue := false } })

/-- R146, R247, R447, R477, R489, R812, R885, R889 to R892, R896, R898, R914, R915, R934, R939, R940: an accepted command of
the dictionary is answered DONE and has its effect. -/
def Obligations.CommandObjectsHaveTheirEffect : Prop :=
  ∀ (s : State) (q : Request),
    (s.accepts q → let u := s.commanded q
      let v := reqValue q
      let done := fun (c : Instr) (t : State) => exec c s = .next (t.replies q (.done []))
      (rowOfRequest q = .retireCourse → ∃ t, done (.retireCourse q) t ∧
        ((s.courseState (v % 128) = 0 ∨ s.courseState (v % 128) = 1) → t.courseState (v % 128) = 3) ∧
        (2 ≤ s.courseState (v % 128) → t = u) ∧ ∀ c, c ≠ v % 128 → t.courseState c = s.courseState c) ∧
      (rowOfRequest q = .tablesApply → done (.tablesApply q) { u with tables := { u.tables with
        pending := true, asked := if s.tables.pending then s.tables.asked else s.lclk + 1 } }) ∧
      (rowOfRequest q = .regionsApply → done (.regionsApply q) { u with hbm := { u.hbm with
        regionsPending := true, regionsAsked := if s.hbm.regionsPending then s.hbm.regionsAsked else s.lclk + 1 } }) ∧
      (rowOfRequest q = .embApply → done (.embApply q) { u with egs := { u.egs with
        pending := true, asked := if s.egs.pending then s.egs.asked else s.lclk + 1 } }) ∧
      (rowOfRequest q = .retireBlock → ∃ t, done (.retireBlock q) t ∧ t.hbm.mem = s.hbm.mem ∧
        (s.hbm.retired.length < 4096 → v % 2 ^ 27 ∈ t.hbm.retired ∧ ∀ b, b ∈ s.hbm.retired → b ∈ t.hbm.retired)) ∧
      (rowOfRequest q = .startRelease → ∃ t, done (.startRelease q) t ∧
        (s.nv.hold = true → t.nv = { s.nv with hold := false, ready := !s.nv.warm, step := 9 }) ∧
        (s.nv.hold = false → t = u)) ∧
      (rowOfRequest q = .nvCommit → s.num Obj.STAGE_LENGTH = 0 → ∃ t, done (.nvCommit q) t ∧ t.num Obj.NV_STATE = 1 ∧
        t.nv.work = some {
          slot := if s.num Obj.ACTIVE_SLOT = 0 then 1 else 0, image := imageHeader (v % 2 ^ 32) u.liveBody ++ u.liveBody
          seq := v % 2 ^ 32, step := .eraseMarker } ∧ t.nv.flash = s.nv.flash) ∧
      (rowOfRequest q = .eraseImages → ∃ t, done (.eraseImages q) t ∧ t.num Obj.NV_STATE = 1 ∧
        t.nv.work = some { slot := 0, image := [], seq := 0, step := .eraseImages 0 }) ∧
      (rowOfRequest q = .restoreFactoryLive →
        done (.restoreFactoryLive q) (if bit v 0 then u.restoreLive.beginErase else u.restoreLive) ∧
        (∀ k r, u.changedKeys = [k] → rowOf k = some r → octetType r.ty = true → k ≠ Obj.RETIRED_BLOCKS →
          ∀ o, o < 65536 → Store.get Obj.octDefault u.restoreLive.oct (k * 65536 + o) = Obj.octDefault (k * 65536 + o)) ∧
        (∀ k r, u.changedKeys = [k] → rowOf k = some r → octetType r.ty = false → r.kind = .ctrl →
          (keyIndex k < 0x3100 ∨ 0x313F < keyIndex k) → (keyIndex k < 0x2020 ∨ 0x202F < keyIndex k) →
          u.restoreLive.num k = u.factoryNum k) ∧
        (bit v 0 = true → u.restoreLive.beginErase.num Obj.NV_STATE = 1 ∧
          u.restoreLive.beginErase.nv.work = some { slot := 0, image := [], seq := 0, step := .eraseImages 0 })) ∧
      (rowOfRequest q = .warmReset → ∃ t, done (.warmReset q) t ∧ t.nv.warm = true ∧ t.nv.ready = false ∧
        t.num Obj.WARM_RESET = 0x8000 ∧ t.sched.run = none ∧ t.sched.slots = [] ∧ t.sched.hold = none) ∧
      (rowOfRequest q = .powerActive → ∃ t, done (.powerActive q) t ∧ t.num Obj.LULL_HELD = 0 ∧ t.power.lullDue = false ∧
        t.powerState = (if s.powerState = 1 ∨ s.powerState = 4 then 2 else s.powerState)) ∧
      (rowOfRequest q = .powerLull → s.sched.run = none → s.sched.hold = none → s.power.drain = none → s.powerState ≤ 1 →
        ∃ t, done (.powerLull q) t ∧ t.powerState = 1 ∧ t.num Obj.LULL_HELD = 1 ∧ t.power.automatic = false) ∧
      (rowOfRequest q = .powerLull → s.powerState ≠ 1 → ∀ r, s.sched.run = some r →
        ∃ t, done (.powerLull q) t ∧ t.powerState = s.powerState ∧ t.power.lullDue = true) ∧
      (rowOfRequest q = .powerHold → ∃ t, done (.powerHold q) t ∧ t.powerState = 3 ∧
        t.power.drain = some { abandon := bit v 6, at_ := s.clock } ∧
        (s.sched.run = none → s.sched.hold = none → t.sched.slots = [] ∧ t.sched.fetch = []) ∧
        (∀ r, s.sched.run = some r → t.sched.run = some r ∧ (s.sched.tear = none → t.sched.tear =
          if bit v 6 then some { at_ := s.clock + 20, outcome := 4, code := 0, owed := false } else none))) ∧
      (let queued := fun (c : Instr) (kind bank : Nat) => ∃ t : State, done c t.settle ∧ t.sched.slots = s.sched.slots ++ [{
          client := 0, pos := s.sched.maintNext, desc := {}, maint := some (kind, bank), candAt := some s.now, elig := some s.now
          displaced := 0, aborts := 0, bad := false }];
        (rowOfRequest q = .brickLogic → queued (.brickLogic q) 2 0) ∧
        (rowOfRequest q = .brickSram → queued (.brickSram q) 3 0) ∧
        (rowOfRequest q = .selection → queued (.selection q) 4 0) ∧
        (rowOfRequest q = .csaBank → queued (.csaBank q) 5 (v % 64))) ∧
      (rowOfRequest q = .sensors → ∃ t, done (.sensors q) t ∧ t.sched = s.sched ∧
        t.power.tests = s.power.tests ++ [nextAt 0x200 1024 (s.now + 1)])) ∧
    (∀ r, s.reaches q r → q.body.length = r.size → rowOfRequest q = .router → reqValue q % 64 = 0 →
      exec (.router q) s = .next ((s.heard q).replies q (.aborted 0x8303)))

end
end

