-- ==== Sys2Proof/Laws/Store.lean ====
section
/-!
SUPPORT. The laws of the sparse stores that hold numbers, octets and memory: writing keeps the canonical form, a read after a
write gives what was written, and every other key reads as before.
-/

namespace Sys2Proof.Machine

theorem Store.wfFrom_mono {α : Type} [DecidableEq α] {d : Nat → α} {m : Option Nat} {l : Store α} (h : Store.wfFrom d m l =
    true) :
    Store.wfFrom d none l = true := by
  cases l with
  | nil => rfl
  | cons a r => obtain ⟨k, v⟩ := a; simp only [Store.wfFrom, Bool.and_eq_true] at h ⊢; exact ⟨⟨trivial, h.1.2⟩, h.2⟩
theorem Store.wfFrom_iff {α : Type} [DecidableEq α] {d : Nat → α} {m : Option Nat} {l : Store α} :
    Store.wfFrom d m l = true ↔ (∀ p ∈ l, p.2 ≠ d p.1 ∧ ∀ j ∈ m, j < p.1) ∧ l.Pairwise (fun a b => a.1 < b.1) := by
  induction l generalizing m with
  | nil => simp [Store.wfFrom]
  | cons a r ih =>
    obtain ⟨k, v⟩ := a
    simp only [Store.wfFrom, Bool.and_eq_true, ih, List.pairwise_cons, List.mem_cons, Option.mem_def]
    constructor
    · rintro ⟨⟨h1, h2⟩, h3, h4⟩
      refine ⟨?_, ?_, h4⟩
      · rintro p (rfl | hp)
        · refine ⟨of_decide_eq_true h2, ?_⟩
          intro j hj; subst hj; exact of_decide_eq_true h1
        · refine ⟨(h3 p hp).1, ?_⟩
          intro j hj; subst hj
          exact lt_trans (of_decide_eq_true h1) ((h3 p hp).2 k rfl)
      · intro p hp; exact (h3 p hp).2 k rfl
    · rintro ⟨h1, h2, h3⟩
      refine ⟨⟨?_, decide_eq_true (h1 (k, v) (Or.inl rfl)).1⟩, ?_, h3⟩
      · cases m with
        | none => rfl
        | some j => exact decide_eq_true ((h1 (k, v) (Or.inl rfl)).2 j rfl)
      · intro p hp; refine ⟨(h1 p (Or.inr hp)).1, ?_⟩; intro j hj; cases hj; exact h2 p hp
theorem Store.place_mem {α : Type} {k : Nat} {v : α} {l : Store α} {p : Nat × α} : p ∈ Store.place k v l ↔ p = (k, v) ∨ p ∈ l
    := by
  induction l with
  | nil => simp [Store.place]
  | cons a r ih =>
    obtain ⟨k', v'⟩ := a
    simp only [Store.place]
    split
    · simp
    · simp only [List.mem_cons, ih]; tauto
theorem Store.place_pairwise {α : Type} {k : Nat} {v : α} {l : Store α} (h : l.Pairwise (fun a b => a.1 < b.1)) (hk : ∀ p ∈ l,
    p.1 ≠ k) :
    (Store.place k v l).Pairwise (fun a b => a.1 < b.1) := by
  induction l with
  | nil => simp [Store.place]
  | cons a r ih =>
    obtain ⟨k', v'⟩ := a
    rw [List.pairwise_cons] at h
    simp only [Store.place]
    split
    · rename_i hlt
      rw [List.pairwise_cons, List.pairwise_cons]
      refine ⟨?_, h⟩
      intro p hp
      rcases List.mem_cons.1 hp with rfl | hp
      · exact hlt
      · exact lt_trans hlt (h.1 p hp)
    · rename_i hlt
      rw [List.pairwise_cons]
      refine ⟨?_, ih h.2 (fun p hp => hk p (List.mem_cons_of_mem _ hp))⟩
      intro p hp
      rcases Store.place_mem.1 hp with rfl | hp
      · exact lt_of_le_of_ne (not_lt.1 hlt) (hk (k', v') List.mem_cons_self)
      · exact h.1 p hp
theorem Store.set_wf {α : Type} [DecidableEq α] {d : Nat → α} {l : Store α} (k : Nat) (v : α) (h : Store.wf d l = true) :
    Store.wf d (Store.set d l k v) = true := by
  unfold Store.wf at h ⊢
  rw [Store.wfFrom_iff] at h ⊢
  unfold Store.set Store.erase
  have hf : (l.filter (fun p => p.1 != k)).Pairwise (fun a b => a.1 < b.1) := h.2.filter _
  split
  · exact ⟨fun p hp => ⟨(h.1 p (List.mem_of_mem_filter hp)).1, by simp⟩, hf⟩
  · rename_i hv
    refine ⟨?_, Store.place_pairwise hf ?_⟩
    · intro p hp
      rcases Store.place_mem.1 hp with rfl | hp
      · exact ⟨hv, by simp⟩
      · exact ⟨(h.1 p (List.mem_of_mem_filter hp)).1, by simp⟩
    · intro p hp; simpa using (List.mem_filter.1 hp).2
theorem Store.setMany_wf {α : Type} [DecidableEq α] (d : Nat → α) (l : Store α) (a : Nat) (b : List α) (h : Store.wf d l =
    true) :
    Store.wf d (Store.setMany d l a b) = true := by
  induction b generalizing l a with
  | nil => exact h
  | cons x r ih => exact ih _ _ (Store.set_wf a x h)
theorem Store.get_place_self {α : Type} {d : Nat → α} {k : Nat} {v : α} {l : Store α} (h : ∀ p ∈ l, p.1 ≠ k) :
    Store.get d (Store.place k v l) k = v := by
  induction l with
  | nil => simp [Store.place, Store.get]
  | cons a r ih =>
    obtain ⟨k', v'⟩ := a
    have hk : k' ≠ k := h (k', v') List.mem_cons_self
    simp only [Store.place]
    split
    · simp [Store.get]
    · simp only [Store.get, if_neg hk]
      exact ih fun p hp => h p (List.mem_cons_of_mem _ hp)
theorem Store.get_place_ne {α : Type} {d : Nat → α} {k j : Nat} {v : α} {l : Store α} (h : j ≠ k) :
    Store.get d (Store.place j v l) k = Store.get d l k := by
  induction l with
  | nil => simp [Store.place, Store.get, h]
  | cons a r ih =>
    obtain ⟨k', v'⟩ := a
    simp only [Store.place]
    split
    · simp [Store.get, h]
    · simp only [Store.get, ih]
theorem Store.get_filter_of {α : Type} {d : Nat → α} {k : Nat} {f : Nat × α → Bool} {l : Store α}
    (h : ∀ v, f (k, v) = true) : Store.get d (l.filter f) k = Store.get d l k := by
  induction l with
  | nil => rfl
  | cons a r ih =>
    obtain ⟨k', v'⟩ := a
    by_cases e : k' = k
    · subst e; simp [Store.get, List.filter_cons, h]
    · rw [List.filter_cons]; split <;> simp only [Store.get, if_neg e, ih]
theorem Store.get_filter_none {α : Type} {d : Nat → α} {k : Nat} {f : Nat × α → Bool} {l : Store α}
    (h : ∀ v, f (k, v) = false) : Store.get d (l.filter f) k = d k := by
  induction l with
  | nil => rfl
  | cons a r ih =>
    obtain ⟨k', v'⟩ := a
    rw [List.filter_cons]
    split
    · rename_i hf
      have e : k' ≠ k := by rintro rfl; simp [h] at hf
      simp only [Store.get, if_neg e, ih]
    · exact ih
theorem Store.get_set_eq {α : Type} [DecidableEq α] {d : Nat → α} {l : Store α} {k : Nat} {v : α} :
    Store.get d (Store.set d l k v) k = v := by
  unfold Store.set Store.erase
  split
  · rename_i e; rw [Store.get_filter_none (by simp), e]
  · exact Store.get_place_self fun p hp => by simpa using (List.mem_filter.1 hp).2
theorem Store.get_set_ne {α : Type} [DecidableEq α] {d : Nat → α} {l : Store α} {j k : Nat} {v : α} (h : j ≠ k) :
    Store.get d (Store.set d l j v) k = Store.get d l k := by
  have e : Store.get d (l.filter (fun p => p.1 != j)) k = Store.get d l k :=
    Store.get_filter_of fun v => by simpa using fun e : k = j => h e.symm
  unfold Store.set Store.erase
  split
  · exact e
  · rw [Store.get_place_ne h, e]
theorem Store.get_setMany_out {α : Type} [DecidableEq α] {d : Nat → α} {l : Store α} {a x : Nat} {b : List α}
    (h : x < a ∨ a + b.length ≤ x) : Store.get d (Store.setMany d l a b) x = Store.get d l x := by
  induction b generalizing l a with
  | nil => rfl
  | cons v r ih =>
    simp only [List.length_cons] at h
    simp only [Store.setMany]
    rw [ih (by omega), Store.get_set_ne (by omega)]
theorem Store.getMany_congr {α : Type} {d : Nat → α} {l m : Store α} {a n : Nat}
    (h : ∀ x, a ≤ x → x < a + n → Store.get d l x = Store.get d m x) : Store.getMany d l a n = Store.getMany d m a n := by
  induction n generalizing a with
  | zero => rfl
  | succ n ih =>
    simp only [Store.getMany]
    rw [h a (by omega) (by omega), ih fun x h1 h2 => h x (by omega) (by omega)]
theorem Store.getMany_setMany {α : Type} [DecidableEq α] {d : Nat → α} {l : Store α} {a : Nat} {b : List α} :
    Store.getMany d (Store.setMany d l a b) a b.length = b := by
  induction b generalizing l a with
  | nil => rfl
  | cons v r ih =>
    simp only [List.length_cons, Store.getMany, Store.setMany]
    rw [ih, Store.get_setMany_out (by omega), Store.get_set_eq]

end Sys2Proof.Machine
end

