-- ==== Sys2Proof/Laws/Parts.lean ====
section
/-!
SUPPORT. How lemmas say what an operation may change: a predicate `l` on the parts of the state, and the relation
`State.Only l s t`. It composes, so that the lemma of an operation follows from those of the operations it calls.
-/

namespace Sys2Proof.Machine

/-- `t` comes from `s` by changes to the parts that `l` allows: the queue stands, the OTP but for its error mark, external
memory keeps its canonical form, the outputs only grow, and every other part is as it was. -/
structure State.Only (l : Part → Bool) (s t : State) : Prop where
  pending : t.pending = s.pending
  otp : { t.nv.otp with bad := s.nv.otp.bad } = s.nv.otp
  mem : s.memoryOk → t.memoryOk
  out : s.out <+: t.out
  same : ∀ p, l p = false → p.same s t

/-- A number for each part. -/
def Part.code : Part → Nat
  | .num i => i + 32
  | .tide => 0
  | .pps => 1
  | .oct => 2
  | .badObj => 3
  | .reg => 4
  | .faults => 5
  | .wall => 6
  | .mortar => 7
  | .tables => 8
  | .sel => 9
  | .csa => 10
  | .hbm => 11
  | .egs => 12
  | .coast => 13
  | .sched => 14
  | .host => 15
  | .shore => 16
  | .nv => 17
  | .power => 18
  | .pins => 19
  | .out => 20
  | .device => 21
  | .sram => 22
  | .run => 23
  | .mem => 24
  | .slots => 25

/-- The sections of object numbers. -/
def Part.isNum (p : Part) : Bool := decide (32 ≤ p.code)
theorem Part.code_inj {p q : Part} (h : p.code = q.code) : p = q := by
  cases p <;> cases q <;> simp only [Part.code] at h <;> first | rfl | omega | (congr 1; omega)
theorem Part.isNum_iff {p : Part} (h : p.isNum = true) : ∃ i, p = .num i := by
  cases p <;> first | exact ⟨_, rfl⟩ | exact absurd h (by decide)

/-- Every part of the list may change. -/
def Has (l : Part → Bool) (ps : List Part) : Prop := ∀ p ∈ ps, l p = true
theorem Has.bit {l : Part → Bool} {ps : List Part} {p : Part} (h : Has l ps) (hs : (ps.any fun q => q.code == p.code) = true) :
    l p = true := by
  obtain ⟨q, hq, e⟩ := List.any_eq_true.1 hs
  rw [← Part.code_inj (eq_of_beq e)]; exact h q hq
theorem Has.sub {l : Part → Bool} {ps qs : List Part} (h : Has l ps)
    (hs : (qs.all fun p => ps.any fun q => q.code == p.code) = true) : Has l qs :=
  fun p hp => h.bit (List.all_eq_true.1 hs p hp)
theorem Has.all {l : Part → Bool} {ps qs : List Part} (h : Has l ps) (ho : ∀ i, l (.num i) = true)
    (hs : (qs.all fun p => p.isNum || ps.any fun q => q.code == p.code) = true) : Has l qs := by
  intro p hp
  rcases Bool.or_eq_true_iff.1 (List.all_eq_true.1 hs p hp) with e | e
  · obtain ⟨i, rfl⟩ := Part.isNum_iff e; exact ho i
  · exact h.bit e

namespace State.Only
variable {l : Part → Bool}
theorem refl (s : State) : s.Only l s := ⟨rfl, rfl, id, List.prefix_refl _,
    fun p _ => by cases p <;> first | rfl | exact fun _ _ => rfl⟩
theorem ite {s0 a b : State} {c : Prop} [Decidable c] (ha : s0.Only l a) (hb : s0.Only l b) : s0.Only l (if c then a else b) :=
    by
  split <;> assumption
theorem ite2 {s0 : State} {α : Type} {a b : α × State} {c : Prop} [Decidable c] (ha : s0.Only l a.2) (hb : s0.Only l b.2) :
    s0.Only l (if c then a else b).2 := by
  split <;> assumption
theorem ite22 {s0 : State} {α β : Type} {a b : α × β × State} {c : Prop} [Decidable c] (ha : s0.Only l a.2.2) (hb : s0.Only l
    b.2.2) :
    s0.Only l (if c then a else b).2.2 := by
  split <;> assumption
theorem foldl {s0 s : State} {α : Type} {f : State → α → State} {xs : List α} (h : s0.Only l s)
    (hf : ∀ t x, s0.Only l t → s0.Only l (f t x)) : s0.Only l (xs.foldl f s) := by
  induction xs generalizing s with
  | nil => exact h
  | cons a xs ih => exact ih (hf _ _ h)
theorem foldl2 {s0 : State} {α β : Type} {f : β × State → α → β × State} {xs : List α} {p : β × State} (h : s0.Only l p.2)
    (hf : ∀ t x, s0.Only l t.2 → s0.Only l (f t x).2) : s0.Only l (xs.foldl f p).2 := by
  induction xs generalizing p with
  | nil => exact h
  | cons a xs ih => exact ih (hf _ _ h)
theorem foldl1 {s0 : State} {α β : Type} {f : State × β → α → State × β} {xs : List α} {p : State × β} (h : s0.Only l p.1)
    (hf : ∀ t x, s0.Only l t.1 → s0.Only l (f t x).1) : s0.Only l (xs.foldl f p).1 := by
  induction xs generalizing p with
  | nil => exact h
  | cons a xs ih => exact ih (hf _ _ h)
theorem foldl3 {s0 : State} {α β γ : Type} {f : β × γ × State → α → β × γ × State} {xs : List α} {p : β × γ × State} (h :
    s0.Only l p.2.2)
    (hf : ∀ t x, s0.Only l t.2.2 → s0.Only l (f t x).2.2) : s0.Only l (xs.foldl f p).2.2 := by
  induction xs generalizing p with
  | nil => exact h
  | cons a xs ih => exact ih (hf _ _ h)

theorem yes {l : Part → Bool} {p : Part} {q : Prop} (h : q) : l p = false → q := fun _ => h
theorem no {l : Part → Bool} {p : Part} {q : Prop} (h : l p = true) : l p = false → q := fun g => by rw [h] at g; cases g
theorem bit {l : Part → Bool} {p : Part} (h : l p = true) : l p = true := h
theorem fam {l : Part → Bool} {ps : List Part} {b c s : Nat} (h : Has l ps) (hb : b % 0x1000 + 256 ≤ 0x1000) (hs : s < 256)
    (hp : (ps.any fun q => q.code == b / 0x1000 + 32) = true) :
    l (.num (((b + c % 256) * 256 + s) / 0x100000)) = true := by
  have e : ((b + c % 256) * 256 + s) / 0x100000 = b / 0x1000 := by omega
  rw [e]; exact h.bit hp
theorem fam1 {l : Part → Bool} {ps : List Part} {b c : Nat} (h : Has l ps) (hb : b % 0x100000 + 256 ≤ 0x100000)
    (hp : (ps.any fun q => q.code == b / 0x100000 + 32) = true) :
    l (.num ((b + c % 256) / 0x100000)) = true := by
  have e : (b + c % 256) / 0x100000 = b / 0x100000 := by omega
  rw [e]; exact h.bit hp
theorem upd {l : Part → Bool} {s0 x : State} {tide pps obj oct badObj reg faults wall mortar tables sel csa hbm egs coast sched
    host shore nv power pins out}
    (h : s0.Only l x)
    (h_num : ∀ i, l (.num i) = false → ∀ k, k / 0x100000 = i → Store.get Obj.default obj k = x.num k)
    (h_tide : l .tide = false → tide = x.tide)
    (h_pps : l .pps = false → pps = x.pps)
    (h_oct : l .oct = false → oct = x.oct)
    (h_badObj : l .badObj = false → badObj = x.badObj)
    (h_reg : l .reg = false → reg = x.reg)
    (h_faults : l .faults = false → faults = x.faults)
    (h_wall : l .wall = false → wall = x.wall)
    (h_mortar : l .mortar = false → mortar = x.mortar)
    (h_tables : l .tables = false → tables = x.tables)
    (h_sel : l .sel = false → sel = x.sel)
    (h_csa : l .csa = false → csa = x.csa)
    (h_hbm : l .hbm = false → hbm = x.hbm)
    (h_egs : l .egs = false → egs = x.egs)
    (h_coast : l .coast = false → coast = x.coast)
    (h_sched : l .sched = false → sched = x.sched)
    (h_host : l .host = false → host = x.host)
    (h_shore : l .shore = false → shore = x.shore)
    (h_nv : l .nv = false → nv = x.nv)
    (h_power : l .power = false → power = x.power)
    (h_pins : l .pins = false → pins = x.pins)
    (h_out : l .out = false → out = x.out)
   
    (h_device : l .device = false → faults.device = x.faults.device)
   
    (h_sram : l .sram = false → wall.sram = x.wall.sram)
   
    (h_run : l .run = false → sched.run = x.sched.run)
   
    (h_mem : l .mem = false → hbm.mem = x.hbm.mem)
    (h_slots : l .slots = false → wall.slots = x.wall.slots)
    (hm : Memory.wf x.hbm.mem = true → Memory.wf hbm.mem = true) (hotp : nv.otp = x.nv.otp) (hout : x.out <+: out) :
    s0.Only l (State.mk tide pps obj oct badObj reg faults wall mortar tables sel csa hbm egs coast sched host shore nv power
        pins out x.pending) :=
  ⟨h.pending, by show { nv.otp with bad := s0.nv.otp.bad } = _; rw [hotp]; exact h.otp,
   fun m => hm (h.mem m), h.out.trans hout, fun p hp => by
    cases p with
    | num i => exact fun k hk => (h_num i hp k hk).trans (h.same (.num i) hp k hk)
    | tide => exact (h_tide hp).trans (h.same .tide hp)
    | pps => exact (h_pps hp).trans (h.same .pps hp)
    | oct => exact (h_oct hp).trans (h.same .oct hp)
    | badObj => exact (h_badObj hp).trans (h.same .badObj hp)
    | reg => exact (h_reg hp).trans (h.same .reg hp)
    | faults => exact (h_faults hp).trans (h.same .faults hp)
    | wall => exact (h_wall hp).trans (h.same .wall hp)
    | mortar => exact (h_mortar hp).trans (h.same .mortar hp)
    | tables => exact (h_tables hp).trans (h.same .tables hp)
    | sel => exact (h_sel hp).trans (h.same .sel hp)
    | csa => exact (h_csa hp).trans (h.same .csa hp)
    | hbm => exact (h_hbm hp).trans (h.same .hbm hp)
    | egs => exact (h_egs hp).trans (h.same .egs hp)
    | coast => exact (h_coast hp).trans (h.same .coast hp)
    | sched => exact (h_sched hp).trans (h.same .sched hp)
    | host => exact (h_host hp).trans (h.same .host hp)
    | shore => exact (h_shore hp).trans (h.same .shore hp)
    | nv => exact (h_nv hp).trans (h.same .nv hp)
    | power => exact (h_power hp).trans (h.same .power hp)
    | pins => exact (h_pins hp).trans (h.same .pins hp)
    | out => exact (h_out hp).trans (h.same .out hp)
    | device => exact (h_device hp).trans (h.same .device hp)
    | sram => exact (h_sram hp).trans (h.same .sram hp)
    | run => exact (h_run hp).trans (h.same .run hp)
    | mem => exact (h_mem hp).trans (h.same .mem hp)
    | slots => exact (h_slots hp).trans (h.same .slots hp)⟩
theorem upd_tide {s0 x : State} {v} (h : s0.Only l x)
    (t_tide : l .tide = true := by exact Has.bit ‹_› (by decide +kernel)) :
    s0.Only l { x with tide := v } :=
  upd h (fun _ _ _ _ => rfl) (no t_tide) (yes rfl) (yes rfl) (yes rfl) (yes rfl) (yes rfl) (yes rfl) (yes rfl) (yes rfl) (yes
      rfl) (yes rfl) (yes rfl) (yes rfl) (yes rfl) (yes rfl) (yes rfl) (yes rfl) (yes rfl) (yes rfl) (yes rfl) (yes rfl) (yes
      rfl) (yes rfl) (yes rfl) (yes rfl) (yes rfl) id rfl (List.prefix_refl _)
theorem upd_pps {s0 x : State} {v} (h : s0.Only l x)
    (t_pps : l .pps = true := by exact Has.bit ‹_› (by decide +kernel)) :
    s0.Only l { x with pps := v } :=
  upd h (fun _ _ _ _ => rfl) (yes rfl) (no t_pps) (yes rfl) (yes rfl) (yes rfl) (yes rfl) (yes rfl) (yes rfl) (yes rfl) (yes
      rfl) (yes rfl) (yes rfl) (yes rfl) (yes rfl) (yes rfl) (yes rfl) (yes rfl) (yes rfl) (yes rfl) (yes rfl) (yes rfl) (yes
      rfl) (yes rfl) (yes rfl) (yes rfl) (yes rfl) id rfl (List.prefix_refl _)
theorem upd_oct {s0 x : State} {v} (h : s0.Only l x)
    (t_oct : l .oct = true := by exact Has.bit ‹_› (by decide +kernel)) :
    s0.Only l { x with oct := v } :=
  upd h (fun _ _ _ _ => rfl) (yes rfl) (yes rfl) (no t_oct) (yes rfl) (yes rfl) (yes rfl) (yes rfl) (yes rfl) (yes rfl) (yes
      rfl) (yes rfl) (yes rfl) (yes rfl) (yes rfl) (yes rfl) (yes rfl) (yes rfl) (yes rfl) (yes rfl) (yes rfl) (yes rfl) (yes
      rfl) (yes rfl) (yes rfl) (yes rfl) (yes rfl) id rfl (List.prefix_refl _)
theorem upd_badObj {s0 x : State} {v} (h : s0.Only l x)
    (t_badObj : l .badObj = true := by exact Has.bit ‹_› (by decide +kernel)) :
    s0.Only l { x with badObj := v } :=
  upd h (fun _ _ _ _ => rfl) (yes rfl) (yes rfl) (yes rfl) (no t_badObj) (yes rfl) (yes rfl) (yes rfl) (yes rfl) (yes rfl) (yes
      rfl) (yes rfl) (yes rfl) (yes rfl) (yes rfl) (yes rfl) (yes rfl) (yes rfl) (yes rfl) (yes rfl) (yes rfl) (yes rfl) (yes
      rfl) (yes rfl) (yes rfl) (yes rfl) (yes rfl) id rfl (List.prefix_refl _)
theorem upd_reg {s0 x : State} {v} (h : s0.Only l x)
    (t_reg : l .reg = true := by exact Has.bit ‹_› (by decide +kernel)) :
    s0.Only l { x with reg := v } :=
  upd h (fun _ _ _ _ => rfl) (yes rfl) (yes rfl) (yes rfl) (yes rfl) (no t_reg) (yes rfl) (yes rfl) (yes rfl) (yes rfl) (yes
      rfl) (yes rfl) (yes rfl) (yes rfl) (yes rfl) (yes rfl) (yes rfl) (yes rfl) (yes rfl) (yes rfl) (yes rfl) (yes rfl) (yes
      rfl) (yes rfl) (yes rfl) (yes rfl) (yes rfl) id rfl (List.prefix_refl _)
theorem upd_faults {s0 x : State} {v} (h : s0.Only l x)
    (h_device : l .device = false → v.device = x.faults.device := by first | exact State.Only.yes rfl | exact State.Only.no (Has.bit ‹_› (by decide +kernel)))
    (t_faults : l .faults = true := by exact Has.bit ‹_› (by decide +kernel)) :
    s0.Only l { x with faults := v } :=
  upd h (fun _ _ _ _ => rfl) (yes rfl) (yes rfl) (yes rfl) (yes rfl) (yes rfl) (no t_faults) (yes rfl) (yes rfl) (yes rfl) (yes
      rfl) (yes rfl) (yes rfl) (yes rfl) (yes rfl) (yes rfl) (yes rfl) (yes rfl) (yes rfl) (yes rfl) (yes rfl) (yes rfl)
      h_device (yes rfl) (yes rfl) (yes rfl) (yes rfl) id rfl (List.prefix_refl _)
theorem upd_wall {s0 x : State} {v} (h : s0.Only l x)
    (h_sram : l .sram = false → v.sram = x.wall.sram := by first | exact State.Only.yes rfl | exact State.Only.no (Has.bit ‹_› (by decide +kernel))) (h_slots : l .slots = false → v.slots = x.wall.slots := by first | exact State.Only.yes rfl | exact State.Only.no (Has.bit ‹_› (by decide +kernel)))
    (t_wall : l .wall = true := by exact Has.bit ‹_› (by decide +kernel)) :
    s0.Only l { x with wall := v } :=
  upd h (fun _ _ _ _ => rfl) (yes rfl) (yes rfl) (yes rfl) (yes rfl) (yes rfl) (yes rfl) (no t_wall) (yes rfl) (yes rfl) (yes
      rfl) (yes rfl) (yes rfl) (yes rfl) (yes rfl) (yes rfl) (yes rfl) (yes rfl) (yes rfl) (yes rfl) (yes rfl) (yes rfl) (yes
      rfl) h_sram (yes rfl) (yes rfl) h_slots id rfl (List.prefix_refl _)
theorem upd_mortar {s0 x : State} {v} (h : s0.Only l x)
    (t_mortar : l .mortar = true := by exact Has.bit ‹_› (by decide +kernel)) :
    s0.Only l { x with mortar := v } :=
  upd h (fun _ _ _ _ => rfl) (yes rfl) (yes rfl) (yes rfl) (yes rfl) (yes rfl) (yes rfl) (yes rfl) (no t_mortar) (yes rfl) (yes
      rfl) (yes rfl) (yes rfl) (yes rfl) (yes rfl) (yes rfl) (yes rfl) (yes rfl) (yes rfl) (yes rfl) (yes rfl) (yes rfl) (yes
      rfl) (yes rfl) (yes rfl) (yes rfl) (yes rfl) id rfl (List.prefix_refl _)
theorem upd_tables {s0 x : State} {v} (h : s0.Only l x)
    (t_tables : l .tables = true := by exact Has.bit ‹_› (by decide +kernel)) :
    s0.Only l { x with tables := v } :=
  upd h (fun _ _ _ _ => rfl) (yes rfl) (yes rfl) (yes rfl) (yes rfl) (yes rfl) (yes rfl) (yes rfl) (yes rfl) (no t_tables) (yes
      rfl) (yes rfl) (yes rfl) (yes rfl) (yes rfl) (yes rfl) (yes rfl) (yes rfl) (yes rfl) (yes rfl) (yes rfl) (yes rfl) (yes
      rfl) (yes rfl) (yes rfl) (yes rfl) (yes rfl) id rfl (List.prefix_refl _)
theorem upd_sel {s0 x : State} {v} (h : s0.Only l x)
    (t_sel : l .sel = true := by exact Has.bit ‹_› (by decide +kernel)) :
    s0.Only l { x with sel := v } :=
  upd h (fun _ _ _ _ => rfl) (yes rfl) (yes rfl) (yes rfl) (yes rfl) (yes rfl) (yes rfl) (yes rfl) (yes rfl) (yes rfl) (no
      t_sel) (yes rfl) (yes rfl) (yes rfl) (yes rfl) (yes rfl) (yes rfl) (yes rfl) (yes rfl) (yes rfl) (yes rfl) (yes rfl) (yes
      rfl) (yes rfl) (yes rfl) (yes rfl) (yes rfl) id rfl (List.prefix_refl _)
theorem upd_csa {s0 x : State} {v} (h : s0.Only l x)
    (t_csa : l .csa = true := by exact Has.bit ‹_› (by decide +kernel)) :
    s0.Only l { x with csa := v } :=
  upd h (fun _ _ _ _ => rfl) (yes rfl) (yes rfl) (yes rfl) (yes rfl) (yes rfl) (yes rfl) (yes rfl) (yes rfl) (yes rfl) (yes
      rfl) (no t_csa) (yes rfl) (yes rfl) (yes rfl) (yes rfl) (yes rfl) (yes rfl) (yes rfl) (yes rfl) (yes rfl) (yes rfl) (yes
      rfl) (yes rfl) (yes rfl) (yes rfl) (yes rfl) id rfl (List.prefix_refl _)
theorem upd_hbm {s0 x : State} {v} (h : s0.Only l x)
    (h_mem : l .mem = false → v.mem = x.hbm.mem := by first | exact State.Only.yes rfl | exact State.Only.no (Has.bit ‹_› (by decide +kernel))) (hm : Memory.wf x.hbm.mem = true → Memory.wf v.mem = true := by exact id)
    (t_hbm : l .hbm = true := by exact Has.bit ‹_› (by decide +kernel)) :
    s0.Only l { x with hbm := v } :=
  upd h (fun _ _ _ _ => rfl) (yes rfl) (yes rfl) (yes rfl) (yes rfl) (yes rfl) (yes rfl) (yes rfl) (yes rfl) (yes rfl) (yes
      rfl) (yes rfl) (no t_hbm) (yes rfl) (yes rfl) (yes rfl) (yes rfl) (yes rfl) (yes rfl) (yes rfl) (yes rfl) (yes rfl) (yes
      rfl) (yes rfl) (yes rfl) h_mem (yes rfl) hm rfl (List.prefix_refl _)
theorem upd_egs {s0 x : State} {v} (h : s0.Only l x)
    (t_egs : l .egs = true := by exact Has.bit ‹_› (by decide +kernel)) :
    s0.Only l { x with egs := v } :=
  upd h (fun _ _ _ _ => rfl) (yes rfl) (yes rfl) (yes rfl) (yes rfl) (yes rfl) (yes rfl) (yes rfl) (yes rfl) (yes rfl) (yes
      rfl) (yes rfl) (yes rfl) (no t_egs) (yes rfl) (yes rfl) (yes rfl) (yes rfl) (yes rfl) (yes rfl) (yes rfl) (yes rfl) (yes
      rfl) (yes rfl) (yes rfl) (yes rfl) (yes rfl) id rfl (List.prefix_refl _)
theorem upd_coast {s0 x : State} {v} (h : s0.Only l x)
    (t_coast : l .coast = true := by exact Has.bit ‹_› (by decide +kernel)) :
    s0.Only l { x with coast := v } :=
  upd h (fun _ _ _ _ => rfl) (yes rfl) (yes rfl) (yes rfl) (yes rfl) (yes rfl) (yes rfl) (yes rfl) (yes rfl) (yes rfl) (yes
      rfl) (yes rfl) (yes rfl) (yes rfl) (no t_coast) (yes rfl) (yes rfl) (yes rfl) (yes rfl) (yes rfl) (yes rfl) (yes rfl)
      (yes rfl) (yes rfl) (yes rfl) (yes rfl) (yes rfl) id rfl (List.prefix_refl _)
theorem upd_sched {s0 x : State} {v} (h : s0.Only l x)
    (h_run : l .run = false → v.run = x.sched.run := by first | exact State.Only.yes rfl | exact State.Only.no (Has.bit ‹_› (by decide +kernel)))
    (t_sched : l .sched = true := by exact Has.bit ‹_› (by decide +kernel)) :
    s0.Only l { x with sched := v } :=
  upd h (fun _ _ _ _ => rfl) (yes rfl) (yes rfl) (yes rfl) (yes rfl) (yes rfl) (yes rfl) (yes rfl) (yes rfl) (yes rfl) (yes
      rfl) (yes rfl) (yes rfl) (yes rfl) (yes rfl) (no t_sched) (yes rfl) (yes rfl) (yes rfl) (yes rfl) (yes rfl) (yes rfl)
      (yes rfl) (yes rfl) h_run (yes rfl) (yes rfl) id rfl (List.prefix_refl _)
theorem upd_host {s0 x : State} {v} (h : s0.Only l x)
    (t_host : l .host = true := by exact Has.bit ‹_› (by decide +kernel)) :
    s0.Only l { x with host := v } :=
  upd h (fun _ _ _ _ => rfl) (yes rfl) (yes rfl) (yes rfl) (yes rfl) (yes rfl) (yes rfl) (yes rfl) (yes rfl) (yes rfl) (yes
      rfl) (yes rfl) (yes rfl) (yes rfl) (yes rfl) (yes rfl) (no t_host) (yes rfl) (yes rfl) (yes rfl) (yes rfl) (yes rfl) (yes
      rfl) (yes rfl) (yes rfl) (yes rfl) (yes rfl) id rfl (List.prefix_refl _)
theorem upd_shore {s0 x : State} {v} (h : s0.Only l x)
    (t_shore : l .shore = true := by exact Has.bit ‹_› (by decide +kernel)) :
    s0.Only l { x with shore := v } :=
  upd h (fun _ _ _ _ => rfl) (yes rfl) (yes rfl) (yes rfl) (yes rfl) (yes rfl) (yes rfl) (yes rfl) (yes rfl) (yes rfl) (yes
      rfl) (yes rfl) (yes rfl) (yes rfl) (yes rfl) (yes rfl) (yes rfl) (no t_shore) (yes rfl) (yes rfl) (yes rfl) (yes rfl)
      (yes rfl) (yes rfl) (yes rfl) (yes rfl) (yes rfl) id rfl (List.prefix_refl _)
theorem upd_nv {s0 x : State} {v} (h : s0.Only l x) (hn : v.otp = x.nv.otp := by rfl)
    (t_nv : l .nv = true := by exact Has.bit ‹_› (by decide +kernel)) :
    s0.Only l { x with nv := v } :=
  upd h (fun _ _ _ _ => rfl) (yes rfl) (yes rfl) (yes rfl) (yes rfl) (yes rfl) (yes rfl) (yes rfl) (yes rfl) (yes rfl) (yes
      rfl) (yes rfl) (yes rfl) (yes rfl) (yes rfl) (yes rfl) (yes rfl) (yes rfl) (no t_nv) (yes rfl) (yes rfl) (yes rfl) (yes
      rfl) (yes rfl) (yes rfl) (yes rfl) (yes rfl) id hn (List.prefix_refl _)
theorem upd_power {s0 x : State} {v} (h : s0.Only l x)
    (t_power : l .power = true := by exact Has.bit ‹_› (by decide +kernel)) :
    s0.Only l { x with power := v } :=
  upd h (fun _ _ _ _ => rfl) (yes rfl) (yes rfl) (yes rfl) (yes rfl) (yes rfl) (yes rfl) (yes rfl) (yes rfl) (yes rfl) (yes
      rfl) (yes rfl) (yes rfl) (yes rfl) (yes rfl) (yes rfl) (yes rfl) (yes rfl) (yes rfl) (no t_power) (yes rfl) (yes rfl)
      (yes rfl) (yes rfl) (yes rfl) (yes rfl) (yes rfl) id rfl (List.prefix_refl _)
theorem upd_pins {s0 x : State} {v} (h : s0.Only l x)
    (t_pins : l .pins = true := by exact Has.bit ‹_› (by decide +kernel)) :
    s0.Only l { x with pins := v } :=
  upd h (fun _ _ _ _ => rfl) (yes rfl) (yes rfl) (yes rfl) (yes rfl) (yes rfl) (yes rfl) (yes rfl) (yes rfl) (yes rfl) (yes
      rfl) (yes rfl) (yes rfl) (yes rfl) (yes rfl) (yes rfl) (yes rfl) (yes rfl) (yes rfl) (yes rfl) (no t_pins) (yes rfl) (yes
      rfl) (yes rfl) (yes rfl) (yes rfl) (yes rfl) id rfl (List.prefix_refl _)
theorem upd_out {s0 x : State} {v} (h : s0.Only l x)
    (t_out : l .out = true := by exact Has.bit ‹_› (by decide +kernel)) :
    s0.Only l { x with out := x.out ++ v } :=
  upd h (fun _ _ _ _ => rfl) (yes rfl) (yes rfl) (yes rfl) (yes rfl) (yes rfl) (yes rfl) (yes rfl) (yes rfl) (yes rfl) (yes
      rfl) (yes rfl) (yes rfl) (yes rfl) (yes rfl) (yes rfl) (yes rfl) (yes rfl) (yes rfl) (yes rfl) (yes rfl) (no t_out) (yes
      rfl) (yes rfl) (yes rfl) (yes rfl) (yes rfl) id rfl (List.prefix_append _ _)
end State.Only

end Sys2Proof.Machine
end

