-- ==== Sys2Proof/Laws/OnlyJobs.lean ====
section
/-!
SUPPORT. What each operation may change, one lemma each, in the order of the model:
objects, pins, clients, memory, loads, ports, the scheduler and faults.
`F_only` takes a state that comes from `s0` by changes that `l` allows and says the same of the state that F gives, where `l`
allows the parts listed.
-/

namespace Sys2Proof.Machine

set_option Elab.async false
set_option linter.unusedTactic false
set_option linter.unreachableTactic false

variable {l : Part → Bool}

/-! ### Objects -/

theorem State.setNum_only {s0 s : State} {k v : Nat} (h_s : s0.Only l s) (t_k : l (.num (k / 0x100000)) = true) : s0.Only l
    (State.setNum s k v) := by
  unfold State.setNum
  refine State.Only.upd h_s (fun i hi k' hk => ?_) (State.Only.yes rfl) (State.Only.yes rfl) (State.Only.yes rfl)
      (State.Only.yes rfl) (State.Only.yes rfl) (State.Only.yes rfl) (State.Only.yes rfl) (State.Only.yes rfl) (State.Only.yes
      rfl) (State.Only.yes rfl) (State.Only.yes rfl) (State.Only.yes rfl) (State.Only.yes rfl) (State.Only.yes rfl)
      (State.Only.yes rfl) (State.Only.yes rfl) (State.Only.yes rfl) (State.Only.yes rfl) (State.Only.yes rfl) (State.Only.yes
      rfl) (State.Only.yes rfl) (State.Only.yes rfl) (State.Only.yes rfl) (State.Only.yes rfl) (State.Only.yes rfl)
      (State.Only.yes rfl) id rfl (List.prefix_refl _)
  refine Store.get_set_ne ?_
  rintro rfl
  rw [hk, hi] at t_k
  cases t_k
theorem State.inc32_only {s0 s : State} {k n : Nat} (h_s : s0.Only l s) (t_k : l (.num (k / 0x100000)) = true) : s0.Only l
    (State.inc32 s k n) := by
  unfold State.inc32
  repeat' (with_reducible first | assumption | apply State.setNum_only | apply State.Only.ite)
theorem State.inc64_only {s0 s : State} {k n : Nat} (h_s : s0.Only l s) (t_k : l (.num (k / 0x100000)) = true) : s0.Only l
    (State.inc64 s k n) := by
  unfold State.inc64
  repeat' (with_reducible first | assumption | apply State.setNum_only | apply State.Only.ite)
theorem State.setSticky_only {s0 s : State} {k i : Nat} (h_s : s0.Only l s) (t_k : l (.num (k / 0x100000)) = true) : s0.Only l
    (State.setSticky s k i) := by
  unfold State.setSticky
  repeat' (with_reducible first | assumption | apply State.setNum_only)
theorem State.setOcts_only {s0 s : State} {k o : Nat} {l_ : List Byte} (h_s : s0.Only l s) (hl : Has l [.oct]) : s0.Only l
    (State.setOcts s k o l_) := by
  unfold State.setOcts
  repeat' first
      | with_reducible assumption | exact Has.bit ‹_› (by decide +kernel)
      | fail_if_no_progress (with_reducible apply State.Only.upd_oct)
theorem State.regSet_only {s0 s : State} {a v : Nat} (h_s : s0.Only l s) (hl : Has l [.reg]) : s0.Only l (State.regSet s a v)
    := by
  unfold State.regSet
  repeat' first
      | with_reducible assumption | exact Has.bit ‹_› (by decide +kernel)
      | fail_if_no_progress (with_reducible apply State.Only.upd_reg)

/-! ### Ops -/

theorem State.when_only {s0 s : State} {c : Bool} {t : State} (h_s : s0.Only l s) (h_t : s0.Only l t) : s0.Only l (State.when s
    c t) := by
  unfold State.when
  repeat' (with_reducible first | assumption | apply State.Only.ite)
theorem State.live_only {s0 s : State} {c : Bool} {t : State} (h_s : s0.Only l s) (h_t : s0.Only l t) : s0.Only l (State.live s
    c t) := by
  unfold State.live
  repeat' (with_reducible first | assumption | apply State.Only.ite)
theorem State.noteNum_only {s0 s : State} {k : Nat} (h_s : s0.Only l s) (hl : Has l [.shore]) : s0.Only l (State.noteNum s k)
    := by
  unfold State.noteNum
  repeat' first
      | (with_reducible first | assumption | apply State.Only.ite) | exact Has.bit ‹_› (by decide +kernel) | (dsimp only)
      | fail_if_no_progress (with_reducible apply State.Only.upd_shore)
theorem State.noteOct_only {s0 s : State} {store at_ : Nat} {old : List Byte} (h_s : s0.Only l s) (hl : Has l [.oct, .shore]) :
    s0.Only l (State.noteOct s store at_ old) := by
  unfold State.noteOct
  repeat' first
      | with_reducible assumption | exact Has.bit ‹_› (by decide +kernel) | (dsimp only)
      | fail_if_no_progress (with_reducible apply State.Only.upd_shore)
theorem State.emit_only {s0 s : State} {o : Out} (h_s : s0.Only l s) (hl : Has l [.out]) : s0.Only l (State.emit s o) := by
  unfold State.emit
  repeat' first
      | with_reducible assumption | exact Has.bit ‹_› (by decide +kernel)
      | fail_if_no_progress (with_reducible apply State.Only.upd_out)
theorem State.log_only {s0 s : State} {r : LogRec} (h_s : s0.Only l s) (hl : Has l [.num 11, .faults]) : s0.Only l (State.log s
    r) := by
  unfold State.log
  repeat' first
      | (with_reducible first
          | assumption | apply State.inc64_only | apply State.setSticky_only | apply State.Only.ite | exact State.Only.yes rfl)
      | exact Has.bit ‹_› (by decide +kernel) | (dsimp only) | fail_if_no_progress (with_reducible apply State.Only.upd_faults)
theorem State.notify_only {s0 s : State} {event logSeq detail : Nat} (h_s : s0.Only l s) (hl : Has l [.num 1, .num 11, .faults,
    .shore]) : s0.Only l (State.notify s event logSeq detail) := by
  unfold State.notify
  repeat' first
      | (with_reducible first | assumption | apply State.inc32_only | apply State.Only.ite)
      | exact Has.bit ‹_› (by decide +kernel) | (dsimp only) | fail_if_no_progress (with_reducible apply State.Only.upd_shore)
theorem State.logNote_only {s0 s : State} {r : LogRec} (h_s : s0.Only l s) (hl : Has l [.num 1, .num 11, .faults, .shore]) :
    s0.Only l (State.logNote s r) := by
  unfold State.logNote
  repeat' first
      | (with_reducible first | assumption | apply State.log_only | apply State.notify_only)
      | exact Has.sub ‹_› (by decide +kernel)
theorem State.event_only {s0 s : State} {code source d0 d1 : Nat} (h_s : s0.Only l s) (hl : Has l [.num 11, .faults]) : s0.Only
    l (State.event s code source d0 d1) := by
  unfold State.event
  repeat' (with_reducible first | assumption | apply State.log_only)
theorem State.eventNote_only {s0 s : State} {code source d0 d1 : Nat} (h_s : s0.Only l s) (hl : Has l [.num 1, .num 11,
    .faults, .shore]) : s0.Only l (State.eventNote s code source d0 d1) := by
  unfold State.eventNote
  repeat' (with_reducible first | assumption | apply State.logNote_only)
theorem State.raiseVector_only {s0 s : State} {v : Nat} (h_s : s0.Only l s) (hl : Has l [.host]) : s0.Only l (State.raiseVector
    s v) := by
  unfold State.raiseVector
  repeat' first
      | (with_reducible first | assumption | apply State.Only.ite) | exact Has.bit ‹_› (by decide +kernel) | (dsimp only)
      | fail_if_no_progress (with_reducible apply State.Only.upd_host)
theorem State.raiseGlobal_only {s0 s : State} {i : Nat} (h_s : s0.Only l s) (hl : Has l [.host]) : s0.Only l (State.raiseGlobal
    s i) := by
  unfold State.raiseGlobal
  repeat' (with_reducible first | assumption | apply State.raiseVector_only | apply State.Only.ite)
theorem State.report_only {s0 s : State} {r : FaultReport} (h_s : s0.Only l s) (hl : Has l [.faults]) : s0.Only l (State.report
    s r) := by
  unfold State.report
  repeat' first
      | (with_reducible first | assumption | exact State.Only.yes rfl) | exact Has.bit ‹_› (by decide +kernel) | (dsimp only)
      | fail_if_no_progress (with_reducible apply State.Only.upd_faults)
theorem State.setSched_only {s0 s : State} {v : Nat} (h_s : s0.Only l s) (hl : Has l [.num 3, .sched]) : s0.Only l
    (State.setSched s v) := by
  unfold State.setSched
  repeat' first
      | (with_reducible first | assumption | apply State.setNum_only | exact State.Only.yes rfl)
      | exact Has.bit ‹_› (by decide +kernel) | (dsimp only) | split
      | fail_if_no_progress (with_reducible apply State.Only.upd_sched)
theorem State.enterWaking_only {s0 s : State} (h_s : s0.Only l s) (hl : Has l [.num 10, .power]) : s0.Only l (State.enterWaking
    s) := by
  unfold State.enterWaking
  repeat' first
      | (with_reducible first | assumption | apply State.setNum_only) | exact Has.bit ‹_› (by decide +kernel) | (dsimp only)
      | fail_if_no_progress (with_reducible apply State.Only.upd_power)
theorem State.selectionEvent_only {s0 s : State} (h_s : s0.Only l s) (hl : Has l [.num 10, .sched, .power]) : s0.Only l
    (State.selectionEvent s) := by
  unfold State.selectionEvent
  repeat' first
      | (with_reducible first | assumption | apply State.enterWaking_only | apply State.Only.ite | exact State.Only.yes rfl)
      | exact Has.sub ‹_› (by decide +kernel) | exact Has.bit ‹_› (by decide +kernel) | (dsimp only)
      | fail_if_no_progress (with_reducible apply State.Only.upd_sched)
theorem State.hbmPut_only {s0 s : State} {a : Nat} {l_ : List Byte} (h_s : s0.Only l s) (hl : Has l [.hbm, .mem]) : s0.Only l
    (State.hbmPut s a l_) := by
  unfold State.hbmPut
  exact State.Only.upd_hbm h_s (hm := fun hm => Store.setMany_wf _ _ _ _ hm)

/-! ### Pins -/

theorem State.setPin_only {s0 s : State} {n : Nat} {p : Pin} (h_s : s0.Only l s) (hl : Has l [.pins]) : s0.Only l (State.setPin
    s n p) := by
  unfold State.setPin
  repeat' first
      | with_reducible assumption | exact Has.bit ‹_› (by decide +kernel) | (dsimp only)
      | fail_if_no_progress (with_reducible apply State.Only.upd_pins)
theorem State.countEdge_only {s0 s : State} {n : Nat} (h_s : s0.Only l s) (hl : Has l [.num 14, .pins]) : s0.Only l
    (State.countEdge s n) := by
  unfold State.countEdge
  repeat' first
      | (with_reducible first
          | assumption | apply State.setNum_only | apply State.inc64_only | apply State.setPin_only | apply State.Only.ite)
      | exact Has.sub ‹_› (by decide +kernel) | exact State.Only.fam ‹_› (by decide) (by decide) (by decide +kernel) | split
theorem State.samplePin_only {s0 s : State} {n : Nat} (h_s : s0.Only l s) (hl : Has l [.num 14, .pins]) : s0.Only l
    (State.samplePin s n) := by
  unfold State.samplePin
  repeat' first
      | (with_reducible first | assumption | apply State.setPin_only | apply State.countEdge_only | apply State.Only.ite)
      | exact Has.sub ‹_› (by decide +kernel)
theorem State.changeFunction_only {s0 s : State} {n f : Nat} (h_s : s0.Only l s) (hl : Has l [.num 14, .pins]) : s0.Only l
    (State.changeFunction s n f) := by
  unfold State.changeFunction
  repeat' first
      | (with_reducible first | assumption | apply State.setNum_only | apply State.setPin_only)
      | exact Has.sub ‹_› (by decide +kernel) | exact State.Only.fam ‹_› (by decide) (by decide) (by decide +kernel)
theorem State.pinTick_only {s0 s : State} {n : Nat} (h_s : s0.Only l s) (hl : Has l [.num 14, .pins]) : s0.Only l
    (State.pinTick s n) := by
  unfold State.pinTick
  repeat' first
      | (with_reducible first | assumption | apply State.setNum_only | apply State.setPin_only | apply State.Only.ite)
      | exact Has.sub ‹_› (by decide +kernel) | exact State.Only.fam ‹_› (by decide) (by decide) (by decide +kernel)
      | (dsimp only) | split
theorem State.markLaunch_only {s0 s : State} {g : Nat} (h_s : s0.Only l s) (hl : Has l [.pins]) : s0.Only l (State.markLaunch s
    g) := by
  unfold State.markLaunch
  with_reducible apply State.Only.foldl h_s
  intro t n ht
  exact State.Only.ite (State.setPin_only ht (hl.sub (by decide +kernel))) ht
theorem State.polarityChanged_only {s0 s : State} {n : Nat} {old : Bool} (h_s : s0.Only l s) (hl : Has l [.num 14, .pins]) :
    s0.Only l (State.polarityChanged s n old) := by
  unfold State.polarityChanged
  repeat' first | (with_reducible first | assumption | apply State.countEdge_only | apply State.Only.ite) | (dsimp only) | split
theorem State.uartAdd_only {s0 s : State} {r : LogRec} (h_s : s0.Only l s) (hl : Has l [.num 14, .pins]) : s0.Only l
    (State.uartAdd s r) := by
  unfold State.uartAdd
  repeat' first
      | (with_reducible first | assumption | apply State.inc32_only | apply State.Only.ite)
      | exact Has.bit ‹_› (by decide +kernel) | (dsimp only) | fail_if_no_progress (with_reducible apply State.Only.upd_pins)

/-! ### Client -/

theorem State.setCReg_only {s0 s : State} {c off v : Nat} (h_s : s0.Only l s) (hl : Has l [.reg]) : s0.Only l (State.setCReg s
    c off v) := by
  unfold State.setCReg
  repeat' (with_reducible first | assumption | apply State.regSet_only)
theorem State.cSticky_only {s0 s : State} {c i : Nat} (h_s : s0.Only l s) (hl : Has l [.reg]) : s0.Only l (State.cSticky s c i)
    := by
  unfold State.cSticky
  repeat' (with_reducible first | assumption | apply State.setCReg_only)
theorem State.setJob_only {s0 s : State} {j : Job} (h_s : s0.Only l s) (hl : Has l [.sched]) : s0.Only l (State.setJob s j) :=
    by
  unfold State.setJob
  repeat' first
      | (with_reducible first | assumption | exact State.Only.yes rfl) | exact Has.bit ‹_› (by decide +kernel) | (dsimp only)
      | fail_if_no_progress (with_reducible apply State.Only.upd_sched)
theorem State.dropJob_only {s0 s : State} {j : Job} (h_s : s0.Only l s) (hl : Has l [.sched]) : s0.Only l (State.dropJob s j)
    := by
  unfold State.dropJob
  repeat' first
      | (with_reducible first | assumption | exact State.Only.yes rfl) | exact Has.bit ‹_› (by decide +kernel) | (dsimp only)
      | split | fail_if_no_progress (with_reducible apply State.Only.upd_sched)
theorem State.writeEntry_only {s0 s : State} {e : Entry} (h_s : s0.Only l s) (hl : Has l [.reg, .sched, .host, .out]) : s0.Only
    l (State.writeEntry s e) := by
  unfold State.writeEntry
  repeat' first
      | (with_reducible first
          | assumption | apply State.emit_only | apply State.raiseVector_only | apply State.setCReg_only | apply State.Only.ite
          | exact State.Only.yes rfl)
      | exact Has.sub ‹_› (by decide +kernel) | exact Has.bit ‹_› (by decide +kernel) | (dsimp only)
      | fail_if_no_progress (with_reducible apply State.Only.upd_sched)
theorem State.flushEntries_only {s0 x0 : State} {x1 x2 : List Entry} (h_x0 : s0.Only l x0) (hl : Has l [.reg, .sched, .host,
    .out]) : s0.Only l (State.flushEntries x0 x1 x2) := by
  induction x2 generalizing x0 x1 with
  | nil => exact (State.Only.upd_sched h_x0)
  | cons e r ih =>
    unfold State.flushEntries
    exact State.Only.ite (ih h_x0) (State.Only.ite (ih (State.cSticky_only h_x0 (hl.sub (by decide +kernel)))) (ih
        (State.writeEntry_only h_x0 (hl.sub (by decide +kernel)))))
theorem State.addEntry_only {s0 s : State} {e : Entry} (h_s : s0.Only l s) (hl : Has l [.sched]) : s0.Only l (State.addEntry s
    e) := by
  unfold State.addEntry
  repeat' first
      | (with_reducible first | assumption | exact State.Only.yes rfl) | exact Has.bit ‹_› (by decide +kernel) | (dsimp only)
      | fail_if_no_progress (with_reducible apply State.Only.upd_sched)
theorem State.tryFetch_only {s0 s : State} {c : Nat} (h_s : s0.Only l s) (hl : Has l [.sched, .out]) : s0.Only l
    (State.tryFetch s c) := by
  unfold State.tryFetch
  repeat' first
      | (with_reducible first | assumption | apply State.emit_only | apply State.Only.ite | exact State.Only.yes rfl)
      | exact Has.sub ‹_› (by decide +kernel) | exact Has.bit ‹_› (by decide +kernel) | (dsimp only)
      | fail_if_no_progress (with_reducible apply State.Only.upd_sched)
theorem State.tryStopped_only {s0 s : State} {c : Nat} (h_s : s0.Only l s) (hl : Has l [.num 3]) : s0.Only l (State.tryStopped
    s c) := by
  unfold State.tryStopped
  repeat' first
      | (with_reducible first | assumption | apply State.setNum_only | apply State.Only.ite)
      | exact State.Only.fam ‹_› (by decide) (by decide) (by decide +kernel)
theorem State.ringsFollow_only {s0 s : State} (h_s : s0.Only l s) (hl : Has l [.num 3, .reg, .sched, .host, .out]) : s0.Only l
    (State.ringsFollow s) := by
  unfold State.ringsFollow
  repeat' first
      | (with_reducible first
          | assumption | apply State.flushEntries_only | apply State.tryFetch_only | apply State.tryStopped_only
          | apply State.Only.foldl)
      | exact Has.sub ‹_› (by decide +kernel) | intro _
theorem State.eventIfFree_only {s0 s : State} (h_s : s0.Only l s) (hl : Has l [.num 10, .sched, .power]) : s0.Only l
    (State.eventIfFree s) := by
  unfold State.eventIfFree
  repeat' (with_reducible first | assumption | apply State.selectionEvent_only | apply State.Only.ite)
theorem State.retireJob_only {s0 s : State} {j : Job} {outcome : Nat} (h_s : s0.Only l s) (hl : Has l [.num 3, .num 10, .sched,
    .power]) : s0.Only l (State.retireJob s j outcome) := by
  unfold State.retireJob
  repeat' first
      | (with_reducible first
          | assumption | apply State.inc64_only | apply State.dropJob_only | apply State.addEntry_only
          | apply State.eventIfFree_only | apply State.Only.ite)
      | exact Has.sub ‹_› (by decide +kernel) | exact State.Only.fam ‹_› (by decide) (by decide) (by decide +kernel)
theorem State.makeEligible_only {s0 s : State} {j : Job} (h_s : s0.Only l s) (hl : Has l [.num 10, .sched, .power]) : s0.Only l
    (State.makeEligible s j) := by
  unfold State.makeEligible
  repeat' first
      | (with_reducible first | assumption | apply State.setJob_only | apply State.eventIfFree_only)
      | exact Has.sub ‹_› (by decide +kernel)
theorem State.promote_only {s0 : State} {x0 : Nat} {x1 : State} {x2 : Nat} (h_x1 : s0.Only l x1) (hl : Has l [.num 3, .num 10,
    .sched, .power]) : s0.Only l (State.promote x0 x1 x2) := by
  induction x0 generalizing x1 x2 with
  | zero => unfold State.promote; (try dsimp only); repeat' first
      | (with_reducible first
          | assumption | apply ih | apply State.setJob_only | apply State.retireJob_only | apply State.makeEligible_only
          | apply State.Only.ite | apply State.Only.foldl | apply State.Only.foldl2 | apply State.Only.foldl3
          | apply State.Only.foldl1 | exact State.Only.yes rfl)
      | exact Has.sub ‹_› (by decide +kernel) | exact Has.bit ‹_› (by decide +kernel)
      | exact State.Only.fam ‹_› (by decide) (by decide) (by decide +kernel)
      | exact State.Only.fam1 ‹_› (by decide) (by decide +kernel) | intro _ _ _ _; rfl
      | exact State.Only.no (Has.bit ‹_› (by decide +kernel)) | intro _ | (dsimp only) | split
      | fail_if_no_progress (with_reducible apply State.Only.upd) | exact List.prefix_refl _ | exact List.prefix_append _ _
      | exact id | rfl
  | succ n ih => unfold State.promote; (try dsimp only); repeat' first
      | (with_reducible first
          | assumption | apply ih | apply State.setJob_only | apply State.retireJob_only | apply State.makeEligible_only
          | apply State.Only.ite | apply State.Only.foldl | apply State.Only.foldl2 | apply State.Only.foldl3
          | apply State.Only.foldl1 | exact State.Only.yes rfl)
      | exact Has.sub ‹_› (by decide +kernel) | exact Has.bit ‹_› (by decide +kernel)
      | exact State.Only.fam ‹_› (by decide) (by decide) (by decide +kernel)
      | exact State.Only.fam1 ‹_› (by decide) (by decide +kernel) | intro _ _ _ _; rfl
      | exact State.Only.no (Has.bit ‹_› (by decide +kernel)) | intro _ | (dsimp only) | split
      | fail_if_no_progress (with_reducible apply State.Only.upd) | exact List.prefix_refl _ | exact List.prefix_append _ _
      | exact id | rfl
theorem State.retire_only {s0 s : State} {j : Job} {outcome : Nat} (h_s : s0.Only l s) (hl : Has l [.num 3, .num 10, .sched,
    .power]) : s0.Only l (State.retire s j outcome) := by
  unfold State.retire
  repeat' (with_reducible first | assumption | apply State.retireJob_only | apply State.promote_only)
theorem State.haltClient_only {s0 s : State} {c code : Nat} (h_s : s0.Only l s) (hl : Has l [.num 3, .reg, .sched]) : s0.Only l
    (State.haltClient s c code) := by
  unfold State.haltClient
  repeat' first
      | (with_reducible first
          | assumption | apply State.setNum_only | apply State.inc64_only | apply State.cSticky_only | apply State.Only.ite
          | exact State.Only.yes rfl)
      | exact Has.sub ‹_› (by decide +kernel) | exact Has.bit ‹_› (by decide +kernel)
      | exact State.Only.fam ‹_› (by decide) (by decide) (by decide +kernel) | (dsimp only)
      | fail_if_no_progress (with_reducible apply State.Only.upd_sched)
theorem State.faultUnrun_only {s0 s : State} {j : Job} {code source d0 : Nat} {early : Bool} (h_s : s0.Only l s) (hl : Has l
    [.num 3, .num 10, .num 11, .reg, .faults, .sched, .power]) : s0.Only l (State.faultUnrun s j code source d0 early) := by
  unfold State.faultUnrun
  have h1 : s0.Only l ((s.dropJob j).addEntry { s.entryOf j 1 code with early := early }) := State.addEntry_only
      (State.dropJob_only h_s (hl.sub (by decide +kernel))) (hl.sub (by decide +kernel))
  dsimp only
  generalize (s.dropJob j).addEntry { s.entryOf j 1 code with early := early } = t at h1 ⊢
  exact State.promote_only (State.eventIfFree_only (State.log_only (State.haltClient_only h1 (hl.sub (by decide +kernel)))
      (hl.sub (by decide +kernel))) (hl.sub (by decide +kernel))) (hl.sub (by decide +kernel))
theorem State.launchSeen_only {s0 s : State} {g t : Nat} {took : Bool} (h_s : s0.Only l s) (hl : Has l [.num 3, .num 10,
    .sched, .power]) : s0.Only l (State.launchSeen s g t took) := by
  unfold State.launchSeen
  refine State.Only.foldl (State.Only.upd_sched h_s) ?_
  intro u j hu
  exact State.Only.ite (State.Only.ite (State.retire_only hu (hl.sub (by decide +kernel))) (State.Only.ite
      (State.makeEligible_only hu (hl.sub (by decide +kernel))) hu)) hu
theorem State.generatorOff_only {s0 s : State} {g : Nat} (h_s : s0.Only l s) (hl : Has l [.num 3, .num 10, .sched, .power]) :
    s0.Only l (State.generatorOff s g) := by
  unfold State.generatorOff
  refine State.Only.foldl h_s ?_
  intro u j hu
  exact State.Only.ite (State.retire_only hu (hl.sub (by decide +kernel))) hu

/-! ### Courses -/

theorem State.setCourse_only {s0 s : State} {c v : Nat} (h_s : s0.Only l s) (hl : Has l [.num 1, .num 11, .faults, .wall,
    .shore]) : s0.Only l (State.setCourse s c v) := by
  unfold State.setCourse
  repeat' first
      | (with_reducible first | assumption | apply State.eventNote_only | apply State.Only.ite | exact State.Only.yes rfl)
      | exact Has.sub ‹_› (by decide +kernel) | exact Has.bit ‹_› (by decide +kernel) | (dsimp only)
      | fail_if_no_progress (with_reducible apply State.Only.upd_wall)
theorem State.retirePending_only {s0 s : State} {c : Nat} (h_s : s0.Only l s) (hl : Has l [.num 1, .num 11, .faults, .wall,
    .shore]) : s0.Only l (State.retirePending s c) := by
  unfold State.retirePending
  repeat' first
      | (with_reducible first | assumption | apply State.setCourse_only | exact State.Only.yes rfl)
      | exact Has.bit ‹_› (by decide +kernel) | (dsimp only) | split
      | fail_if_no_progress (with_reducible apply State.Only.upd_wall)
theorem State.replaceCourse_only {s0 s : State} {c : Nat} (h_s : s0.Only l s) (hl : Has l [.num 1, .num 11, .faults, .wall,
    .shore]) : s0.Only l (State.replaceCourse s c) := by
  unfold State.replaceCourse
  repeat' first
      | (with_reducible first | assumption | apply State.setCourse_only | apply State.Only.ite | exact State.Only.yes rfl)
      | exact Has.bit ‹_› (by decide +kernel) | (dsimp only) | split
      | fail_if_no_progress (with_reducible apply State.Only.upd_wall)
theorem State.coursesApplied_only {s0 s : State} (h_s : s0.Only l s) (hl : Has l [.num 1, .num 11, .faults, .wall, .shore]) :
    s0.Only l (State.coursesApplied s) := by
  unfold State.coursesApplied
  repeat' first | (with_reducible first | assumption | apply State.replaceCourse_only | apply State.Only.foldl) | intro _

/-! ### Memory -/

theorem State.failChannel_only {s0 s : State} {n : Nat} (h_s : s0.Only l s) (hl : Has l [.num 1, .num 5, .num 11, .faults,
    .hbm, .shore]) : s0.Only l (State.failChannel s n) := by
  unfold State.failChannel
  repeat' first
      | (with_reducible first
          | assumption | apply State.setSticky_only | apply State.eventNote_only | apply State.Only.ite
          | exact State.Only.yes rfl)
      | exact Has.sub ‹_› (by decide +kernel) | exact Has.bit ‹_› (by decide +kernel) | intro _ | (dsimp only)
      | fail_if_no_progress (with_reducible apply State.Only.upd_hbm)
theorem State.retireBlock_only {s0 s : State} {b : Nat} (h_s : s0.Only l s) (hl : Has l [.num 1, .num 5, .num 11, .faults,
    .hbm, .shore]) : s0.Only l (State.retireBlock s b) := by
  unfold State.retireBlock
  repeat' first
      | (with_reducible first
          | assumption | apply State.setSticky_only | apply State.event_only | apply State.failChannel_only
          | apply State.Only.ite | exact State.Only.yes rfl)
      | exact Has.sub ‹_› (by decide +kernel) | exact Has.bit ‹_› (by decide +kernel) | intro _ | (dsimp only)
      | fail_if_no_progress (with_reducible apply State.Only.upd_hbm)
theorem State.hbmUe_only {s0 s : State} {a : Nat} (h_s : s0.Only l s) (hl : Has l [.num 1, .num 5, .num 11, .faults, .hbm,
    .shore]) : s0.Only l (State.hbmUe s a) := by
  unfold State.hbmUe
  repeat' first
      | (with_reducible first
          | assumption | apply State.setNum_only | apply State.inc32_only | apply State.setSticky_only
          | apply State.failChannel_only | apply State.retireBlock_only | apply State.Only.ite | exact State.Only.yes rfl)
      | exact Has.bit ‹_› (by decide +kernel) | intro _ | (dsimp only)
      | fail_if_no_progress (with_reducible apply State.Only.upd_hbm)
theorem State.hbmCe_only {s0 s : State} {w : Nat} (h_s : s0.Only l s) (hl : Has l [.num 1, .num 5, .num 11, .faults, .hbm,
    .shore]) : s0.Only l (State.hbmCe s w) := by
  unfold State.hbmCe
  repeat' first
      | (with_reducible first
          | assumption | apply State.inc32_only | apply State.setSticky_only | apply State.retireBlock_only
          | apply State.Only.ite | exact State.Only.yes rfl)
      | exact Has.bit ‹_› (by decide +kernel) | intro _ | (dsimp only)
      | fail_if_no_progress (with_reducible apply State.Only.upd_hbm)
theorem State.readLines_only {s0 s : State} {l_ : List Nat} (h_s : s0.Only l s) (hl : Has l [.num 1, .num 5, .num 11, .faults,
    .hbm, .shore]) : s0.Only l (State.readLines s l_) := by
  unfold State.readLines
  repeat' first
      | (with_reducible first | assumption | apply State.hbmUe_only | apply State.hbmCe_only | apply State.Only.foldl) | intro _
theorem State.memRead_only {s0 s : State} {a n : Nat} (h_s : s0.Only l s) (hl : Has l [.num 1, .num 5, .num 11, .faults, .hbm,
    .shore]) : s0.Only l (State.memRead s a n).2.2 := by
  unfold State.memRead
  repeat' first | (with_reducible first | assumption | apply State.readLines_only) | (dsimp only) | split
theorem State.memWrite_only {s0 s : State} {a : Nat} {l_ : List Byte} (h_s : s0.Only l s) (hl : Has l [.num 1, .num 5, .num 11,
    .faults, .hbm, .shore, .mem]) : s0.Only l (State.memWrite s a l_).2 := by
  unfold State.memWrite
  repeat' first
      | (with_reducible first | assumption | apply State.hbmPut_only | apply State.readLines_only)
      | exact Has.sub ‹_› (by decide +kernel) | (dsimp only) | split
theorem State.engineRead_only {s0 s : State} {a n : Nat} (h_s : s0.Only l s) (hl : Has l [.num 1, .num 5, .num 11, .faults,
    .hbm, .shore]) : s0.Only l (State.engineRead s a n).2.2 := by
  unfold State.engineRead
  repeat' first | (with_reducible first | assumption | apply State.memRead_only) | split
theorem State.engineWrite_only {s0 s : State} {a : Nat} {l_ : List Byte} (h_s : s0.Only l s) (hl : Has l [.num 1, .num 5, .num
    11, .faults, .hbm, .shore, .mem]) : s0.Only l (State.engineWrite s a l_).2 := by
  unfold State.engineWrite
  repeat' first | (with_reducible first | assumption | apply State.memWrite_only) | split
theorem State.regionsFrom_only {s0 s : State} {u : (State)} (h_s : s0.Only l s) (hl : Has l [.num 5, .hbm]) : s0.Only l
    (State.regionsFrom s u) := by
  unfold State.regionsFrom
  repeat' first
      | (with_reducible first | assumption | exact State.Only.yes rfl) | exact Has.bit ‹_› (by decide +kernel) | intro _
      | (dsimp only) | fail_if_no_progress (with_reducible apply State.Only.upd_hbm)
theorem State.regionsApplied_only {s0 s : State} (h_s : s0.Only l s) (hl : Has l [.num 5, .hbm]) : s0.Only l
    (State.regionsApplied s) := by
  unfold State.regionsApplied
  repeat' (with_reducible first | assumption | apply State.regionsFrom_only | apply State.Only.ite)

/-! ### Tables -/

theorem State.tablesFrom_only {s0 s : State} {u : (State)} (h_s : s0.Only l s) (hl : Has l [.num 8, .tables]) : s0.Only l
    (State.tablesFrom s u) := by
  unfold State.tablesFrom
  repeat' first
      | (with_reducible first | assumption | apply State.inc32_only) | exact Has.bit ‹_› (by decide +kernel) | (dsimp only)
      | fail_if_no_progress (with_reducible apply State.Only.upd_tables)
theorem State.tablesApplied_only {s0 s : State} (h_s : s0.Only l s) (hl : Has l [.num 8, .tables]) : s0.Only l
    (State.tablesApplied s) := by
  unfold State.tablesApplied
  repeat' (with_reducible first | assumption | apply State.tablesFrom_only | apply State.Only.ite)
theorem State.tabReads_only {s0 s : State} {l_ : List Nat} (h_s : s0.Only l s) (hl : Has l [.num 8, .tables]) : s0.Only l
    (State.tabReads s l_).2 := by
  unfold State.tabReads
  repeat' first
      | (with_reducible first | assumption | apply State.inc32_only | apply State.Only.ite)
      | exact Has.bit ‹_› (by decide +kernel) | (dsimp only) | split
      | fail_if_no_progress (with_reducible apply State.Only.upd_tables)
theorem State.tablesRestored_only {s0 s : State} (h_s : s0.Only l s) (hl : Has l [.tables]) : s0.Only l (State.tablesRestored
    s) := by
  unfold State.tablesRestored
  repeat' first
      | with_reducible assumption | exact Has.bit ‹_› (by decide +kernel) | (dsimp only)
      | fail_if_no_progress (with_reducible apply State.Only.upd_tables)

/-! ### Loader -/

theorem State.digestRead_only {s0 s : State} {h : List Byte} {code : Nat} (h_s : s0.Only l s) (hl : Has l [.num 8, .tables]) :
    s0.Only l (State.digestRead s h code) := by
  unfold State.digestRead
  repeat' (with_reducible first | assumption | apply State.tabReads_only | apply State.Only.ite)
theorem State.loadCode_only {s0 s : State} {j : Job} (h_s : s0.Only l s) (hl : Has l [.num 1, .num 5, .num 8, .num 11, .faults,
    .tables, .hbm, .shore]) : s0.Only l (State.loadCode s j).2.2 := by
  unfold State.loadCode
  repeat' first
      | (with_reducible first | assumption | apply State.readLines_only | apply State.digestRead_only)
      | exact Has.sub ‹_› (by decide +kernel) | (dsimp only) | split
theorem State.shadowEmpty_only {s0 s : State} (h_s : s0.Only l s) (hl : Has l [.num 4, .wall, .sched]) : s0.Only l
    (State.shadowEmpty s) := by
  unfold State.shadowEmpty
  repeat' first
      | (with_reducible first | assumption | apply State.setNum_only | exact State.Only.yes rfl)
      | exact Has.bit ‹_› (by decide +kernel) | intro _ _ _ _; rfl | exact State.Only.no (Has.bit ‹_› (by decide +kernel))
      | intro _ | (dsimp only) | fail_if_no_progress (with_reducible apply State.Only.upd) | exact List.prefix_refl _
theorem State.startLoad_only {s0 s : State} {j : Job} (h_s : s0.Only l s) (hl : Has l [.num 1, .num 3, .num 4, .num 5, .num 8,
    .num 10, .num 11, .reg, .faults, .wall, .tables, .hbm, .sched, .shore, .power]) : s0.Only l (State.startLoad s j) := by
  unfold State.startLoad
  repeat' first
      | (with_reducible first
          | assumption | apply State.setNum_only | apply State.inc32_only | apply State.inc64_only
          | apply State.faultUnrun_only | apply State.loadCode_only | apply State.shadowEmpty_only | apply State.Only.ite
          | exact State.Only.yes rfl)
      | exact Has.sub ‹_› (by decide +kernel) | exact Has.bit ‹_› (by decide +kernel) | (dsimp only)
      | fail_if_no_progress (with_reducible apply State.Only.upd_sched)
theorem State.cfgUncorrected_only {s0 s : State} {ld : Load} {brick : Nat} (h_s : s0.Only l s) (hl : Has l [.num 11, .faults,
    .wall, .sched]) : s0.Only l (State.cfgUncorrected s ld brick) := by
  unfold State.cfgUncorrected
  repeat' first
      | (with_reducible first | assumption | apply State.event_only | exact State.Only.yes rfl)
      | exact Has.sub ‹_› (by decide +kernel) | intro _ _ _ _; rfl | exact State.Only.no (Has.bit ‹_› (by decide +kernel))
      | intro _ | (dsimp only) | fail_if_no_progress (with_reducible apply State.Only.upd) | exact List.prefix_refl _
theorem State.lineDelivered_only {s0 s : State} {ld : Load} {a brick line : Nat} {data : List Byte} (h_s : s0.Only l s) (hl :
    Has l [.num 4, .wall, .sched]) : s0.Only l (State.lineDelivered s ld a brick line data) := by
  unfold State.lineDelivered
  repeat' first
      | (with_reducible first
          | assumption | apply State.setNum_only | apply State.inc64_only | apply State.Only.ite | exact State.Only.yes rfl)
      | exact Has.bit ‹_› (by decide +kernel) | intro _ _ _ _; rfl | exact State.Only.no (Has.bit ‹_› (by decide +kernel))
      | intro _ | (dsimp only) | fail_if_no_progress (with_reducible apply State.Only.upd) | exact List.prefix_refl _

/-! ### CoastBase -/

theorem State.setPort_only {s0 s : State} {p : Nat} {c : Port} (h_s : s0.Only l s) (hl : Has l [.coast]) : s0.Only l
    (State.setPort s p c) := by
  unfold State.setPort
  repeat' first
      | with_reducible assumption | exact Has.bit ‹_› (by decide +kernel) | (dsimp only)
      | fail_if_no_progress (with_reducible apply State.Only.upd_coast)
theorem State.setMember_only {s0 s : State} {d : Nat} {m : Member} (h_s : s0.Only l s) (hl : Has l [.coast]) : s0.Only l
    (State.setMember s d m) := by
  unfold State.setMember
  repeat' first
      | with_reducible assumption | exact Has.bit ‹_› (by decide +kernel) | (dsimp only)
      | fail_if_no_progress (with_reducible apply State.Only.upd_coast)
theorem State.freedOne_only {s0 s : State} {p k n : Nat} (h_s : s0.Only l s) (hl : Has l [.coast]) : s0.Only l (State.freedOne
    s p k n) := by
  unfold State.freedOne
  repeat' (with_reducible first | assumption | apply State.setPort_only | apply State.Only.ite)
theorem State.sendFlit_only {s0 s : State} {p : Nat} {t : TxMsg} (h_s : s0.Only l s) (hl : Has l [.num 9, .coast, .out]) :
    s0.Only l (State.sendFlit s p t) := by
  unfold State.sendFlit
  repeat' first
      | (with_reducible first
          | assumption | apply State.inc64_only | apply State.emit_only | apply State.setPort_only | apply State.freedOne_only
          | apply State.Only.ite)
      | exact Has.sub ‹_› (by decide +kernel) | exact Has.bit ‹_› (by decide +kernel)
      | exact State.Only.fam ‹_› (by decide) (by decide) (by decide +kernel) | (dsimp only) | split
theorem State.transmitGo_only {s0 : State} {x0 : Nat} {x1 : State} {x2 : Nat} (h_x1 : s0.Only l x1) (hl : Has l [.num 9,
    .coast, .out]) : s0.Only l (State.transmitGo x0 x1 x2) := by
  induction x0 generalizing x1 x2 with
  | zero => unfold State.transmitGo; (try dsimp only); repeat' first
      | (with_reducible first
          | assumption | apply ih | apply State.sendFlit_only | apply State.Only.ite | apply State.Only.foldl
          | apply State.Only.foldl2 | apply State.Only.foldl3 | apply State.Only.foldl1 | exact State.Only.yes rfl)
      | exact Has.sub ‹_› (by decide +kernel) | exact Has.bit ‹_› (by decide +kernel)
      | exact State.Only.fam ‹_› (by decide) (by decide) (by decide +kernel)
      | exact State.Only.fam1 ‹_› (by decide) (by decide +kernel) | intro _ _ _ _; rfl
      | exact State.Only.no (Has.bit ‹_› (by decide +kernel)) | intro _ | (dsimp only) | split
      | fail_if_no_progress (with_reducible apply State.Only.upd) | exact List.prefix_refl _ | exact List.prefix_append _ _
      | exact id | rfl
  | succ n ih => unfold State.transmitGo; (try dsimp only); repeat' first
      | (with_reducible first
          | assumption | apply ih | apply State.sendFlit_only | apply State.Only.ite | apply State.Only.foldl
          | apply State.Only.foldl2 | apply State.Only.foldl3 | apply State.Only.foldl1 | exact State.Only.yes rfl)
      | exact Has.sub ‹_› (by decide +kernel) | exact Has.bit ‹_› (by decide +kernel)
      | exact State.Only.fam ‹_› (by decide) (by decide) (by decide +kernel)
      | exact State.Only.fam1 ‹_› (by decide) (by decide +kernel) | intro _ _ _ _; rfl
      | exact State.Only.no (Has.bit ‹_› (by decide +kernel)) | intro _ | (dsimp only) | split
      | fail_if_no_progress (with_reducible apply State.Only.upd) | exact List.prefix_refl _ | exact List.prefix_append _ _
      | exact id | rfl
theorem State.transmit_only {s0 s : State} {p : Nat} (h_s : s0.Only l s) (hl : Has l [.num 9, .coast, .out]) : s0.Only l
    (State.transmit s p) := by
  unfold State.transmit
  repeat' (with_reducible first | assumption | apply State.transmitGo_only)
theorem State.enqueue_only {s0 s : State} {p src held vc dateline : Nat} {l_ : List Byte} (h_s : s0.Only l s) (hl : Has l [.num
    9, .coast, .out]) : s0.Only l (State.enqueue s p src held vc dateline l_) := by
  unfold State.enqueue
  repeat' first
      | (with_reducible first | assumption | apply State.setPort_only | apply State.transmit_only)
      | exact Has.sub ‹_› (by decide +kernel)
theorem State.post_only {s0 s : State} {vc : Nat} {l_ : List Byte} (h_s : s0.Only l s) (hl : Has l [.num 9, .coast, .out]) :
    s0.Only l (State.post s vc l_) := by
  unfold State.post
  repeat' first
      | (with_reducible first | assumption | apply State.enqueue_only) | exact Has.bit ‹_› (by decide +kernel) | (dsimp only)
      | split | fail_if_no_progress (with_reducible apply State.Only.upd_coast)
theorem State.respond_only {s0 s : State} {dest typ status tag : Nat} {body : List Byte} (h_s : s0.Only l s) (hl : Has l [.num
    9, .coast, .out]) : s0.Only l (State.respond s dest typ status tag body) := by
  unfold State.respond
  repeat' (with_reducible first | assumption | apply State.post_only)
theorem State.sendUpd_only {s0 s : State} {d : Nat} {typBody : List Byte} (h_s : s0.Only l s) (hl : Has l [.num 9, .coast,
    .out]) : s0.Only l (State.sendUpd s d typBody) := by
  unfold State.sendUpd
  repeat' first
      | (with_reducible first | assumption | apply State.setMember_only | apply State.post_only)
      | exact Has.sub ‹_› (by decide +kernel)
theorem State.updGo_only {s0 : State} {x0 x1 : List (Nat × List Byte)} {x2 : State} (h_x2 : s0.Only l x2) (hl : Has l [.num 9,
    .coast, .out]) : s0.Only l (State.updGo x0 x1 x2) := by
  induction x0 generalizing x1 x2 with
  | nil => unfold State.updGo; (try dsimp only); repeat' first
      | (with_reducible first
          | assumption | apply ih | apply State.sendUpd_only | apply State.Only.ite | apply State.Only.foldl
          | apply State.Only.foldl2 | apply State.Only.foldl3 | apply State.Only.foldl1 | exact State.Only.yes rfl)
      | exact Has.sub ‹_› (by decide +kernel) | exact Has.bit ‹_› (by decide +kernel)
      | exact State.Only.fam ‹_› (by decide) (by decide) (by decide +kernel)
      | exact State.Only.fam1 ‹_› (by decide) (by decide +kernel) | intro _ _ _ _; rfl
      | exact State.Only.no (Has.bit ‹_› (by decide +kernel)) | intro _ | (dsimp only) | split
      | fail_if_no_progress (with_reducible apply State.Only.upd_coast)
      | fail_if_no_progress (with_reducible apply State.Only.upd) | exact List.prefix_refl _ | exact List.prefix_append _ _
      | exact id | rfl
  | cons a l_ ih => unfold State.updGo; (try dsimp only); repeat' first
      | (with_reducible first
          | assumption | apply ih | apply State.sendUpd_only | apply State.Only.ite | apply State.Only.foldl
          | apply State.Only.foldl2 | apply State.Only.foldl3 | apply State.Only.foldl1 | exact State.Only.yes rfl)
      | exact Has.sub ‹_› (by decide +kernel) | exact Has.bit ‹_› (by decide +kernel)
      | exact State.Only.fam ‹_› (by decide) (by decide) (by decide +kernel)
      | exact State.Only.fam1 ‹_› (by decide) (by decide +kernel) | intro _ _ _ _; rfl
      | exact State.Only.no (Has.bit ‹_› (by decide +kernel)) | intro _ | (dsimp only) | split
      | fail_if_no_progress (with_reducible apply State.Only.upd_coast)
      | fail_if_no_progress (with_reducible apply State.Only.upd) | exact List.prefix_refl _ | exact List.prefix_append _ _
      | exact id | rfl
theorem State.updPump_only {s0 s : State} (h_s : s0.Only l s) (hl : Has l [.num 9, .coast, .out]) : s0.Only l (State.updPump s)
    := by
  unfold State.updPump
  repeat' (with_reducible first | assumption | apply State.updGo_only)
theorem State.postUpd_only {s0 s : State} {d typ : Nat} {body : List Byte} (h_s : s0.Only l s) (hl : Has l [.num 9, .coast,
    .out]) : s0.Only l (State.postUpd s d typ body) := by
  unfold State.postUpd
  repeat' first
      | (with_reducible first | assumption | apply State.updPump_only) | exact Has.bit ‹_› (by decide +kernel) | (dsimp only)
      | fail_if_no_progress (with_reducible apply State.Only.upd_coast)
theorem State.postAll_only {s0 s : State} {typ : Nat} {body : List Byte} (h_s : s0.Only l s) (hl : Has l [.num 9, .coast,
    .out]) : s0.Only l (State.postAll s typ body) := by
  unfold State.postAll
  repeat' first | (with_reducible first | assumption | apply State.postUpd_only | apply State.Only.foldl) | intro _
theorem State.sendCredit_only {s0 s : State} {d : Nat} (h_s : s0.Only l s) (hl : Has l [.num 9, .coast, .out]) : s0.Only l
    (State.sendCredit s d) := by
  unfold State.sendCredit
  repeat' first
      | (with_reducible first | assumption | apply State.setMember_only | apply State.respond_only)
      | exact Has.sub ‹_› (by decide +kernel)
theorem State.updFreed_only {s0 s : State} {d n : Nat} (h_s : s0.Only l s) (hl : Has l [.num 9, .coast, .out]) : s0.Only l
    (State.updFreed s d n) := by
  unfold State.updFreed
  repeat' first
      | (with_reducible first | assumption | apply State.setMember_only | apply State.sendCredit_only | apply State.Only.ite)
      | exact Has.sub ‹_› (by decide +kernel)
theorem State.unbuffer_only {s0 s : State} {m : CoastMsg} (h_s : s0.Only l s) (hl : Has l [.coast]) : s0.Only l (State.unbuffer
    s m) := by
  unfold State.unbuffer
  repeat' first
      | (with_reducible first | assumption | apply State.freedOne_only) | exact Has.bit ‹_› (by decide +kernel) | (dsimp only)
      | fail_if_no_progress (with_reducible apply State.Only.upd_coast)
theorem State.discardUpd_only {s0 s : State} {m : CoastMsg} {reason : Nat} (h_s : s0.Only l s) (hl : Has l [.num 9, .coast,
    .out]) : s0.Only l (State.discardUpd s m reason) := by
  unfold State.discardUpd
  repeat' (with_reducible first | assumption | apply State.respond_only)
theorem State.loseMessage_only {s0 s : State} {m : CoastMsg} (h_s : s0.Only l s) (hl : Has l [.num 9, .num 11, .faults, .coast,
    .out]) : s0.Only l (State.loseMessage s m) := by
  unfold State.loseMessage
  repeat' first
      | (with_reducible first | assumption | apply State.inc32_only | apply State.event_only | apply State.discardUpd_only)
      | exact Has.sub ‹_› (by decide +kernel) | exact Has.bit ‹_› (by decide +kernel) | (dsimp only) | split
theorem State.takeMsg_only {s0 s : State} {m : CoastMsg} {upset : Nat} {k : State → State} (h_s : s0.Only l s) (h_k : ∀ t,
    s0.Only l t → s0.Only l (k t)) (hl : Has l [.num 9, .num 11, .faults, .coast, .out]) : s0.Only l (State.takeMsg s m upset
    k) := by
  unfold State.takeMsg
  repeat' first
      | (with_reducible first
          | assumption | apply State.inc32_only | apply State.unbuffer_only | apply State.loseMessage_only
          | apply State.Only.ite)
      | exact Has.sub ‹_› (by decide +kernel) | exact State.Only.fam ‹_› (by decide) (by decide) (by decide +kernel) | apply h_k
theorem State.withMsg_only {s0 s : State} {p vc typ upset : Nat} {k : State → CoastMsg → State} (h_s : s0.Only l s) (h_k : ∀ t
    y, s0.Only l t → s0.Only l (k t y)) (hl : Has l [.num 9, .num 11, .faults, .coast, .out]) : s0.Only l (State.withMsg s p vc
    typ upset k) := by
  unfold State.withMsg
  repeat' first | (with_reducible first | assumption | apply State.takeMsg_only) | apply h_k | intro _ | split

/-! ### EgsBase -/

theorem State.setFreeRing_only {s0 s : State} {table tier : Nat} {f : FreeRing} (h_s : s0.Only l s) (hl : Has l [.egs]) :
    s0.Only l (State.setFreeRing s table tier f) := by
  unfold State.setFreeRing
  repeat' first
      | with_reducible assumption | exact Has.bit ‹_› (by decide +kernel) | (dsimp only)
      | fail_if_no_progress (with_reducible apply State.Only.upd_egs)
theorem State.freeTake_only {s0 s : State} {table tier : Nat} (h_s : s0.Only l s) (hl : Has l [.num 1, .num 5, .num 11,
    .faults, .hbm, .egs, .shore]) : s0.Only l (State.freeTake s table tier).2 := by
  unfold State.freeTake
  repeat' first
      | (with_reducible first | assumption | apply State.engineRead_only | apply State.setFreeRing_only)
      | exact Has.sub ‹_› (by decide +kernel) | (dsimp only) | split
theorem State.freeReturn_only {s0 s : State} {table tier slot : Nat} {pending : Bool} (h_s : s0.Only l s) (hl : Has l [.num 1,
    .num 5, .num 11, .faults, .hbm, .egs, .shore, .mem]) : s0.Only l (State.freeReturn s table tier slot pending) := by
  unfold State.freeReturn
  repeat' first
      | (with_reducible first | assumption | apply State.engineWrite_only | apply State.setFreeRing_only)
      | exact Has.sub ‹_› (by decide +kernel)
theorem State.dropFlip_only {s0 s : State} {f : Flip} (h_s : s0.Only l s) (hl : Has l [.num 1, .num 5, .num 11, .faults, .hbm,
    .egs, .shore, .mem]) : s0.Only l (State.dropFlip s f) := by
  unfold State.dropFlip
  repeat' first
      | (with_reducible first | assumption | apply State.freeReturn_only) | exact Has.bit ‹_› (by decide +kernel) | (dsimp only)
      | split | fail_if_no_progress (with_reducible apply State.Only.upd_egs)
theorem State.embFrom_only {s0 s : State} {u : (State)} (h_s : s0.Only l s) (hl : Has l [.egs, .coast]) : s0.Only l
    (State.embFrom s u) := by
  unfold State.embFrom
  repeat' first
      | (with_reducible first | assumption | exact State.Only.yes rfl) | intro _ _ _ _; rfl
      | exact State.Only.no (Has.bit ‹_› (by decide +kernel)) | intro _ | (dsimp only)
      | fail_if_no_progress (with_reducible apply State.Only.upd) | exact List.prefix_refl _
theorem State.embApplied_only {s0 s : State} (h_s : s0.Only l s) (hl : Has l [.egs, .coast]) : s0.Only l (State.embApplied s)
    := by
  unfold State.embApplied
  repeat' (with_reducible first | assumption | apply State.embFrom_only | apply State.Only.ite)
theorem State.egsAbandon_only {s0 s : State} (h_s : s0.Only l s) (hl : Has l [.num 1, .num 5, .num 11, .faults, .hbm, .egs,
    .shore, .mem]) : s0.Only l (State.egsAbandon s) := by
  unfold State.egsAbandon
  repeat' first
      | (with_reducible first | assumption | apply State.dropFlip_only | apply State.Only.foldl)
      | exact Has.bit ‹_› (by decide +kernel) | intro _ | (dsimp only)
      | fail_if_no_progress (with_reducible apply State.Only.upd_egs)
theorem State.edgeAbandon_only {s0 s : State} (h_s : s0.Only l s) (hl : Has l [.num 1, .num 5, .num 11, .faults, .sel, .csa,
    .hbm, .egs, .shore, .mem]) : s0.Only l (State.edgeAbandon s) := by
  unfold State.edgeAbandon
  repeat' first
      | (with_reducible first | assumption | apply State.egsAbandon_only | exact State.Only.yes rfl)
      | exact Has.sub ‹_› (by decide +kernel) | intro _ _ _ _; rfl | exact State.Only.no (Has.bit ‹_› (by decide +kernel))
      | intro _ | (dsimp only) | fail_if_no_progress (with_reducible apply State.Only.upd) | exact List.prefix_refl _
theorem State.sendReady_only {s0 s : State} {job : Nat} (h_s : s0.Only l s) (hl : Has l [.num 9, .coast, .out]) : s0.Only l
    (State.sendReady s job) := by
  unfold State.sendReady
  repeat' (with_reducible first | assumption | apply State.respond_only)
theorem State.sendTeardown_only {s0 s : State} {job code : Nat} (h_s : s0.Only l s) (hl : Has l [.num 9, .num 11, .coast,
    .out]) : s0.Only l (State.sendTeardown s job code) := by
  unfold State.sendTeardown
  repeat' first
      | (with_reducible first | assumption | apply State.inc32_only | apply State.respond_only | apply State.Only.foldl)
      | exact Has.sub ‹_› (by decide +kernel) | exact Has.bit ‹_› (by decide +kernel) | intro _
theorem State.updTailWrite_only {s0 s : State} {v : Nat} (h_s : s0.Only l s) (hl : Has l [.egs]) : s0.Only l
    (State.updTailWrite s v) := by
  unfold State.updTailWrite
  repeat' first
      | with_reducible assumption | exact Has.bit ‹_› (by decide +kernel) | (dsimp only)
      | fail_if_no_progress (with_reducible apply State.Only.upd_egs)

/-! ### CsaBase -/

theorem State.setCsaBank_only {s0 s : State} {b : Nat} {x : CsaBank} (h_s : s0.Only l s) (hl : Has l [.csa]) : s0.Only l
    (State.setCsaBank s b x) := by
  unfold State.setCsaBank
  repeat' first
      | with_reducible assumption | exact Has.bit ‹_› (by decide +kernel) | (dsimp only)
      | fail_if_no_progress (with_reducible apply State.Only.upd_csa)
theorem State.shadowWords_only {s0 s : State} {a n : Nat} (h_s : s0.Only l s) (hl : Has l [.hbm]) : s0.Only l
    (State.shadowWords s a n) := by
  unfold State.shadowWords
  repeat' first
      | (with_reducible first | assumption | exact State.Only.yes rfl) | exact Has.bit ‹_› (by decide +kernel) | intro _
      | (dsimp only) | fail_if_no_progress (with_reducible apply State.Only.upd_hbm)
theorem State.putHeader_only {s0 s : State} {b epoch : Nat} (h_s : s0.Only l s) (hl : Has l [.csa, .hbm]) : s0.Only l
    (State.putHeader s b epoch) := by
  unfold State.putHeader
  repeat' first
      | (with_reducible first | assumption | apply State.setCsaBank_only | apply State.shadowWords_only)
      | exact Has.sub ‹_› (by decide +kernel)
theorem State.genUp_only {s0 s : State} {b : Nat} (h_s : s0.Only l s) (hl : Has l [.csa, .hbm]) : s0.Only l (State.genUp s b)
    := by
  unfold State.genUp
  repeat' first
      | (with_reducible first | assumption | apply State.setCsaBank_only | apply State.putHeader_only)
      | exact Has.sub ‹_› (by decide +kernel)
theorem State.scrubAccount_only {s0 s : State} {b : Nat} (h_s : s0.Only l s) (hl : Has l [.num 7, .csa]) : s0.Only l
    (State.scrubAccount s b) := by
  unfold State.scrubAccount
  repeat' first
      | (with_reducible first
          | assumption | apply State.inc64_only | apply State.setSticky_only | apply State.setCsaBank_only
          | apply State.Only.ite)
      | exact Has.sub ‹_› (by decide +kernel) | exact Has.bit ‹_› (by decide +kernel)
theorem State.scrubAccounts_only {s0 s : State} (h_s : s0.Only l s) (hl : Has l [.num 7, .csa]) : s0.Only l
    (State.scrubAccounts s) := by
  unfold State.scrubAccounts
  repeat' first | (with_reducible first | assumption | apply State.scrubAccount_only | apply State.Only.foldl) | intro _
theorem State.scrubRestart_only {s0 s : State} (h_s : s0.Only l s) (hl : Has l [.csa]) : s0.Only l (State.scrubRestart s) := by
  unfold State.scrubRestart
  repeat' first | (with_reducible first | assumption | apply State.setCsaBank_only | apply State.Only.foldl) | intro _
theorem State.clearNow_only {s0 s : State} {b : Nat} (h_s : s0.Only l s) (hl : Has l [.csa, .hbm]) : s0.Only l (State.clearNow
    s b) := by
  unfold State.clearNow
  repeat' first
      | (with_reducible first | assumption | apply State.setCsaBank_only | apply State.putHeader_only)
      | exact Has.sub ‹_› (by decide +kernel) | exact Has.bit ‹_› (by decide +kernel) | (dsimp only)
      | fail_if_no_progress (with_reducible apply State.Only.upd_csa)
theorem State.startClearing_only {s0 s : State} {b : Nat} (h_s : s0.Only l s) (hl : Has l [.num 7, .csa, .hbm]) : s0.Only l
    (State.startClearing s b) := by
  unfold State.startClearing
  repeat' first
      | (with_reducible first
          | assumption | apply State.setCsaBank_only | apply State.scrubAccount_only | apply State.clearNow_only
          | apply State.Only.ite)
      | exact Has.sub ‹_› (by decide +kernel)
theorem State.csaFail_only {s0 s : State} {b : Nat} (h_s : s0.Only l s) (hl : Has l [.num 1, .num 7, .num 11, .faults, .csa,
    .shore]) : s0.Only l (State.csaFail s b) := by
  unfold State.csaFail
  repeat' first
      | (with_reducible first
          | assumption | apply State.setSticky_only | apply State.eventNote_only | apply State.setCsaBank_only
          | apply State.scrubAccount_only)
      | exact Has.sub ‹_› (by decide +kernel) | exact Has.bit ‹_› (by decide +kernel)

/-! ### SelfTest -/

theorem State.testResult_only {s0 s : State} {kind bank result : Nat} (h_s : s0.Only l s) (hl : Has l [.num 13]) : s0.Only l
    (State.testResult s kind bank result) := by
  unfold State.testResult
  repeat' first | (with_reducible first | assumption | apply State.setNum_only) | exact Has.bit ‹_› (by decide +kernel)
theorem State.testRan_only {s0 s : State} {kind bank : Nat} {ok : Bool} (h_s : s0.Only l s) (hl : Has l [.num 13]) : s0.Only l
    (State.testRan s kind bank ok) := by
  unfold State.testRan
  repeat' first
      | (with_reducible first | assumption | apply State.inc32_only | apply State.testResult_only | apply State.Only.ite)
      | exact Has.bit ‹_› (by decide +kernel)
theorem State.testDestroys_only {s0 s : State} {kind bank : Nat} (h_s : s0.Only l s) (hl : Has l [.num 4, .wall, .csa, .sched])
    : s0.Only l (State.testDestroys s kind bank) := by
  unfold State.testDestroys
  repeat' first
      | (with_reducible first | assumption | apply State.shadowEmpty_only | exact State.Only.yes rfl)
      | exact Has.sub ‹_› (by decide +kernel) | exact Has.bit ‹_› (by decide +kernel) | (dsimp only) | split
      | fail_if_no_progress (with_reducible apply State.Only.upd_wall)
      | fail_if_no_progress (with_reducible apply State.Only.upd_csa)
theorem State.unitFailed_only {s0 s : State} {kind bank u : Nat} (h_s : s0.Only l s) (hl : Has l [.num 1, .num 7, .num 11,
    .faults, .wall, .sel, .csa, .shore]) : s0.Only l (State.unitFailed s kind bank u) := by
  unfold State.unitFailed
  repeat' first
      | (with_reducible first | assumption | apply State.retirePending_only | apply State.csaFail_only | apply State.Only.ite)
      | exact Has.sub ‹_› (by decide +kernel) | exact Has.bit ‹_› (by decide +kernel) | (dsimp only) | split
      | fail_if_no_progress (with_reducible apply State.Only.upd_sel)
theorem State.maintEnd_only {s0 s : State} {kind bank : Nat} {failed : List Nat} (h_s : s0.Only l s) (hl : Has l [.num 1, .num
    4, .num 7, .num 11, .num 13, .faults, .wall, .sel, .csa, .sched, .shore]) : s0.Only l (State.maintEnd s kind bank failed)
    := by
  unfold State.maintEnd
  repeat' first
      | (with_reducible first
          | assumption | apply State.testRan_only | apply State.testDestroys_only | apply State.unitFailed_only
          | apply State.Only.foldl)
      | exact Has.sub ‹_› (by decide +kernel) | intro _
theorem State.maintAbandoned_only {s0 s : State} {kind bank : Nat} (h_s : s0.Only l s) (hl : Has l [.num 4, .num 13, .wall,
    .csa, .sched]) : s0.Only l (State.maintAbandoned s kind bank) := by
  unfold State.maintAbandoned
  repeat' first
      | (with_reducible first | assumption | apply State.testResult_only | apply State.testDestroys_only)
      | exact Has.sub ‹_› (by decide +kernel)
theorem State.maintRefused_only {s0 s : State} {kind bank : Nat} (h_s : s0.Only l s) (hl : Has l [.num 13]) : s0.Only l
    (State.maintRefused s kind bank) := by
  unfold State.maintRefused
  repeat' (with_reducible first | assumption | apply State.testResult_only)

/-! ### Sched -/

theorem State.predict_only {s0 : State} {x0 : Nat} {x1 : State} (h_x1 : s0.Only l x1) (hl : Has l [.num 1, .num 3, .num 4, .num
    5, .num 8, .num 10, .num 11, .reg, .faults, .wall, .tables, .hbm, .sched, .shore, .power]) : s0.Only l (State.predict x0
    x1) := by
  induction x0 generalizing x1 with
  | zero => unfold State.predict; (try dsimp only); repeat' first
      | (with_reducible first
          | assumption | apply ih | apply State.shadowEmpty_only | apply State.startLoad_only | apply State.Only.ite
          | apply State.Only.foldl | apply State.Only.foldl2 | apply State.Only.foldl3 | apply State.Only.foldl1
          | exact State.Only.yes rfl)
      | exact Has.sub ‹_› (by decide +kernel) | exact Has.bit ‹_› (by decide +kernel)
      | exact State.Only.fam ‹_› (by decide) (by decide) (by decide +kernel)
      | exact State.Only.fam1 ‹_› (by decide) (by decide +kernel) | intro _ _ _ _; rfl
      | exact State.Only.no (Has.bit ‹_› (by decide +kernel)) | intro _ | (dsimp only) | split
      | fail_if_no_progress (with_reducible apply State.Only.upd) | exact List.prefix_refl _ | exact List.prefix_append _ _
      | exact id | rfl
  | succ n ih => unfold State.predict; (try dsimp only); repeat' first
      | (with_reducible first
          | assumption | apply ih | apply State.shadowEmpty_only | apply State.startLoad_only | apply State.Only.ite
          | apply State.Only.foldl | apply State.Only.foldl2 | apply State.Only.foldl3 | apply State.Only.foldl1
          | exact State.Only.yes rfl)
      | exact Has.sub ‹_› (by decide +kernel) | exact Has.bit ‹_› (by decide +kernel)
      | exact State.Only.fam ‹_› (by decide) (by decide) (by decide +kernel)
      | exact State.Only.fam1 ‹_› (by decide) (by decide +kernel) | intro _ _ _ _; rfl
      | exact State.Only.no (Has.bit ‹_› (by decide +kernel)) | intro _ | (dsimp only) | split
      | fail_if_no_progress (with_reducible apply State.Only.upd) | exact List.prefix_refl _ | exact List.prefix_append _ _
      | exact id | rfl
theorem State.badSlots_only {s0 s : State} (h_s : s0.Only l s) (hl : Has l [.num 3, .num 10, .num 11, .reg, .faults, .sched,
    .power]) : s0.Only l (State.badSlots s) := by
  unfold State.badSlots
  repeat' first | (with_reducible first | assumption | apply State.faultUnrun_only | apply State.Only.foldl) | intro _
theorem State.settle_only {s0 s : State} (h_s : s0.Only l s) (hl : Has l [.num 1, .num 3, .num 4, .num 5, .num 8, .num 10, .num
    11, .reg, .faults, .wall, .tables, .hbm, .sched, .host, .shore, .power, .out]) : s0.Only l (State.settle s) := by
  unfold State.settle
  repeat' first
      | (with_reducible first
          | assumption | apply State.ringsFollow_only | apply State.predict_only | apply State.badSlots_only)
      | exact Has.sub ‹_› (by decide +kernel)
theorem State.dropReports_only {s0 s : State} (h_s : s0.Only l s) (hl : Has l [.num 11, .faults]) : s0.Only l
    (State.dropReports s) := by
  unfold State.dropReports
  repeat' first
      | (with_reducible first | assumption | apply State.inc64_only | apply State.Only.ite | exact State.Only.yes rfl)
      | exact Has.bit ‹_› (by decide +kernel) | (dsimp only) | fail_if_no_progress (with_reducible apply State.Only.upd_faults)
theorem State.closeBooks_only {s0 s : State} (h_s : s0.Only l s) (hl : Has l [.num 1, .num 4, .num 5, .num 11, .faults, .wall,
    .mortar, .sel, .csa, .hbm, .egs, .shore, .mem, .slots]) : s0.Only l (State.closeBooks s) := by
  unfold State.closeBooks
  repeat' first
      | (with_reducible first
          | assumption | apply State.inc64_only | apply State.coursesApplied_only | apply State.edgeAbandon_only
          | exact State.Only.yes rfl)
      | exact Has.sub ‹_› (by decide +kernel) | exact Has.bit ‹_› (by decide +kernel) | intro _ _ _ _; rfl
      | exact State.Only.no (Has.bit ‹_› (by decide +kernel)) | intro _ | (dsimp only)
      | fail_if_no_progress (with_reducible apply State.Only.upd) | exact List.prefix_refl _
theorem State.zeroiseSram_only {s0 s : State} (h_s : s0.Only l s) (hl : Has l [.wall, .sram]) : s0.Only l (State.zeroiseSram s)
    := by
  unfold State.zeroiseSram
  repeat' first
      | (with_reducible first | assumption | exact State.Only.yes rfl) | exact Has.bit ‹_› (by decide +kernel)
      | exact State.Only.no (Has.bit ‹_› (by decide +kernel)) | (dsimp only)
      | fail_if_no_progress (with_reducible apply State.Only.upd_wall)
theorem State.swapBanks_only {s0 s : State} (h_s : s0.Only l s) (hl : Has l [.num 4, .wall, .mortar, .sched]) : s0.Only l
    (State.swapBanks s) := by
  unfold State.swapBanks
  repeat' first
      | (with_reducible first | assumption | apply State.shadowEmpty_only | exact State.Only.yes rfl)
      | exact Has.sub ‹_› (by decide +kernel) | intro _ _ _ _; rfl | exact State.Only.no (Has.bit ‹_› (by decide +kernel))
      | intro _ | (dsimp only) | fail_if_no_progress (with_reducible apply State.Only.upd) | exact List.prefix_refl _
theorem State.bankRead_only {s0 s : State} {p : Nat → Bool} (h_s : s0.Only l s) (hl : Has l [.num 4, .wall]) : s0.Only l
    (State.bankRead s p) := by
  unfold State.bankRead
  repeat' first
      | (with_reducible first
          | assumption | apply State.inc32_only | apply State.setSticky_only | apply State.Only.ite | exact State.Only.yes rfl)
      | exact Has.bit ‹_› (by decide +kernel) | (dsimp only) | fail_if_no_progress (with_reducible apply State.Only.upd_wall)
theorem State.preload_only {s0 s : State} (h_s : s0.Only l s) (hl : Has l [.num 4, .wall, .slots]) : s0.Only l (State.preload
    s) := by
  unfold State.preload
  try dsimp only
  repeat' first
      | (with_reducible first
          | assumption | apply State.bankRead_only | apply State.Only.ite | apply State.Only.foldl | apply State.Only.foldl2
          | apply State.Only.foldl3 | apply State.Only.foldl1 | exact State.Only.yes rfl)
      | exact Has.sub ‹_› (by decide +kernel) | exact Has.bit ‹_› (by decide +kernel)
      | exact State.Only.fam ‹_› (by decide) (by decide) (by decide +kernel)
      | exact State.Only.fam1 ‹_› (by decide) (by decide +kernel) | intro _ _ _ _; rfl
      | exact State.Only.no (Has.bit ‹_› (by decide +kernel)) | intro _ | (dsimp only) | split
      | fail_if_no_progress (with_reducible apply State.Only.upd_wall)
      | fail_if_no_progress (with_reducible apply State.Only.upd) | exact List.prefix_refl _ | exact List.prefix_append _ _
      | exact id | rfl
theorem State.writeParams_only {s0 s : State} {l_ : List Byte} (h_s : s0.Only l s) (hl : Has l [.wall, .sram]) : s0.Only l
    (State.writeParams s l_) := by
  unfold State.writeParams
  repeat' first
      | (with_reducible first | assumption | exact State.Only.yes rfl) | exact Has.bit ‹_› (by decide +kernel)
      | exact State.Only.no (Has.bit ‹_› (by decide +kernel)) | (dsimp only)
      | fail_if_no_progress (with_reducible apply State.Only.upd_wall)
theorem State.endRun_only {s0 s : State} {r : Run} {e : Option Entry} (h_s : s0.Only l s) (hl : Has l [.num 3, .num 10, .wall,
    .sched, .power, .run]) : s0.Only l (State.endRun s r e) := by
  unfold State.endRun
  repeat' first
      | (with_reducible first
          | assumption | apply State.setNum_only | apply State.inc64_only | apply State.setSched_only
          | apply State.selectionEvent_only | apply State.addEntry_only | apply State.Only.ite | exact State.Only.yes rfl)
      | exact Has.sub ‹_› (by decide +kernel) | exact Has.bit ‹_› (by decide +kernel)
      | exact State.Only.fam ‹_› (by decide) (by decide) (by decide +kernel) | intro _ _ _ _; rfl
      | exact State.Only.no (Has.bit ‹_› (by decide +kernel)) | intro _ | (dsimp only) | split
      | fail_if_no_progress (with_reducible apply State.Only.upd) | exact List.prefix_refl _
theorem State.drainJobs_only {s0 s : State} (h_s : s0.Only l s) (hl : Has l [.num 3, .num 10, .sched, .power]) : s0.Only l
    (State.drainJobs s) := by
  unfold State.drainJobs
  repeat' first
      | (with_reducible first
          | assumption | apply State.setSched_only | apply State.retireJob_only | apply State.Only.foldl
          | exact State.Only.yes rfl)
      | exact Has.sub ‹_› (by decide +kernel) | exact Has.bit ‹_› (by decide +kernel) | intro _ | (dsimp only)
      | fail_if_no_progress (with_reducible apply State.Only.upd_sched)
theorem State.lullFollows_only {s0 s : State} (h_s : s0.Only l s) (hl : Has l [.num 3, .num 10, .sched, .power]) : s0.Only l
    (State.lullFollows s) := by
  unfold State.lullFollows
  repeat' first
      | (with_reducible first | assumption | apply State.setNum_only | apply State.drainJobs_only | apply State.Only.ite)
      | exact Has.bit ‹_› (by decide +kernel) | (dsimp only) | fail_if_no_progress (with_reducible apply State.Only.upd_power)
theorem State.refuseSelected_only {s0 s : State} {r : Run} {code : Nat} (h_s : s0.Only l s) (hl : Has l [.num 3, .num 4, .num
    10, .num 11, .reg, .faults, .wall, .sched, .power, .run]) : s0.Only l (State.refuseSelected s r code) := by
  unfold State.refuseSelected
  extract_lets s1 s2 s3
  have h1 : s0.Only l s1 := State.setNum_only (State.inc32_only (State.shadowEmpty_only h_s (hl.sub (by decide +kernel)))
        (by first | exact hl.bit (by decide +kernel) | exact State.Only.fam hl (by decide) (by decide) (by decide +kernel) | exact State.Only.fam1 hl (by decide) (by decide +kernel)))
        (by first | exact hl.bit (by decide +kernel) | exact State.Only.fam hl (by decide) (by decide) (by decide +kernel) | exact State.Only.fam1 hl (by decide) (by decide +kernel))
  clear_value s1
  have h2 : s0.Only l s2 := State.haltClient_only (State.setNum_only h1
        (by first | exact hl.bit (by decide +kernel) | exact State.Only.fam hl (by decide) (by decide) (by decide +kernel) | exact State.Only.fam1 hl (by decide) (by decide +kernel))) (hl.sub (by decide +kernel))
  clear_value s2
  have h3 : s0.Only l s3 := State.log_only h2 (hl.sub (by decide +kernel))
  clear_value s3
  exact State.endRun_only h3 (hl.sub (by decide +kernel))
theorem State.deviceFault_only {s0 s : State} {code source d0 d1 : Nat} (h_s : s0.Only l s) (hl : Has l [.num 1, .num 11, .reg,
    .faults, .host, .shore, .device]) : s0.Only l (State.deviceFault s code source d0 d1) := by
  unfold State.deviceFault
  repeat' first
      | (with_reducible first
          | assumption | apply State.setSticky_only | apply State.regSet_only | apply State.logNote_only
          | apply State.raiseGlobal_only)
      | exact Has.sub ‹_› (by decide +kernel) | exact Has.bit ‹_› (by decide +kernel)
      | exact State.Only.no (Has.bit ‹_› (by decide +kernel)) | (dsimp only)
      | fail_if_no_progress (with_reducible apply State.Only.upd_faults)
theorem State.unbalanced_only {s0 s : State} (h_s : s0.Only l s) (hl : Has l [.num 1, .num 4, .num 11, .reg, .faults, .mortar,
    .host, .shore, .device]) : s0.Only l (State.unbalanced s) := by
  unfold State.unbalanced
  repeat' first
      | (with_reducible first
          | assumption | apply State.setNum_only | apply State.inc32_only | apply State.setSticky_only
          | apply State.deviceFault_only | apply State.Only.ite)
      | exact Has.sub ‹_› (by decide +kernel) | exact Has.bit ‹_› (by decide +kernel) | (dsimp only)
      | fail_if_no_progress (with_reducible apply State.Only.upd_mortar)
theorem State.switchInto_only {s0 s : State} {r : Run} (h_s : s0.Only l s) (hl : Has l [.num 1, .num 3, .num 4, .num 5, .num 8,
    .num 10, .num 11, .reg, .faults, .wall, .mortar, .tables, .sel, .csa, .hbm, .egs, .coast, .sched, .host, .shore, .power,
    .device, .sram, .run, .mem, .slots]) : s0.Only l (State.switchInto s r) := by
  unfold State.switchInto
  extract_lets first s1 recheck w s2 s3 s3' s4 s5 s6
  have h1 : s0.Only l s1 := State.dropReports_only (State.embApplied_only (State.regionsApplied_only (State.tablesApplied_only
      (State.closeBooks_only h_s (hl.sub (by decide +kernel))) (hl.sub (by decide +kernel))) (hl.sub (by decide +kernel)))
      (hl.sub (by decide +kernel))) (hl.sub (by decide +kernel))
  clear_value s1
  have h2 : s0.Only l s2 := State.Only.upd_tables h1
  clear_value s2
  refine State.Only.ite ?_ (State.Only.ite (State.refuseSelected_only h2 (hl.sub (by decide +kernel))) (State.Only.ite
      (State.refuseSelected_only h2 (hl.sub (by decide +kernel)))
    (State.Only.ite (State.refuseSelected_only h2 (hl.sub (by decide +kernel))) ?_)))
  · have h3 : s0.Only l s3 := State.unbalanced_only h2 (hl.sub (by decide +kernel))
    clear_value s3
    exact State.endRun_only h3 (hl.sub (by decide +kernel))
  · have h3 : s0.Only l s3' := State.swapBanks_only (State.tablesRestored_only h2 (hl.sub (by decide +kernel))) (hl.sub
      (by decide +kernel))
    clear_value s3'
    have h4 : s0.Only l s4 := State.Only.ite (State.inc64_only (State.zeroiseSram_only h3 (hl.sub (by decide +kernel)))
          (by first | exact hl.bit (by decide +kernel) | exact State.Only.fam hl (by decide) (by decide) (by decide +kernel) | exact State.Only.fam1 hl (by decide) (by decide +kernel))) (State.inc64_only h3
          (by first | exact hl.bit (by decide +kernel) | exact State.Only.fam hl (by decide) (by decide) (by decide +kernel) | exact State.Only.fam1 hl (by decide) (by decide +kernel)))
    clear_value s4
    have h5 : s0.Only l s5 := State.preload_only h4 (hl.sub (by decide +kernel))
    clear_value s5
    have h6 : s0.Only l s6 := State.Only.ite (State.writeParams_only h5 (hl.sub (by decide +kernel))) h5
    clear_value s6
    exact State.setSched_only (State.Only.upd_sched h6) (hl.sub (by decide +kernel))
theorem State.switchMaint_only {s0 s : State} {r : Run} (h_s : s0.Only l s) (hl : Has l [.num 1, .num 3, .num 4, .num 5, .num
    8, .num 10, .num 11, .reg, .faults, .wall, .mortar, .tables, .sel, .csa, .hbm, .egs, .coast, .sched, .host, .shore, .power,
    .device, .sram, .run, .mem, .slots]) : s0.Only l (State.switchMaint s r) := by
  unfold State.switchMaint
  repeat' first
      | (with_reducible first
          | assumption | apply State.inc64_only | apply State.setSched_only | apply State.regionsApplied_only
          | apply State.tablesApplied_only | apply State.tablesRestored_only | apply State.embApplied_only
          | apply State.dropReports_only | apply State.closeBooks_only | apply State.zeroiseSram_only | apply State.endRun_only
          | apply State.unbalanced_only | apply State.Only.ite | exact State.Only.yes rfl)
      | exact Has.sub ‹_› (by decide +kernel) | exact Has.bit ‹_› (by decide +kernel) | (dsimp only) | split
      | fail_if_no_progress (with_reducible apply State.Only.upd_tables)
      | fail_if_no_progress (with_reducible apply State.Only.upd_sched)
theorem State.displace_only {s0 s : State} {sel : Option Job} {refused counted : List (Nat × Nat)} (h_s : s0.Only l s) (hl :
    Has l [.num 3, .sched]) : s0.Only l (State.displace s sel refused counted) := by
  unfold State.displace
  refine State.Only.foldl h_s ?_
  intro u j hu
  exact State.Only.ite (State.setJob_only (State.inc64_only hu
        (by first | exact hl.bit (by decide +kernel) | exact State.Only.fam hl (by decide) (by decide) (by decide +kernel) | exact State.Only.fam1 hl (by decide) (by decide +kernel))) (hl.sub (by decide +kernel))) hu
theorem State.countRefused_only {s0 s : State} {l_ : List Job} (h_s : s0.Only l s) (hl : Has l [.num 3]) : s0.Only l
    (State.countRefused s l_) := by
  unfold State.countRefused
  repeat' first
      | (with_reducible first | assumption | apply State.inc64_only | apply State.Only.foldl)
      | exact State.Only.fam ‹_› (by decide) (by decide) (by decide +kernel) | intro _
theorem State.selectJob_only {s0 s : State} {j0 : Job} (h_s : s0.Only l s) (hl : Has l [.num 1, .num 3, .num 4, .num 5, .num 8,
    .num 10, .num 11, .reg, .faults, .wall, .mortar, .tables, .sel, .csa, .hbm, .egs, .coast, .sched, .host, .shore, .power,
    .device, .sram, .run, .mem, .slots]) : s0.Only l (State.selectJob s j0) := by
  unfold State.selectJob
  repeat' first
      | (with_reducible first
          | assumption | apply State.setNum_only | apply State.inc64_only | apply State.dropJob_only | apply State.promote_only
          | apply State.switchInto_only | apply State.switchMaint_only | apply State.Only.ite)
      | exact Has.sub ‹_› (by decide +kernel) | exact Has.bit ‹_› (by decide +kernel)
      | exact State.Only.fam ‹_› (by decide) (by decide) (by decide +kernel)
      | exact State.Only.no (Has.bit ‹_› (by decide +kernel)) | (dsimp only) | split
      | fail_if_no_progress (with_reducible apply State.Only.upd_sched)
theorem State.enterHold_only {s0 s : State} {j : Job} (h_s : s0.Only l s) (hl : Has l [.num 3, .num 9, .coast, .sched, .out]) :
    s0.Only l (State.enterHold s j) := by
  unfold State.enterHold
  repeat' first
      | (with_reducible first | assumption | apply State.setSched_only | apply State.sendReady_only | exact State.Only.yes rfl)
      | exact Has.sub ‹_› (by decide +kernel) | exact Has.bit ‹_› (by decide +kernel) | (dsimp only)
      | fail_if_no_progress (with_reducible apply State.Only.upd_sched)
theorem State.abortHold_only {s0 s : State} (h_s : s0.Only l s) (hl : Has l [.num 3, .num 9, .num 10, .num 11, .reg, .faults,
    .sched, .power]) : s0.Only l (State.abortHold s) := by
  unfold State.abortHold
  repeat' first
      | (with_reducible first
          | assumption | apply State.inc32_only | apply State.setSched_only | apply State.selectionEvent_only
          | apply State.setJob_only | apply State.faultUnrun_only | apply State.lullFollows_only | apply State.Only.ite
          | exact State.Only.yes rfl)
      | exact Has.sub ‹_› (by decide +kernel) | exact Has.bit ‹_› (by decide +kernel) | (dsimp only) | split
      | fail_if_no_progress (with_reducible apply State.Only.upd_sched)
theorem State.holdCheck_only {s0 s : State} (h_s : s0.Only l s) (hl : Has l [.num 3, .num 9, .num 10, .num 11, .reg, .faults,
    .sched, .power]) : s0.Only l (State.holdCheck s) := by
  unfold State.holdCheck
  repeat' (with_reducible first | assumption | apply State.abortHold_only | apply State.Only.ite)
theorem State.autoLull_only {s0 s : State} (h_s : s0.Only l s) (hl : Has l [.num 10, .power]) : s0.Only l (State.autoLull s) :=
    by
  unfold State.autoLull
  repeat' first
      | (with_reducible first | assumption | apply State.setNum_only | apply State.Only.ite)
      | exact Has.bit ‹_› (by decide +kernel) | (dsimp only) | fail_if_no_progress (with_reducible apply State.Only.upd_power)
theorem State.take_only {s0 s : State} {j : Job} {refused : List (Nat × Nat)} (h_s : s0.Only l s) (hl : Has l [.num 1, .num 3,
    .num 4, .num 5, .num 8, .num 9, .num 10, .num 11, .reg, .faults, .wall, .mortar, .tables, .sel, .csa, .hbm, .egs, .coast,
    .sched, .host, .shore, .power, .out, .device, .sram, .run, .mem, .slots]) : s0.Only l (State.take s j refused) := by
  unfold State.take
  repeat' first
      | (with_reducible first
          | assumption | apply State.setSched_only | apply State.displace_only | apply State.selectJob_only
          | apply State.enterHold_only | apply State.holdCheck_only | apply State.Only.ite | exact State.Only.yes rfl)
      | exact Has.sub ‹_› (by decide +kernel) | exact Has.bit ‹_› (by decide +kernel) | (dsimp only)
      | fail_if_no_progress (with_reducible apply State.Only.upd_sched)
theorem State.selection_only {s0 : State} {x0 : Nat} {x1 : State} (h_x1 : s0.Only l x1) (hl : Has l [.num 1, .num 3, .num 4,
    .num 5, .num 8, .num 9, .num 10, .num 11, .num 13, .reg, .faults, .wall, .mortar, .tables, .sel, .csa, .hbm, .egs, .coast,
    .sched, .host, .shore, .power, .out, .device, .sram, .run, .mem, .slots]) : s0.Only l (State.selection x0 x1) := by
  induction x0 generalizing x1 with
  | zero => unfold State.selection; (try dsimp only); repeat' first
      | (with_reducible first
          | assumption | apply ih | apply State.setSched_only | apply State.dropJob_only | apply State.promote_only
          | apply State.maintRefused_only | apply State.displace_only | apply State.countRefused_only
          | apply State.autoLull_only | apply State.take_only | apply State.Only.ite | apply State.Only.foldl
          | apply State.Only.foldl2 | apply State.Only.foldl3 | apply State.Only.foldl1 | exact State.Only.yes rfl)
      | exact Has.sub ‹_› (by decide +kernel) | exact Has.bit ‹_› (by decide +kernel)
      | exact State.Only.fam ‹_› (by decide) (by decide) (by decide +kernel)
      | exact State.Only.fam1 ‹_› (by decide) (by decide +kernel) | intro _ _ _ _; rfl
      | exact State.Only.no (Has.bit ‹_› (by decide +kernel)) | intro _ | (dsimp only) | split
      | fail_if_no_progress (with_reducible apply State.Only.upd_sched)
      | fail_if_no_progress (with_reducible apply State.Only.upd) | exact List.prefix_refl _ | exact List.prefix_append _ _
      | exact id | rfl
  | succ n ih => unfold State.selection; (try dsimp only); repeat' first
      | (with_reducible first
          | assumption | apply ih | apply State.setSched_only | apply State.dropJob_only | apply State.promote_only
          | apply State.maintRefused_only | apply State.displace_only | apply State.countRefused_only
          | apply State.autoLull_only | apply State.take_only | apply State.Only.ite | apply State.Only.foldl
          | apply State.Only.foldl2 | apply State.Only.foldl3 | apply State.Only.foldl1 | exact State.Only.yes rfl)
      | exact Has.sub ‹_› (by decide +kernel) | exact Has.bit ‹_› (by decide +kernel)
      | exact State.Only.fam ‹_› (by decide) (by decide) (by decide +kernel)
      | exact State.Only.fam1 ‹_› (by decide) (by decide +kernel) | intro _ _ _ _; rfl
      | exact State.Only.no (Has.bit ‹_› (by decide +kernel)) | intro _ | (dsimp only) | split
      | fail_if_no_progress (with_reducible apply State.Only.upd_sched)
      | fail_if_no_progress (with_reducible apply State.Only.upd) | exact List.prefix_refl _ | exact List.prefix_append _ _
      | exact id | rfl
theorem descriptorFetched_only {s0 s : State} {c : Nat} {data : List Byte} {failed : Bool} (h_s : s0.Only l s) (hl : Has l
    [.num 3, .num 10, .num 11, .reg, .faults, .sched, .power]) : s0.Only l (descriptorFetched s c data failed) := by
  unfold descriptorFetched
  repeat' first
      | (with_reducible first
          | assumption | apply State.setNum_only | apply State.inc64_only | apply State.setCReg_only | apply State.cSticky_only
          | apply State.promote_only | apply State.faultUnrun_only | apply State.Only.ite | exact State.Only.yes rfl)
      | exact Has.sub ‹_› (by decide +kernel) | exact Has.bit ‹_› (by decide +kernel)
      | exact State.Only.fam ‹_› (by decide) (by decide) (by decide +kernel) | (dsimp only) | split
      | fail_if_no_progress (with_reducible apply State.Only.upd_sched)
theorem State.schedUpset_only {s0 s : State} {x0 : SchedUpset} (h_s : s0.Only l s) (hl : Has l [.num 1, .num 3, .num 10, .num
    11, .reg, .faults, .sched, .host, .shore, .power, .device]) : s0.Only l (State.schedUpset s x0) := by
  unfold State.schedUpset
  repeat' first
      | (with_reducible first | assumption | apply State.setJob_only | apply State.badSlots_only | apply State.deviceFault_only)
      | exact Has.sub ‹_› (by decide +kernel) | split

/-! ### Faults -/

theorem State.closeTeardown_only {s0 s : State} (h_s : s0.Only l s) (hl : Has l [.num 1, .num 4, .num 5, .num 11, .faults,
    .wall, .mortar, .sel, .csa, .hbm, .egs, .shore, .mem, .slots]) : s0.Only l (State.closeTeardown s) := by
  unfold State.closeTeardown
  repeat' first
      | (with_reducible first | assumption | apply State.setNum_only | apply State.inc64_only | apply State.closeBooks_only)
      | exact Has.bit ‹_› (by decide +kernel)
theorem State.tearStart_only {s0 s : State} {r : Run} {outcome code : Nat} {owed : Bool} (h_s : s0.Only l s) (hl : Has l [.num
    1, .num 3, .num 4, .num 5, .num 11, .num 13, .faults, .wall, .sel, .csa, .hbm, .egs, .sched, .shore, .mem]) : s0.Only l
    (State.tearStart s r outcome code owed) := by
  unfold State.tearStart
  repeat' first
      | (with_reducible first
          | assumption | apply State.setSched_only | apply State.edgeAbandon_only | apply State.maintAbandoned_only
          | apply State.Only.ite | exact State.Only.yes rfl)
      | exact Has.sub ‹_› (by decide +kernel) | intro _ _ _ _; rfl | exact State.Only.no (Has.bit ‹_› (by decide +kernel))
      | intro _ | (dsimp only) | split | fail_if_no_progress (with_reducible apply State.Only.upd) | exact List.prefix_refl _
theorem State.tearDown_only {s0 s : State} {r : Run} {outcome code : Nat} {halt : Bool} (h_s : s0.Only l s) (hl : Has l [.num
    1, .num 3, .num 4, .num 5, .num 11, .num 13, .reg, .faults, .wall, .sel, .csa, .hbm, .egs, .sched, .shore, .mem]) : s0.Only
    l (State.tearDown s r outcome code halt) := by
  unfold State.tearDown
  exact State.tearStart_only (State.Only.ite (State.haltClient_only h_s (hl.sub (by decide +kernel))) h_s) (hl.sub
      (by decide +kernel))
theorem State.tearEnd_only {s0 s : State} {r : Run} {t : Teardown} {d : Nat} (h_s : s0.Only l s) (hl : Has l [.num 1, .num 3,
    .num 4, .num 5, .num 10, .num 11, .reg, .faults, .wall, .mortar, .sel, .csa, .hbm, .egs, .sched, .host, .shore, .power,
    .device, .run, .mem, .slots]) : s0.Only l (State.tearEnd s r t d) := by
  unfold State.tearEnd
  extract_lets s1 e w c s2 s3 c2 s4
  have h1 : s0.Only l s1 := State.dropReports_only (State.closeTeardown_only h_s (hl.sub (by decide +kernel))) (hl.sub
      (by decide +kernel))
  clear_value s1
  have h2 : s0.Only l s2 := State.Only.upd_sched (State.inc64_only h1
        (by first | exact hl.bit (by decide +kernel) | exact State.Only.fam hl (by decide) (by decide) (by decide +kernel) | exact State.Only.fam1 hl (by decide) (by decide +kernel)))
  clear_value s2
  have h3 : ∀ x, s0.Only l (s2.endRun r x) := fun x => State.endRun_only h2 (hl.sub (by decide +kernel))
  have h4 : s0.Only l s4 := State.Only.ite (h3 none) (State.Only.ite (State.Only.upd_sched (h3 none)) (h3 _))
  clear_value s4
  exact State.lullFollows_only (State.unbalanced_only h4 (hl.sub (by decide +kernel))) (hl.sub (by decide +kernel))
theorem State.tearDue_only {s0 s : State} (h_s : s0.Only l s) (hl : Has l [.num 1, .num 3, .num 4, .num 5, .num 8, .num 10,
    .num 11, .reg, .faults, .wall, .mortar, .tables, .sel, .csa, .hbm, .egs, .sched, .host, .shore, .power, .out, .device,
    .run, .mem, .slots]) : s0.Only l (State.tearDue s) := by
  unfold State.tearDue
  repeat' first
      | (with_reducible first | assumption | apply State.settle_only | apply State.tearEnd_only | apply State.Only.ite)
      | exact Has.sub ‹_› (by decide +kernel) | split
theorem State.tearNow_only {s0 s : State} {r : Run} (h_s : s0.Only l s) (hl : Has l [.num 1, .num 3, .num 4, .num 5, .num 10,
    .num 11, .num 13, .reg, .faults, .wall, .mortar, .sel, .csa, .hbm, .egs, .sched, .host, .shore, .power, .device, .run,
    .mem, .slots]) : s0.Only l (State.tearNow s r) := by
  unfold State.tearNow
  repeat' first
      | (with_reducible first | assumption | apply State.tearDown_only | apply State.tearEnd_only)
      | exact Has.sub ‹_› (by decide +kernel) | (dsimp only) | split
theorem State.takeReport_only {s0 s : State} {r : Run} {f : FaultReport} (h_s : s0.Only l s) (hl : Has l [.num 1, .num 3, .num
    4, .num 5, .num 9, .num 11, .num 13, .reg, .faults, .wall, .sel, .csa, .hbm, .egs, .coast, .sched, .shore, .out, .mem]) :
    s0.Only l (State.takeReport s r f) := by
  unfold State.takeReport
  repeat' first
      | (with_reducible first
          | assumption | apply State.inc32_only | apply State.log_only | apply State.sendTeardown_only
          | apply State.tearDown_only | apply State.Only.ite | exact State.Only.yes rfl)
      | exact Has.sub ‹_› (by decide +kernel) | exact Has.bit ‹_› (by decide +kernel) | (dsimp only) | split
      | fail_if_no_progress (with_reducible apply State.Only.upd_faults)
theorem State.takeHeld_only {s0 s : State} {j : Job} {f : FaultReport} (h_s : s0.Only l s) (hl : Has l [.num 3, .num 10, .num
    11, .reg, .faults, .sched, .power]) : s0.Only l (State.takeHeld s j f) := by
  unfold State.takeHeld
  extract_lets s1 w w2 s2 s3
  have h1 : s0.Only l s1 := State.inc32_only (State.log_only h_s (hl.sub (by decide +kernel)))
        (by first | exact hl.bit (by decide +kernel) | exact State.Only.fam hl (by decide) (by decide) (by decide +kernel) | exact State.Only.fam1 hl (by decide) (by decide +kernel))
  clear_value s1
  have h2 : s0.Only l s2 := State.setSched_only (State.Only.upd h1 (fun _ _ _ _ => rfl) (State.Only.yes rfl) (State.Only.yes
      rfl) (State.Only.yes rfl) (State.Only.yes rfl) (State.Only.yes rfl) (State.Only.no (Has.bit ‹_› (by decide +kernel)))
      (State.Only.yes rfl) (State.Only.yes rfl) (State.Only.yes rfl) (State.Only.yes rfl) (State.Only.yes rfl) (State.Only.yes
      rfl) (State.Only.yes rfl) (State.Only.yes rfl) (State.Only.no (Has.bit ‹_› (by decide +kernel))) (State.Only.yes rfl)
      (State.Only.yes rfl) (State.Only.yes rfl) (State.Only.yes rfl) (State.Only.yes rfl) (State.Only.yes rfl) (State.Only.yes
      rfl) (State.Only.yes rfl) (State.Only.yes rfl) (State.Only.yes rfl) (State.Only.yes rfl) id rfl (List.prefix_refl _))
      (hl.sub (by decide +kernel))
  clear_value s2
  have h3 : s0.Only l s3 := State.Only.ite (State.addEntry_only (State.dropJob_only h2 (hl.sub (by decide +kernel))) (hl.sub
      (by decide +kernel)))
    (State.haltClient_only (State.addEntry_only (State.dropJob_only h2 (hl.sub (by decide +kernel))) (hl.sub
        (by decide +kernel))) (hl.sub (by decide +kernel)))
  clear_value s3
  exact State.lullFollows_only (State.promote_only (State.selectionEvent_only h3 (hl.sub (by decide +kernel))) (hl.sub
      (by decide +kernel))) (hl.sub (by decide +kernel))
theorem State.deviceStop_only {s0 s : State} {code source d0 d1 : Nat} (h_s : s0.Only l s) (hl : Has l [.num 1, .num 3, .num 4,
    .num 5, .num 9, .num 11, .num 13, .reg, .faults, .wall, .sel, .csa, .hbm, .egs, .coast, .sched, .host, .shore, .out,
    .device, .mem]) : s0.Only l (State.deviceStop s code source d0 d1) := by
  unfold State.deviceStop
  repeat' first
      | (with_reducible first
          | assumption | apply State.sendTeardown_only | apply State.deviceFault_only | apply State.tearStart_only
          | apply State.Only.ite)
      | exact Has.sub ‹_› (by decide +kernel) | (dsimp only) | split
theorem State.takeReports_only {s0 s : State} {l_ : List FaultReport} (h_s : s0.Only l s) (hl : Has l [.num 1, .num 3, .num 4,
    .num 5, .num 9, .num 10, .num 11, .num 13, .reg, .faults, .wall, .sel, .csa, .hbm, .egs, .coast, .sched, .host, .shore,
    .power, .out, .device, .mem]) : s0.Only l (State.takeReports s l_) := by
  unfold State.takeReports
  repeat' first
      | (with_reducible first
          | assumption | apply State.inc64_only | apply State.takeReport_only | apply State.takeHeld_only
          | apply State.deviceStop_only | apply State.Only.ite)
      | exact Has.sub ‹_› (by decide +kernel) | exact Has.bit ‹_› (by decide +kernel)
      | exact State.Only.no (Has.bit ‹_› (by decide +kernel)) | (dsimp only) | split
      | fail_if_no_progress (with_reducible apply State.Only.upd_faults)
theorem State.ringWrite_only {s0 s : State} {r : LogRec} (h_s : s0.Only l s) (hl : Has l [.num 1, .num 3, .num 4, .num 5, .num
    6, .num 9, .num 10, .num 11, .reg, .faults, .mortar, .hbm, .egs, .coast, .sched, .shore, .power, .out, .mem]) : s0.Only l
    (State.ringWrite s r) := by
  unfold State.ringWrite
  repeat' first
      | (with_reducible first
          | assumption | apply State.setNum_only | apply State.inc64_only | apply State.setSticky_only | apply State.Only.ite
          | exact State.Only.yes rfl)
      | exact Has.bit ‹_› (by decide +kernel) | (dsimp only) | fail_if_no_progress (with_reducible apply State.Only.upd_faults)
theorem State.spillWrite_only {s0 s : State} {r : LogRec} {n : Nat} (h_s : s0.Only l s) (hl : Has l [.num 1, .num 5, .num 11,
    .faults, .hbm, .shore, .mem]) : s0.Only l (State.spillWrite s r n) := by
  unfold State.spillWrite
  repeat' first
      | (with_reducible first
          | assumption | apply State.inc32_only | apply State.setSticky_only | apply State.event_only
          | apply State.memWrite_only | apply State.Only.ite | exact State.Only.yes rfl)
      | exact Has.sub ‹_› (by decide +kernel) | exact Has.bit ‹_› (by decide +kernel) | (dsimp only)
      | fail_if_no_progress (with_reducible apply State.Only.upd_faults)

end Sys2Proof.Machine
end

