-- ==== Sys2Proof/Laws/OnlyOps.lean ====
section
/-!
SUPPORT. What each operation may change, one lemma each, in the order of the model:
mortar, bricks, selection units, the content search array, the engines and the tick.
`F_only` takes a state that comes from `s0` by changes that `l` allows and says the same of the state that F gives, where `l`
allows the parts listed.
-/

namespace Sys2Proof.Machine

set_option Elab.async false
set_option linter.unusedTactic false
set_option linter.unreachableTactic false

variable {l : Part → Bool}

/-! ### Mortar -/

theorem State.inject_only {s0 s : State} {m : Msg} (h_s : s0.Only l s) (hl : Has l [.num 4, .mortar]) : s0.Only l (State.inject
    s m) := by
  unfold State.inject
  repeat' first
      | (with_reducible first | assumption | apply State.inc64_only) | exact Has.bit ‹_› (by decide +kernel)
      | (unfold flitObj; split <;> exact hl.bit (by decide +kernel)) | (dsimp only)
      | fail_if_no_progress (with_reducible apply State.Only.upd_mortar)
theorem State.send_only {s0 s : State} {cls : MsgClass} {src dst : Node} {tag : Nat} {body : MsgBody} (h_s : s0.Only l s) (hl :
    Has l [.num 4, .mortar]) : s0.Only l (State.send s cls src dst tag body) := by
  unfold State.send
  repeat' (with_reducible first | assumption | apply State.inject_only)
theorem State.ejected_only {s0 s : State} {m : Msg} (h_s : s0.Only l s) (hl : Has l [.mortar]) : s0.Only l (State.ejected s m)
    := by
  unfold State.ejected
  repeat' first
      | with_reducible assumption | exact Has.bit ‹_› (by decide +kernel) | (dsimp only)
      | fail_if_no_progress (with_reducible apply State.Only.upd_mortar)
theorem State.mortarError_only {s0 s : State} {r : Nat × Nat} {sticky : Nat} (h_s : s0.Only l s) (hl : Has l [.num 4]) :
    s0.Only l (State.mortarError s r sticky) := by
  unfold State.mortarError
  repeat' first
      | (with_reducible first | assumption | apply State.setNum_only | apply State.setSticky_only)
      | exact Has.bit ‹_› (by decide +kernel)
theorem State.headerFault_only {s0 s : State} {r : Nat × Nat} (h_s : s0.Only l s) (hl : Has l [.num 1, .num 3, .num 4, .num 5,
    .num 9, .num 11, .num 13, .reg, .faults, .wall, .mortar, .sel, .csa, .hbm, .egs, .coast, .sched, .host, .shore, .out,
    .device, .mem]) : s0.Only l (State.headerFault s r) := by
  unfold State.headerFault
  have h1 : s0.Only l (s.mortarError r 2) := State.mortarError_only h_s (hl.sub (by decide +kernel))
  dsimp only
  generalize s.mortarError r 2 = t at h1 ⊢
  exact State.deviceStop_only (State.Only.upd_mortar h1) (hl.sub (by decide +kernel))
theorem State.landed_only {s0 s : State} {m : Msg} {k : State → Bool → State} (h_s : s0.Only l s) (h_k : ∀ t y, s0.Only l t →
    s0.Only l (k t y)) (hl : Has l [.num 1, .num 3, .num 4, .num 5, .num 9, .num 11, .num 13, .reg, .faults, .wall, .mortar,
    .sel, .csa, .hbm, .egs, .coast, .sched, .host, .shore, .out, .device, .mem]) : s0.Only l (State.landed s m k) := by
  unfold State.landed
  extract_lets last s1 s2
  have h1 : s0.Only l s1 := State.Only.ite h_s (State.inc32_only h_s
        (by first | exact hl.bit (by decide +kernel) | exact State.Only.fam hl (by decide) (by decide) (by decide +kernel) | exact State.Only.fam1 hl (by decide) (by decide +kernel)))
  clear_value s1
  split
  · exact State.headerFault_only h1 (hl.sub (by decide +kernel))
  · have h2 : s0.Only l s2 := State.Only.ite h1 (State.setSticky_only (State.inc32_only h1
        (by first | exact hl.bit (by decide +kernel) | exact State.Only.fam hl (by decide) (by decide) (by decide +kernel) | exact State.Only.fam1 hl (by decide) (by decide +kernel)))
        (by first | exact hl.bit (by decide +kernel) | exact State.Only.fam hl (by decide) (by decide) (by decide +kernel) | exact State.Only.fam1 hl (by decide) (by decide +kernel)))
    clear_value s2
    exact State.Only.ite (State.headerFault_only h1 (hl.sub (by decide +kernel))) (State.Only.ite (h_k _ _ (State.mortarError_only (State.inc32_only h2
          (by first | exact hl.bit (by decide +kernel) | exact State.Only.fam hl (by decide) (by decide) (by decide +kernel) | exact State.Only.fam1 hl (by decide) (by decide +kernel))) (hl.sub (by decide +kernel))))
      (h_k _ _ h2))
theorem State.arrive_only {s0 s : State} {m : Msg} {k : State → Bool → State} (h_s : s0.Only l s) (h_k : ∀ t y, s0.Only l t →
    s0.Only l (k t y)) (hl : Has l [.num 1, .num 3, .num 4, .num 5, .num 9, .num 11, .num 13, .reg, .faults, .wall, .mortar,
    .sel, .csa, .hbm, .egs, .coast, .sched, .host, .shore, .out, .device, .mem]) : s0.Only l (State.arrive s m k) := by
  unfold State.arrive
  exact State.Only.ite h_s (State.landed_only (State.ejected_only h_s (hl.sub (by decide +kernel))) h_k (hl.sub
      (by decide +kernel)))
theorem State.sramUe_only {s0 s : State} {w : Nat} (h_s : s0.Only l s) (hl : Has l [.num 1, .num 4, .num 11, .faults, .wall,
    .shore]) : s0.Only l (State.sramUe s w) := by
  unfold State.sramUe
  repeat' first
      | (with_reducible first
          | assumption | apply State.setNum_only | apply State.inc32_only | apply State.setSticky_only
          | apply State.retirePending_only | apply State.Only.ite | exact State.Only.yes rfl)
      | exact Has.sub ‹_› (by decide +kernel) | exact Has.bit ‹_› (by decide +kernel) | (dsimp only)
      | fail_if_no_progress (with_reducible apply State.Only.upd_wall)
theorem State.sramCe_only {s0 s : State} {w : Nat} (h_s : s0.Only l s) (hl : Has l [.num 4, .wall]) : s0.Only l (State.sramCe s
    w) := by
  induction w generalizing s with
  | zero => unfold State.sramCe; (try dsimp only); repeat' first
      | (with_reducible first
          | assumption | apply ih | apply State.inc32_only | apply State.setSticky_only | apply State.Only.ite
          | apply State.Only.foldl | apply State.Only.foldl2 | apply State.Only.foldl3 | apply State.Only.foldl1
          | exact State.Only.yes rfl)
      | exact Has.sub ‹_› (by decide +kernel) | exact Has.bit ‹_› (by decide +kernel)
      | exact State.Only.fam ‹_› (by decide) (by decide) (by decide +kernel)
      | exact State.Only.fam1 ‹_› (by decide) (by decide +kernel) | intro _ _ _ _; rfl
      | exact State.Only.no (Has.bit ‹_› (by decide +kernel)) | intro _ | (dsimp only) | split
      | fail_if_no_progress (with_reducible apply State.Only.upd_wall)
      | fail_if_no_progress (with_reducible apply State.Only.upd) | exact List.prefix_refl _ | exact List.prefix_append _ _
      | exact id | rfl
  | succ n ih => unfold State.sramCe; (try dsimp only); repeat' first
      | (with_reducible first
          | assumption | apply ih | apply State.inc32_only | apply State.setSticky_only | apply State.Only.ite
          | apply State.Only.foldl | apply State.Only.foldl2 | apply State.Only.foldl3 | apply State.Only.foldl1
          | exact State.Only.yes rfl)
      | exact Has.sub ‹_› (by decide +kernel) | exact Has.bit ‹_› (by decide +kernel)
      | exact State.Only.fam ‹_› (by decide) (by decide) (by decide +kernel)
      | exact State.Only.fam1 ‹_› (by decide) (by decide +kernel) | intro _ _ _ _; rfl
      | exact State.Only.no (Has.bit ‹_› (by decide +kernel)) | intro _ | (dsimp only) | split
      | fail_if_no_progress (with_reducible apply State.Only.upd_wall)
      | fail_if_no_progress (with_reducible apply State.Only.upd) | exact List.prefix_refl _ | exact List.prefix_append _ _
      | exact id | rfl
theorem State.sramTouch_only {s0 s : State} {ws : List Nat} (h_s : s0.Only l s) (hl : Has l [.num 1, .num 4, .num 11, .faults,
    .wall, .shore]) : s0.Only l (State.sramTouch s ws).2 := by
  unfold State.sramTouch
  repeat' first
      | (with_reducible first | assumption | apply State.sramUe_only | apply State.sramCe_only | apply State.Only.foldl)
      | exact Has.sub ‹_› (by decide +kernel) | intro _
theorem State.sramRead_only {s0 s : State} {brick off n : Nat} (h_s : s0.Only l s) (hl : Has l [.num 1, .num 4, .num 11,
    .faults, .wall, .shore]) : s0.Only l (State.sramRead s brick off n).2.2 := by
  unfold State.sramRead
  repeat' (with_reducible first | assumption | apply State.sramTouch_only)
theorem State.sramWrite_only {s0 s : State} {brick off : Nat} {l_ : List Byte} (h_s : s0.Only l s) (hl : Has l [.num 1, .num 4,
    .num 11, .faults, .wall, .shore, .sram]) : s0.Only l (State.sramWrite s brick off l_).2 := by
  unfold State.sramWrite
  repeat' first
      | (with_reducible first | assumption | apply State.sramTouch_only | exact State.Only.yes rfl)
      | exact Has.sub ‹_› (by decide +kernel) | exact Has.bit ‹_› (by decide +kernel)
      | exact State.Only.no (Has.bit ‹_› (by decide +kernel)) | (dsimp only) | split
      | fail_if_no_progress (with_reducible apply State.Only.upd_wall)
theorem State.siteFault_only {s0 s : State} {code source brick slot d0 d1 : Nat} (h_s : s0.Only l s) (hl : Has l [.faults]) :
    s0.Only l (State.siteFault s code source brick slot d0 d1) := by
  unfold State.siteFault
  repeat' (with_reducible first | assumption | apply State.report_only)

/-! ### Brick -/

theorem State.setSlot_only {s0 s : State} {k : Nat} {x : Slot} (h_s : s0.Only l s) (hl : Has l [.wall, .slots]) : s0.Only l
    (State.setSlot s k x) := by
  unfold State.setSlot
  repeat' first
      | (with_reducible first | assumption | exact State.Only.yes rfl) | exact Has.bit ‹_› (by decide +kernel)
      | exact State.Only.no (Has.bit ‹_› (by decide +kernel)) | (dsimp only)
      | fail_if_no_progress (with_reducible apply State.Only.upd_wall)
theorem State.setHandle_only {s0 s : State} {k : Nat} {x : Handle} (h_s : s0.Only l s) (hl : Has l [.wall]) : s0.Only l
    (State.setHandle s k x) := by
  unfold State.setHandle
  repeat' first
      | (with_reducible first | assumption | exact State.Only.yes rfl) | exact Has.bit ‹_› (by decide +kernel) | (dsimp only)
      | fail_if_no_progress (with_reducible apply State.Only.upd_wall)
theorem State.setBrick_only {s0 s : State} {b : Nat} {x : Brick} (h_s : s0.Only l s) (hl : Has l [.wall]) : s0.Only l
    (State.setBrick s b x) := by
  unfold State.setBrick
  repeat' first
      | (with_reducible first | assumption | exact State.Only.yes rfl) | exact Has.bit ‹_› (by decide +kernel) | (dsimp only)
      | fail_if_no_progress (with_reducible apply State.Only.upd_wall)
theorem State.setFiring_only {s0 s : State} {b : Nat} {f : Firing} (h_s : s0.Only l s) (hl : Has l [.wall]) : s0.Only l
    (State.setFiring s b f) := by
  unfold State.setFiring
  repeat' (with_reducible first | assumption | apply State.setBrick_only)
theorem State.configTouch_only {s0 s : State} {brick slot : Nat} (h_s : s0.Only l s) (hl : Has l [.num 4, .wall]) : s0.Only l
    (State.configTouch s brick slot).2 := by
  unfold State.configTouch
  repeat' (with_reducible first | assumption | apply State.bankRead_only)
theorem State.streamDesc_only {s0 s : State} {brick off : Nat} (h_s : s0.Only l s) (hl : Has l [.num 1, .num 4, .num 11,
    .faults, .wall, .shore]) : s0.Only l (State.streamDesc s brick off).2 := by
  unfold State.streamDesc
  repeat' first | (with_reducible first | assumption | apply State.sramRead_only) | (dsimp only) | split
theorem State.failFiring_only {s0 s : State} {brick : Nat} {f : Firing} {code d0 d1 : Nat} (h_s : s0.Only l s) (hl : Has l
    [.faults, .wall]) : s0.Only l (State.failFiring s brick f code d0 d1) := by
  unfold State.failFiring
  repeat' first
      | (with_reducible first | assumption | apply State.siteFault_only | apply State.setFiring_only)
      | exact Has.sub ‹_› (by decide +kernel)
theorem State.askFor_only {s0 s : State} {brick : Nat} {g : Segment} {tag : Nat} (h_s : s0.Only l s) (hl : Has l [.num 4,
    .mortar]) : s0.Only l (State.askFor s brick g tag) := by
  unfold State.askFor
  repeat' (with_reducible first | assumption | apply State.send_only)
theorem State.pumpGo_only {s0 : State} {brick : Nat} {posted : List Nat} {x0 : State} {x1 : List Segment} {x2 : List Nat} {x3 :
    List Segment} (h_x0 : s0.Only l x0) (hl : Has l [.num 4, .num 9, .mortar, .coast, .out]) : s0.Only l (State.pumpGo brick
    posted x0 x1 x2 x3).1 := by
  induction x3 generalizing x0 x1 x2 with
  | nil => exact h_x0
  | cons g r ih =>
    unfold State.pumpGo
    split
    · exact ih h_x0
    · dsimp only
      split
      · exact ih (State.askFor_only h_x0 (hl.sub (by decide +kernel)))
      · exact ih h_x0
theorem State.pump_only {s0 s : State} {brick : Nat} (h_s : s0.Only l s) (hl : Has l [.num 4, .num 9, .wall, .mortar, .coast,
    .out]) : s0.Only l (State.pump s brick) := by
  unfold State.pump
  repeat' first
      | (with_reducible first | assumption | apply State.setFiring_only | apply State.pumpGo_only)
      | exact Has.sub ‹_› (by decide +kernel) | (dsimp only) | split
theorem State.hubSend_only {s0 s : State} {brick : Nat} {f : Firing} {target off : Nat} (h_s : s0.Only l s) (hl : Has l [.num
    1, .num 4, .num 11, .faults, .wall, .sel, .csa, .egs, .shore, .out]) : s0.Only l (State.hubSend s brick f target off) := by
  unfold State.hubSend
  repeat' first
      | (with_reducible first
          | assumption | apply State.inc64_only | apply State.sramRead_only | apply State.setBrick_only
          | apply State.setFiring_only | apply State.failFiring_only | apply State.Only.ite)
      | exact Has.sub ‹_› (by decide +kernel) | exact Has.bit ‹_› (by decide +kernel) | (dsimp only) | split
      | fail_if_no_progress (with_reducible apply State.Only.upd_sel)
      | fail_if_no_progress (with_reducible apply State.Only.upd_csa)
      | fail_if_no_progress (with_reducible apply State.Only.upd_egs)
theorem State.writeOut_only {s0 s : State} {brick : Nat} {f : Firing} {d : StreamDesc} {l_ : List (Nat × List Byte)} {bad :
    Option (Nat × Nat × Nat)} (h_s : s0.Only l s) (hl : Has l [.num 1, .num 4, .num 9, .num 11, .faults, .wall, .mortar,
    .coast, .shore, .out, .sram]) : s0.Only l (State.writeOut s brick f d l_ bad) := by
  unfold State.writeOut
  repeat' first
      | (with_reducible first
          | assumption | apply State.sramWrite_only | apply State.siteFault_only | apply State.setFiring_only
          | apply State.failFiring_only | apply State.pump_only | apply State.Only.ite | apply State.Only.foldl2)
      | exact Has.sub ‹_› (by decide +kernel) | intro _ | (dsimp only) | split
theorem State.streamOut_only {s0 s : State} {brick : Nat} {f : Firing} {off : Nat} {p : Pipe} (h_s : s0.Only l s) (hl : Has l
    [.num 1, .num 4, .num 9, .num 11, .faults, .wall, .mortar, .coast, .shore, .out, .sram]) : s0.Only l (State.streamOut s
    brick f off p) := by
  unfold State.streamOut
  repeat' first
      | (with_reducible first
          | assumption | apply State.streamDesc_only | apply State.failFiring_only | apply State.writeOut_only)
      | exact Has.sub ‹_› (by decide +kernel) | (dsimp only) | split
theorem State.sendRemote_only {s0 s : State} {brick : Nat} {f : Firing} {operand : Nat} {p : Pipe} (h_s : s0.Only l s) (hl :
    Has l [.num 1, .num 4, .num 9, .num 11, .faults, .wall, .mortar, .coast, .shore, .out, .sram]) : s0.Only l
    (State.sendRemote s brick f operand p) := by
  unfold State.sendRemote
  repeat' (with_reducible first | assumption | apply State.writeOut_only)
theorem State.bufferOut_only {s0 s : State} {brick : Nat} {f : Firing} {h : Nat} {p : Pipe} (h_s : s0.Only l s) (hl : Has l
    [.num 1, .num 4, .num 11, .faults, .wall, .shore, .sram]) : s0.Only l (State.bufferOut s brick f h p) := by
  unfold State.bufferOut
  repeat' first
      | (with_reducible first
          | assumption | apply State.sramWrite_only | apply State.setFiring_only | apply State.failFiring_only
          | apply State.Only.ite)
      | exact Has.sub ‹_› (by decide +kernel) | (dsimp only) | split
theorem State.inputBuffer_only {s0 s : State} {brick : Nat} {r : InReg} (h_s : s0.Only l s) (hl : Has l [.num 1, .num 4, .num
    11, .faults, .wall, .shore]) : s0.Only l (State.inputBuffer s brick r).2 := by
  unfold State.inputBuffer
  repeat' first | (with_reducible first | assumption | apply State.sramRead_only) | (dsimp only) | split
theorem State.weightFault_only {s0 s : State} {brick : Nat} {e : OpEntry} {t : List Nat} (h_s : s0.Only l s) (hl : Has l [.num
    1, .num 4, .num 11, .faults, .wall, .shore]) : s0.Only l (State.weightFault s brick e t).2 := by
  unfold State.weightFault
  repeat' first
      | (with_reducible first | assumption | apply State.sramRead_only | apply State.Only.foldl3) | intro _ | (dsimp only)
      | split
theorem State.pipeEvents_only {s0 s : State} {brick h : Nat} {p : Pipe} (h_s : s0.Only l s) (hl : Has l [.num 4, .num 8,
    .wall]) : s0.Only l (State.pipeEvents s brick h p).2 := by
  unfold State.pipeEvents
  repeat' first
      | (with_reducible first
          | assumption | apply State.inc64_only | apply State.setSticky_only | apply State.Only.ite | exact State.Only.yes rfl)
      | exact Has.bit ‹_› (by decide +kernel) | (dsimp only) | split
      | fail_if_no_progress (with_reducible apply State.Only.upd_wall)
theorem State.deliver_only {s0 s : State} {brick : Nat} {f : Firing} {e : OpEntry} {last : Nat} {p : Pipe} (h_s : s0.Only l s)
    (hl : Has l [.num 1, .num 4, .num 9, .num 11, .faults, .wall, .mortar, .sel, .csa, .egs, .coast, .shore, .out, .sram]) :
    s0.Only l (State.deliver s brick f e last p) := by
  unfold State.deliver
  repeat' first
      | (with_reducible first
          | assumption | apply State.setFiring_only | apply State.hubSend_only | apply State.streamOut_only
          | apply State.sendRemote_only | apply State.bufferOut_only | apply State.Only.ite)
      | exact Has.sub ‹_› (by decide +kernel) | split
theorem State.computeFiring_only {s0 s : State} {brick : Nat} {f : Firing} (h_s : s0.Only l s) (hl : Has l [.num 1, .num 4,
    .num 8, .num 9, .num 11, .faults, .wall, .mortar, .tables, .sel, .csa, .egs, .coast, .shore, .out, .sram]) : s0.Only l
    (State.computeFiring s brick f) := by
  unfold State.computeFiring
  repeat' first
      | (with_reducible first
          | assumption | apply State.tabReads_only | apply State.failFiring_only | apply State.inputBuffer_only
          | apply State.weightFault_only | apply State.pipeEvents_only | apply State.deliver_only | apply State.Only.ite)
      | exact Has.sub ‹_› (by decide +kernel) | (dsimp only) | split
theorem State.advance_only {s0 s : State} {brick : Nat} (h_s : s0.Only l s) (hl : Has l [.num 1, .num 4, .num 8, .num 9, .num
    11, .faults, .wall, .mortar, .tables, .sel, .csa, .egs, .coast, .shore, .out, .sram]) : s0.Only l (State.advance s brick)
    := by
  unfold State.advance
  repeat' first
      | (with_reducible first
          | assumption | apply State.setFiring_only | apply State.pump_only | apply State.hubSend_only
          | apply State.computeFiring_only | apply State.Only.ite)
      | exact Has.sub ‹_› (by decide +kernel) | (dsimp only) | split
theorem State.openStream_only {s0 s : State} {brick k off : Nat} (h_s : s0.Only l s) (hl : Has l [.num 1, .num 4, .num 11,
    .faults, .wall, .shore]) : s0.Only l (State.openStream s brick k off).2 := by
  unfold State.openStream
  repeat' first
      | (with_reducible first | assumption | apply State.sramRead_only | apply State.streamDesc_only | apply State.Only.foldl3)
      | intro _ | (dsimp only) | split
theorem State.dispatchFault_only {s0 s : State} {brick : Nat} {e : OpEntry} {t : List Nat} (h_s : s0.Only l s) (hl : Has l
    [.num 1, .num 4, .num 8, .num 11, .faults, .wall, .tables, .shore]) : s0.Only l (State.dispatchFault s brick e t).2 := by
  unfold State.dispatchFault
  repeat' first
      | (with_reducible first | assumption | apply State.tabReads_only | apply State.streamDesc_only)
      | exact Has.sub ‹_› (by decide +kernel) | (dsimp only) | split
theorem State.startFiring_only {s0 s : State} {brick : Nat} {f : Firing} (h_s : s0.Only l s) (hl : Has l [.num 1, .num 4, .num
    8, .num 9, .num 11, .faults, .wall, .mortar, .tables, .sel, .csa, .egs, .coast, .shore, .out, .sram]) : s0.Only l
    (State.startFiring s brick f) := by
  unfold State.startFiring
  repeat' first
      | (with_reducible first
          | assumption | apply State.setFiring_only | apply State.failFiring_only | apply State.advance_only
          | apply State.openStream_only | apply State.dispatchFault_only | apply State.Only.foldl2)
      | exact Has.sub ‹_› (by decide +kernel) | intro _ | (dsimp only) | split
theorem State.postAnswered_only {s0 s : State} {brick tag code : Nat} (h_s : s0.Only l s) (hl : Has l [.num 4, .num 9, .faults,
    .wall, .mortar, .coast, .out]) : s0.Only l (State.postAnswered s brick tag code) := by
  unfold State.postAnswered
  repeat' first
      | (with_reducible first
          | assumption | apply State.siteFault_only | apply State.setBrick_only | apply State.pump_only | apply State.Only.ite)
      | exact Has.sub ‹_› (by decide +kernel) | (dsimp only) | split
theorem State.answered_only {s0 s : State} {brick tag : Nat} {data : List Byte} {code : Nat} {hbm : Bool} (h_s : s0.Only l s)
    (hl : Has l [.num 1, .num 4, .num 8, .num 9, .num 11, .faults, .wall, .mortar, .tables, .sel, .csa, .egs, .coast, .shore,
    .out, .sram]) : s0.Only l (State.answered s brick tag data code hbm) := by
  unfold State.answered
  repeat' first
      | (with_reducible first
          | assumption | apply State.setFiring_only | apply State.failFiring_only | apply State.advance_only
          | apply State.postAnswered_only | apply State.Only.ite)
      | exact Has.sub ‹_› (by decide +kernel) | (dsimp only) | split
theorem State.sendToken_only {s0 s : State} {src dst slot handleIn handle fill due : Nat} (h_s : s0.Only l s) (hl : Has l [.num
    4, .mortar]) : s0.Only l (State.sendToken s src dst slot handleIn handle fill due) := by
  unfold State.sendToken
  repeat' first
      | (with_reducible first | assumption | apply State.inject_only | apply State.Only.ite)
      | exact Has.bit ‹_› (by decide +kernel) | (dsimp only) | split
      | fail_if_no_progress (with_reducible apply State.Only.upd_mortar)
theorem State.sendTokens_only {s0 s : State} {brick : Nat} {e : OpEntry} {handle fill due : Nat} (h_s : s0.Only l s) (hl : Has
    l [.num 4, .mortar]) : s0.Only l (State.sendTokens s brick e handle fill due) := by
  unfold State.sendTokens
  repeat' first | (with_reducible first | assumption | apply State.sendToken_only | apply State.Only.foldl) | intro _
theorem State.doneAt_only {s0 s : State} {brick tag code source : Nat} (h_s : s0.Only l s) (hl : Has l [.num 1, .num 4, .num 8,
    .num 9, .num 11, .faults, .wall, .mortar, .tables, .sel, .csa, .egs, .coast, .shore, .out, .sram]) : s0.Only l
    (State.doneAt s brick tag code source) := by
  unfold State.doneAt
  repeat' first
      | (with_reducible first
          | assumption | apply State.siteFault_only | apply State.setBrick_only | apply State.setFiring_only
          | apply State.advance_only | apply State.sendToken_only | apply State.Only.ite)
      | exact Has.sub ‹_› (by decide +kernel) | (dsimp only) | split

/-! ### EgsCore -/

theorem State.tableRead_only {s0 s : State} {a n : Nat} (h_s : s0.Only l s) (hl : Has l [.num 1, .num 5, .num 11, .faults,
    .hbm, .shore]) : s0.Only l (State.tableRead s a n).2.2 := by
  unfold State.tableRead
  try dsimp only
  repeat' first
      | (with_reducible first
          | assumption | apply State.memRead_only | apply State.Only.ite | apply State.Only.foldl | apply State.Only.foldl2
          | apply State.Only.foldl3 | apply State.Only.foldl1 | exact State.Only.yes rfl)
      | exact Has.sub ‹_› (by decide +kernel) | exact Has.bit ‹_› (by decide +kernel)
      | exact State.Only.fam ‹_› (by decide) (by decide) (by decide +kernel)
      | exact State.Only.fam1 ‹_› (by decide) (by decide +kernel) | intro _ _ _ _; rfl
      | exact State.Only.no (Has.bit ‹_› (by decide +kernel)) | intro _ | (dsimp only) | split
      | fail_if_no_progress (with_reducible apply State.Only.upd) | exact List.prefix_refl _ | exact List.prefix_append _ _
      | exact id | rfl
theorem State.thenRead_only {s0 s : State} {α : Type} {a n : Nat} {bad : Nat → State → α × State} {good : List Byte → State → α
    × State}
    (h_s : s0.Only l s) (hb : ∀ c t, s0.Only l t → s0.Only l (bad c t).2) (hg : ∀ xs t, s0.Only l t → s0.Only l (good xs t).2)
    (hl : Has l [.num 1, .num 5, .num 11, .faults, .hbm, .shore]) : s0.Only l (s.thenRead a n bad good).2 :=
  State.Only.ite2 (hb _ _ (State.tableRead_only h_s hl)) (hg _ _ (State.tableRead_only h_s hl))
theorem State.thenRead22_only {s0 s : State} {α β : Type} {a n : Nat} {bad : Nat → State → α × β × State}
    {good : List Byte → State → α × β × State} (h_s : s0.Only l s) (hb : ∀ c t, s0.Only l t → s0.Only l (bad c t).2.2)
    (hg : ∀ xs t, s0.Only l t → s0.Only l (good xs t).2.2) (hl : Has l [.num 1, .num 5, .num 11, .faults, .hbm, .shore]) :
        s0.Only l (s.thenRead a n bad good).2.2 :=
  State.Only.ite22 (hb _ _ (State.tableRead_only h_s hl)) (hg _ _ (State.tableRead_only h_s hl))
theorem State.commandRead_only {s0 s : State} {c : EgsCmd} {a n : Nat} (h_s : s0.Only l s) (hl : Has l [.num 1, .num 5, .num
    11, .faults, .hbm, .shore]) : s0.Only l (State.commandRead s c a n).2.2.2 := by
  unfold State.commandRead
  repeat' first | (with_reducible first | assumption | apply State.tableRead_only) | (dsimp only) | split
theorem State.heatReport_only {s0 s : State} {g table row tier est : Nat} (h_s : s0.Only l s) (hl : Has l [.num 1, .num 5, .num
    6, .num 11, .faults, .hbm, .egs, .host, .shore, .mem]) : s0.Only l (State.heatReport s g table row tier est) := by
  unfold State.heatReport
  repeat' first
      | (with_reducible first
          | assumption | apply State.inc32_only | apply State.inc64_only | apply State.setSticky_only
          | apply State.raiseGlobal_only | apply State.engineWrite_only | apply State.Only.ite)
      | exact Has.sub ‹_› (by decide +kernel) | exact Has.bit ‹_› (by decide +kernel) | (dsimp only)
      | fail_if_no_progress (with_reducible apply State.Only.upd_egs)
theorem State.heatCount_only {s0 s : State} {table row tier slotAddr : Nat} (h_s : s0.Only l s) (hl : Has l [.num 1, .num 5,
    .num 6, .num 11, .faults, .hbm, .egs, .host, .shore, .mem]) : s0.Only l (State.heatCount s table row tier slotAddr) := by
  unfold State.heatCount
  repeat' first
      | (with_reducible first | assumption | apply State.heatReport_only | apply State.Only.ite | apply State.Only.foldl)
      | exact Has.bit ‹_› (by decide +kernel) | intro _ | (dsimp only)
      | fail_if_no_progress (with_reducible apply State.Only.upd_egs)
theorem State.setEgsWork_only {s0 s : State} {e : Nat} {c : EgsCmd} (h_s : s0.Only l s) (hl : Has l [.egs]) : s0.Only l
    (State.setEgsWork s e c) := by
  unfold State.setEgsWork
  repeat' first
      | with_reducible assumption | exact Has.bit ‹_› (by decide +kernel) | (dsimp only)
      | fail_if_no_progress (with_reducible apply State.Only.upd_egs)
theorem State.egsEnd_only {s0 s : State} {e : Nat} {c : EgsCmd} {code : Nat} (h_s : s0.Only l s) (hl : Has l [.num 1, .num 4,
    .num 5, .num 6, .num 11, .faults, .mortar, .hbm, .egs, .shore, .mem]) : s0.Only l (State.egsEnd s e c code) := by
  unfold State.egsEnd
  repeat' first
      | (with_reducible first
          | assumption | apply State.setNum_only | apply State.inc32_only | apply State.inc64_only | apply State.setSticky_only
          | apply State.dropFlip_only | apply State.send_only | apply State.Only.ite | apply State.Only.foldl)
      | exact Has.sub ‹_› (by decide +kernel) | exact Has.bit ‹_› (by decide +kernel) | intro _ | (dsimp only)
      | fail_if_no_progress (with_reducible apply State.Only.upd_egs)
theorem State.headerMismatch_only {s0 s : State} {table row slotAddr : Nat} (h_s : s0.Only l s) (hl : Has l [.num 6, .num 11,
    .faults]) : s0.Only l (State.headerMismatch s table row slotAddr) := by
  unfold State.headerMismatch
  repeat' first
      | (with_reducible first | assumption | apply State.inc32_only | apply State.setSticky_only | apply State.event_only)
      | exact Has.sub ‹_› (by decide +kernel) | exact Has.bit ‹_› (by decide +kernel)
theorem State.listIssue_only {s0 s : State} {e : Nat} {c : EgsCmd} (h_s : s0.Only l s) (hl : Has l [.num 4, .mortar, .egs]) :
    s0.Only l (State.listIssue s e c) := by
  unfold State.listIssue
  repeat' first
      | (with_reducible first | assumption | apply State.send_only | apply State.setEgsWork_only | apply State.Only.foldl)
      | exact Has.sub ‹_› (by decide +kernel) | intro _
theorem State.egsStart_only {s0 s : State} {e tag : Nat} {c : HubCmd} (h_s : s0.Only l s) (hl : Has l [.num 1, .num 4, .num 5,
    .num 6, .num 11, .faults, .mortar, .hbm, .egs, .shore, .mem]) : s0.Only l (State.egsStart s e tag c) := by
  unfold State.egsStart
  repeat' first
      | (with_reducible first | assumption | apply State.egsEnd_only | apply State.listIssue_only | apply State.Only.ite)
      | exact Has.sub ‹_› (by decide +kernel) | exact Has.bit ‹_› (by decide +kernel) | (dsimp only)
      | fail_if_no_progress (with_reducible apply State.Only.upd_egs)
theorem State.egsTake_only {s0 s : State} {e : Nat} {want : List Byte → Bool} {upset : Upset} (h_s : s0.Only l s) (hl : Has l
    [.num 1, .num 3, .num 4, .num 5, .num 6, .num 9, .num 11, .num 13, .reg, .faults, .wall, .mortar, .sel, .csa, .hbm, .egs,
    .coast, .sched, .host, .shore, .out, .device, .mem]) : s0.Only l (State.egsTake s e want upset) := by
  unfold State.egsTake
  repeat' first
      | (with_reducible first
          | assumption | apply State.live_only | apply State.send_only | apply State.landed_only | apply State.egsStart_only
          | apply State.Only.ite)
      | exact Has.sub ‹_› (by decide +kernel) | exact Has.bit ‹_› (by decide +kernel) | intro _ | (dsimp only) | split
      | fail_if_no_progress (with_reducible apply State.Only.upd_egs)
theorem State.listFailed_only {s0 s : State} {e brick msgTag code : Nat} (h_s : s0.Only l s) (hl : Has l [.num 1, .num 4, .num
    5, .num 6, .num 11, .faults, .mortar, .hbm, .egs, .shore, .mem]) : s0.Only l (State.listFailed s e brick msgTag code) := by
  unfold State.listFailed
  repeat' first | (with_reducible first | assumption | apply State.egsEnd_only) | split

/-! ### Egs -/

theorem State.lookupFinish_only {s0 s : State} {e : Nat} {c : EgsCmd} (h_s : s0.Only l s) (hl : Has l [.num 1, .num 4, .num 5,
    .num 6, .num 11, .faults, .mortar, .hbm, .egs, .shore, .mem]) : s0.Only l (State.lookupFinish s e c) := by
  unfold State.lookupFinish
  repeat' first
      | (with_reducible first | assumption | apply State.send_only | apply State.egsEnd_only | apply State.Only.foldl)
      | exact Has.sub ‹_› (by decide +kernel) | intro _
theorem State.lookupSort_only {s0 s : State} {e : Nat} {c : EgsCmd} (h_s : s0.Only l s) (hl : Has l [.num 1, .num 4, .num 5,
    .num 6, .num 11, .faults, .mortar, .hbm, .egs, .shore, .mem]) : s0.Only l (State.lookupSort s e c) := by
  unfold State.lookupSort
  repeat' first
      | (with_reducible first
          | assumption | apply State.inc64_only | apply State.setEgsWork_only | apply State.egsEnd_only
          | apply State.lookupFinish_only | apply State.Only.ite)
      | exact Has.sub ‹_› (by decide +kernel) | exact Has.bit ‹_› (by decide +kernel)
theorem State.rowServed_only {s0 s : State} {e : Nat} {c : EgsCmd} {r : RowWork} (h_s : s0.Only l s) (hl : Has l [.num 1, .num
    4, .num 5, .num 6, .num 11, .faults, .mortar, .hbm, .egs, .shore, .mem]) : s0.Only l (State.rowServed s e c r) := by
  unfold State.rowServed
  repeat' first
      | (with_reducible first
          | assumption | apply State.inc64_only | apply State.setEgsWork_only | apply State.lookupFinish_only
          | apply State.Only.ite)
      | exact Has.sub ‹_› (by decide +kernel) | exact Has.bit ‹_› (by decide +kernel) | split
theorem State.rowAbsent_only {s0 s : State} {e : Nat} {c : EgsCmd} {r : RowWork} (h_s : s0.Only l s) (hl : Has l [.num 1, .num
    4, .num 5, .num 6, .num 11, .faults, .mortar, .hbm, .egs, .shore, .mem]) : s0.Only l (State.rowAbsent s e c r) := by
  unfold State.rowAbsent
  repeat' (with_reducible first | assumption | apply State.egsEnd_only | apply State.rowServed_only | apply State.Only.ite)
theorem State.askRemote_only {s0 s : State} {e : Nat} {c : EgsCmd} {r : RowWork} {owner : Nat} (h_s : s0.Only l s) (hl : Has l
    [.num 1, .num 4, .num 5, .num 6, .num 9, .num 11, .faults, .mortar, .hbm, .egs, .coast, .shore, .out, .mem]) : s0.Only l
    (State.askRemote s e c r owner) := by
  unfold State.askRemote
  repeat' first
      | (with_reducible first
          | assumption | apply State.post_only | apply State.setEgsWork_only | apply State.egsEnd_only | apply State.Only.ite)
      | exact Has.sub ‹_› (by decide +kernel) | (dsimp only) | split
theorem State.lookupDir_only {s0 s : State} {e : Nat} {c : EgsCmd} {r : RowWork} (h_s : s0.Only l s) (hl : Has l [.num 1, .num
    4, .num 5, .num 6, .num 9, .num 11, .faults, .mortar, .hbm, .egs, .coast, .shore, .out, .mem]) : s0.Only l (State.lookupDir
    s e c r) := by
  unfold State.lookupDir
  extract_lets d table a owner keep p b w t x p2 b2 w2 t2
  have ha : s0.Only l a.2.2.2 := State.commandRead_only h_s (hl.sub (by decide +kernel))
  clear_value a
  have hk : ∀ (w : EgsCmd) (t : State) (x : RowWork) (n : Nat), s0.Only l t → s0.Only l (keep w t x n) :=
    fun w t x n ht => State.setEgsWork_only ht (hl.sub (by decide +kernel))
  clear_value keep
  refine State.Only.ite (State.egsEnd_only ha (hl.sub (by decide +kernel))) (State.Only.ite (State.egsEnd_only ha (hl.sub
      (by decide +kernel))) (State.Only.ite ?_
    (State.Only.ite (State.askRemote_only ha (hl.sub (by decide +kernel))) ?_)))
  · have hb : s0.Only l t := State.commandRead_only ha (hl.sub (by decide +kernel))
    clear_value t
    exact State.Only.ite (State.egsEnd_only hb (hl.sub (by decide +kernel))) (State.Only.ite (State.egsEnd_only hb (hl.sub
        (by decide +kernel))) (State.Only.ite (State.rowAbsent_only hb (hl.sub (by decide +kernel)))
      (State.Only.ite (State.egsEnd_only (State.headerMismatch_only hb (hl.sub (by decide +kernel))) (hl.sub
          (by decide +kernel))) (hk _ _ _ _ hb))))
  · have hb : s0.Only l t2 := State.commandRead_only ha (hl.sub (by decide +kernel))
    clear_value t2
    refine State.Only.ite (State.egsEnd_only hb (hl.sub (by decide +kernel))) ?_
    split
    · exact State.Only.ite (hk _ _ _ _ hb) (State.egsEnd_only hb (hl.sub (by decide +kernel)))
    · exact State.askRemote_only hb (hl.sub (by decide +kernel))
theorem State.lookupSlot_only {s0 s : State} {e : Nat} {c : EgsCmd} {r : RowWork} (h_s : s0.Only l s) (hl : Has l [.num 1, .num
    4, .num 5, .num 6, .num 9, .num 11, .faults, .mortar, .hbm, .egs, .coast, .host, .shore, .out, .mem]) : s0.Only l
    (State.lookupSlot s e c r) := by
  unfold State.lookupSlot
  repeat' first
      | (with_reducible first
          | assumption | apply State.tableRead_only | apply State.heatCount_only | apply State.egsEnd_only
          | apply State.headerMismatch_only | apply State.rowServed_only | apply State.lookupDir_only | apply State.Only.ite)
      | exact Has.sub ‹_› (by decide +kernel)
theorem State.lookupRow_only {s0 s : State} {e : Nat} {c : EgsCmd} {r : RowWork} (h_s : s0.Only l s) (hl : Has l [.num 1, .num
    4, .num 5, .num 6, .num 9, .num 11, .faults, .mortar, .hbm, .egs, .coast, .host, .shore, .out, .mem]) : s0.Only l
    (State.lookupRow s e c r) := by
  unfold State.lookupRow
  repeat' first
      | (with_reducible first | assumption | apply State.lookupDir_only | apply State.lookupSlot_only)
      | exact Has.sub ‹_› (by decide +kernel) | split
theorem State.serveRow_only {s0 s : State} {desc : Option (List Byte)} {table row chip : Nat} (h_s : s0.Only l s) (hl : Has l
    [.num 1, .num 5, .num 6, .num 11, .faults, .hbm, .egs, .host, .shore, .mem]) : s0.Only l (State.serveRow s desc table row
    chip).2.2 := by
  unfold State.serveRow
  have hu : ∀ (t : State), s0.Only l t → s0.Only l (t.event 0x0707 5 (table * 2 ^ 32 + row) chip) :=
    fun _ h => State.event_only h (hl.sub (by decide +kernel))
  have hm : ∀ t : State, s0.Only l t → s0.Only l
      (((t.inc32 Obj.HEADER_MISMATCHES 1).setSticky Obj.EGS_STICKY 1).event 0x0706 5 (table * 2 ^ 32 + row) chip) :=
    fun _ h => State.event_only (State.setSticky_only (State.inc32_only h
          (by first | exact hl.bit (by decide +kernel) | exact State.Only.fam hl (by decide) (by decide) (by decide +kernel) | exact State.Only.fam1 hl (by decide) (by decide +kernel)))
          (by first | exact hl.bit (by decide +kernel) | exact State.Only.fam hl (by decide) (by decide) (by decide +kernel) | exact State.Only.fam1 hl (by decide) (by decide +kernel))) (hl.sub (by decide +kernel))
  refine State.Only.ite22 h_s (State.thenRead22_only h_s (fun _ => hu) (fun la a ha => State.Only.ite22 ha
    (State.thenRead22_only ha (fun _ => hu) (fun lb b hb => State.Only.ite22 hb (State.Only.ite22 hb (State.Only.ite22 (hm b hb)
      (State.thenRead22_only (State.heatCount_only hb (hl.sub (by decide +kernel))) (fun _ => hu) (fun lc c hc =>
          State.Only.ite22 (hm c hc) hc) (hl.sub (by decide +kernel)))))) (hl.sub (by decide +kernel)))) (hl.sub
          (by decide +kernel)))
theorem State.releaseReserved_only {s0 s : State} {e n : Nat} (h_s : s0.Only l s) (hl : Has l [.egs]) : s0.Only l
    (State.releaseReserved s e n) := by
  unfold State.releaseReserved
  repeat' first
      | with_reducible assumption | exact Has.bit ‹_› (by decide +kernel) | (dsimp only)
      | fail_if_no_progress (with_reducible apply State.Only.upd_egs)
theorem State.remoteRow_only {s0 s : State} {e n : Nat} {l_ : List Byte} (h_s : s0.Only l s) (hl : Has l [.num 1, .num 4, .num
    5, .num 6, .num 9, .num 11, .faults, .mortar, .hbm, .egs, .shore, .mem]) : s0.Only l (State.remoteRow s e n l_) := by
  unfold State.remoteRow
  repeat' first
      | (with_reducible first
          | assumption | apply State.inc32_only | apply State.rowServed_only | apply State.releaseReserved_only
          | apply State.Only.ite)
      | exact Has.sub ‹_› (by decide +kernel) | exact Has.bit ‹_› (by decide +kernel) | (dsimp only) | split
theorem State.remoteNak_only {s0 s : State} {e n status : Nat} (h_s : s0.Only l s) (hl : Has l [.num 1, .num 4, .num 5, .num 6,
    .num 9, .num 11, .faults, .mortar, .hbm, .egs, .shore, .mem]) : s0.Only l (State.remoteNak s e n status) := by
  unfold State.remoteNak
  repeat' first
      | (with_reducible first
          | assumption | apply State.inc32_only | apply State.egsEnd_only | apply State.rowAbsent_only
          | apply State.releaseReserved_only | apply State.Only.ite)
      | exact Has.sub ‹_› (by decide +kernel) | exact Has.bit ‹_› (by decide +kernel) | (dsimp only) | split
theorem State.lookupsLost_only {s0 s : State} {d : Nat} (h_s : s0.Only l s) (hl : Has l [.num 1, .num 4, .num 5, .num 6, .num
    11, .faults, .mortar, .hbm, .egs, .shore, .mem]) : s0.Only l (State.lookupsLost s d) := by
  unfold State.lookupsLost
  repeat' first | (with_reducible first | assumption | apply State.egsEnd_only | apply State.Only.foldl) | intro _

/-! ### Flip -/

theorem State.retireAppend_only {s0 s : State} {f : Flip} (h_s : s0.Only l s) (hl : Has l [.num 1, .num 5, .num 11, .faults,
    .hbm, .egs, .shore, .mem]) : s0.Only l (State.retireAppend s f) := by
  unfold State.retireAppend
  repeat' first
      | (with_reducible first | assumption | apply State.engineWrite_only) | exact Has.sub ‹_› (by decide +kernel)
      | exact Has.bit ‹_› (by decide +kernel) | (dsimp only) | fail_if_no_progress (with_reducible apply State.Only.upd_egs)
theorem State.waitRetire_only {s0 s : State} {f : Flip} (h_s : s0.Only l s) (hl : Has l [.num 6]) : s0.Only l (State.waitRetire
    s f).2 := by
  exact State.Only.ite h_s (State.inc64_only h_s
        (by first | exact hl.bit (by decide +kernel) | exact State.Only.fam hl (by decide) (by decide) (by decide +kernel) | exact State.Only.fam1 hl (by decide) (by decide +kernel)))
theorem State.toSlot_only {s0 s : State} {f : Flip} {e tier version : Nat} {image : List Byte} {velocity : Option (Nat × List
    Byte)} (h_s : s0.Only l s) (hl : Has l [.num 1, .num 5, .num 6, .num 11, .faults, .hbm, .egs, .shore, .mem]) : s0.Only l
    (State.toSlot s f e tier version image velocity).2 := by
  unfold State.toSlot
  repeat' first
      | (with_reducible first
          | assumption | apply State.inc64_only | apply State.engineWrite_only | apply State.freeTake_only
          | apply State.freeReturn_only | apply State.waitRetire_only | apply State.Only.ite)
      | exact Has.sub ‹_› (by decide +kernel) | exact Has.bit ‹_› (by decide +kernel) | (dsimp only) | split
theorem State.flipSlot_only {s0 s : State} {f : Flip} {e : Nat} (h_s : s0.Only l s) (hl : Has l [.num 1, .num 5, .num 6, .num
    11, .faults, .hbm, .shore]) : s0.Only l (State.flipSlot s f e).2.2 := by
  unfold State.flipSlot
  repeat' first
      | (with_reducible first | assumption | apply State.inc32_only | apply State.setSticky_only | apply State.tableRead_only)
      | exact Has.sub ‹_› (by decide +kernel) | exact Has.bit ‹_› (by decide +kernel) | (dsimp only) | split
theorem State.gradFlip_only {s0 s : State} {f : Flip} {e : Nat} {g : List Nat} {lrScale seed : Nat} (h_s : s0.Only l s) (hl :
    Has l [.num 1, .num 5, .num 6, .num 11, .faults, .hbm, .egs, .shore, .mem]) : s0.Only l (State.gradFlip s f e g lrScale
    seed).2 := by
  unfold State.gradFlip
  repeat' first
      | (with_reducible first
          | assumption | apply State.inc32_only | apply State.setSticky_only | apply State.event_only
          | apply State.tableRead_only | apply State.toSlot_only | apply State.flipSlot_only)
      | exact Has.sub ‹_› (by decide +kernel) | exact Has.bit ‹_› (by decide +kernel) | (dsimp only) | split
theorem State.toAbsent_only {s0 s : State} {f : Flip} {e : Nat} (h_s : s0.Only l s) (hl : Has l [.num 6]) : s0.Only l
    (State.toAbsent s f e).2 := by
  unfold State.toAbsent
  repeat' first | (with_reducible first | assumption | apply State.waitRetire_only) | split
theorem State.ownerFlip_only {s0 s : State} {f : Flip} {e : Nat} (h_s : s0.Only l s) (hl : Has l [.num 1, .num 5, .num 6, .num
    11, .faults, .hbm, .egs, .shore, .mem]) : s0.Only l (State.ownerFlip s f e).2 := by
  unfold State.ownerFlip
  repeat' first
      | (with_reducible first
          | assumption | apply State.waitRetire_only | apply State.toSlot_only | apply State.flipSlot_only
          | apply State.gradFlip_only | apply State.toAbsent_only)
      | exact Has.sub ‹_› (by decide +kernel) | (dsimp only) | split
theorem State.replicaFlip_only {s0 s : State} {f : Flip} {bucket : List Byte} (h_s : s0.Only l s) (hl : Has l [.num 1, .num 5,
    .num 6, .num 11, .faults, .hbm, .egs, .shore, .mem]) : s0.Only l (State.replicaFlip s f bucket).2 := by
  unfold State.replicaFlip
  repeat' first
      | (with_reducible first | assumption | apply State.toSlot_only | apply State.toAbsent_only)
      | exact Has.sub ‹_› (by decide +kernel) | (dsimp only) | split
theorem State.flipTry_only {s0 s : State} {f0 : Flip} (h_s : s0.Only l s) (hl : Has l [.num 1, .num 5, .num 6, .num 11,
    .faults, .hbm, .egs, .shore, .mem]) : s0.Only l (State.flipTry s f0).2 := by
  unfold State.flipTry
  exact State.Only.ite2 (State.thenRead_only h_s (fun _ _ h => h) (fun _ _ h => State.replicaFlip_only h (hl.sub
      (by decide +kernel))) (hl.sub (by decide +kernel)))
    (State.thenRead_only h_s (fun _ _ h => h) (fun _ _ h => State.Only.ite2 (State.ownerFlip_only h (hl.sub
        (by decide +kernel))) h) (hl.sub (by decide +kernel)))
theorem State.advanceRing_only {s0 : State} {x0 : Nat} {x1 : State} (h_x1 : s0.Only l x1) (hl : Has l [.egs]) : s0.Only l
    (State.advanceRing x0 x1) := by
  induction x0 generalizing x1 with
  | zero => unfold State.advanceRing; (try dsimp only); repeat' first
      | (with_reducible first
          | assumption | apply ih | apply State.Only.ite | apply State.Only.foldl | apply State.Only.foldl2
          | apply State.Only.foldl3 | apply State.Only.foldl1 | exact State.Only.yes rfl)
      | exact Has.sub ‹_› (by decide +kernel) | exact Has.bit ‹_› (by decide +kernel)
      | exact State.Only.fam ‹_› (by decide) (by decide) (by decide +kernel)
      | exact State.Only.fam1 ‹_› (by decide) (by decide +kernel) | intro _ _ _ _; rfl
      | exact State.Only.no (Has.bit ‹_› (by decide +kernel)) | intro _ | (dsimp only) | split
      | fail_if_no_progress (with_reducible apply State.Only.upd_egs)
      | fail_if_no_progress (with_reducible apply State.Only.upd) | exact List.prefix_refl _ | exact List.prefix_append _ _
      | exact id | rfl
  | succ n ih => unfold State.advanceRing; (try dsimp only); repeat' first
      | (with_reducible first
          | assumption | apply ih | apply State.Only.ite | apply State.Only.foldl | apply State.Only.foldl2
          | apply State.Only.foldl3 | apply State.Only.foldl1 | exact State.Only.yes rfl)
      | exact Has.sub ‹_› (by decide +kernel) | exact Has.bit ‹_› (by decide +kernel)
      | exact State.Only.fam ‹_› (by decide) (by decide) (by decide +kernel)
      | exact State.Only.fam1 ‹_› (by decide) (by decide +kernel) | intro _ _ _ _; rfl
      | exact State.Only.no (Has.bit ‹_› (by decide +kernel)) | intro _ | (dsimp only) | split
      | fail_if_no_progress (with_reducible apply State.Only.upd_egs)
      | fail_if_no_progress (with_reducible apply State.Only.upd) | exact List.prefix_refl _ | exact List.prefix_append _ _
      | exact id | rfl
theorem State.ringComplete_only {s0 s : State} {position status version : Nat} (h_s : s0.Only l s) (hl : Has l [.num 1, .num 5,
    .num 6, .num 11, .faults, .hbm, .egs, .host, .shore, .mem]) : s0.Only l (State.ringComplete s position status version) := by
  unfold State.ringComplete
  repeat' first
      | (with_reducible first
          | assumption | apply State.inc32_only | apply State.inc64_only | apply State.raiseGlobal_only
          | apply State.engineWrite_only | apply State.advanceRing_only | apply State.Only.ite)
      | exact Has.sub ‹_› (by decide +kernel) | exact Has.bit ‹_› (by decide +kernel) | (dsimp only) | split
      | fail_if_no_progress (with_reducible apply State.Only.upd_egs)
theorem State.updateRowDone_only {s0 s : State} {e tag brick row : Nat} {missing remote : Bool} (h_s : s0.Only l s) (hl : Has l
    [.num 1, .num 4, .num 5, .num 6, .num 11, .faults, .mortar, .hbm, .egs, .shore, .mem]) : s0.Only l (State.updateRowDone s e
    tag brick row missing remote) := by
  unfold State.updateRowDone
  repeat' first
      | (with_reducible first | assumption | apply State.setEgsWork_only | apply State.egsEnd_only | apply State.Only.ite)
      | exact Has.sub ‹_› (by decide +kernel) | (dsimp only) | split
theorem State.rowLog_only {s0 s : State} {f : Flip} {code : Nat} (h_s : s0.Only l s) (hl : Has l [.num 6, .num 11, .faults]) :
    s0.Only l (State.rowLog s f code) := by
  unfold State.rowLog
  repeat' first
      | (with_reducible first | assumption | apply State.setSticky_only | apply State.event_only)
      | exact Has.sub ‹_› (by decide +kernel) | exact Has.bit ‹_› (by decide +kernel)
theorem State.flipEnd_only {s0 s : State} {f : Flip} {o : FlipOut} {version : Nat} (h_s : s0.Only l s) (hl : Has l [.num 1,
    .num 4, .num 5, .num 6, .num 11, .faults, .mortar, .hbm, .egs, .host, .shore, .mem]) : s0.Only l (State.flipEnd s f o
    version) := by
  unfold State.flipEnd
  repeat' first
      | (with_reducible first
          | assumption | apply State.inc32_only | apply State.inc64_only | apply State.setSticky_only | apply State.event_only
          | apply State.egsEnd_only | apply State.ringComplete_only | apply State.updateRowDone_only | apply State.rowLog_only)
      | exact Has.sub ‹_› (by decide +kernel) | exact Has.bit ‹_› (by decide +kernel) | split
theorem State.replaceFlip_only {s0 s : State} {f g : Flip} (h_s : s0.Only l s) (hl : Has l [.egs]) : s0.Only l
    (State.replaceFlip s f g) := by
  unfold State.replaceFlip
  repeat' first
      | with_reducible assumption | exact Has.bit ‹_› (by decide +kernel) | (dsimp only)
      | fail_if_no_progress (with_reducible apply State.Only.upd_egs)
theorem State.flipBegin_only {s0 s : State} {f : Flip} (h_s : s0.Only l s) (hl : Has l [.num 1, .num 4, .num 5, .num 6, .num
    11, .faults, .mortar, .hbm, .egs, .host, .shore, .mem]) : s0.Only l (State.flipBegin s f) := by
  unfold State.flipBegin
  repeat' first
      | (with_reducible first | assumption | apply State.flipTry_only | apply State.flipEnd_only)
      | exact Has.sub ‹_› (by decide +kernel) | exact Has.bit ‹_› (by decide +kernel) | (dsimp only) | split
      | fail_if_no_progress (with_reducible apply State.Only.upd_egs)
theorem State.flipAgain_only {s0 s : State} {f : Flip} (h_s : s0.Only l s) (hl : Has l [.num 1, .num 4, .num 5, .num 6, .num
    11, .faults, .mortar, .hbm, .egs, .host, .shore, .mem]) : s0.Only l (State.flipAgain s f) := by
  unfold State.flipAgain
  repeat' first
      | (with_reducible first | assumption | apply State.flipTry_only | apply State.flipEnd_only | apply State.replaceFlip_only)
      | exact Has.sub ‹_› (by decide +kernel) | exact Has.bit ‹_› (by decide +kernel) | (dsimp only) | split
      | fail_if_no_progress (with_reducible apply State.Only.upd_egs)
theorem State.flipPosts_only {s0 s : State} {f : Flip} (h_s : s0.Only l s) (hl : Has l [.num 9, .coast, .out]) : s0.Only l
    (State.flipPosts s f) := by
  unfold State.flipPosts
  repeat' (with_reducible first | assumption | apply State.postAll_only | apply State.Only.ite)
theorem State.flipAccepted_only {s0 s : State} {f : Flip} (h_s : s0.Only l s) (hl : Has l [.num 1, .num 4, .num 5, .num 6, .num
    9, .num 11, .faults, .mortar, .hbm, .egs, .coast, .host, .shore, .out, .mem]) : s0.Only l (State.flipAccepted s f) := by
  unfold State.flipAccepted
  repeat' first
      | (with_reducible first
          | assumption | apply State.inc64_only | apply State.hbmPut_only | apply State.engineWrite_only
          | apply State.setFreeRing_only | apply State.retireAppend_only | apply State.flipEnd_only
          | apply State.flipPosts_only)
      | exact Has.sub ‹_› (by decide +kernel) | exact Has.bit ‹_› (by decide +kernel) | (dsimp only) | split
      | fail_if_no_progress (with_reducible apply State.Only.upd_egs)
theorem State.flipCommit_only {s0 s : State} {f : Flip} (h_s : s0.Only l s) (hl : Has l [.num 1, .num 4, .num 5, .num 6, .num
    9, .num 11, .faults, .mortar, .hbm, .egs, .coast, .host, .shore, .out, .mem]) : s0.Only l (State.flipCommit s f) := by
  unfold State.flipCommit
  repeat' first
      | (with_reducible first
          | assumption | apply State.inc64_only | apply State.freeReturn_only | apply State.dropFlip_only
          | apply State.tableRead_only | apply State.flipEnd_only | apply State.flipAgain_only | apply State.flipAccepted_only
          | apply State.Only.ite)
      | exact Has.sub ‹_› (by decide +kernel) | exact Has.bit ‹_› (by decide +kernel) | split
theorem State.retirePop_only {s0 s : State} {e : Nat} (h_s : s0.Only l s) (hl : Has l [.egs]) : s0.Only l (State.retirePop s e)
    := by
  unfold State.retirePop
  repeat' first
      | with_reducible assumption | exact Has.bit ‹_› (by decide +kernel) | (dsimp only)
      | fail_if_no_progress (with_reducible apply State.Only.upd_egs)
theorem State.slotLost_only {s0 s : State} (h_s : s0.Only l s) (hl : Has l [.num 6, .num 11, .faults]) : s0.Only l
    (State.slotLost s) := by
  unfold State.slotLost
  repeat' first
      | (with_reducible first | assumption | apply State.inc32_only | apply State.setSticky_only | apply State.event_only)
      | exact Has.sub ‹_› (by decide +kernel) | exact Has.bit ‹_› (by decide +kernel)
theorem State.flipsAgain_only {s0 s : State} {p : Flip → Bool} (h_s : s0.Only l s) (hl : Has l [.num 1, .num 4, .num 5, .num 6,
    .num 11, .faults, .mortar, .hbm, .egs, .host, .shore, .mem]) : s0.Only l (State.flipsAgain s p) := by
  unfold State.flipsAgain
  repeat' first | (with_reducible first | assumption | apply State.flipAgain_only | apply State.Only.foldl) | intro _
theorem State.retiredEntry_only {s0 s : State} {d : TableDesc} {table row : Nat} {replica : Bool} {version slot : Nat} (h_s :
    s0.Only l s) (hl : Has l [.num 1, .num 5, .num 11, .faults, .hbm, .shore]) : s0.Only l (State.retiredEntry s d table row
    replica version slot).2 := by
  unfold State.retiredEntry
  exact State.Only.ite2 (State.thenRead_only h_s (fun _ _ h => h) (fun _ _ h => h) (hl.sub (by decide +kernel)))
    (State.thenRead_only h_s (fun _ _ h => h) (fun _ _ h => h) (hl.sub (by decide +kernel)))
theorem State.reclaimEntry_only {s0 s : State} {table tier slot version a : Nat} (h_s : s0.Only l s) (hl : Has l [.num 1, .num
    5, .num 6, .num 11, .faults, .hbm, .egs, .shore, .mem]) : s0.Only l (State.reclaimEntry s table tier slot version a) := by
  unfold State.reclaimEntry
  repeat' first
      | (with_reducible first
          | assumption | apply State.inc64_only | apply State.hbmPut_only | apply State.freeReturn_only
          | apply State.tableRead_only | apply State.slotLost_only | apply State.Only.ite)
      | exact Has.sub ‹_› (by decide +kernel) | exact Has.bit ‹_› (by decide +kernel)
theorem State.reclaimRecord_only {s0 s : State} {e : Nat} {l_ : List Byte} (h_s : s0.Only l s) (hl : Has l [.num 1, .num 4,
    .num 5, .num 6, .num 11, .faults, .mortar, .hbm, .egs, .host, .shore, .mem]) : s0.Only l (State.reclaimRecord s e l_) := by
  unfold State.reclaimRecord
  repeat' first
      | (with_reducible first
          | assumption | apply State.retirePop_only | apply State.slotLost_only | apply State.flipsAgain_only
          | apply State.retiredEntry_only | apply State.reclaimEntry_only | apply State.Only.ite)
      | exact Has.sub ‹_› (by decide +kernel) | (dsimp only) | split
theorem State.updateSort_only {s0 s : State} {e : Nat} {w : EgsCmd} (h_s : s0.Only l s) (hl : Has l [.num 1, .num 4, .num 5,
    .num 6, .num 11, .faults, .mortar, .hbm, .egs, .shore, .mem]) : s0.Only l (State.updateSort s e w) := by
  unfold State.updateSort
  repeat' first
      | (with_reducible first
          | assumption | apply State.inc64_only | apply State.setEgsWork_only | apply State.egsEnd_only | apply State.Only.ite)
      | exact Has.sub ‹_› (by decide +kernel) | exact Has.bit ‹_› (by decide +kernel)
theorem State.updateRow_only {s0 s : State} {e : Nat} {w : EgsCmd} {r : RowWork} (h_s : s0.Only l s) (hl : Has l [.num 1, .num
    4, .num 5, .num 6, .num 9, .num 11, .faults, .mortar, .hbm, .egs, .coast, .host, .shore, .out, .mem]) : s0.Only l
    (State.updateRow s e w r) := by
  unfold State.updateRow
  repeat' first
      | (with_reducible first
          | assumption | apply State.inc64_only | apply State.postUpd_only | apply State.tableRead_only
          | apply State.setEgsWork_only | apply State.egsEnd_only | apply State.updateRowDone_only | apply State.flipBegin_only
          | apply State.Only.ite)
      | exact Has.sub ‹_› (by decide +kernel) | exact Has.bit ‹_› (by decide +kernel)
theorem State.ownEntry_only {s0 s : State} {d : TableDesc} {row : Nat} (h_s : s0.Only l s) (hl : Has l [.num 1, .num 5, .num
    11, .faults, .hbm, .shore]) : s0.Only l (State.ownEntry s d row).2 := by
  unfold State.ownEntry
  repeat' first | (with_reducible first | assumption | apply State.tableRead_only) | (dsimp only) | split
theorem State.gradRecord_only {s0 s : State} {desc : Option (List Byte)} {chip : Nat} {b : List Byte} (h_s : s0.Only l s) (hl :
    Has l [.num 1, .num 4, .num 5, .num 6, .num 11, .faults, .mortar, .hbm, .egs, .host, .shore, .mem]) : s0.Only l
    (State.gradRecord s desc chip b) := by
  unfold State.gradRecord
  repeat' first
      | (with_reducible first
          | assumption | apply State.rowLog_only | apply State.flipBegin_only | apply State.ownEntry_only
          | apply State.Only.ite)
      | exact Has.sub ‹_› (by decide +kernel) | (dsimp only) | split
theorem State.replicaRecord_only {s0 s : State} {desc : Option (List Byte)} {chip table row : Nat} {w : Work} (h_s : s0.Only l
    s) (hl : Has l [.num 1, .num 4, .num 5, .num 6, .num 11, .faults, .mortar, .hbm, .egs, .host, .shore, .mem]) : s0.Only l
    (State.replicaRecord s desc chip table row w) := by
  unfold State.replicaRecord
  repeat' first
      | (with_reducible first
          | assumption | apply State.rowLog_only | apply State.flipEnd_only | apply State.flipBegin_only | apply State.Only.ite)
      | exact Has.sub ‹_› (by decide +kernel)
theorem State.ringBegin_only {s0 s : State} {p : Nat} {l_ : List Byte} (h_s : s0.Only l s) (hl : Has l [.num 1, .num 4, .num 5,
    .num 6, .num 11, .faults, .mortar, .hbm, .egs, .host, .shore, .mem]) : s0.Only l (State.ringBegin s p l_) := by
  unfold State.ringBegin
  repeat' first
      | (with_reducible first
          | assumption | apply State.tableRead_only | apply State.ringComplete_only | apply State.rowLog_only
          | apply State.flipBegin_only | apply State.ownEntry_only | apply State.Only.ite)
      | exact Has.sub ‹_› (by decide +kernel) | (dsimp only) | split
theorem State.ringSkip_only {s0 : State} {x0 : Nat} {x1 : State} (h_x1 : s0.Only l x1) (hl : Has l [.egs]) : s0.Only l
    (State.ringSkip x0 x1) := by
  induction x0 generalizing x1 with
  | zero => unfold State.ringSkip; (try dsimp only); repeat' first
      | (with_reducible first
          | assumption | apply ih | apply State.Only.ite | apply State.Only.foldl | apply State.Only.foldl2
          | apply State.Only.foldl3 | apply State.Only.foldl1 | exact State.Only.yes rfl)
      | exact Has.sub ‹_› (by decide +kernel) | exact Has.bit ‹_› (by decide +kernel)
      | exact State.Only.fam ‹_› (by decide) (by decide) (by decide +kernel)
      | exact State.Only.fam1 ‹_› (by decide) (by decide +kernel) | intro _ _ _ _; rfl
      | exact State.Only.no (Has.bit ‹_› (by decide +kernel)) | intro _ | (dsimp only) | split
      | fail_if_no_progress (with_reducible apply State.Only.upd_egs)
      | fail_if_no_progress (with_reducible apply State.Only.upd) | exact List.prefix_refl _ | exact List.prefix_append _ _
      | exact id | rfl
  | succ n ih => unfold State.ringSkip; (try dsimp only); repeat' first
      | (with_reducible first
          | assumption | apply ih | apply State.Only.ite | apply State.Only.foldl | apply State.Only.foldl2
          | apply State.Only.foldl3 | apply State.Only.foldl1 | exact State.Only.yes rfl)
      | exact Has.sub ‹_› (by decide +kernel) | exact Has.bit ‹_› (by decide +kernel)
      | exact State.Only.fam ‹_› (by decide) (by decide) (by decide +kernel)
      | exact State.Only.fam1 ‹_› (by decide) (by decide +kernel) | intro _ _ _ _; rfl
      | exact State.Only.no (Has.bit ‹_› (by decide +kernel)) | intro _ | (dsimp only) | split
      | fail_if_no_progress (with_reducible apply State.Only.upd_egs)
      | fail_if_no_progress (with_reducible apply State.Only.upd) | exact List.prefix_refl _ | exact List.prefix_append _ _
      | exact id | rfl
theorem State.ringTake_only {s0 s : State} {want : Nat → Bool} (h_s : s0.Only l s) (hl : Has l [.num 1, .num 4, .num 5, .num 6,
    .num 11, .faults, .mortar, .hbm, .egs, .host, .shore, .mem]) : s0.Only l (State.ringTake s want) := by
  unfold State.ringTake
  repeat' first
      | (with_reducible first
          | assumption | apply State.tableRead_only | apply State.ringComplete_only | apply State.ringBegin_only
          | apply State.ringSkip_only | apply State.Only.ite)
      | exact Has.sub ‹_› (by decide +kernel) | exact Has.bit ‹_› (by decide +kernel) | (dsimp only)
      | fail_if_no_progress (with_reducible apply State.Only.upd_egs)

/-! ### Ready -/

theorem State.atBc_only {s0 s : State} {bc : Nat} (h_s : s0.Only l s) (hl : Has l [.wall]) : s0.Only l (State.atBc s bc) := by
  unfold State.atBc
  repeat' first
      | (with_reducible first | assumption | exact State.Only.yes rfl) | exact Has.bit ‹_› (by decide +kernel) | (dsimp only)
      | fail_if_no_progress (with_reducible apply State.Only.upd_wall)
theorem State.dispatchSlot_only {s0 s : State} {brick bc slot : Nat} {executing : Bool} (h_s : s0.Only l s) (hl : Has l
    [.faults, .wall, .slots]) : s0.Only l (State.dispatchSlot s brick bc slot executing) := by
  unfold State.dispatchSlot
  repeat' first
      | (with_reducible first
          | assumption | apply State.siteFault_only | apply State.setSlot_only | apply State.setBrick_only
          | apply State.atBc_only | apply State.Only.ite)
      | exact Has.sub ‹_› (by decide +kernel)
theorem State.slotParity_only {s0 s : State} {brick slot : Nat} (h_s : s0.Only l s) (hl : Has l [.faults, .wall, .slots]) :
    s0.Only l (State.slotParity s brick slot) := by
  unfold State.slotParity
  repeat' first
      | (with_reducible first | assumption | apply State.siteFault_only | apply State.setSlot_only)
      | exact Has.sub ‹_› (by decide +kernel)
theorem State.acquire_only {s0 s : State} {brick slot : Nat} {e : OpEntry} (h_s : s0.Only l s) (hl : Has l [.wall]) : s0.Only l
    (State.acquire s brick slot e).2 := by
  unfold State.acquire
  repeat' first | (with_reducible first | assumption | apply State.setHandle_only) | (dsimp only) | split
theorem State.dispatchTemplate_only {s0 s : State} {brick bc slot : Nat} (h_s : s0.Only l s) (hl : Has l [.num 1, .num 4, .num
    8, .num 9, .num 11, .faults, .wall, .mortar, .tables, .sel, .csa, .egs, .coast, .shore, .out, .sram, .slots]) : s0.Only l
    (State.dispatchTemplate s brick bc slot) := by
  unfold State.dispatchTemplate
  repeat' first
      | (with_reducible first
          | assumption | apply State.setFiring_only | apply State.startFiring_only | apply State.dispatchSlot_only
          | apply State.acquire_only)
      | exact Has.sub ‹_› (by decide +kernel)
theorem State.rearm_only {s0 s : State} {k bc : Nat} (h_s : s0.Only l s) (hl : Has l [.wall, .slots]) : s0.Only l (State.rearm
    s k bc) := by
  unfold State.rearm
  repeat' (with_reducible first | assumption | apply State.setSlot_only)
theorem State.relayOver_only {s0 s : State} {k bc : Nat} (h_s : s0.Only l s) (hl : Has l [.wall, .slots]) : s0.Only l
    (State.relayOver s k bc) := by
  unfold State.relayOver
  repeat' (with_reducible first | assumption | apply State.setSlot_only | apply State.rearm_only)
theorem State.dispatchKind_only {s0 s : State} {brick bc kind : Nat} {k : State → Nat → State} (h_s : s0.Only l s) (h_k : ∀ t
    y, s0.Only l t → s0.Only l (k t y)) (hl : Has l [.num 4, .faults, .wall, .slots]) : s0.Only l (State.dispatchKind s brick
    bc kind k) := by
  unfold State.dispatchKind
  split
  · exact h_s
  · extract_lets c
    have hc : s0.Only l c.2 := State.configTouch_only h_s (hl.sub (by decide +kernel))
    clear_value c
    exact State.Only.ite h_s (State.Only.ite (State.slotParity_only (State.atBc_only h_s (hl.sub (by decide +kernel))) (hl.sub
        (by decide +kernel)))
      (State.Only.ite (State.siteFault_only (State.atBc_only hc (hl.sub (by decide +kernel))) (hl.sub (by decide +kernel)))
          (h_k _ _ hc)))
theorem State.freeOne_only {s0 s : State} {brick slot : Nat} {r : InReg} (h_s : s0.Only l s) (hl : Has l [.faults, .wall]) :
    s0.Only l (State.freeOne s brick slot r).2 := by
  unfold State.freeOne
  repeat' first
      | (with_reducible first | assumption | apply State.siteFault_only | apply State.setHandle_only)
      | exact Has.sub ‹_› (by decide +kernel) | (dsimp only) | split
theorem State.transferOut_only {s0 s : State} {brick slot : Nat} {e : OpEntry} {h : Option Nat} (h_s : s0.Only l s) (hl : Has l
    [.faults, .wall]) : s0.Only l (State.transferOut s brick slot e h).2 := by
  unfold State.transferOut
  repeat' first
      | (with_reducible first | assumption | apply State.siteFault_only | apply State.setHandle_only)
      | exact Has.sub ‹_› (by decide +kernel) | (dsimp only) | split
theorem State.completeFiring_only {s0 s : State} {brick bc : Nat} {f : Firing} (h_s : s0.Only l s) (hl : Has l [.num 4, .num 9,
    .faults, .wall, .mortar, .coast, .out, .slots]) : s0.Only l (State.completeFiring s brick bc f) := by
  unfold State.completeFiring
  repeat' first
      | (with_reducible first
          | assumption | apply State.setBrick_only | apply State.sendTokens_only | apply State.atBc_only
          | apply State.rearm_only | apply State.freeOne_only | apply State.transferOut_only | apply State.Only.ite)
      | exact Has.sub ‹_› (by decide +kernel) | (dsimp only) | split
theorem State.applyToken_only {s0 s : State} {brick bc slot handleIn handle fill : Nat} (h_s : s0.Only l s) (hl : Has l
    [.faults, .wall, .slots]) : s0.Only l (State.applyToken s brick bc slot handleIn handle fill) := by
  unfold State.applyToken
  repeat' first
      | (with_reducible first
          | assumption | apply State.siteFault_only | apply State.setSlot_only | apply State.slotParity_only
          | apply State.Only.ite)
      | exact Has.sub ‹_› (by decide +kernel) | (dsimp only) | split

/-! ### Sel -/

theorem State.selCode_only {s0 s : State} {block : List Byte} (h_s : s0.Only l s) (hl : Has l [.num 8, .tables]) : s0.Only l
    (State.selCode s block).2 := by
  unfold State.selCode
  repeat' (with_reducible first | assumption | apply State.tabReads_only)
theorem State.selEnd_only {s0 s : State} {course brick code : Nat} (h_s : s0.Only l s) (hl : Has l [.num 4, .num 8, .mortar,
    .sel]) : s0.Only l (State.selEnd s course brick code) := by
  unfold State.selEnd
  repeat' first
      | (with_reducible first
          | assumption | apply State.setNum_only | apply State.inc32_only | apply State.inc64_only | apply State.setSticky_only
          | apply State.send_only | apply State.Only.ite)
      | exact Has.sub ‹_› (by decide +kernel) | exact Has.bit ‹_› (by decide +kernel) | (dsimp only)
      | fail_if_no_progress (with_reducible apply State.Only.upd_sel)
theorem State.selStart_only {s0 s : State} {course : Nat} {c : HubCmd} (h_s : s0.Only l s) (hl : Has l [.num 4, .num 8,
    .mortar, .tables, .sel]) : s0.Only l (State.selStart s course c) := by
  unfold State.selStart
  repeat' first
      | (with_reducible first
          | assumption | apply State.inc64_only | apply State.send_only | apply State.selCode_only | apply State.selEnd_only
          | apply State.Only.ite)
      | exact Has.sub ‹_› (by decide +kernel) | exact Has.bit ‹_› (by decide +kernel) | (dsimp only) | split
      | fail_if_no_progress (with_reducible apply State.Only.upd_sel)
theorem State.selTake_only {s0 s : State} {course : Nat} {modes : List Nat} {upset : Upset} (h_s : s0.Only l s) (hl : Has l
    [.num 1, .num 3, .num 4, .num 5, .num 8, .num 9, .num 11, .num 13, .reg, .faults, .wall, .mortar, .tables, .sel, .csa,
    .hbm, .egs, .coast, .sched, .host, .shore, .out, .device, .mem]) : s0.Only l (State.selTake s course modes upset) := by
  unfold State.selTake
  repeat' first
      | (with_reducible first
          | assumption | apply State.live_only | apply State.send_only | apply State.landed_only | apply State.selStart_only
          | apply State.Only.ite)
      | exact Has.sub ‹_› (by decide +kernel) | exact Has.bit ‹_› (by decide +kernel) | intro _ | (dsimp only) | split
      | fail_if_no_progress (with_reducible apply State.Only.upd_sel)
theorem State.granted_only {s0 s : State} {brick : Nat} {dst : Node} {tag per size : Nat} {sel : Bool} (h_s : s0.Only l s) (hl
    : Has l [.num 4, .wall, .mortar]) : s0.Only l (State.granted s brick dst tag per size sel) := by
  unfold State.granted
  repeat' first
      | (with_reducible first
          | assumption | apply State.send_only | apply State.setFiring_only | apply State.Only.ite | apply State.Only.foldl)
      | exact Has.sub ‹_› (by decide +kernel) | intro _ | (dsimp only) | split
theorem State.commandPayload_only {s0 s : State} {brick tag : Nat} (h_s : s0.Only l s) (hl : Has l [.faults]) : s0.Only l
    (State.commandPayload s brick tag) := by
  unfold State.commandPayload
  repeat' first | (with_reducible first | assumption | apply State.siteFault_only) | split
theorem State.dropData_only {s0 s : State} {brick : Nat} {dst : Node} (h_s : s0.Only l s) (hl : Has l [.mortar]) : s0.Only l
    (State.dropData s brick dst) := by
  unfold State.dropData
  repeat' first
      | with_reducible assumption | exact Has.bit ‹_› (by decide +kernel) | (dsimp only)
      | fail_if_no_progress (with_reducible apply State.Only.upd_mortar)
theorem State.listUpsets_only {s0 s : State} {course : Nat} (h_s : s0.Only l s) (hl : Has l [.num 1, .num 8, .num 11, .faults,
    .wall, .sel, .shore]) : s0.Only l (State.listUpsets s course).2 := by
  unfold State.listUpsets
  repeat' first
      | (with_reducible first
          | assumption | apply State.inc32_only | apply State.setSticky_only | apply State.retirePending_only
          | apply State.Only.ite)
      | exact Has.sub ‹_› (by decide +kernel) | exact Has.bit ‹_› (by decide +kernel) | (dsimp only) | split
      | fail_if_no_progress (with_reducible apply State.Only.upd_sel)
theorem State.selArrives_only {s0 s : State} {course brick : Nat} {l_ : List Elem} {last : Bool} (h_s : s0.Only l s) (hl : Has
    l [.num 1, .num 4, .num 8, .num 11, .faults, .wall, .mortar, .sel, .shore]) : s0.Only l (State.selArrives s course brick l_
    last) := by
  unfold State.selArrives
  repeat' first
      | (with_reducible first
          | assumption | apply State.inc64_only | apply State.send_only | apply State.selEnd_only | apply State.dropData_only
          | apply State.listUpsets_only | apply State.Only.ite | apply State.Only.foldl)
      | exact Has.sub ‹_› (by decide +kernel) | exact Has.bit ‹_› (by decide +kernel) | intro _ | (dsimp only) | split
      | fail_if_no_progress (with_reducible apply State.Only.upd_sel)
theorem State.resultIn_only {s0 s : State} {brick tag off : Nat} {data : List Byte} (h_s : s0.Only l s) (hl : Has l [.num 1,
    .num 4, .num 11, .faults, .wall, .shore, .sram]) : s0.Only l (State.resultIn s brick tag off data) := by
  unfold State.resultIn
  repeat' first
      | (with_reducible first | assumption | apply State.sramWrite_only | apply State.siteFault_only)
      | exact Has.sub ‹_› (by decide +kernel) | (dsimp only) | split

/-! ### Csa -/

theorem State.putImage_only {s0 s : State} {b i : Nat} {e : CsaEntry} (h_s : s0.Only l s) (hl : Has l [.csa, .hbm]) : s0.Only l
    (State.putImage s b i e) := by
  unfold State.putImage
  repeat' first
      | (with_reducible first | assumption | apply State.shadowWords_only) | exact Has.sub ‹_› (by decide +kernel)
      | exact Has.bit ‹_› (by decide +kernel) | (dsimp only) | fail_if_no_progress (with_reducible apply State.Only.upd_csa)
theorem State.putWords_only {s0 s : State} {b i : Nat} {e : CsaEntry} {ws : List Nat} (h_s : s0.Only l s) (hl : Has l [.csa,
    .hbm]) : s0.Only l (State.putWords s b i e ws) := by
  unfold State.putWords
  repeat' first
      | (with_reducible first | assumption | apply State.setCsaBank_only | apply State.putImage_only)
      | exact Has.sub ‹_› (by decide +kernel) | exact Has.bit ‹_› (by decide +kernel) | (dsimp only)
      | fail_if_no_progress (with_reducible apply State.Only.upd_csa)
theorem State.putEntry_only {s0 s : State} {b i : Nat} {e : CsaEntry} (h_s : s0.Only l s) (hl : Has l [.csa, .hbm]) : s0.Only l
    (State.putEntry s b i e) := by
  unfold State.putEntry
  repeat' (with_reducible first | assumption | apply State.putWords_only)
theorem State.readWord_only {s0 s : State} {b w : Nat} (h_s : s0.Only l s) (hl : Has l [.num 7, .csa]) : s0.Only l
    (State.readWord s b w).2 := by
  unfold State.readWord
  repeat' first
      | (with_reducible first
          | assumption | apply State.inc32_only | apply State.setSticky_only | apply State.setCsaBank_only
          | apply State.Only.ite)
      | exact Has.sub ‹_› (by decide +kernel) | exact Has.bit ‹_› (by decide +kernel) | (dsimp only) | split
theorem State.readAll_only {s0 s : State} {b : Nat} {x0 : List Nat} (h_s : s0.Only l s) (hl : Has l [.num 7, .csa]) : s0.Only l
    (State.readAll s b x0).2 := by
  induction x0 generalizing s with
  | nil => unfold State.readAll; (try dsimp only); repeat' first
      | (with_reducible first
          | assumption | apply ih | apply State.readWord_only | apply State.Only.ite | apply State.Only.foldl
          | apply State.Only.foldl2 | apply State.Only.foldl3 | apply State.Only.foldl1 | exact State.Only.yes rfl)
      | exact Has.sub ‹_› (by decide +kernel) | exact Has.bit ‹_› (by decide +kernel)
      | exact State.Only.fam ‹_› (by decide) (by decide) (by decide +kernel)
      | exact State.Only.fam1 ‹_› (by decide) (by decide +kernel) | intro _ _ _ _; rfl
      | exact State.Only.no (Has.bit ‹_› (by decide +kernel)) | intro _ | (dsimp only) | split
      | fail_if_no_progress (with_reducible apply State.Only.upd) | exact List.prefix_refl _ | exact List.prefix_append _ _
      | exact id | rfl
  | cons a l_ ih => unfold State.readAll; (try dsimp only); repeat' first
      | (with_reducible first
          | assumption | apply ih | apply State.readWord_only | apply State.Only.ite | apply State.Only.foldl
          | apply State.Only.foldl2 | apply State.Only.foldl3 | apply State.Only.foldl1 | exact State.Only.yes rfl)
      | exact Has.sub ‹_› (by decide +kernel) | exact Has.bit ‹_› (by decide +kernel)
      | exact State.Only.fam ‹_› (by decide) (by decide) (by decide +kernel)
      | exact State.Only.fam1 ‹_› (by decide) (by decide +kernel) | intro _ _ _ _; rfl
      | exact State.Only.no (Has.bit ‹_› (by decide +kernel)) | intro _ | (dsimp only) | split
      | fail_if_no_progress (with_reducible apply State.Only.upd) | exact List.prefix_refl _ | exact List.prefix_append _ _
      | exact id | rfl
theorem State.recordDone_only {s0 s : State} {b : Nat} (h_s : s0.Only l s) (hl : Has l [.num 7, .csa, .hbm]) : s0.Only l
    (State.recordDone s b) := by
  unfold State.recordDone
  repeat' first
      | (with_reducible first | assumption | apply State.inc64_only | apply State.genUp_only)
      | exact Has.sub ‹_› (by decide +kernel) | exact State.Only.fam ‹_› (by decide) (by decide) (by decide +kernel)
theorem State.moveEntries_only {s0 s : State} {b : Nat} {up : Bool} {l_ : List Nat} (h_s : s0.Only l s) (hl : Has l [.csa,
    .hbm]) : s0.Only l (State.moveEntries s b up l_) := by
  unfold State.moveEntries
  repeat' first | (with_reducible first | assumption | apply State.putEntry_only | apply State.Only.foldl) | intro _
theorem State.applied_only {s0 s : State} {res : List Byte} {outcome : Nat} (h_s : s0.Only l s) : s0.Only l (State.applied s
    res outcome).state := by
  unfold State.applied
  repeat' with_reducible assumption
theorem State.applyInsert_only {s0 s : State} {b : Nat} {el : List Nat} (h_s : s0.Only l s) (hl : Has l [.num 7, .csa, .hbm]) :
    s0.Only l (State.applyInsert s b el).state := by
  unfold State.applyInsert
  repeat' first
      | (with_reducible first
          | assumption | apply State.inc64_only | apply State.setCsaBank_only | apply State.putEntry_only
          | apply State.readAll_only | apply State.recordDone_only | apply State.moveEntries_only | apply State.applied_only
          | apply State.Only.ite)
      | exact Has.sub ‹_› (by decide +kernel) | exact State.Only.fam ‹_› (by decide) (by decide) (by decide +kernel)
      | (dsimp only) | split
theorem State.applyDelete_only {s0 s : State} {b : Nat} {el : List Nat} (h_s : s0.Only l s) (hl : Has l [.num 7, .csa, .hbm]) :
    s0.Only l (State.applyDelete s b el).state := by
  unfold State.applyDelete
  repeat' first
      | (with_reducible first | assumption | apply State.putEntry_only | apply State.recordDone_only | apply State.applied_only)
      | exact Has.sub ‹_› (by decide +kernel) | split
theorem State.applyUpdate_only {s0 s : State} {b : Nat} {el : List Nat} (h_s : s0.Only l s) (hl : Has l [.num 7, .csa, .hbm]) :
    s0.Only l (State.applyUpdate s b el).state := by
  unfold State.applyUpdate
  repeat' first
      | (with_reducible first | assumption | apply State.putWords_only | apply State.recordDone_only | apply State.applied_only)
      | exact Has.sub ‹_› (by decide +kernel) | (dsimp only) | split
theorem State.applySearch_only {s0 s : State} {b form : Nat} {key : List Nat} (h_s : s0.Only l s) (hl : Has l [.num 7, .csa]) :
    s0.Only l (State.applySearch s b form key).state := by
  unfold State.applySearch
  repeat' first
      | (with_reducible first | assumption | apply State.inc64_only | apply State.readAll_only | apply State.applied_only)
      | exact State.Only.fam ‹_› (by decide) (by decide) (by decide +kernel) | (dsimp only) | split
theorem State.applyBulk_only {s0 s : State} {b j : Nat} {last : Option Nat} {el : List Nat} (h_s : s0.Only l s) (hl : Has l
    [.csa, .hbm]) : s0.Only l (State.applyBulk s b j last el).state := by
  unfold State.applyBulk
  repeat' first
      | (with_reducible first | assumption | apply State.putEntry_only | apply State.applied_only) | (dsimp only) | split
theorem State.applyRecord_only {s0 s : State} {b : Nat} {c : CsaCmd} {j : Nat} {last : Option Nat} {l_ : List Elem} (h_s :
    s0.Only l s) (hl : Has l [.num 7, .csa, .hbm]) : s0.Only l (State.applyRecord s b c j last l_).state := by
  unfold State.applyRecord
  repeat' first
      | (with_reducible first
          | assumption | apply State.applied_only | apply State.applyInsert_only | apply State.applyDelete_only
          | apply State.applyUpdate_only | apply State.applySearch_only | apply State.applyBulk_only)
      | exact Has.sub ‹_› (by decide +kernel) | (dsimp only) | split
theorem State.csaEnd_only {s0 s : State} {b brick code outcome moves : Nat} (h_s : s0.Only l s) (hl : Has l [.num 4, .num 7,
    .mortar, .csa]) : s0.Only l (State.csaEnd s b brick code outcome moves) := by
  unfold State.csaEnd
  repeat' first
      | (with_reducible first
          | assumption | apply State.setNum_only | apply State.inc32_only | apply State.inc64_only | apply State.setSticky_only
          | apply State.setCsaBank_only | apply State.send_only | apply State.Only.ite)
      | exact Has.sub ‹_› (by decide +kernel) | exact Has.bit ‹_› (by decide +kernel)
theorem State.csaGranted_only {s0 s : State} {b : Nat} {cmd : HubCmd} (h_s : s0.Only l s) (hl : Has l [.num 4, .mortar, .csa,
    .hbm]) : s0.Only l (State.csaGranted s b cmd) := by
  unfold State.csaGranted
  repeat' first
      | (with_reducible first
          | assumption | apply State.setCsaBank_only | apply State.genUp_only | apply State.send_only | apply State.Only.ite)
      | exact Has.sub ‹_› (by decide +kernel)
theorem State.csaTake_only {s0 s : State} {b : Nat} {ops : Nat → Bool} {upset : Upset} {go : State → HubCmd → State} (h_s :
    s0.Only l s) (h_go : ∀ t y, s0.Only l t → s0.Only l (go t y)) (hl : Has l [.num 1, .num 3, .num 4, .num 5, .num 7, .num 9,
    .num 11, .num 13, .reg, .faults, .wall, .mortar, .sel, .csa, .hbm, .egs, .coast, .sched, .host, .shore, .out, .device,
    .mem]) : s0.Only l (State.csaTake s b ops upset go) := by
  unfold State.csaTake
  repeat' first
      | (with_reducible first
          | assumption | apply State.live_only | apply State.send_only | apply State.landed_only | apply State.csaEnd_only
          | apply State.Only.ite)
      | exact Has.sub ‹_› (by decide +kernel) | exact Has.bit ‹_› (by decide +kernel) | apply h_go | intro _ | (dsimp only)
      | split | fail_if_no_progress (with_reducible apply State.Only.upd_csa)
theorem State.csaFlush_only {s0 : State} {x0 : Nat} {x1 : State} {x2 x3 x4 : Nat} {x5 : List Byte} {x6 : Nat} {x7 : Bool} (h_x1
    : s0.Only l x1) (hl : Has l [.num 4, .mortar]) : s0.Only l (State.csaFlush x0 x1 x2 x3 x4 x5 x6 x7).1 := by
  induction x0 generalizing x1 x2 x3 x4 x5 x6 x7 with
  | zero => unfold State.csaFlush; (try dsimp only); repeat' first
      | (with_reducible first
          | assumption | apply ih | apply State.take_only | apply State.send_only | apply State.Only.ite
          | apply State.Only.foldl | apply State.Only.foldl2 | apply State.Only.foldl3 | apply State.Only.foldl1
          | exact State.Only.yes rfl)
      | exact Has.sub ‹_› (by decide +kernel) | exact Has.bit ‹_› (by decide +kernel)
      | exact State.Only.fam ‹_› (by decide) (by decide) (by decide +kernel)
      | exact State.Only.fam1 ‹_› (by decide) (by decide +kernel) | intro _ _ _ _; rfl
      | exact State.Only.no (Has.bit ‹_› (by decide +kernel)) | intro _ | (dsimp only) | split
      | fail_if_no_progress (with_reducible apply State.Only.upd) | exact List.prefix_refl _ | exact List.prefix_append _ _
      | exact id | rfl
  | succ n ih => unfold State.csaFlush; (try dsimp only); repeat' first
      | (with_reducible first
          | assumption | apply ih | apply State.take_only | apply State.send_only | apply State.Only.ite
          | apply State.Only.foldl | apply State.Only.foldl2 | apply State.Only.foldl3 | apply State.Only.foldl1
          | exact State.Only.yes rfl)
      | exact Has.sub ‹_› (by decide +kernel) | exact Has.bit ‹_› (by decide +kernel)
      | exact State.Only.fam ‹_› (by decide) (by decide) (by decide +kernel)
      | exact State.Only.fam1 ‹_› (by decide) (by decide +kernel) | intro _ _ _ _; rfl
      | exact State.Only.no (Has.bit ‹_› (by decide +kernel)) | intro _ | (dsimp only) | split
      | fail_if_no_progress (with_reducible apply State.Only.upd) | exact List.prefix_refl _ | exact List.prefix_append _ _
      | exact id | rfl
theorem State.csaReadGo_only {s0 s : State} {b : Nat} {cmd : HubCmd} (h_s : s0.Only l s) (hl : Has l [.num 4, .num 7, .mortar,
    .csa]) : s0.Only l (State.csaReadGo s b cmd) := by
  unfold State.csaReadGo
  repeat' first
      | (with_reducible first
          | assumption | apply State.readAll_only | apply State.csaEnd_only | apply State.csaFlush_only | apply State.Only.ite)
      | exact Has.sub ‹_› (by decide +kernel)
theorem State.csaRespaceGo_only {s0 s : State} {b : Nat} {cmd : HubCmd} (h_s : s0.Only l s) (hl : Has l [.num 4, .num 7,
    .mortar, .csa, .hbm]) : s0.Only l (State.csaRespaceGo s b cmd) := by
  unfold State.csaRespaceGo
  repeat' first
      | (with_reducible first
          | assumption | apply State.inc64_only | apply State.genUp_only | apply State.putEntry_only | apply State.readAll_only
          | apply State.csaEnd_only | apply State.Only.ite | apply State.Only.foldl)
      | exact Has.sub ‹_› (by decide +kernel) | exact State.Only.fam ‹_› (by decide) (by decide) (by decide +kernel) | intro _
theorem State.csaClearGo_only {s0 s : State} {b : Nat} {cmd : HubCmd} (h_s : s0.Only l s) (hl : Has l [.num 7, .csa, .hbm]) :
    s0.Only l (State.csaClearGo s b cmd) := by
  unfold State.csaClearGo
  repeat' first
      | (with_reducible first | assumption | apply State.setCsaBank_only | apply State.startClearing_only)
      | exact Has.sub ‹_› (by decide +kernel)
theorem State.csaRecords_only {s0 : State} {b : Nat} {c : CsaCmd} {per x0 : Nat} {x1 : State} {x2 : CsaRun} (h_x1 : s0.Only l
    x1) (hl : Has l [.num 7, .csa, .hbm]) : s0.Only l (State.csaRecords b c per x0 x1 x2).2.2 := by
  induction x0 generalizing x1 x2 with
  | zero => unfold State.csaRecords; (try dsimp only); repeat' first
      | (with_reducible first
          | assumption | apply ih | apply State.take_only | apply State.applyRecord_only | apply State.Only.ite
          | apply State.Only.foldl | apply State.Only.foldl2 | apply State.Only.foldl3 | apply State.Only.foldl1
          | exact State.Only.yes rfl)
      | exact Has.sub ‹_› (by decide +kernel) | exact Has.bit ‹_› (by decide +kernel)
      | exact State.Only.fam ‹_› (by decide) (by decide) (by decide +kernel)
      | exact State.Only.fam1 ‹_› (by decide) (by decide +kernel) | intro _ _ _ _; rfl
      | exact State.Only.no (Has.bit ‹_› (by decide +kernel)) | intro _ | (dsimp only) | split
      | fail_if_no_progress (with_reducible apply State.Only.upd) | exact List.prefix_refl _ | exact List.prefix_append _ _
      | exact id | rfl
  | succ n ih => unfold State.csaRecords; (try dsimp only); repeat' first
      | (with_reducible first
          | assumption | apply ih | apply State.take_only | apply State.applyRecord_only | apply State.Only.ite
          | apply State.Only.foldl | apply State.Only.foldl2 | apply State.Only.foldl3 | apply State.Only.foldl1
          | exact State.Only.yes rfl)
      | exact Has.sub ‹_› (by decide +kernel) | exact Has.bit ‹_› (by decide +kernel)
      | exact State.Only.fam ‹_› (by decide) (by decide) (by decide +kernel)
      | exact State.Only.fam1 ‹_› (by decide) (by decide +kernel) | intro _ _ _ _; rfl
      | exact State.Only.no (Has.bit ‹_› (by decide +kernel)) | intro _ | (dsimp only) | split
      | fail_if_no_progress (with_reducible apply State.Only.upd) | exact List.prefix_refl _ | exact List.prefix_append _ _
      | exact id | rfl
theorem State.csaArrives_only {s0 s : State} {b brick : Nat} {l_ : List Elem} {last : Bool} (h_s : s0.Only l s) (hl : Has l
    [.num 4, .num 7, .mortar, .csa, .hbm]) : s0.Only l (State.csaArrives s b brick l_ last) := by
  unfold State.csaArrives
  repeat' first
      | (with_reducible first
          | assumption | apply State.setCsaBank_only | apply State.dropData_only | apply State.csaEnd_only
          | apply State.csaFlush_only | apply State.csaRecords_only | apply State.Only.ite)
      | exact Has.sub ‹_› (by decide +kernel) | (dsimp only) | split
theorem State.bankSetWritten_only {s0 s : State} {c new : Nat} (h_s : s0.Only l s) (hl : Has l [.num 3, .num 7, .csa, .hbm]) :
    s0.Only l (State.bankSetWritten s c new) := by
  unfold State.bankSetWritten
  repeat' first
      | (with_reducible first
          | assumption | apply State.setNum_only | apply State.setCsaBank_only | apply State.startClearing_only
          | apply State.Only.ite | apply State.Only.foldl)
      | exact Has.sub ‹_› (by decide +kernel) | exact State.Only.fam ‹_› (by decide) (by decide) (by decide +kernel) | intro _
theorem State.bankConfig_only {s0 s : State} {key b v : Nat} (h_s : s0.Only l s) (hl : Has l [.csa, .hbm]) (t_obj : ∀ i, l
    (.num i) = true) : s0.Only l (State.bankConfig s key b v) := by
  unfold State.bankConfig
  repeat' first
      | (with_reducible first | assumption | apply State.setNum_only | apply State.startClearing_only | apply State.Only.ite)
      | exact Has.all ‹_› t_obj (by decide +kernel) | exact t_obj _
theorem State.holeWritten_only {s0 s : State} {b v : Nat} (h_s : s0.Only l s) (hl : Has l [.num 7, .csa, .hbm]) : s0.Only l
    (State.holeWritten s b v) := by
  unfold State.holeWritten
  repeat' first
      | (with_reducible first | assumption | apply State.setNum_only | apply State.putHeader_only)
      | exact Has.sub ‹_› (by decide +kernel) | exact State.Only.fam ‹_› (by decide) (by decide) (by decide +kernel)
theorem State.scrubMismatch_only {s0 s : State} {b u : Nat} (h_s : s0.Only l s) (hl : Has l [.num 1, .num 7, .num 11, .faults,
    .csa, .shore]) : s0.Only l (State.scrubMismatch s b u) := by
  unfold State.scrubMismatch
  repeat' first
      | (with_reducible first
          | assumption | apply State.setNum_only | apply State.inc32_only | apply State.setSticky_only | apply State.event_only
          | apply State.setCsaBank_only | apply State.csaFail_only | apply State.Only.ite)
      | exact Has.sub ‹_› (by decide +kernel) | exact Has.bit ‹_› (by decide +kernel)
      | exact State.Only.fam ‹_› (by decide) (by decide) (by decide +kernel)
theorem State.rewriteImages_only {s0 s : State} {b u : Nat} (h_s : s0.Only l s) (hl : Has l [.csa, .hbm]) : s0.Only l
    (State.rewriteImages s b u) := by
  unfold State.rewriteImages
  repeat' first
      | (with_reducible first | assumption | apply State.shadowWords_only | apply State.Only.ite)
      | exact Has.sub ‹_› (by decide +kernel) | exact Has.bit ‹_› (by decide +kernel) | (dsimp only) | split
      | fail_if_no_progress (with_reducible apply State.Only.upd_csa)
theorem State.scrubAt_only {s0 s : State} {b u : Nat} (h_s : s0.Only l s) (hl : Has l [.num 1, .num 5, .num 7, .num 11,
    .faults, .csa, .hbm, .shore]) : s0.Only l (State.scrubAt s b u) := by
  unfold State.scrubAt
  repeat' first
      | (with_reducible first
          | assumption | apply State.inc32_only | apply State.setSticky_only | apply State.event_only
          | apply State.readLines_only | apply State.setCsaBank_only | apply State.putImage_only | apply State.readWord_only
          | apply State.scrubMismatch_only | apply State.rewriteImages_only | apply State.Only.ite | apply State.Only.foldl)
      | exact Has.sub ‹_› (by decide +kernel) | exact Has.bit ‹_› (by decide +kernel) | intro _ | (dsimp only) | split
      | fail_if_no_progress (with_reducible apply State.Only.upd_csa)
theorem State.scrubNext_only {s0 s : State} {b u : Nat} (h_s : s0.Only l s) (hl : Has l [.num 7, .csa]) : s0.Only l
    (State.scrubNext s b u) := by
  unfold State.scrubNext
  repeat' first
      | (with_reducible first
          | assumption | apply State.setNum_only | apply State.inc64_only | apply State.setCsaBank_only | apply State.Only.ite)
      | exact Has.sub ‹_› (by decide +kernel) | exact Has.bit ‹_› (by decide +kernel)
theorem State.unitsWritten_only {s0 s : State} {v : Nat} (h_s : s0.Only l s) (hl : Has l [.num 7, .csa]) : s0.Only l
    (State.unitsWritten s v) := by
  unfold State.unitsWritten
  repeat' first
      | (with_reducible first | assumption | apply State.setNum_only | apply State.scrubAccounts_only)
      | exact Has.bit ‹_› (by decide +kernel) | (dsimp only) | split
      | fail_if_no_progress (with_reducible apply State.Only.upd_csa)

/-! ### Tick -/

theorem State.tickCounts_only {s0 s : State} {n : Nat} (h_s : s0.Only l s) (hl : Has l [.num 3, .num 7, .num 10]) : s0.Only l
    (State.tickCounts s n) := by
  unfold State.tickCounts
  repeat' first
      | (with_reducible first | assumption | apply State.inc64_only | apply State.Only.ite)
      | exact Has.bit ‹_› (by decide +kernel)
theorem State.drift_only {s0 s : State} (h_s : s0.Only l s) (hl : Has l [.tide]) : s0.Only l (State.drift s) := by
  unfold State.drift
  repeat' first
      | (with_reducible first | assumption | apply State.Only.ite) | exact Has.bit ‹_› (by decide +kernel) | (dsimp only)
      | fail_if_no_progress (with_reducible apply State.Only.upd_tide)
theorem State.closeWindows_only {s0 s : State} (h_s : s0.Only l s) (hl : Has l [.num 9, .coast, .out]) : s0.Only l
    (State.closeWindows s) := by
  unfold State.closeWindows
  repeat' first
      | (with_reducible first
          | assumption | apply State.setPort_only | apply State.transmit_only | apply State.Only.ite | apply State.Only.foldl)
      | exact Has.sub ‹_› (by decide +kernel) | intro _ | (dsimp only) | split
theorem State.releaseHeld_only {s0 s : State} (h_s : s0.Only l s) (hl : Has l [.num 4, .mortar, .hbm, .out]) : s0.Only l
    (State.releaseHeld s) := by
  unfold State.releaseHeld
  repeat' first
      | (with_reducible first
          | assumption | apply State.inject_only | apply State.Only.ite | apply State.Only.foldl | exact State.Only.yes rfl)
      | exact Has.sub ‹_› (by decide +kernel) | exact Has.bit ‹_› (by decide +kernel) | intro _ | (dsimp only)
      | fail_if_no_progress (with_reducible apply State.Only.upd_hbm)
      | fail_if_no_progress (with_reducible apply State.Only.upd_out)
theorem State.tclk_only {s0 s : State} {n : Nat} (h_s : s0.Only l s) (hl : Has l [.num 1, .num 3, .num 4, .num 5, .num 7, .num
    8, .num 9, .num 10, .num 11, .num 14, .tide, .reg, .faults, .wall, .mortar, .tables, .sel, .csa, .hbm, .egs, .coast,
    .sched, .host, .shore, .power, .pins, .out, .device, .run, .mem, .slots]) : s0.Only l (State.tclk s n) := by
  unfold State.tclk
  repeat' first
      | (with_reducible first
          | assumption | apply State.pinTick_only | apply State.tearDue_only | apply State.tickCounts_only
          | apply State.drift_only | apply State.closeWindows_only | apply State.releaseHeld_only | apply State.Only.ite
          | apply State.Only.foldl | exact State.Only.yes rfl)
      | exact Has.sub ‹_› (by decide +kernel) | exact Has.bit ‹_› (by decide +kernel) | intro _ _ _ _; rfl
      | exact State.Only.no (Has.bit ‹_› (by decide +kernel)) | intro _ | (dsimp only) | split
      | fail_if_no_progress (with_reducible apply State.Only.upd_tide)
      | fail_if_no_progress (with_reducible apply State.Only.upd) | exact List.prefix_refl _

/-! ### Hbm -/

theorem State.poisoned_only {s0 s : State} {m : Msg} (h_s : s0.Only l s) (hl : Has l [.num 1, .num 4, .num 8, .num 9, .num 11,
    .faults, .wall, .mortar, .tables, .sel, .csa, .egs, .coast, .shore, .out, .sram]) : s0.Only l (State.poisoned s m) := by
  unfold State.poisoned
  repeat' first | (with_reducible first | assumption | apply State.answered_only) | split
theorem State.hbmAnswer_only {s0 s : State} {m : Msg} {waits : Bool} {body : MsgBody} (h_s : s0.Only l s) (hl : Has l [.num 4,
    .mortar, .hbm]) : s0.Only l (State.hbmAnswer s m waits body) := by
  unfold State.hbmAnswer
  repeat' first
      | (with_reducible first | assumption | apply State.send_only | apply State.Only.ite | exact State.Only.yes rfl)
      | exact Has.sub ‹_› (by decide +kernel) | exact Has.bit ‹_› (by decide +kernel) | intro _ | (dsimp only)
      | fail_if_no_progress (with_reducible apply State.Only.upd_hbm)
theorem State.patrolWrite_only {s0 s : State} {a : Nat} {l_ : List Byte} (h_s : s0.Only l s) (hl : Has l [.num 1, .num 5, .num
    11, .faults, .hbm, .shore, .mem]) : s0.Only l (State.patrolWrite s a l_).2 := by
  unfold State.patrolWrite
  repeat' first
      | (with_reducible first | assumption | apply State.hbmPut_only | apply State.memWrite_only)
      | exact Has.sub ‹_› (by decide +kernel) | split

end Sys2Proof.Machine
end

