-- ==== Sys2Proof/Laws/OnlyPorts.lean ====
section
/-!
SUPPORT. What each operation may change, one lemma each, in the order of the model:
resets, the lease, the host port, Coastline, power, the tide, requests and the image.
`F_only` takes a state that comes from `s0` by changes that `l` allows and says the same of the state that F gives, where `l`
allows the parts listed.
-/

namespace Sys2Proof.Machine

set_option Elab.async false
set_option linter.unusedTactic false
set_option linter.unreachableTactic false

variable {l : Part → Bool}

/-! ### Warm -/

theorem State.warmStart_only {s0 s : State} (h_s : s0.Only l s) (hl : Has l [.num 1, .num 3, .num 4, .num 5, .num 7, .num 10,
    .num 11, .num 13, .reg, .faults, .wall, .mortar, .sel, .csa, .hbm, .egs, .sched, .host, .shore, .nv, .power, .out, .device,
    .run, .mem, .slots]) : s0.Only l (State.warmStart s) := by
  unfold State.warmStart
  extract_lets nv s1 s2 c3 s3 heads bank w c4 s4
  have h1 : s0.Only l s1 := State.Only.upd_nv h_s
  clear_value s1
  have h2 : s0.Only l s2 := by
    show s0.Only l (match s1.sched.run with | some r => s1.tearNow r | none => s1)
    split
    · exact State.tearNow_only h1 (hl.sub (by decide +kernel))
    · exact h1
  clear_value s2
  have h3 : s0.Only l s3 := by
    show s0.Only l (match s2.sched.owed with
      | some e => ({ s2 with sched := { s2.sched with owed := none } }).addEntry e | none => s2)
    split
    · exact State.addEntry_only (State.Only.upd_sched h2) (hl.sub (by decide +kernel))
    · exact h2
  clear_value s3
  have h4 : s0.Only l heads := State.Only.foldl h3 (fun t c ht => by
    split
    · exact State.Only.ite ht (State.setCReg_only ht (hl.sub (by decide +kernel)))
    · exact ht)
  clear_value heads
  have hb : ∀ (t : State) (b : Nat), s0.Only l t → s0.Only l (bank t b) := fun t b ht =>
    State.Only.ite (State.scrubAccount_only ht (hl.sub (by decide +kernel))) (State.setCsaBank_only (State.scrubAccount_only ht
        (hl.sub (by decide +kernel))) (hl.sub (by decide +kernel)))
  clear_value bank
  have h6 : s0.Only l w := State.shadowEmpty_only (State.Only.foldl h4 hb) (hl.sub (by decide +kernel))
  clear_value w
  have h7 : s0.Only l s4 := State.Only.upd_sched h6
  clear_value s4
  exact State.ringsFollow_only (State.setSched_only h7 (hl.sub (by decide +kernel))) (hl.sub (by decide +kernel))

/-! ### Lease -/

theorem State.setLease_only {s0 s : State} {st mac : Nat} {deleg : Bool} {reason : Nat} (h_s : s0.Only l s) (hl : Has l [.num
    1, .num 11, .faults, .shore]) : s0.Only l (State.setLease s st mac deleg reason) := by
  unfold State.setLease
  repeat' first
      | (with_reducible first | assumption | apply State.inc32_only | apply State.notify_only)
      | exact Has.bit ‹_› (by decide +kernel) | (dsimp only) | split
      | fail_if_no_progress (with_reducible apply State.Only.upd_shore)
theorem State.setTimer_only {s0 s : State} {ms : Nat} (h_s : s0.Only l s) (hl : Has l [.shore]) : s0.Only l (State.setTimer s
    ms) := by
  unfold State.setTimer
  repeat' first
      | with_reducible assumption | exact Has.bit ‹_› (by decide +kernel) | (dsimp only)
      | fail_if_no_progress (with_reducible apply State.Only.upd_shore)
theorem State.leaseBack_only {s0 s : State} {reason : Nat} (h_s : s0.Only l s) (hl : Has l [.num 1, .num 11, .faults, .shore])
    : s0.Only l (State.leaseBack s reason) := by
  unfold State.leaseBack
  repeat' first
      | (with_reducible first | assumption | apply State.setLease_only | apply State.setTimer_only | apply State.Only.ite)
      | exact Has.sub ‹_› (by decide +kernel)
theorem State.hostResetLease_only {s0 s : State} (h_s : s0.Only l s) (hl : Has l [.num 1, .num 11, .faults, .host, .shore]) :
    s0.Only l (State.hostResetLease s) := by
  unfold State.hostResetLease
  repeat' first
      | (with_reducible first | assumption | apply State.leaseBack_only | apply State.Only.ite | exact State.Only.yes rfl)
      | exact Has.sub ‹_› (by decide +kernel) | intro _ _ _ _; rfl | exact State.Only.no (Has.bit ‹_› (by decide +kernel))
      | intro _ | (dsimp only) | fail_if_no_progress (with_reducible apply State.Only.upd) | exact List.prefix_refl _

/-! ### Host -/

theorem State.bar2Refused_only {s0 s : State} (h_s : s0.Only l s) (hl : Has l [.reg]) : s0.Only l (State.bar2Refused s) := by
  unfold State.bar2Refused
  repeat' (with_reducible first | assumption | apply State.regSet_only)
theorem State.poisonedWrite_only {s0 s : State} (h_s : s0.Only l s) (hl : Has l [.num 3, .reg]) : s0.Only l
    (State.poisonedWrite s) := by
  unfold State.poisonedWrite
  repeat' first
      | (with_reducible first | assumption | apply State.inc32_only | apply State.regSet_only)
      | exact Has.sub ‹_› (by decide +kernel) | exact Has.bit ‹_› (by decide +kernel)
theorem State.accessRefused_only {s0 s : State} (h_s : s0.Only l s) (hl : Has l [.reg]) : s0.Only l (State.accessRefused s) :=
    by
  unfold State.accessRefused
  repeat' (with_reducible first | assumption | apply State.regSet_only)
theorem State.statWrite_only {s0 s : State} (h_s : s0.Only l s) (hl : Has l [.num 11]) : s0.Only l (State.statWrite s) := by
  unfold State.statWrite
  repeat' first | (with_reducible first | assumption | apply State.inc32_only) | exact Has.bit ‹_› (by decide +kernel)
theorem State.bar2Line_only {s0 : State} {x : State × List (Option Byte)} {p : Nat × Nat} (h_x : s0.Only l x.1) (hl : Has l
    [.num 1, .num 5, .num 11, .faults, .hbm, .shore]) : s0.Only l (State.bar2Line x p).1 := by
  unfold State.bar2Line
  repeat' (with_reducible first | assumption | apply State.memRead_only)
theorem State.bar2Part_only {s0 : State} {x : State × List (Option Byte) × Bool} {p : Nat × Nat} (h_x : s0.Only l x.1) (hl :
    Has l [.num 1, .num 5, .num 11, .faults, .hbm, .shore]) : s0.Only l (State.bar2Part x p).1 := by
  unfold State.bar2Part
  repeat' first
      | (with_reducible first | assumption | apply State.bar2Line_only | apply State.Only.foldl1) | intro _ | (dsimp only)
      | split
theorem State.bar2Read_only {s0 s : State} {off n : Nat} (h_s : s0.Only l s) (hl : Has l [.num 1, .num 5, .num 11, .reg,
    .faults, .hbm, .shore, .out]) : s0.Only l (State.bar2Read s off n) := by
  unfold State.bar2Read
  repeat' first
      | (with_reducible first
          | assumption | apply State.emit_only | apply State.bar2Refused_only | apply State.bar2Part_only
          | apply State.Only.ite | apply State.Only.foldl1 | exact State.Only.yes rfl)
      | exact Has.sub ‹_› (by decide +kernel) | exact Has.bit ‹_› (by decide +kernel) | intro _ | (dsimp only) | split
      | fail_if_no_progress (with_reducible apply State.Only.upd_hbm)
theorem State.bar2Write_only {s0 s : State} {off : Nat} {data : List Byte} (h_s : s0.Only l s) (hl : Has l [.num 1, .num 5,
    .num 11, .reg, .faults, .hbm, .shore, .mem]) : s0.Only l (State.bar2Write s off data) := by
  unfold State.bar2Write
  repeat' first
      | (with_reducible first
          | assumption | apply State.memWrite_only | apply State.bar2Refused_only | apply State.Only.ite
          | apply State.Only.foldl1)
      | exact Has.sub ‹_› (by decide +kernel) | intro _ | split
theorem State.bufferFault_only {s0 s : State} (h_s : s0.Only l s) (hl : Has l [.num 1, .num 3, .num 4, .num 5, .num 9, .num 11,
    .num 13, .reg, .faults, .wall, .sel, .csa, .hbm, .egs, .coast, .sched, .host, .shore, .out, .device, .mem]) : s0.Only l
    (State.bufferFault s) := by
  unfold State.bufferFault
  repeat' (with_reducible first | assumption | apply State.deviceStop_only)
theorem State.sqTailWrite_only {s0 s : State} {c v : Nat} (h_s : s0.Only l s) (hl : Has l [.num 1, .num 3, .num 4, .num 5, .num
    8, .num 10, .num 11, .reg, .faults, .wall, .tables, .hbm, .sched, .host, .shore, .power, .out]) : s0.Only l
    (State.sqTailWrite s c v) := by
  unfold State.sqTailWrite
  repeat' first
      | (with_reducible first
          | assumption | apply State.setCReg_only | apply State.cSticky_only | apply State.settle_only | apply State.Only.ite)
      | exact Has.sub ‹_› (by decide +kernel)
theorem State.cqHeadWrite_only {s0 s : State} {c v : Nat} (h_s : s0.Only l s) (hl : Has l [.num 1, .num 3, .num 4, .num 5, .num
    8, .num 10, .num 11, .reg, .faults, .wall, .tables, .hbm, .sched, .host, .shore, .power, .out]) : s0.Only l
    (State.cqHeadWrite s c v) := by
  unfold State.cqHeadWrite
  repeat' first
      | (with_reducible first | assumption | apply State.setCReg_only | apply State.settle_only)
      | exact Has.sub ‹_› (by decide +kernel)
theorem State.cmdRefused_only {s0 s : State} {c : Nat} (h_s : s0.Only l s) (hl : Has l [.reg]) : s0.Only l (State.cmdRefused s
    c) := by
  unfold State.cmdRefused
  repeat' (with_reducible first | assumption | apply State.cSticky_only)
theorem State.cmdEnable_only {s0 s : State} {c : Nat} (h_s : s0.Only l s) (hl : Has l [.num 1, .num 3, .num 4, .num 5, .num 8,
    .num 10, .num 11, .reg, .faults, .wall, .tables, .hbm, .sched, .host, .shore, .power, .out]) : s0.Only l (State.cmdEnable s
    c) := by
  unfold State.cmdEnable
  repeat' first
      | (with_reducible first
          | assumption | apply State.setNum_only | apply State.setCReg_only | apply State.eventIfFree_only
          | apply State.settle_only | apply State.cmdRefused_only | apply State.Only.ite | exact State.Only.yes rfl)
      | exact Has.sub ‹_› (by decide +kernel) | exact Has.bit ‹_› (by decide +kernel)
      | exact State.Only.fam ‹_› (by decide) (by decide) (by decide +kernel) | (dsimp only)
      | fail_if_no_progress (with_reducible apply State.Only.upd_sched)
theorem State.abandonJobs_only {s0 s : State} {c : Nat} (h_s : s0.Only l s) (hl : Has l [.num 3, .num 10, .sched, .power]) :
    s0.Only l (State.abandonJobs s c) := by
  unfold State.abandonJobs
  repeat' first
      | (with_reducible first | assumption | apply State.retireJob_only | apply State.Only.foldl | exact State.Only.yes rfl)
      | exact Has.bit ‹_› (by decide +kernel) | intro _ | (dsimp only)
      | fail_if_no_progress (with_reducible apply State.Only.upd_sched)
theorem State.cmdStop_only {s0 s : State} {c : Nat} (h_s : s0.Only l s) (hl : Has l [.num 1, .num 3, .num 4, .num 5, .num 8,
    .num 10, .num 11, .reg, .faults, .wall, .tables, .hbm, .sched, .host, .shore, .power, .out]) : s0.Only l (State.cmdStop s
    c) := by
  unfold State.cmdStop
  repeat' first
      | (with_reducible first
          | assumption | apply State.setNum_only | apply State.settle_only | apply State.cmdRefused_only
          | apply State.abandonJobs_only | apply State.Only.ite)
      | exact Has.sub ‹_› (by decide +kernel) | exact State.Only.fam ‹_› (by decide) (by decide) (by decide +kernel)
theorem State.cmdDisable_only {s0 s : State} {c : Nat} (h_s : s0.Only l s) (hl : Has l [.num 3, .reg]) : s0.Only l
    (State.cmdDisable s c) := by
  unfold State.cmdDisable
  repeat' first
      | (with_reducible first | assumption | apply State.setNum_only | apply State.cmdRefused_only | apply State.Only.ite)
      | exact Has.sub ‹_› (by decide +kernel) | exact State.Only.fam ‹_› (by decide) (by decide) (by decide +kernel)
theorem State.unhalt_only {s0 s : State} {c : Nat} (h_s : s0.Only l s) (hl : Has l [.num 3]) : s0.Only l (State.unhalt s c) :=
    by
  unfold State.unhalt
  repeat' first
      | (with_reducible first | assumption | apply State.setNum_only | apply State.Only.ite)
      | exact State.Only.fam ‹_› (by decide) (by decide) (by decide +kernel)
theorem State.cmdResume_only {s0 s : State} {c : Nat} (h_s : s0.Only l s) (hl : Has l [.num 1, .num 3, .num 4, .num 5, .num 8,
    .num 10, .num 11, .reg, .faults, .wall, .tables, .hbm, .sched, .host, .shore, .power, .out]) : s0.Only l (State.cmdResume s
    c) := by
  unfold State.cmdResume
  repeat' first
      | (with_reducible first
          | assumption | apply State.eventIfFree_only | apply State.settle_only | apply State.cmdRefused_only
          | apply State.unhalt_only | apply State.Only.ite)
      | exact Has.sub ‹_› (by decide +kernel)
theorem State.cmdResumeFlush_only {s0 s : State} {c : Nat} (h_s : s0.Only l s) (hl : Has l [.num 1, .num 3, .num 4, .num 5,
    .num 8, .num 10, .num 11, .reg, .faults, .wall, .tables, .hbm, .sched, .host, .shore, .power, .out]) : s0.Only l
    (State.cmdResumeFlush s c) := by
  unfold State.cmdResumeFlush
  repeat' first
      | (with_reducible first
          | assumption | apply State.setCReg_only | apply State.eventIfFree_only | apply State.settle_only
          | apply State.cmdRefused_only | apply State.abandonJobs_only | apply State.unhalt_only | apply State.Only.ite
          | exact State.Only.yes rfl)
      | exact Has.sub ‹_› (by decide +kernel) | exact Has.bit ‹_› (by decide +kernel) | (dsimp only)
      | fail_if_no_progress (with_reducible apply State.Only.upd_sched)
theorem State.clientCommand_only {s0 s : State} {c v : Nat} (h_s : s0.Only l s) (hl : Has l [.num 1, .num 3, .num 4, .num 5,
    .num 8, .num 10, .num 11, .reg, .faults, .wall, .tables, .hbm, .sched, .host, .shore, .power, .out]) : s0.Only l
    (State.clientCommand s c v) := by
  unfold State.clientCommand
  repeat' first
      | (with_reducible first
          | assumption | apply State.cmdRefused_only | apply State.cmdEnable_only | apply State.cmdStop_only
          | apply State.cmdDisable_only | apply State.cmdResume_only | apply State.cmdResumeFlush_only | apply State.Only.ite)
      | exact Has.sub ‹_› (by decide +kernel) | split
theorem State.ringConfigWrite_only {s0 s : State} {c v : Nat} (h_s : s0.Only l s) (hl : Has l [.num 11, .reg, .faults]) :
    s0.Only l (State.ringConfigWrite s c v) := by
  unfold State.ringConfigWrite
  repeat' first | (with_reducible first | assumption | apply State.setCReg_only) | exact Has.sub ‹_› (by decide +kernel)
theorem State.pageWrite_only {s0 s : State} {c off v : Nat} (h_s : s0.Only l s) (hl : Has l [.num 1, .num 3, .num 4, .num 5,
    .num 8, .num 10, .num 11, .reg, .faults, .wall, .tables, .hbm, .sched, .host, .shore, .power, .out]) : s0.Only l
    (State.pageWrite s c off v) := by
  unfold State.pageWrite
  repeat' first
      | (with_reducible first
          | assumption | apply State.setCReg_only | apply State.statWrite_only | apply State.sqTailWrite_only
          | apply State.cqHeadWrite_only | apply State.cmdRefused_only | apply State.clientCommand_only
          | apply State.ringConfigWrite_only | apply State.Only.ite)
      | exact Has.sub ‹_› (by decide +kernel)
theorem State.resetRequest_only {s0 s : State} {v : Nat} (h_s : s0.Only l s) (hl : Has l [.num 1, .num 3, .num 4, .num 5, .num
    7, .num 10, .num 11, .num 13, .reg, .faults, .wall, .mortar, .sel, .csa, .hbm, .egs, .sched, .host, .shore, .nv, .power,
    .out, .device, .run, .mem, .slots]) : s0.Only l (State.resetRequest s v) := by
  unfold State.resetRequest
  repeat' first
      | (with_reducible first | assumption | apply State.warmStart_only | apply State.accessRefused_only | apply State.Only.ite)
      | exact Has.sub ‹_› (by decide +kernel)
theorem State.mbDoorbell_only {s0 s : State} {v : Nat} (h_s : s0.Only l s) (hl : Has l [.reg, .host]) : s0.Only l
    (State.mbDoorbell s v) := by
  unfold State.mbDoorbell
  repeat' first
      | (with_reducible first | assumption | apply State.regSet_only | apply State.bar2Refused_only | apply State.Only.ite)
      | exact Has.sub ‹_› (by decide +kernel) | exact Has.bit ‹_› (by decide +kernel) | (dsimp only)
      | fail_if_no_progress (with_reducible apply State.Only.upd_host)
theorem State.bar4Write_only {s0 s : State} {off v : Nat} (h_s : s0.Only l s) (hl : Has l [.num 11, .reg, .host]) : s0.Only l
    (State.bar4Write s off v) := by
  unfold State.bar4Write
  repeat' first
      | (with_reducible first
          | assumption | apply State.regSet_only | apply State.bar2Refused_only | apply State.statWrite_only
          | apply State.mbDoorbell_only | apply State.Only.ite)
      | exact Has.sub ‹_› (by decide +kernel) | exact Has.bit ‹_› (by decide +kernel) | (dsimp only)
      | fail_if_no_progress (with_reducible apply State.Only.upd_host)
theorem State.msixWrite_only {s0 s : State} {off v : Nat} (h_s : s0.Only l s) (hl : Has l [.reg, .host]) : s0.Only l
    (State.msixWrite s off v) := by
  unfold State.msixWrite
  repeat' first
      | (with_reducible first | assumption | apply State.regSet_only | apply State.raiseVector_only | apply State.Only.ite)
      | exact Has.sub ‹_› (by decide +kernel) | exact Has.bit ‹_› (by decide +kernel) | (dsimp only) | split
      | fail_if_no_progress (with_reducible apply State.Only.upd_host)
theorem State.globalWrite_only {s0 s : State} {off v : Nat} (h_s : s0.Only l s) (hl : Has l [.num 1, .num 3, .num 4, .num 5,
    .num 7, .num 10, .num 11, .num 13, .reg, .faults, .wall, .mortar, .sel, .csa, .hbm, .egs, .sched, .host, .shore, .nv,
    .power, .out, .device, .run, .mem, .slots]) : s0.Only l (State.globalWrite s off v) := by
  unfold State.globalWrite
  repeat' first
      | (with_reducible first
          | assumption | apply State.regSet_only | apply State.updTailWrite_only | apply State.statWrite_only
          | apply State.resetRequest_only | apply State.Only.ite)
      | exact Has.sub ‹_› (by decide +kernel) | exact Has.bit ‹_› (by decide +kernel) | (dsimp only)
      | fail_if_no_progress (with_reducible apply State.Only.upd_egs)
theorem State.bar0Write4_only {s0 s : State} {off v : Nat} (h_s : s0.Only l s) (hl : Has l [.num 1, .num 3, .num 4, .num 5,
    .num 7, .num 8, .num 10, .num 11, .num 13, .reg, .faults, .wall, .mortar, .tables, .sel, .csa, .hbm, .egs, .sched, .host,
    .shore, .nv, .power, .out, .device, .run, .mem, .slots]) : s0.Only l (State.bar0Write4 s off v) := by
  unfold State.bar0Write4
  repeat' first
      | (with_reducible first
          | assumption | apply State.pageWrite_only | apply State.msixWrite_only | apply State.globalWrite_only
          | apply State.Only.ite)
      | exact Has.sub ‹_› (by decide +kernel)
theorem State.barWrite_only {s0 s : State} {bar off size v : Nat} {poisoned : Bool} (h_s : s0.Only l s) (hl : Has l [.num 1,
    .num 3, .num 4, .num 5, .num 7, .num 8, .num 9, .num 10, .num 11, .num 13, .reg, .faults, .wall, .mortar, .tables, .sel,
    .csa, .hbm, .egs, .coast, .sched, .host, .shore, .nv, .power, .out, .device, .sram, .run, .mem, .slots]) : s0.Only l
    (State.barWrite s bar off size v poisoned) := by
  unfold State.barWrite
  repeat' first
      | (with_reducible first
          | assumption | apply State.poisonedWrite_only | apply State.accessRefused_only | apply State.statWrite_only
          | apply State.bar4Write_only | apply State.bar0Write4_only | apply State.Only.ite)
      | exact Has.sub ‹_› (by decide +kernel)
theorem State.barRead_only {s0 s : State} {bar off size : Nat} (h_s : s0.Only l s) (hl : Has l [.reg, .out]) : s0.Only l
    (State.barRead s bar off size) := by
  unfold State.barRead
  repeat' first
      | (with_reducible first
          | assumption | apply State.regSet_only | apply State.emit_only | apply State.bar2Refused_only
          | apply State.accessRefused_only | apply State.Only.ite)
      | exact Has.sub ‹_› (by decide +kernel)
theorem State.hostReset_only {s0 s : State} {kind : Nat} (h_s : s0.Only l s) (hl : Has l [.num 1, .num 3, .num 4, .num 5, .num
    8, .num 10, .num 11, .reg, .faults, .wall, .tables, .hbm, .sched, .host, .shore, .power, .out, .run]) : s0.Only l
    (State.hostReset s kind) := by
  unfold State.hostReset
  have h1 : s0.Only l ((s.inc32 Obj.HOST_RESETS 1).event 0x0A02 8 kind 0).hostResetLease :=
    State.hostResetLease_only (State.event_only (State.inc32_only h_s
          (by first | exact hl.bit (by decide +kernel) | exact State.Only.fam hl (by decide) (by decide) (by decide +kernel) | exact State.Only.fam1 hl (by decide) (by decide +kernel))) (hl.sub (by decide +kernel))) (hl.sub (by decide +kernel))
  generalize ((s.inc32 Obj.HOST_RESETS 1).event 0x0A02 8 kind 0).hostResetLease = s1 at h1 ⊢
  dsimp only
  refine State.settle_only (State.lullFollows_only ?_ (hl.sub (by decide +kernel))) (hl.sub (by decide +kernel))
  have h2 : ∀ h c, s0.Only l { s1 with
    reg := s1.reg.filter (fun p => p.1 == 0x44 || decide (0x10000 ≤ p.1))
    obj := s1.obj.filter (fun p => !(decide (0x3101 ≤ keyIndex p.1) && decide (keyIndex p.1 ≤ 0x313F) && keySub p.1 == 0x11))
    host := h, sched := c } := fun h c => State.Only.upd h1 (fun i hi k hk => Store.get_filter_of fun v => by
      simp only [keyIndex, Bool.not_eq_true', Bool.and_eq_false_imp, Bool.and_eq_true, decide_eq_true_eq]
      rintro ⟨a, b⟩
      replace a := of_decide_eq_true a
      replace b := of_decide_eq_true b
      have e : i = 3 := by omega
      subst e; rw [hl.bit (by decide +kernel)] at hi; cases hi) (State.Only.yes rfl) (State.Only.yes rfl) (State.Only.yes rfl)
          (State.Only.yes rfl) (State.Only.no (Has.bit ‹_› (by decide +kernel))) (State.Only.yes rfl) (State.Only.yes rfl)
          (State.Only.yes rfl) (State.Only.yes rfl) (State.Only.yes rfl) (State.Only.yes rfl) (State.Only.yes rfl)
          (State.Only.yes rfl) (State.Only.yes rfl) (State.Only.no (Has.bit ‹_› (by decide +kernel))) (State.Only.no (Has.bit
          ‹_› (by decide +kernel))) (State.Only.yes rfl) (State.Only.yes rfl) (State.Only.yes rfl) (State.Only.yes rfl)
          (State.Only.yes rfl) (State.Only.yes rfl) (State.Only.yes rfl) (State.Only.no (Has.bit ‹_› (by decide +kernel)))
          (State.Only.yes rfl) (State.Only.yes rfl) id rfl (List.prefix_refl _)
  repeat' first
      | exact h2 _ _ | with_reducible apply State.Only.ite | with_reducible apply State.setNum_only
      | with_reducible apply State.selectionEvent_only | with_reducible apply State.setSched_only | assumption
      | exact hl.sub (by decide +kernel) | exact hl.bit (by decide +kernel)
theorem State.msixSend_only {s0 s : State} {v : Nat} (h_s : s0.Only l s) (hl : Has l [.num 3, .host, .out]) : s0.Only l
    (State.msixSend s v) := by
  unfold State.msixSend
  repeat' first
      | (with_reducible first | assumption | apply State.inc64_only | apply State.emit_only | apply State.Only.ite)
      | exact Has.sub ‹_› (by decide +kernel) | exact Has.bit ‹_› (by decide +kernel) | (dsimp only) | split
      | fail_if_no_progress (with_reducible apply State.Only.upd_host)

/-! ### EgsCmds -/

theorem State.listIn_only {s0 s : State} {e brick msgTag : Nat} {data : List Byte} (h_s : s0.Only l s) (hl : Has l [.num 1,
    .num 4, .num 5, .num 6, .num 11, .faults, .mortar, .hbm, .egs, .shore, .mem]) : s0.Only l (State.listIn s e brick msgTag
    data) := by
  unfold State.listIn
  repeat' first
      | (with_reducible first
          | assumption | apply State.setEgsWork_only | apply State.listIssue_only | apply State.lookupSort_only
          | apply State.updateSort_only | apply State.Only.ite)
      | exact Has.sub ‹_› (by decide +kernel) | (dsimp only) | split
theorem State.rowFetched_only {s0 s : State} {e tag row : Nat} (h_s : s0.Only l s) (hl : Has l [.num 1, .num 4, .num 5, .num 6,
    .num 9, .num 11, .faults, .mortar, .hbm, .egs, .coast, .host, .shore, .out, .mem]) : s0.Only l (State.rowFetched s e tag
    row) := by
  unfold State.rowFetched
  repeat' first
      | (with_reducible first | assumption | apply State.lookupRow_only | apply State.updateRow_only | apply State.Only.ite)
      | split
theorem State.sketchDecay_only {s0 s : State} (h_s : s0.Only l s) (hl : Has l [.egs]) : s0.Only l (State.sketchDecay s) := by
  unfold State.sketchDecay
  repeat' first
      | with_reducible assumption | exact Has.bit ‹_› (by decide +kernel) | (dsimp only)
      | fail_if_no_progress (with_reducible apply State.Only.upd_egs)

/-! ### Coast -/

theorem State.abortLaunch_only {s0 s : State} {l_ : Launch} {reason : Nat} (h_s : s0.Only l s) (hl : Has l [.num 9, .coast,
    .out]) : s0.Only l (State.abortLaunch s l_ reason) := by
  unfold State.abortLaunch
  repeat' first
      | (with_reducible first | assumption | apply State.respond_only | apply State.Only.foldl)
      | exact Has.bit ‹_› (by decide +kernel) | intro _ | (dsimp only)
      | fail_if_no_progress (with_reducible apply State.Only.upd_coast)
theorem State.lost_only {s0 s : State} {d : Nat} (h_s : s0.Only l s) (hl : Has l [.num 1, .num 3, .num 4, .num 5, .num 6, .num
    9, .num 10, .num 11, .reg, .faults, .mortar, .hbm, .egs, .coast, .sched, .shore, .power, .out, .mem]) : s0.Only l
    (State.lost s d) := by
  unfold State.lost
  repeat' first
      | (with_reducible first
          | assumption | apply State.setNum_only | apply State.eventNote_only | apply State.holdCheck_only
          | apply State.lookupsLost_only | apply State.abortLaunch_only | apply State.Only.ite | apply State.Only.foldl)
      | exact Has.sub ‹_› (by decide +kernel) | exact Has.bit ‹_› (by decide +kernel) | intro _
theorem State.reachCheck_only {s0 s : State} (h_s : s0.Only l s) (hl : Has l [.num 1, .num 3, .num 4, .num 5, .num 6, .num 8,
    .num 9, .num 10, .num 11, .reg, .faults, .wall, .mortar, .tables, .hbm, .egs, .coast, .sched, .host, .shore, .power, .out,
    .mem]) : s0.Only l (State.reachCheck s) := by
  unfold State.reachCheck
  repeat' first
      | (with_reducible first
          | assumption | apply State.settle_only | apply State.lost_only | apply State.Only.ite | apply State.Only.foldl)
      | exact Has.sub ‹_› (by decide +kernel) | intro _ | split
theorem State.reached_only {s0 s : State} {d : Nat} (h_s : s0.Only l s) (hl : Has l [.num 9]) : s0.Only l (State.reached s d)
    := by
  unfold State.reached
  repeat' first
      | (with_reducible first | assumption | apply State.setNum_only | apply State.Only.ite)
      | exact Has.bit ‹_› (by decide +kernel) | split
theorem State.adoptEpoch_only {s0 s : State} {d e : Nat} (h_s : s0.Only l s) (hl : Has l [.coast]) : s0.Only l
    (State.adoptEpoch s d e) := by
  unfold State.adoptEpoch
  repeat' (with_reducible first | assumption | apply State.setMember_only | apply State.Only.ite)
theorem State.sendProbe_only {s0 s : State} {d : Nat} (h_s : s0.Only l s) (hl : Has l [.num 9, .coast, .out]) : s0.Only l
    (State.sendProbe s d) := by
  unfold State.sendProbe
  repeat' first
      | (with_reducible first | assumption | apply State.setMember_only | apply State.post_only | apply State.Only.ite)
      | exact Has.sub ‹_› (by decide +kernel) | (dsimp only) | split
theorem State.trainPort_only {s0 s : State} {p : Nat} (h_s : s0.Only l s) (hl : Has l [.num 9, .coast]) : s0.Only l
    (State.trainPort s p) := by
  unfold State.trainPort
  repeat' first
      | (with_reducible first | assumption | apply State.setNum_only | apply State.setPort_only)
      | exact Has.sub ‹_› (by decide +kernel) | exact State.Only.fam ‹_› (by decide) (by decide) (by decide +kernel)
theorem State.miswire_only {s0 s : State} {p : Nat} (h_s : s0.Only l s) (hl : Has l [.num 1, .num 9, .num 11, .faults, .shore])
    : s0.Only l (State.miswire s p) := by
  unfold State.miswire
  repeat' first
      | (with_reducible first | assumption | apply State.setNum_only | apply State.setSticky_only | apply State.eventNote_only)
      | exact Has.sub ‹_› (by decide +kernel) | exact State.Only.fam ‹_› (by decide) (by decide) (by decide +kernel)
theorem State.portFails_only {s0 s : State} {p : Nat} (h_s : s0.Only l s) (hl : Has l [.num 1, .num 9, .num 11, .faults,
    .shore]) : s0.Only l (State.portFails s p) := by
  unfold State.portFails
  repeat' first
      | (with_reducible first | assumption | apply State.setNum_only | apply State.setSticky_only | apply State.eventNote_only)
      | exact Has.sub ‹_› (by decide +kernel) | exact State.Only.fam ‹_› (by decide) (by decide) (by decide +kernel)
theorem State.disablePort_only {s0 s : State} {p : Nat} (h_s : s0.Only l s) (hl : Has l [.num 9, .coast]) : s0.Only l
    (State.disablePort s p) := by
  unfold State.disablePort
  repeat' first
      | (with_reducible first | assumption | apply State.setNum_only | apply State.setPort_only)
      | exact Has.sub ‹_› (by decide +kernel) | exact State.Only.fam ‹_› (by decide) (by decide) (by decide +kernel)
theorem State.trainPorts_only {s0 s : State} {ps : List Nat} (h_s : s0.Only l s) (hl : Has l [.num 1, .num 9, .num 11, .faults,
    .coast, .shore]) : s0.Only l (State.trainPorts s ps) := by
  unfold State.trainPorts
  repeat' first
      | (with_reducible first
          | assumption | apply State.setNum_only | apply State.trainPort_only | apply State.miswire_only | apply State.Only.ite
          | apply State.Only.foldl)
      | exact Has.sub ‹_› (by decide +kernel) | exact State.Only.fam ‹_› (by decide) (by decide) (by decide +kernel) | intro _
theorem State.portComesUp_only {s0 s : State} {p lanes : Nat} (h_s : s0.Only l s) (hl : Has l [.num 9, .coast, .out]) : s0.Only
    l (State.portComesUp s p lanes) := by
  unfold State.portComesUp
  repeat' first
      | (with_reducible first | assumption | apply State.setNum_only | apply State.transmit_only | apply State.updPump_only)
      | exact State.Only.fam ‹_› (by decide) (by decide) (by decide +kernel)
theorem State.identIn_only {s0 s : State} {p : Nat} {i : Ident} {lanes : Nat} (h_s : s0.Only l s) (hl : Has l [.num 1, .num 3,
    .num 4, .num 5, .num 6, .num 8, .num 9, .num 10, .num 11, .reg, .faults, .wall, .mortar, .tables, .hbm, .egs, .coast,
    .sched, .host, .shore, .power, .out, .mem]) : s0.Only l (State.identIn s p i lanes) := by
  unfold State.identIn
  repeat' first
      | (with_reducible first
          | assumption | apply State.setNum_only | apply State.reachCheck_only | apply State.adoptEpoch_only
          | apply State.miswire_only | apply State.portComesUp_only | apply State.Only.ite)
      | exact Has.sub ‹_› (by decide +kernel) | exact State.Only.fam ‹_› (by decide) (by decide) (by decide +kernel)
theorem State.badControl_only {s0 s : State} {p : Nat} (h_s : s0.Only l s) (hl : Has l [.num 9]) : s0.Only l (State.badControl
    s p) := by
  unfold State.badControl
  repeat' first
      | (with_reducible first | assumption | apply State.inc32_only)
      | exact State.Only.fam ‹_› (by decide) (by decide) (by decide +kernel)
theorem State.ackIn_only {s0 s : State} {p ack : Nat} (h_s : s0.Only l s) (hl : Has l [.coast]) : s0.Only l (State.ackIn s p
    ack) := by
  unfold State.ackIn
  repeat' (with_reducible first | assumption | apply State.setPort_only | apply State.Only.ite)
theorem State.messageIn_only {s0 s : State} {p k : Nat} {l_ : List Byte} (h_s : s0.Only l s) (hl : Has l [.coast]) : s0.Only l
    (State.messageIn s p k l_) := by
  unfold State.messageIn
  repeat' first
      | (with_reducible first | assumption | apply State.freedOne_only | apply State.Only.ite)
      | exact Has.bit ‹_› (by decide +kernel) | (dsimp only) | fail_if_no_progress (with_reducible apply State.Only.upd_coast)
theorem State.flitAccepted_only {s0 s : State} {p : Nat} {f : Flit} (h_s : s0.Only l s) (hl : Has l [.num 9, .coast]) : s0.Only
    l (State.flitAccepted s p f) := by
  unfold State.flitAccepted
  repeat' first
      | (with_reducible first
          | assumption | apply State.inc64_only | apply State.setPort_only | apply State.messageIn_only | apply State.Only.ite)
      | exact Has.sub ‹_› (by decide +kernel) | exact State.Only.fam ‹_› (by decide) (by decide) (by decide +kernel)
theorem State.flitIn_only {s0 s : State} {p : Nat} {f : Flit} (h_s : s0.Only l s) (hl : Has l [.num 9, .coast]) : s0.Only l
    (State.flitIn s p f) := by
  unfold State.flitIn
  repeat' first
      | (with_reducible first
          | assumption | apply State.setPort_only | apply State.ackIn_only | apply State.flitAccepted_only
          | apply State.Only.ite)
      | exact Has.sub ‹_› (by decide +kernel)
theorem State.replayFrom_only {s0 s : State} {p seq : Nat} (h_s : s0.Only l s) (hl : Has l [.num 9, .coast, .out]) : s0.Only l
    (State.replayFrom s p seq) := by
  unfold State.replayFrom
  repeat' first
      | (with_reducible first
          | assumption | apply State.inc32_only | apply State.inc64_only | apply State.emit_only | apply State.setPort_only
          | apply State.Only.foldl)
      | exact Has.sub ‹_› (by decide +kernel) | exact State.Only.fam ‹_› (by decide) (by decide) (by decide +kernel) | intro _
theorem State.creditIn_only {s0 s : State} {p : Nat} {c : CreditAck} (h_s : s0.Only l s) (hl : Has l [.num 9, .coast, .out]) :
    s0.Only l (State.creditIn s p c) := by
  unfold State.creditIn
  repeat' first
      | (with_reducible first
          | assumption | apply State.setPort_only | apply State.transmit_only | apply State.ackIn_only
          | apply State.replayFrom_only)
      | exact Has.sub ‹_› (by decide +kernel) | (dsimp only) | split
theorem State.controlOut_only {s0 s : State} {p : Nat} (h_s : s0.Only l s) (hl : Has l [.coast, .out]) : s0.Only l
    (State.controlOut s p) := by
  unfold State.controlOut
  repeat' first
      | (with_reducible first | assumption | apply State.emit_only | apply State.setPort_only | apply State.Only.ite)
      | exact Has.sub ‹_› (by decide +kernel)
theorem State.skipIn_only {s0 s : State} {p : Nat} {errors : List Nat} (h_s : s0.Only l s) (hl : Has l [.oct, .coast]) :
    s0.Only l (State.skipIn s p errors) := by
  unfold State.skipIn
  repeat' first
      | (with_reducible first | assumption | apply State.setOcts_only | apply State.setPort_only | apply State.Only.foldl)
      | exact Has.sub ‹_› (by decide +kernel) | intro _
theorem State.retrain_only {s0 s : State} {p lanes : Nat} (h_s : s0.Only l s) (hl : Has l [.num 1, .num 3, .num 4, .num 5, .num
    6, .num 8, .num 9, .num 10, .num 11, .reg, .faults, .wall, .mortar, .tables, .hbm, .egs, .coast, .sched, .host, .shore,
    .power, .out, .mem]) : s0.Only l (State.retrain s p lanes) := by
  unfold State.retrain
  repeat' first
      | (with_reducible first
          | assumption | apply State.setNum_only | apply State.inc32_only | apply State.setSticky_only
          | apply State.setPort_only | apply State.reachCheck_only)
      | exact Has.sub ‹_› (by decide +kernel) | exact State.Only.fam ‹_› (by decide) (by decide) (by decide +kernel)
theorem State.retrained_only {s0 s : State} {p lanes : Nat} (h_s : s0.Only l s) (hl : Has l [.num 1, .num 3, .num 4, .num 5,
    .num 6, .num 8, .num 9, .num 10, .num 11, .reg, .faults, .wall, .mortar, .tables, .hbm, .egs, .coast, .sched, .host,
    .shore, .power, .out, .mem]) : s0.Only l (State.retrained s p lanes) := by
  unfold State.retrained
  repeat' first
      | (with_reducible first
          | assumption | apply State.setSticky_only | apply State.event_only | apply State.eventNote_only
          | apply State.setPort_only | apply State.reachCheck_only | apply State.portFails_only | apply State.portComesUp_only
          | apply State.Only.ite)
      | exact Has.sub ‹_› (by decide +kernel) | exact State.Only.fam ‹_› (by decide) (by decide) (by decide +kernel)
theorem State.forward_only {s0 s : State} {m : CoastMsg} (h_s : s0.Only l s) (hl : Has l [.num 9, .coast, .out]) : s0.Only l
    (State.forward s m) := by
  unfold State.forward
  repeat' first
      | (with_reducible first
          | assumption | apply State.inc32_only | apply State.enqueue_only | apply State.respond_only
          | apply State.unbuffer_only | apply State.discardUpd_only)
      | exact Has.sub ‹_› (by decide +kernel) | exact Has.bit ‹_› (by decide +kernel) | (dsimp only) | split
      | fail_if_no_progress (with_reducible apply State.Only.upd_coast)
theorem State.posted_only {s0 s : State} {m : CoastMsg} {k : State → State} (h_s : s0.Only l s) (h_k : ∀ t, s0.Only l t →
    s0.Only l (k t)) (hl : Has l [.num 9, .coast, .out]) : s0.Only l (State.posted s m k) := by
  unfold State.posted
  repeat' first
      | (with_reducible first
          | assumption | apply State.inc32_only | apply State.setMember_only | apply State.updFreed_only | apply State.Only.ite)
      | exact Has.sub ‹_› (by decide +kernel) | exact Has.bit ‹_› (by decide +kernel) | apply h_k
theorem State.probeIn_only {s0 s : State} {m : CoastMsg} (h_s : s0.Only l s) (hl : Has l [.num 9, .num 11, .faults, .coast,
    .out]) : s0.Only l (State.probeIn s m) := by
  unfold State.probeIn
  repeat' first
      | (with_reducible first
          | assumption | apply State.inc32_only | apply State.event_only | apply State.setMember_only
          | apply State.respond_only | apply State.Only.ite)
      | exact Has.sub ‹_› (by decide +kernel) | exact Has.bit ‹_› (by decide +kernel)
theorem State.creditFrom_only {s0 s : State} {m : CoastMsg} {ack : Bool} (h_s : s0.Only l s) (hl : Has l [.num 9, .coast,
    .out]) : s0.Only l (State.creditFrom s m ack) := by
  unfold State.creditFrom
  repeat' first
      | (with_reducible first
          | assumption | apply State.setMember_only | apply State.updPump_only | apply State.reached_only
          | apply State.adoptEpoch_only | apply State.Only.ite)
      | exact Has.sub ‹_› (by decide +kernel)
theorem State.discarded_only {s0 s : State} {m : CoastMsg} (h_s : s0.Only l s) (hl : Has l [.num 1, .num 3, .num 4, .num 5,
    .num 6, .num 9, .num 10, .num 11, .reg, .faults, .mortar, .hbm, .egs, .coast, .sched, .shore, .power, .out, .mem]) :
    s0.Only l (State.discarded s m) := by
  unfold State.discarded
  repeat' first
      | (with_reducible first | assumption | apply State.lost_only | apply State.sendProbe_only | apply State.Only.ite)
      | exact Has.sub ‹_› (by decide +kernel)
theorem State.launchPump_only {s0 s : State} (h_s : s0.Only l s) (hl : Has l [.num 9, .coast, .out]) : s0.Only l
    (State.launchPump s) := by
  unfold State.launchPump
  repeat' first
      | (with_reducible first | assumption | apply State.respond_only | apply State.Only.ite | apply State.Only.foldl)
      | exact Has.bit ‹_› (by decide +kernel) | intro _ | (dsimp only) | split
      | fail_if_no_progress (with_reducible apply State.Only.upd_coast)
theorem State.readyIn_only {s0 s : State} {m : CoastMsg} (h_s : s0.Only l s) (hl : Has l [.num 9, .coast, .out]) : s0.Only l
    (State.readyIn s m) := by
  unfold State.readyIn
  repeat' first
      | (with_reducible first | assumption | apply State.abortLaunch_only | apply State.launchPump_only | apply State.Only.ite)
      | exact Has.bit ‹_› (by decide +kernel) | (dsimp only) | split
      | fail_if_no_progress (with_reducible apply State.Only.upd_coast)
theorem State.goIn_only {s0 s : State} {m : CoastMsg} (h_s : s0.Only l s) (hl : Has l [.num 9, .coast, .sched, .out]) : s0.Only
    l (State.goIn s m) := by
  unfold State.goIn
  repeat' first
      | (with_reducible first
          | assumption | apply State.inc64_only | apply State.respond_only | apply State.Only.ite | exact State.Only.yes rfl)
      | exact Has.sub ‹_› (by decide +kernel) | exact Has.bit ‹_› (by decide +kernel) | (dsimp only) | split
      | fail_if_no_progress (with_reducible apply State.Only.upd_sched)
theorem State.abortIn_only {s0 s : State} {m : CoastMsg} (h_s : s0.Only l s) (hl : Has l [.num 1, .num 3, .num 4, .num 5, .num
    8, .num 9, .num 10, .num 11, .reg, .faults, .wall, .tables, .hbm, .coast, .sched, .host, .shore, .power, .out]) : s0.Only l
    (State.abortIn s m) := by
  unfold State.abortIn
  repeat' first
      | (with_reducible first
          | assumption | apply State.inc32_only | apply State.respond_only | apply State.settle_only
          | apply State.abortHold_only | apply State.Only.ite | apply State.Only.foldl)
      | exact Has.sub ‹_› (by decide +kernel) | exact Has.bit ‹_› (by decide +kernel) | intro _
theorem State.teardownIn_only {s0 s : State} {m : CoastMsg} (h_s : s0.Only l s) (hl : Has l [.num 11, .faults]) : s0.Only l
    (State.teardownIn s m) := by
  unfold State.teardownIn
  repeat' first
      | (with_reducible first | assumption | apply State.inc32_only | apply State.report_only | apply State.Only.ite)
      | exact Has.sub ‹_› (by decide +kernel) | exact Has.bit ‹_› (by decide +kernel)
theorem State.drainStarted_only {s0 s : State} (h_s : s0.Only l s) (hl : Has l [.num 1, .num 3, .num 4, .num 5, .num 11, .num
    13, .reg, .faults, .wall, .sel, .csa, .hbm, .egs, .sched, .shore, .mem]) : s0.Only l (State.drainStarted s) := by
  unfold State.drainStarted
  repeat' first | (with_reducible first | assumption | apply State.tearDown_only | apply State.Only.ite) | split

/-! ### Power -/

theorem State.disableHolds_only {s0 s : State} {csa : Bool} (h_s : s0.Only l s) (hl : Has l [.num 7, .num 10, .csa, .power]) :
    s0.Only l (State.disableHolds s csa) := by
  unfold State.disableHolds
  repeat' first
      | (with_reducible first | assumption | apply State.setNum_only | apply State.Only.ite)
      | exact Has.bit ‹_› (by decide +kernel) | (dsimp only) | fail_if_no_progress (with_reducible apply State.Only.upd_csa)
      | fail_if_no_progress (with_reducible apply State.Only.upd_power)
theorem State.csaForcing_only {s0 s : State} {on : Bool} (h_s : s0.Only l s) (hl : Has l [.num 7, .num 10, .csa, .power]) :
    s0.Only l (State.csaForcing s on) := by
  unfold State.csaForcing
  repeat' first
      | (with_reducible first
          | assumption | apply State.setNum_only | apply State.inc32_only | apply State.setSticky_only
          | apply State.disableHolds_only | apply State.Only.ite)
      | exact Has.bit ‹_› (by decide +kernel) | (dsimp only) | fail_if_no_progress (with_reducible apply State.Only.upd_csa)
theorem State.dispatchForcing_only {s0 s : State} {on : Bool} (h_s : s0.Only l s) (hl : Has l [.num 7, .num 10, .csa, .power])
    : s0.Only l (State.dispatchForcing s on) := by
  unfold State.dispatchForcing
  repeat' first
      | (with_reducible first
          | assumption | apply State.setNum_only | apply State.inc32_only | apply State.setSticky_only
          | apply State.disableHolds_only | apply State.Only.ite)
      | exact Has.bit ‹_› (by decide +kernel) | (dsimp only) | fail_if_no_progress (with_reducible apply State.Only.upd_power)
theorem State.alertTemp_only {s0 s : State} {j : Option Int} (h_s : s0.Only l s) (hl : Has l [.num 10, .power]) : s0.Only l
    (State.alertTemp s j) := by
  unfold State.alertTemp
  repeat' first
      | (with_reducible first | assumption | apply State.setSticky_only | apply State.Only.ite)
      | exact Has.bit ‹_› (by decide +kernel) | (dsimp only) | split
      | fail_if_no_progress (with_reducible apply State.Only.upd_power)
theorem State.temperatures_only {s0 s : State} (h_s : s0.Only l s) (hl : Has l [.num 7, .num 10, .csa, .power]) : s0.Only l
    (State.temperatures s) := by
  unfold State.temperatures
  repeat' first
      | (with_reducible first
          | assumption | apply State.setNum_only | apply State.csaForcing_only | apply State.dispatchForcing_only
          | apply State.alertTemp_only)
      | exact Has.sub ‹_› (by decide +kernel) | exact Has.bit ‹_› (by decide +kernel) | (dsimp only) | split
      | fail_if_no_progress (with_reducible apply State.Only.upd_power)
theorem State.sensorFails_only {s0 s : State} {k : Nat} (h_s : s0.Only l s) (hl : Has l [.num 1, .num 10, .num 11, .faults,
    .shore]) : s0.Only l (State.sensorFails s k) := by
  unfold State.sensorFails
  repeat' first
      | (with_reducible first
          | assumption | apply State.setNum_only | apply State.setSticky_only | apply State.eventNote_only
          | apply State.Only.ite)
      | exact Has.sub ‹_› (by decide +kernel) | exact Has.bit ‹_› (by decide +kernel)
theorem State.takeReading_only {s0 s : State} {k : Nat} {t : Int} (h_s : s0.Only l s) (hl : Has l [.num 1, .num 10, .num 11,
    .oct, .faults, .shore]) : s0.Only l (State.takeReading s k t) := by
  unfold State.takeReading
  repeat' first
      | (with_reducible first | assumption | apply State.setOcts_only | apply State.sensorFails_only | apply State.Only.ite)
      | exact Has.sub ‹_› (by decide +kernel)
theorem State.calibrate_only {s0 s : State} {k : Nat} {e : Int} (h_s : s0.Only l s) (hl : Has l [.num 1, .num 10, .num 11,
    .faults, .shore]) : s0.Only l (State.calibrate s k e) := by
  unfold State.calibrate
  repeat' (with_reducible first | assumption | apply State.sensorFails_only | apply State.Only.ite)
theorem State.powerActive_only {s0 s : State} (h_s : s0.Only l s) (hl : Has l [.num 1, .num 7, .num 9, .num 10, .num 11, .tide,
    .faults, .csa, .coast, .shore, .power]) : s0.Only l (State.powerActive s) := by
  unfold State.powerActive
  repeat' first
      | (with_reducible first
          | assumption | apply State.setNum_only | apply State.enterWaking_only | apply State.scrubAccounts_only
          | apply State.trainPorts_only | apply State.Only.ite)
      | exact Has.sub ‹_› (by decide +kernel) | exact Has.bit ‹_› (by decide +kernel) | (dsimp only)
      | fail_if_no_progress (with_reducible apply State.Only.upd_tide)
      | fail_if_no_progress (with_reducible apply State.Only.upd_power)
theorem State.powerLull_only {s0 s : State} (h_s : s0.Only l s) (hl : Has l [.num 3, .num 10, .sched, .power]) : s0.Only l
    (State.powerLull s) := by
  unfold State.powerLull
  repeat' first
      | (with_reducible first | assumption | apply State.setNum_only | apply State.lullFollows_only | apply State.Only.ite)
      | exact Has.bit ‹_› (by decide +kernel) | (dsimp only) | fail_if_no_progress (with_reducible apply State.Only.upd_power)
theorem State.powerHold_only {s0 s : State} {abandon : Bool} (h_s : s0.Only l s) (hl : Has l [.num 1, .num 3, .num 4, .num 5,
    .num 10, .num 11, .num 13, .reg, .faults, .wall, .sel, .csa, .hbm, .egs, .sched, .shore, .power, .mem]) : s0.Only l
    (State.powerHold s abandon) := by
  unfold State.powerHold
  repeat' first
      | (with_reducible first
          | assumption | apply State.setNum_only | apply State.lullFollows_only | apply State.tearDown_only
          | apply State.Only.ite)
      | exact Has.sub ‹_› (by decide +kernel) | exact Has.bit ‹_› (by decide +kernel) | (dsimp only) | split
      | fail_if_no_progress (with_reducible apply State.Only.upd_power)
theorem State.enterHold4_only {s0 s : State} {d : Drain} (h_s : s0.Only l s) (hl : Has l [.num 1, .num 3, .num 4, .num 5, .num
    6, .num 7, .num 8, .num 9, .num 10, .num 11, .reg, .faults, .wall, .mortar, .tables, .csa, .hbm, .egs, .coast, .sched,
    .host, .shore, .power, .out, .mem]) : s0.Only l (State.enterHold4 s d) := by
  unfold State.enterHold4
  repeat' first
      | (with_reducible first
          | assumption | apply State.setNum_only | apply State.inc32_only | apply State.scrubAccounts_only
          | apply State.reachCheck_only | apply State.disablePort_only | apply State.Only.foldl)
      | exact Has.sub ‹_› (by decide +kernel) | exact Has.bit ‹_› (by decide +kernel) | intro _ | (dsimp only)
      | fail_if_no_progress (with_reducible apply State.Only.upd_coast)
      | fail_if_no_progress (with_reducible apply State.Only.upd_power)
theorem State.queueTest_only {s0 s : State} {kind bank : Nat} (h_s : s0.Only l s) (hl : Has l [.num 1, .num 3, .num 4, .num 5,
    .num 8, .num 10, .num 11, .reg, .faults, .wall, .tables, .hbm, .sched, .host, .shore, .power, .out]) : s0.Only l
    (State.queueTest s kind bank) := by
  unfold State.queueTest
  repeat' first
      | (with_reducible first | assumption | apply State.eventIfFree_only | apply State.settle_only | exact State.Only.yes rfl)
      | exact Has.sub ‹_› (by decide +kernel) | exact Has.bit ‹_› (by decide +kernel) | (dsimp only)
      | fail_if_no_progress (with_reducible apply State.Only.upd_sched)
theorem State.testRequest_only {s0 s : State} {kind bank : Nat} (h_s : s0.Only l s) (hl : Has l [.num 1, .num 3, .num 4, .num
    5, .num 8, .num 10, .num 11, .reg, .faults, .wall, .tables, .hbm, .sched, .host, .shore, .power, .out]) : s0.Only l
    (State.testRequest s kind bank) := by
  unfold State.testRequest
  repeat' first
      | (with_reducible first | assumption | apply State.queueTest_only | apply State.Only.ite)
      | exact Has.bit ‹_› (by decide +kernel) | (dsimp only) | fail_if_no_progress (with_reducible apply State.Only.upd_power)
theorem State.resetLevels_only {s0 s : State} (h_s : s0.Only l s) (hl : Has l [.num 7, .num 10, .csa, .power]) : s0.Only l
    (State.resetLevels s) := by
  unfold State.resetLevels
  repeat' first
      | (with_reducible first | assumption | apply State.setNum_only | exact State.Only.yes rfl)
      | exact Has.bit ‹_› (by decide +kernel) | intro _ _ _ _; rfl | exact State.Only.no (Has.bit ‹_› (by decide +kernel))
      | intro _ | (dsimp only) | fail_if_no_progress (with_reducible apply State.Only.upd) | exact List.prefix_refl _
theorem State.csaLevel_only {s0 s : State} {c : Nat} (h_s : s0.Only l s) (hl : Has l [.num 7, .csa]) : s0.Only l
    (State.csaLevel s c) := by
  unfold State.csaLevel
  repeat' first
      | (with_reducible first | assumption | apply State.setNum_only | apply State.Only.ite)
      | exact Has.bit ‹_› (by decide +kernel) | (dsimp only) | split
      | fail_if_no_progress (with_reducible apply State.Only.upd_csa)
theorem State.dispatchLevel_only {s0 s : State} {c : Nat} (h_s : s0.Only l s) (hl : Has l [.num 10, .power]) : s0.Only l
    (State.dispatchLevel s c) := by
  unfold State.dispatchLevel
  repeat' first
      | (with_reducible first | assumption | apply State.setNum_only | apply State.Only.ite)
      | exact Has.bit ‹_› (by decide +kernel) | (dsimp only) | split
      | fail_if_no_progress (with_reducible apply State.Only.upd_power)

/-! ### Tide -/

theorem State.setPending_only {s0 s : State} {g : Nat} {b : Bool} (h_s : s0.Only l s) (hl : Has l [.tide]) : s0.Only l
    (State.setPending s g b) := by
  unfold State.setPending
  repeat' first
      | with_reducible assumption | exact Has.bit ‹_› (by decide +kernel) | (dsimp only)
      | fail_if_no_progress (with_reducible apply State.Only.upd_tide)
theorem State.passLaunches_only {s0 s : State} {g k : Nat} (h_s : s0.Only l s) (hl : Has l [.num 2]) : s0.Only l
    (State.passLaunches s g k) := by
  unfold State.passLaunches
  repeat' first
      | (with_reducible first | assumption | apply State.setNum_only)
      | exact State.Only.fam ‹_› (by decide) (by decide) (by decide +kernel)
theorem State.skipLaunches_only {s0 s : State} {g t : Nat} (h_s : s0.Only l s) (hl : Has l [.num 2, .num 3, .num 10, .sched,
    .power]) : s0.Only l (State.skipLaunches s g t) := by
  unfold State.skipLaunches
  repeat' first
      | (with_reducible first
          | assumption | apply State.inc32_only | apply State.launchSeen_only | apply State.passLaunches_only
          | apply State.Only.ite)
      | exact Has.sub ‹_› (by decide +kernel) | exact State.Only.fam ‹_› (by decide) (by decide) (by decide +kernel)
theorem State.startGenerator_only {s0 s : State} {g : Nat} (h_s : s0.Only l s) (hl : Has l [.num 2, .num 3, .num 10, .tide,
    .sched, .power]) : s0.Only l (State.startGenerator s g) := by
  unfold State.startGenerator
  repeat' first
      | (with_reducible first
          | assumption | apply State.setNum_only | apply State.setPending_only | apply State.skipLaunches_only)
      | exact Has.sub ‹_› (by decide +kernel) | exact State.Only.fam ‹_› (by decide) (by decide) (by decide +kernel)
theorem State.enableGenerator_only {s0 s : State} {g : Nat} (h_s : s0.Only l s) (hl : Has l [.num 2, .num 3, .num 10, .tide,
    .sched, .power]) : s0.Only l (State.enableGenerator s g) := by
  unfold State.enableGenerator
  repeat' first
      | (with_reducible first
          | assumption | apply State.setNum_only | apply State.generatorOff_only | apply State.setPending_only
          | apply State.startGenerator_only | apply State.Only.ite)
      | exact Has.sub ‹_› (by decide +kernel) | exact Has.bit ‹_› (by decide +kernel)
      | exact State.Only.fam ‹_› (by decide) (by decide) (by decide +kernel) | (dsimp only)
      | fail_if_no_progress (with_reducible apply State.Only.upd_tide)
theorem State.disableGenerator_only {s0 s : State} {g : Nat} (h_s : s0.Only l s) (hl : Has l [.num 2, .num 3, .num 10, .tide,
    .sched, .power]) : s0.Only l (State.disableGenerator s g) := by
  unfold State.disableGenerator
  repeat' first
      | (with_reducible first
          | assumption | apply State.setNum_only | apply State.generatorOff_only | apply State.setPending_only
          | apply State.Only.ite)
      | exact Has.sub ‹_› (by decide +kernel) | exact Has.bit ‹_› (by decide +kernel)
      | exact State.Only.fam ‹_› (by decide) (by decide) (by decide +kernel) | (dsimp only)
      | fail_if_no_progress (with_reducible apply State.Only.upd_tide)
theorem State.clearOwed_only {s0 s : State} {g : Nat} (h_s : s0.Only l s) (hl : Has l [.tide]) : s0.Only l (State.clearOwed s
    g) := by
  unfold State.clearOwed
  repeat' first
      | with_reducible assumption | exact Has.bit ‹_› (by decide +kernel) | (dsimp only)
      | fail_if_no_progress (with_reducible apply State.Only.upd_tide)
theorem State.takeLaunch_only {s0 s : State} {g : Nat} (h_s : s0.Only l s) (hl : Has l [.num 2, .num 3, .num 10, .tide, .sched,
    .power, .pins]) : s0.Only l (State.takeLaunch s g) := by
  unfold State.takeLaunch
  repeat' first
      | (with_reducible first
          | assumption | apply State.inc64_only | apply State.markLaunch_only | apply State.launchSeen_only
          | apply State.generatorOff_only | apply State.passLaunches_only | apply State.clearOwed_only | apply State.Only.ite)
      | exact Has.sub ‹_› (by decide +kernel) | exact Has.bit ‹_› (by decide +kernel)
      | exact State.Only.fam ‹_› (by decide) (by decide) (by decide +kernel) | (dsimp only)
      | fail_if_no_progress (with_reducible apply State.Only.upd_tide)
theorem State.paramWritten_only {s0 s : State} {g : Nat} (h_s : s0.Only l s) (hl : Has l [.num 2]) : s0.Only l
    (State.paramWritten s g) := by
  unfold State.paramWritten
  repeat' first
      | (with_reducible first | assumption | apply State.setNum_only | apply State.passLaunches_only | apply State.Only.ite)
      | exact State.Only.fam ‹_› (by decide) (by decide) (by decide +kernel) | split
theorem State.hearMaster_only {s0 s : State} {a : Nat} {pps : Bool} (h_s : s0.Only l s) (hl : Has l [.tide]) : s0.Only l
    (State.hearMaster s a pps) := by
  unfold State.hearMaster
  repeat' first
      | (with_reducible first | assumption | apply State.Only.ite) | exact Has.bit ‹_› (by decide +kernel) | (dsimp only)
      | fail_if_no_progress (with_reducible apply State.Only.upd_tide)
theorem State.electSelf_only {s0 s : State} (h_s : s0.Only l s) (hl : Has l [.tide]) : s0.Only l (State.electSelf s) := by
  unfold State.electSelf
  repeat' (with_reducible first | assumption | apply State.hearMaster_only | apply State.Only.ite)
theorem State.windowsFrom_only {s0 s : State} (h_s : s0.Only l s) (hl : Has l [.tide]) : s0.Only l (State.windowsFrom s) := by
  unfold State.windowsFrom
  repeat' first
      | with_reducible assumption | exact Has.bit ‹_› (by decide +kernel) | (dsimp only)
      | fail_if_no_progress (with_reducible apply State.Only.upd_tide)
theorem State.enterTide_only {s0 s : State} {v : Nat} (h_s : s0.Only l s) (hl : Has l [.num 2, .num 10, .tide, .sched, .power])
    : s0.Only l (State.enterTide s v) := by
  unfold State.enterTide
  repeat' first
      | (with_reducible first | assumption | apply State.setNum_only | apply State.eventIfFree_only | apply State.Only.ite)
      | exact Has.sub ‹_› (by decide +kernel) | exact Has.bit ‹_› (by decide +kernel) | (dsimp only)
      | fail_if_no_progress (with_reducible apply State.Only.upd_tide)
theorem State.becomeMaster_only {s0 s : State} (h_s : s0.Only l s) (hl : Has l [.num 2, .num 10, .tide, .sched, .power]) :
    s0.Only l (State.becomeMaster s) := by
  unfold State.becomeMaster
  repeat' first
      | (with_reducible first | assumption | apply State.setNum_only | apply State.enterTide_only)
      | exact Has.bit ‹_› (by decide +kernel) | (dsimp only) | fail_if_no_progress (with_reducible apply State.Only.upd_tide)
theorem State.measured_only {s0 s : State} {off : Int} (h_s : s0.Only l s) (hl : Has l [.num 1, .num 2, .num 10, .num 11,
    .tide, .faults, .sched, .shore, .power]) : s0.Only l (State.measured s off) := by
  unfold State.measured
  repeat' first
      | (with_reducible first
          | assumption | apply State.setNum_only | apply State.eventNote_only | apply State.enterTide_only
          | apply State.Only.ite)
      | exact Has.sub ‹_› (by decide +kernel) | exact Has.bit ‹_› (by decide +kernel) | split
      | fail_if_no_progress (with_reducible apply State.Only.upd_tide)
theorem State.tideAcquire_only {s0 s : State} {target : Int} {rxSub : Nat} (h_s : s0.Only l s) (hl : Has l [.num 2, .num 10,
    .tide, .sched, .power]) : s0.Only l (State.tideAcquire s target rxSub) := by
  unfold State.tideAcquire
  repeat' first
      | (with_reducible first | assumption | apply State.windowsFrom_only | apply State.enterTide_only)
      | exact Has.sub ‹_› (by decide +kernel) | exact Has.bit ‹_› (by decide +kernel) | (dsimp only)
      | fail_if_no_progress (with_reducible apply State.Only.upd_tide)
theorem State.relaySync_only {s0 s : State} {port : Nat} {m : OrderedSet} (h_s : s0.Only l s) (hl : Has l [.out]) : s0.Only l
    (State.relaySync s port m) := by
  unfold State.relaySync
  repeat' first
      | (with_reducible first | assumption | apply State.emit_only | apply State.Only.ite | apply State.Only.foldl) | intro _
theorem State.followSync_only {s0 s : State} {port : Nat} {m : OrderedSet} {rxSub : Nat} (h_s : s0.Only l s) (hl : Has l [.num
    1, .num 2, .num 10, .num 11, .tide, .faults, .sched, .shore, .power, .out]) : s0.Only l (State.followSync s port m rxSub)
    := by
  unfold State.followSync
  repeat' first
      | (with_reducible first
          | assumption | apply State.setNum_only | apply State.electSelf_only | apply State.measured_only
          | apply State.tideAcquire_only | apply State.relaySync_only | apply State.Only.ite)
      | exact Has.sub ‹_› (by decide +kernel) | exact Has.bit ‹_› (by decide +kernel) | (dsimp only)
      | fail_if_no_progress (with_reducible apply State.Only.upd_tide)
theorem State.sosIn_only {s0 s : State} {port kind : Nat} {m : OrderedSet} {t : State} (h_s : s0.Only l s) (h_t : s0.Only l t)
    (hl : Has l [.num 2]) : s0.Only l (State.sosIn s port kind m t) := by
  unfold State.sosIn
  repeat' first
      | (with_reducible first | assumption | apply State.inc32_only | apply State.live_only | apply State.Only.ite)
      | exact Has.bit ‹_› (by decide +kernel)
theorem State.correct_only {s0 s : State} (h_s : s0.Only l s) (hl : Has l [.num 1, .num 2, .num 3, .num 4, .num 5, .num 7, .num
    8, .num 9, .num 10, .num 11, .num 14, .tide, .pps, .reg, .faults, .wall, .mortar, .tables, .sel, .csa, .hbm, .egs, .coast,
    .sched, .host, .shore, .power, .pins, .out, .device, .run, .mem, .slots]) : s0.Only l (State.correct s) := by
  unfold State.correct
  repeat' first
      | (with_reducible first | assumption | apply State.inc32_only | apply State.tclk_only | exact State.Only.yes rfl)
      | exact Has.sub ‹_› (by decide +kernel) | exact Has.bit ‹_› (by decide +kernel) | intro _ _ _ _; rfl
      | exact State.Only.no (Has.bit ‹_› (by decide +kernel)) | intro _ | (dsimp only) | split
      | fail_if_no_progress (with_reducible apply State.Only.upd) | exact List.prefix_refl _
theorem State.losePps_only {s0 s : State} (h_s : s0.Only l s) (hl : Has l [.num 1, .num 2, .num 11, .pps, .faults, .shore]) :
    s0.Only l (State.losePps s) := by
  unfold State.losePps
  repeat' first
      | (with_reducible first | assumption | apply State.setNum_only | apply State.eventNote_only | apply State.Only.ite)
      | exact Has.sub ‹_› (by decide +kernel) | exact Has.bit ‹_› (by decide +kernel) | (dsimp only)
      | fail_if_no_progress (with_reducible apply State.Only.upd_pps)
theorem State.ppsInterval_only {s0 s : State} {d : Int} (h_s : s0.Only l s) (hl : Has l [.num 1, .num 2, .num 11, .tide, .pps,
    .faults, .shore]) : s0.Only l (State.ppsInterval s d) := by
  unfold State.ppsInterval
  repeat' first
      | (with_reducible first
          | assumption | apply State.setNum_only | apply State.inc32_only | apply State.electSelf_only
          | apply State.losePps_only | apply State.Only.ite | exact State.Only.yes rfl)
      | exact Has.sub ‹_› (by decide +kernel) | exact Has.bit ‹_› (by decide +kernel) | intro _ _ _ _; rfl
      | exact State.Only.no (Has.bit ‹_› (by decide +kernel)) | intro _ | (dsimp only) | split
      | fail_if_no_progress (with_reducible apply State.Only.upd_tide)
      | fail_if_no_progress (with_reducible apply State.Only.upd_pps)
      | fail_if_no_progress (with_reducible apply State.Only.upd) | exact List.prefix_refl _

/-! ### Write -/

theorem State.setInvStep_only {s0 s : State} {n : Nat} (h_s : s0.Only l s) (hl : Has l [.num 8]) : s0.Only l (State.setInvStep
    s n) := by
  unfold State.setInvStep
  repeat' first
      | (with_reducible first | assumption | apply State.setNum_only)
      | exact State.Only.fam ‹_› (by decide) (by decide) (by decide +kernel)
theorem State.enableWritten_only {s0 s : State} {g v : Nat} (h_s : s0.Only l s) (hl : Has l [.num 1, .num 2, .num 3, .num 4,
    .num 5, .num 8, .num 10, .num 11, .tide, .reg, .faults, .wall, .tables, .hbm, .sched, .host, .shore, .power, .out]) :
    s0.Only l (State.enableWritten s g v) := by
  unfold State.enableWritten
  repeat' first
      | (with_reducible first
          | assumption | apply State.settle_only | apply State.enableGenerator_only | apply State.disableGenerator_only
          | apply State.Only.ite)
      | exact Has.sub ‹_› (by decide +kernel)
theorem State.clientEnableWritten_only {s0 s : State} {c v : Nat} (h_s : s0.Only l s) (hl : Has l [.num 1, .num 3, .num 4, .num
    5, .num 8, .num 10, .num 11, .reg, .faults, .wall, .tables, .hbm, .sched, .host, .shore, .power, .out]) : s0.Only l
    (State.clientEnableWritten s c v) := by
  unfold State.clientEnableWritten
  repeat' first
      | (with_reducible first
          | assumption | apply State.setNum_only | apply State.eventIfFree_only | apply State.settle_only
          | apply State.Only.ite)
      | exact Has.sub ‹_› (by decide +kernel) | exact State.Only.fam ‹_› (by decide) (by decide) (by decide +kernel)
theorem State.functionWritten_only {s0 s : State} {n v : Nat} (h_s : s0.Only l s) (hl : Has l [.num 14, .pins]) : s0.Only l
    (State.functionWritten s n v) := by
  unfold State.functionWritten
  repeat' first
      | (with_reducible first | assumption | apply State.setNum_only | apply State.changeFunction_only | apply State.Only.ite)
      | exact State.Only.fam ‹_› (by decide) (by decide) (by decide +kernel)
theorem State.fieldCountWritten_only {s0 s : State} {t v : Nat} (h_s : s0.Only l s) (hl : Has l [.num 8, .oct, .shore]) :
    s0.Only l (State.fieldCountWritten s t v) := by
  unfold State.fieldCountWritten
  repeat' first
      | (with_reducible first | assumption | apply State.setNum_only | apply State.setOcts_only | apply State.noteOct_only)
      | exact Has.sub ‹_› (by decide +kernel) | exact State.Only.fam ‹_› (by decide) (by decide) (by decide +kernel)
theorem State.ctrlWritten_only {s0 s : State} {k v : Nat} (h_s : s0.Only l s) (hl : Has l [.tide, .pps, .oct, .reg, .faults,
    .wall, .tables, .csa, .hbm, .sched, .host, .shore, .power, .pins, .out]) (t_obj : ∀ i, l (.num i) = true) : s0.Only l
    (State.ctrlWritten s k v) := by
  unfold State.ctrlWritten
  repeat' first
      | (with_reducible first
          | assumption | apply State.setNum_only | apply State.polarityChanged_only | apply State.scrubAccounts_only
          | apply State.settle_only | apply State.bankSetWritten_only | apply State.bankConfig_only
          | apply State.holeWritten_only | apply State.unitsWritten_only | apply State.temperatures_only
          | apply State.paramWritten_only | apply State.setInvStep_only | apply State.enableWritten_only
          | apply State.clientEnableWritten_only | apply State.functionWritten_only | apply State.fieldCountWritten_only
          | apply State.Only.ite)
      | exact Has.all ‹_› t_obj (by decide +kernel) | exact t_obj _ | exact Has.bit ‹_› (by decide +kernel) | (dsimp only)
      | split | fail_if_no_progress (with_reducible apply State.Only.upd_tide)
      | fail_if_no_progress (with_reducible apply State.Only.upd_pps)
      | fail_if_no_progress (with_reducible apply State.Only.upd_shore)
theorem State.forcedWritten_only {s0 s : State} {k v : Nat} (h_s : s0.Only l s) (hl : Has l [.csa, .power]) (t_obj : ∀ i, l
    (.num i) = true) : s0.Only l (State.forcedWritten s k v) := by
  unfold State.forcedWritten
  repeat' first
      | (with_reducible first | assumption | apply State.setNum_only | apply State.disableHolds_only | apply State.Only.ite)
      | exact Has.all ‹_› t_obj (by decide +kernel) | exact t_obj _
theorem State.commitNum_only {s0 s : State} {k : Nat} {r : ObjRow} {v : Nat} (h_s : s0.Only l s) (hl : Has l [.tide, .pps,
    .oct, .badObj, .reg, .faults, .wall, .tables, .csa, .hbm, .sched, .host, .shore, .power, .pins, .out]) (t_obj : ∀ i, l
    (.num i) = true) : s0.Only l (State.commitNum s k r v) := by
  unfold State.commitNum
  repeat' first
      | (with_reducible first
          | assumption | apply State.setNum_only | apply State.noteNum_only | apply State.ctrlWritten_only
          | apply State.forcedWritten_only)
      | exact Has.all ‹_› t_obj (by decide +kernel) | exact t_obj _ | exact Has.bit ‹_› (by decide +kernel) | (dsimp only)
      | split | fail_if_no_progress (with_reducible apply State.Only.upd_badObj)
theorem State.commitOcts_only {s0 s : State} {k : Nat} {l_ : List Byte} (h_s : s0.Only l s) (hl : Has l [.oct, .badObj, .egs,
    .shore, .nv]) (t_obj : ∀ i, l (.num i) = true) : s0.Only l (State.commitOcts s k l_) := by
  unfold State.commitOcts
  repeat' first
      | (with_reducible first
          | assumption | apply State.setNum_only | apply State.setOcts_only | apply State.noteOct_only | apply State.Only.ite
          | exact State.Only.yes rfl)
      | exact Has.all ‹_› t_obj (by decide +kernel) | exact t_obj _ | exact Has.bit ‹_› (by decide +kernel) | intro _ _ _ _; rfl
      | exact State.Only.no (Has.bit ‹_› (by decide +kernel)) | intro _ | (dsimp only)
      | fail_if_no_progress (with_reducible apply State.Only.upd_badObj)
      | fail_if_no_progress (with_reducible apply State.Only.upd_egs)
      | fail_if_no_progress (with_reducible apply State.Only.upd) | exact List.prefix_refl _
theorem State.restoreObject_only {s0 s : State} {k : Nat} (h_s : s0.Only l s) (hl : Has l [.tide, .pps, .oct, .badObj, .reg,
    .faults, .wall, .tables, .csa, .hbm, .sched, .host, .shore, .power, .pins, .out]) (t_obj : ∀ i, l (.num i) = true) :
    s0.Only l (State.restoreObject s k) := by
  unfold State.restoreObject
  repeat' first
      | (with_reducible first
          | assumption | apply State.setNum_only | apply State.noteOct_only | apply State.commitNum_only | apply State.Only.ite
          | exact State.Only.yes rfl)
      | exact Has.all ‹_› t_obj (by decide +kernel) | exact t_obj _ | intro _ _ _ _; rfl
      | exact State.Only.no (Has.bit ‹_› (by decide +kernel)) | intro _ | (dsimp only) | split
      | fail_if_no_progress (with_reducible apply State.Only.upd) | exact List.prefix_refl _
theorem State.restoreLive_only {s0 s : State} (h_s : s0.Only l s) (hl : Has l [.tide, .pps, .oct, .badObj, .reg, .faults,
    .wall, .tables, .csa, .hbm, .sched, .host, .shore, .power, .pins, .out]) (t_obj : ∀ i, l (.num i) = true) : s0.Only l
    (State.restoreLive s) := by
  unfold State.restoreLive
  repeat' first | (with_reducible first | assumption | apply State.restoreObject_only | apply State.Only.foldl) | intro _

/-! ### Shore -/

theorem State.dequeue_only {s0 s : State} {q : Request} (h_s : s0.Only l s) (hl : Has l [.shore]) : s0.Only l (State.dequeue s
    q) := by
  unfold State.dequeue
  repeat' first
      | with_reducible assumption | exact Has.bit ‹_› (by decide +kernel) | (dsimp only) | split
      | fail_if_no_progress (with_reducible apply State.Only.upd_shore)
theorem State.sendFrame_only {s0 s : State} {dest seq : Nat} {sdu : List Byte} (h_s : s0.Only l s) (hl : Has l [.num 1, .out])
    : s0.Only l (State.sendFrame s dest seq sdu) := by
  unfold State.sendFrame
  repeat' first
      | (with_reducible first | assumption | apply State.inc64_only | apply State.emit_only)
      | exact Has.sub ‹_› (by decide +kernel) | exact Has.bit ‹_› (by decide +kernel)
theorem State.putSource_only {s0 s : State} {x : SourceState} (h_s : s0.Only l s) (hl : Has l [.shore]) : s0.Only l
    (State.putSource s x) := by
  unfold State.putSource
  repeat' first
      | with_reducible assumption | exact Has.bit ‹_› (by decide +kernel) | (dsimp only)
      | fail_if_no_progress (with_reducible apply State.Only.upd_shore)
theorem State.resend_only {s0 s : State} {mac seq : Nat} (h_s : s0.Only l s) (hl : Has l [.num 1, .num 11, .shore, .out]) :
    s0.Only l (State.resend s mac seq) := by
  unfold State.resend
  repeat' first
      | (with_reducible first | assumption | apply State.inc32_only | apply State.sendFrame_only | apply State.putSource_only)
      | exact Has.sub ‹_› (by decide +kernel) | exact Has.bit ‹_› (by decide +kernel) | split
theorem State.hearNew_only {s0 s : State} {mac seq : Nat} (h_s : s0.Only l s) (hl : Has l [.shore]) : s0.Only l (State.hearNew
    s mac seq) := by
  unfold State.hearNew
  repeat' (with_reducible first | assumption | apply State.putSource_only)
theorem State.storeResponse_only {s0 s : State} {mac seq : Nat} {sdu : List Byte} (h_s : s0.Only l s) (hl : Has l [.shore]) :
    s0.Only l (State.storeResponse s mac seq sdu) := by
  unfold State.storeResponse
  repeat' first | (with_reducible first | assumption | apply State.putSource_only) | (dsimp only) | split
theorem State.mailboxReply_only {s0 s : State} {sdu : List Byte} (h_s : s0.Only l s) (hl : Has l [.reg, .host]) : s0.Only l
    (State.mailboxReply s sdu) := by
  unfold State.mailboxReply
  repeat' first
      | (with_reducible first | assumption | apply State.regSet_only | apply State.raiseGlobal_only)
      | exact Has.sub ‹_› (by decide +kernel) | exact Has.bit ‹_› (by decide +kernel) | (dsimp only)
      | fail_if_no_progress (with_reducible apply State.Only.upd_host)
theorem State.finish_only {s0 s : State} {q : Request} {a : Answer} (h_s : s0.Only l s) (hl : Has l [.num 1, .num 11, .reg,
    .host, .shore, .out]) : s0.Only l (State.finish s q a) := by
  unfold State.finish
  repeat' first
      | (with_reducible first
          | assumption | apply State.setNum_only | apply State.inc32_only | apply State.sendFrame_only
          | apply State.storeResponse_only | apply State.mailboxReply_only)
      | exact Has.sub ‹_› (by decide +kernel) | exact Has.bit ‹_› (by decide +kernel) | (dsimp only) | split
theorem State.storageError_only {s0 s : State} {k : Nat} (h_s : s0.Only l s) (hl : Has l [.num 11, .badObj]) : s0.Only l
    (State.storageError s k) := by
  unfold State.storageError
  repeat' first
      | (with_reducible first | assumption | apply State.inc32_only | apply State.Only.ite)
      | exact Has.bit ‹_› (by decide +kernel) | fail_if_no_progress (with_reducible apply State.Only.upd_badObj)
theorem State.readObject_only {s0 s : State} {k : Nat} {r : ObjRow} (h_s : s0.Only l s) (hl : Has l [.num 1, .num 5, .num 11,
    .badObj, .faults, .hbm, .shore]) : s0.Only l (State.readObject s k r).2 := by
  unfold State.readObject
  refine State.Only.ite2 (State.storageError_only h_s (hl.sub (by decide +kernel))) (State.Only.ite2 ?_ (State.Only.ite2 ?_
      h_s))
  · split
    · exact State.Only.ite (State.setSticky_only h_s
          (by first | exact hl.bit (by decide +kernel) | exact State.Only.fam hl (by decide) (by decide) (by decide +kernel) | exact State.Only.fam1 hl (by decide) (by decide +kernel))) h_s
    · exact h_s
  · split
    · extract_lets m
      have hm : s0.Only l m.2.2 := State.memRead_only h_s (hl.sub (by decide +kernel))
      clear_value m
      exact State.Only.ite2 (State.inc32_only hm
            (by first | exact hl.bit (by decide +kernel) | exact State.Only.fam hl (by decide) (by decide) (by decide +kernel) | exact State.Only.fam1 hl (by decide) (by decide +kernel))) hm
    · exact h_s
theorem State.writeObject_only {s0 s : State} {k : Nat} {r : ObjRow} {l_ : List Byte} {cmd : State → State} (h_s : s0.Only l s)
    (h_cmd : ∀ t, s0.Only l t → s0.Only l (cmd t)) (hl : Has l [.tide, .pps, .oct, .badObj, .reg, .faults, .wall, .tables,
    .csa, .hbm, .egs, .sched, .host, .shore, .nv, .power, .pins, .out]) (t_obj : ∀ i, l (.num i) = true) : s0.Only l
    (State.writeObject s k r l_ cmd).2 := by
  unfold State.writeObject
  repeat' first
      | (with_reducible first
          | assumption | apply State.setNum_only | apply State.statWrite_only | apply State.commitNum_only
          | apply State.commitOcts_only)
      | exact Has.all ‹_› t_obj (by decide +kernel) | exact t_obj _ | exact Has.bit ‹_› (by decide +kernel) | apply h_cmd
      | (dsimp only) | split | fail_if_no_progress (with_reducible apply State.Only.upd_badObj)
theorem State.closeTransfer_only {s0 s : State} {src : Source} (h_s : s0.Only l s) (hl : Has l [.shore]) : s0.Only l
    (State.closeTransfer s src) := by
  unfold State.closeTransfer
  repeat' first
      | with_reducible assumption | exact Has.bit ‹_› (by decide +kernel) | (dsimp only)
      | fail_if_no_progress (with_reducible apply State.Only.upd_shore)
theorem State.putTransfer_only {s0 s : State} {t : Transfer} (h_s : s0.Only l s) (hl : Has l [.shore]) : s0.Only l
    (State.putTransfer s t) := by
  unfold State.putTransfer
  repeat' first
      | with_reducible assumption | exact Has.bit ‹_› (by decide +kernel) | (dsimp only)
      | fail_if_no_progress (with_reducible apply State.Only.upd_shore)
theorem State.blockReadInit_only {s0 s : State} {q : Request} {k : Nat} {r : ObjRow} (h_s : s0.Only l s) (hl : Has l [.num 1,
    .num 5, .num 11, .badObj, .faults, .hbm, .shore]) : s0.Only l (State.blockReadInit s q k r).2 := by
  unfold State.blockReadInit
  repeat' first
      | (with_reducible first | assumption | apply State.readObject_only | apply State.putTransfer_only)
      | exact Has.sub ‹_› (by decide +kernel) | (dsimp only) | split
theorem State.blockWriteInit_only {s0 s : State} {q : Request} {k : Nat} {r : ObjRow} (h_s : s0.Only l s) (hl : Has l [.shore])
    : s0.Only l (State.blockWriteInit s q k r).2 := by
  unfold State.blockWriteInit
  repeat' first | (with_reducible first | assumption | apply State.putTransfer_only) | (dsimp only) | split
theorem State.blockReadSegment_only {s0 s : State} {q : Request} (h_s : s0.Only l s) (hl : Has l [.shore]) : s0.Only l
    (State.blockReadSegment s q).2 := by
  unfold State.blockReadSegment
  repeat' first | (with_reducible first | assumption | apply State.putTransfer_only) | (dsimp only) | split
theorem State.blockWriteSegment_only {s0 s : State} {q : Request} (h_s : s0.Only l s) (hl : Has l [.shore]) : s0.Only l
    (State.blockWriteSegment s q).2 := by
  unfold State.blockWriteSegment
  repeat' first | (with_reducible first | assumption | apply State.putTransfer_only) | (dsimp only) | split
theorem State.endWrite_only {s0 s : State} {q : Request} {k : Nat} {r : ObjRow} {t : Transfer} (h_s : s0.Only l s) (hl : Has l
    [.tide, .pps, .oct, .badObj, .reg, .faults, .wall, .tables, .csa, .hbm, .egs, .sched, .host, .shore, .nv, .power, .pins,
    .out]) (t_obj : ∀ i, l (.num i) = true) : s0.Only l (State.endWrite s q k r t).2 := by
  unfold State.endWrite
  exact State.Only.ite2 h_s (State.Only.ite2 h_s (State.writeObject_only h_s (fun _ h => h) (hl.all t_obj (by decide +kernel))
      t_obj))
theorem State.blockEnd_only {s0 s : State} {q : Request} {k : Nat} {r : ObjRow} (h_s : s0.Only l s) (hl : Has l [.tide, .pps,
    .oct, .badObj, .reg, .faults, .wall, .tables, .csa, .hbm, .egs, .sched, .host, .shore, .nv, .power, .pins, .out]) (t_obj :
    ∀ i, l (.num i) = true) : s0.Only l (State.blockEnd s q k r).2 := by
  unfold State.blockEnd
  repeat' first
      | (with_reducible first | assumption | apply State.closeTransfer_only | apply State.endWrite_only)
      | exact Has.all ‹_› t_obj (by decide +kernel) | split
theorem State.claimRefused_only {s0 s : State} {code : Nat} (h_s : s0.Only l s) (hl : Has l [.num 1]) : s0.Only l
    (State.claimRefused s code).2 := by
  unfold State.claimRefused
  repeat' first | (with_reducible first | assumption | apply State.inc32_only) | exact Has.bit ‹_› (by decide +kernel)
theorem State.leaseClaim_only {s0 s : State} {q : Request} (h_s : s0.Only l s) (hl : Has l [.num 1, .num 11, .faults, .shore])
    : s0.Only l (State.leaseClaim s q).2 := by
  unfold State.leaseClaim
  repeat' first
      | (with_reducible first
          | assumption | apply State.setLease_only | apply State.setTimer_only | apply State.claimRefused_only)
      | exact Has.sub ‹_› (by decide +kernel) | split
theorem State.leaseRenew_only {s0 s : State} {q : Request} (h_s : s0.Only l s) (hl : Has l [.shore]) : s0.Only l
    (State.leaseRenew s q).2 := by
  unfold State.leaseRenew
  repeat' first | (with_reducible first | assumption | apply State.setTimer_only) | split
theorem State.leaseRelease_only {s0 s : State} {q : Request} (h_s : s0.Only l s) (hl : Has l [.num 1, .num 11, .faults,
    .shore]) : s0.Only l (State.leaseRelease s q).2 := by
  unfold State.leaseRelease
  repeat' first | (with_reducible first | assumption | apply State.setLease_only | apply State.leaseBack_only) | split
theorem State.leaseDelegate_only {s0 s : State} {q : Request} (h_s : s0.Only l s) (hl : Has l [.num 1, .num 11, .faults,
    .shore]) : s0.Only l (State.leaseDelegate s q).2 := by
  unfold State.leaseDelegate
  repeat' first | (with_reducible first | assumption | apply State.setLease_only) | split
theorem State.leaseRecall_only {s0 s : State} {q : Request} (h_s : s0.Only l s) (hl : Has l [.num 1, .num 11, .faults, .shore])
    : s0.Only l (State.leaseRecall s q).2 := by
  unfold State.leaseRecall
  repeat' first
      | (with_reducible first | assumption | apply State.setLease_only | apply State.setTimer_only)
      | exact Has.sub ‹_› (by decide +kernel) | split
theorem State.objectRequest_only {s0 s : State} {q : Request} {r : ObjRow} {cmd : State → State} (h_s : s0.Only l s) (h_cmd : ∀
    t, s0.Only l t → s0.Only l (cmd t)) (hl : Has l [.tide, .pps, .oct, .badObj, .reg, .faults, .wall, .tables, .csa, .hbm,
    .egs, .sched, .host, .shore, .nv, .power, .pins, .out]) (t_obj : ∀ i, l (.num i) = true) : s0.Only l (State.objectRequest s
    q r cmd).2 := by
  unfold State.objectRequest
  repeat' first
      | (with_reducible first
          | assumption | apply State.readObject_only | apply State.writeObject_only | apply State.blockReadInit_only
          | apply State.blockWriteInit_only | apply State.blockReadSegment_only | apply State.blockWriteSegment_only
          | apply State.blockEnd_only)
      | exact Has.all ‹_› t_obj (by decide +kernel) | (dsimp only) | split
theorem State.judge_only {s0 s : State} {q : Request} {cmd : State → State} (h_s : s0.Only l s) (h_cmd : ∀ t, s0.Only l t →
    s0.Only l (cmd t)) (hl : Has l [.tide, .pps, .oct, .badObj, .reg, .faults, .wall, .tables, .csa, .hbm, .egs, .sched, .host,
    .shore, .nv, .power, .pins, .out]) (t_obj : ∀ i, l (.num i) = true) : s0.Only l (State.judge s q cmd).2 := by
  unfold State.judge
  repeat' first
      | (with_reducible first
          | assumption | apply State.closeTransfer_only | apply State.leaseClaim_only | apply State.leaseRenew_only
          | apply State.leaseRelease_only | apply State.leaseDelegate_only | apply State.leaseRecall_only
          | apply State.objectRequest_only | apply State.Only.ite)
      | exact Has.all ‹_› t_obj (by decide +kernel) | (dsimp only) | split
theorem State.serve_only {s0 s : State} {q : Request} {cmd : State → State} (h_s : s0.Only l s) (h_cmd : ∀ t, s0.Only l t →
    s0.Only l (cmd t)) (hl : Has l [.tide, .pps, .oct, .badObj, .reg, .faults, .wall, .tables, .csa, .hbm, .egs, .sched, .host,
    .shore, .nv, .power, .pins, .out]) (t_obj : ∀ i, l (.num i) = true) : s0.Only l (State.serve s q cmd) := by
  unfold State.serve
  repeat' first
      | (with_reducible first
          | assumption | apply State.inc64_only | apply State.dequeue_only | apply State.resend_only | apply State.hearNew_only
          | apply State.finish_only | apply State.judge_only | apply State.Only.ite)
      | exact Has.all ‹_› t_obj (by decide +kernel) | exact t_obj _ | (dsimp only) | split

/-! ### Manage -/

theorem State.setNotes_only {s0 s : State} {l_ : List Note} (h_s : s0.Only l s) (hl : Has l [.shore]) : s0.Only l
    (State.setNotes s l_) := by
  unfold State.setNotes
  repeat' first
      | with_reducible assumption | exact Has.bit ‹_› (by decide +kernel) | (dsimp only)
      | fail_if_no_progress (with_reducible apply State.Only.upd_shore)
theorem State.sendNote_only {s0 s : State} {n : Note} {seq : Nat} (h_s : s0.Only l s) (hl : Has l [.num 1, .shore, .out]) :
    s0.Only l (State.sendNote s n seq) := by
  unfold State.sendNote
  repeat' first
      | (with_reducible first | assumption | apply State.sendFrame_only | apply State.setNotes_only)
      | exact Has.sub ‹_› (by decide +kernel)
theorem State.dropNote_only {s0 s : State} {n : Note} (h_s : s0.Only l s) (hl : Has l [.shore]) : s0.Only l (State.dropNote s
    n) := by
  unfold State.dropNote
  repeat' (with_reducible first | assumption | apply State.setNotes_only)

/-! ### Nv -/

theorem State.atFactory_only {s0 s : State} (h_s : s0.Only l s) (hl : Has l [.oct, .badObj]) (t_obj : ∀ i, l (.num i) = true) :
    s0.Only l (State.atFactory s) := by
  unfold State.atFactory
  refine State.setNum_only (State.Only.upd h_s (fun i hi => State.Only.no (t_obj i) hi) (State.Only.yes rfl) (State.Only.yes
      rfl) (State.Only.no (Has.bit ‹_› (by decide +kernel))) (State.Only.no (Has.bit ‹_› (by decide +kernel))) (State.Only.yes
      rfl) (State.Only.yes rfl) (State.Only.yes rfl) (State.Only.yes rfl) (State.Only.yes rfl) (State.Only.yes rfl)
      (State.Only.yes rfl) (State.Only.yes rfl) (State.Only.yes rfl) (State.Only.yes rfl) (State.Only.yes rfl) (State.Only.yes
      rfl) (State.Only.yes rfl) (State.Only.yes rfl) (State.Only.yes rfl) (State.Only.yes rfl) (State.Only.yes rfl)
      (State.Only.yes rfl) (State.Only.yes rfl) (State.Only.yes rfl) (State.Only.yes rfl) (State.Only.yes rfl) id rfl
      (List.prefix_refl _)) (t_obj _)
theorem State.recordApplied_only {s0 s : State} {x : Nat × Nat × List Byte} (h_s : s0.Only l s) (hl : Has l [.oct]) (t_obj : ∀
    i, l (.num i) = true) : s0.Only l (State.recordApplied s x) := by
  unfold State.recordApplied
  repeat' first
      | (with_reducible first | assumption | apply State.setNum_only | apply State.setOcts_only | apply State.Only.ite)
      | exact t_obj _ | (dsimp only) | split
theorem State.setReject_only {s0 s : State} {slot code : Nat} (h_s : s0.Only l s) (hl : Has l [.num 12]) : s0.Only l
    (State.setReject s slot code) := by
  unfold State.setReject
  repeat' first | (with_reducible first | assumption | apply State.setNum_only) | exact Has.bit ‹_› (by decide +kernel) | split
theorem State.copyChosen_only {s0 s : State} {slot : Nat} (h_s : s0.Only l s) (hl : Has l [.oct]) (t_obj : ∀ i, l (.num i) =
    true) : s0.Only l (State.copyChosen s slot) := by
  unfold State.copyChosen
  repeat' first
      | (with_reducible first | assumption | apply State.setNum_only | apply State.recordApplied_only | apply State.Only.foldl)
      | exact t_obj _ | intro _
theorem State.chooseCopy_only {s0 s : State} (h_s : s0.Only l s) (hl : Has l [.oct]) (t_obj : ∀ i, l (.num i) = true) : s0.Only
    l (State.chooseCopy s) := by
  unfold State.chooseCopy
  repeat' first
      | (with_reducible first
          | assumption | apply State.setSticky_only | apply State.setReject_only | apply State.copyChosen_only
          | apply State.Only.ite)
      | exact Has.all ‹_› t_obj (by decide +kernel) | exact t_obj _
theorem State.setWork_only {s0 s : State} {nvState : Nat} {w : Option FlashJob} (h_s : s0.Only l s) (hl : Has l [.num 12, .nv])
    : s0.Only l (State.setWork s nvState w) := by
  unfold State.setWork
  repeat' first
      | (with_reducible first | assumption | apply State.setNum_only) | exact Has.bit ‹_› (by decide +kernel) | (dsimp only)
      | fail_if_no_progress (with_reducible apply State.Only.upd_nv) | rfl
theorem State.beginCommit_only {s0 s : State} {image : List Byte} {seq : Nat} (h_s : s0.Only l s) (hl : Has l [.num 12, .nv]) :
    s0.Only l (State.beginCommit s image seq) := by
  unfold State.beginCommit
  repeat' (with_reducible first | assumption | apply State.setWork_only)
theorem State.nvCommit_only {s0 s : State} {seq : Nat} (h_s : s0.Only l s) (hl : Has l [.num 12, .nv]) : s0.Only l
    (State.nvCommit s seq) := by
  unfold State.nvCommit
  repeat' first
      | (with_reducible first | assumption | apply State.setNum_only | apply State.beginCommit_only | apply State.Only.ite)
      | exact Has.bit ‹_› (by decide +kernel)
theorem State.beginErase_only {s0 s : State} (h_s : s0.Only l s) (hl : Has l [.num 12, .nv]) : s0.Only l (State.beginErase s)
    := by
  unfold State.beginErase
  repeat' (with_reducible first | assumption | apply State.setWork_only)
theorem State.flashErase_only {s0 s : State} {a n : Nat} (h_s : s0.Only l s) (hl : Has l [.nv]) : s0.Only l (State.flashErase s
    a n) := by
  unfold State.flashErase
  repeat' first
      | with_reducible assumption | exact Has.bit ‹_› (by decide +kernel) | (dsimp only)
      | fail_if_no_progress (with_reducible apply State.Only.upd_nv) | rfl
theorem State.flashProgram_only {s0 s : State} {a : Nat} {l_ : List Byte} (h_s : s0.Only l s) (hl : Has l [.nv]) : s0.Only l
    (State.flashProgram s a l_) := by
  unfold State.flashProgram
  repeat' first
      | with_reducible assumption | exact Has.bit ‹_› (by decide +kernel) | (dsimp only)
      | fail_if_no_progress (with_reducible apply State.Only.upd_nv) | rfl
theorem State.flashOpen_only {s0 s : State} {a n : Nat} (h_s : s0.Only l s) (hl : Has l [.nv]) : s0.Only l (State.flashOpen s a
    n) := by
  unfold State.flashOpen
  repeat' (with_reducible first | assumption | apply State.flashProgram_only)
theorem State.commitFails_only {s0 s : State} {result : Nat} (h_s : s0.Only l s) (hl : Has l [.num 12, .nv]) : s0.Only l
    (State.commitFails s result) := by
  unfold State.commitFails
  repeat' first
      | (with_reducible first
          | assumption | apply State.setNum_only | apply State.inc32_only | apply State.setSticky_only
          | apply State.setWork_only)
      | exact Has.bit ‹_› (by decide +kernel)
theorem State.commitDone_only {s0 s : State} {j : FlashJob} (h_s : s0.Only l s) (hl : Has l [.num 12, .nv]) : s0.Only l
    (State.commitDone s j) := by
  unfold State.commitDone
  repeat' first
      | (with_reducible first | assumption | apply State.setNum_only | apply State.inc32_only | apply State.setWork_only)
      | exact Has.bit ‹_› (by decide +kernel)
theorem State.flashDone_only {s0 s : State} {j : FlashJob} {same : Bool} (h_s : s0.Only l s) (hl : Has l [.num 12, .nv]) :
    s0.Only l (State.flashDone s j same) := by
  unfold State.flashDone
  repeat' first
      | (with_reducible first
          | assumption | apply State.setNum_only | apply State.setWork_only | apply State.flashErase_only
          | apply State.flashProgram_only | apply State.flashOpen_only | apply State.commitFails_only
          | apply State.commitDone_only | apply State.Only.ite)
      | exact Has.sub ‹_› (by decide +kernel) | exact Has.bit ‹_› (by decide +kernel) | (dsimp only) | split
theorem State.flashTimeout_only {s0 s : State} {j : FlashJob} (h_s : s0.Only l s) (hl : Has l [.num 12, .nv]) : s0.Only l
    (State.flashTimeout s j) := by
  unfold State.flashTimeout
  repeat' first
      | (with_reducible first
          | assumption | apply State.setWork_only | apply State.flashOpen_only | apply State.commitFails_only)
      | exact Has.sub ‹_› (by decide +kernel) | (dsimp only) | split
theorem State.flashCut_only {s0 s : State} (h_s : s0.Only l s) (hl : Has l [.nv]) : s0.Only l (State.flashCut s) := by
  unfold State.flashCut
  repeat' first | (with_reducible first | assumption | apply State.flashErase_only | apply State.flashOpen_only) | split

/-! ### Reset -/

theorem State.bare_only {s0 s : State} (h_s : s0.Only l s) (hl : Has l [.tide, .pps, .oct, .badObj, .reg, .faults, .wall,
    .mortar, .tables, .sel, .csa, .hbm, .egs, .coast, .sched, .host, .shore, .nv, .power, .pins, .device, .sram, .run, .mem,
    .slots]) (t_obj : ∀ i, l (.num i) = true) : s0.Only l (State.bare s) := by
  refine ⟨h_s.pending, h_s.otp, fun _ => rfl, h_s.out, fun p hp => ?_⟩
  cases p with
  | out => exact h_s.same .out hp
  | num i => exact State.Only.no (t_obj i) hp
  | _ => exact State.Only.no (Has.bit ‹_› (by decide +kernel)) hp
theorem State.setPins_only {s0 s : State} {p : Pins} (h_s : s0.Only l s) (hl : Has l [.pins]) : s0.Only l (State.setPins s p)
    := by
  unfold State.setPins
  repeat' first
      | with_reducible assumption | exact Has.bit ‹_› (by decide +kernel)
      | fail_if_no_progress (with_reducible apply State.Only.upd_pins)
theorem State.withTrip_only {s0 s : State} {v : Nat} (h_s : s0.Only l s) (hl : Has l [.num 10]) : s0.Only l (State.withTrip s
    v) := by
  unfold State.withTrip
  repeat' first | (with_reducible first | assumption | apply State.setNum_only) | exact Has.bit ‹_› (by decide +kernel)
theorem State.coldDefaults_only {s0 s : State} {c : ColdStart} (h_s : s0.Only l s) (hl : Has l [.tide, .oct, .badObj, .nv])
    (t_obj : ∀ i, l (.num i) = true) : s0.Only l (State.coldDefaults s c) := by
  unfold State.coldDefaults
  extract_lets nv otp s1 s2 s3 s4
  have h1 : s0.Only l s1 := ⟨h_s.pending, h_s.otp, h_s.mem, h_s.out, fun p hp => by
    cases p <;> first | exact State.Only.no (Has.bit ‹_› (by decide +kernel)) hp | exact h_s.same _ hp⟩
  clear_value s1
  repeat' first
      | with_reducible apply State.Only.ite | with_reducible apply State.setSticky_only | with_reducible apply State.setNum_only
      | with_reducible apply State.setOcts_only | with_reducible apply State.atFactory_only | exact t_obj _ | assumption
      | exact h1 | exact hl.sub (by decide +kernel) | exact hl.all t_obj (by decide +kernel)
theorem State.coldImage_only {s0 s : State} (h_s : s0.Only l s) (hl : Has l [.oct]) (t_obj : ∀ i, l (.num i) = true) : s0.Only
    l (State.coldImage s) := by
  unfold State.coldImage
  repeat' (with_reducible first | assumption | apply State.chooseCopy_only | apply State.Only.ite)
theorem State.coldHbm_only {s0 s : State} {channels : List Nat} (h_s : s0.Only l s) (hl : Has l [.num 1, .num 5, .num 11,
    .faults, .hbm, .shore]) : s0.Only l (State.coldHbm s channels) := by
  unfold State.coldHbm
  repeat' first
      | (with_reducible first
          | assumption | apply State.failChannel_only | apply State.regionsFrom_only | apply State.Only.foldl
          | exact State.Only.yes rfl)
      | exact Has.sub ‹_› (by decide +kernel) | exact Has.bit ‹_› (by decide +kernel) | intro _ | (dsimp only)
      | fail_if_no_progress (with_reducible apply State.Only.upd_hbm)
theorem State.coldTables_only {s0 s : State} (h_s : s0.Only l s) (hl : Has l [.num 8, .tables]) : s0.Only l (State.coldTables
    s) := by
  unfold State.coldTables
  repeat' first
      | (with_reducible first | assumption | apply State.setInvStep_only | apply State.Only.foldl)
      | exact Has.sub ‹_› (by decide +kernel) | exact Has.bit ‹_› (by decide +kernel) | intro _ | (dsimp only)
      | fail_if_no_progress (with_reducible apply State.Only.upd_tables)
theorem State.putCourse_only {s0 s : State} {c v : Nat} (h_s : s0.Only l s) (hl : Has l [.wall]) : s0.Only l (State.putCourse s
    c v) := by
  unfold State.putCourse
  repeat' first
      | (with_reducible first | assumption | exact State.Only.yes rfl) | exact Has.bit ‹_› (by decide +kernel) | (dsimp only)
      | fail_if_no_progress (with_reducible apply State.Only.upd_wall)
theorem State.coldCourses_only {s0 s : State} (h_s : s0.Only l s) (hl : Has l [.num 1, .num 11, .faults, .wall, .shore]) :
    s0.Only l (State.coldCourses s) := by
  unfold State.coldCourses
  repeat' first
      | (with_reducible first
          | assumption | apply State.eventNote_only | apply State.putCourse_only | apply State.Only.ite
          | apply State.Only.foldl)
      | exact Has.sub ‹_› (by decide +kernel) | intro _ | split
theorem State.coldBank_only {s0 s : State} {b : Nat} (h_s : s0.Only l s) (hl : Has l [.csa, .hbm]) : s0.Only l (State.coldBank
    s b) := by
  unfold State.coldBank
  repeat' first
      | (with_reducible first | assumption | apply State.setCsaBank_only | apply State.putHeader_only)
      | exact Has.sub ‹_› (by decide +kernel)
theorem State.coldBankFails_only {s0 s : State} {b : Nat} (h_s : s0.Only l s) (hl : Has l [.num 1, .num 7, .num 11, .faults,
    .csa, .hbm, .shore]) : s0.Only l (State.coldBankFails s b) := by
  unfold State.coldBankFails
  repeat' first
      | (with_reducible first | assumption | apply State.putHeader_only | apply State.csaFail_only)
      | exact Has.sub ‹_› (by decide +kernel)
theorem State.routersFail_only {s0 s : State} (h_s : s0.Only l s) (hl : Has l [.num 1, .num 11, .reg, .faults, .host, .shore,
    .nv, .device]) : s0.Only l (State.routersFail s) := by
  unfold State.routersFail
  have h : s0.Only l (s.deviceFault 0x0A42 1 0 0) := State.deviceFault_only h_s (hl.sub (by decide +kernel))
  generalize s.deviceFault 0x0A42 1 0 0 = t at h ⊢
  exact State.Only.upd_nv h
theorem State.coldTests_only {s0 s : State} {c : ColdStart} (h_s : s0.Only l s) (hl : Has l [.num 1, .num 7, .num 10, .num 11,
    .num 13, .reg, .faults, .wall, .sel, .csa, .hbm, .host, .shore, .nv, .power, .device]) : s0.Only l (State.coldTests s c) :=
    by
  unfold State.coldTests
  repeat' first
      | (with_reducible first
          | assumption | apply State.setNum_only | apply State.retirePending_only | apply State.coursesApplied_only
          | apply State.unitFailed_only | apply State.csaForcing_only | apply State.dispatchForcing_only
          | apply State.alertTemp_only | apply State.sensorFails_only | apply State.coldBankFails_only
          | apply State.routersFail_only | apply State.Only.ite | apply State.Only.foldl)
      | exact Has.sub ‹_› (by decide +kernel) | exact Has.bit ‹_› (by decide +kernel) | intro _
theorem State.coldPin_only {s0 s : State} {n : Nat} (h_s : s0.Only l s) (hl : Has l [.num 14, .pins]) : s0.Only l
    (State.coldPin s n) := by
  unfold State.coldPin
  repeat' first
      | (with_reducible first | assumption | apply State.setNum_only | apply State.setPin_only | apply State.Only.ite)
      | exact Has.sub ‹_› (by decide +kernel) | exact State.Only.fam ‹_› (by decide) (by decide) (by decide +kernel)
theorem State.coldGenerators_only {s0 s : State} (h_s : s0.Only l s) (hl : Has l [.tide]) : s0.Only l (State.coldGenerators s)
    := by
  unfold State.coldGenerators
  repeat' first
      | with_reducible assumption | exact Has.bit ‹_› (by decide +kernel) | (dsimp only)
      | fail_if_no_progress (with_reducible apply State.Only.upd_tide)
theorem State.coldApply_only {s0 s : State} {c : ColdStart} (h_s : s0.Only l s) (hl : Has l [.num 1, .num 5, .num 7, .num 8,
    .num 10, .num 11, .num 13, .num 14, .tide, .reg, .faults, .wall, .tables, .sel, .csa, .hbm, .host, .shore, .nv, .power,
    .pins, .device]) : s0.Only l (State.coldApply s c) := by
  unfold State.coldApply
  repeat' first
      | (with_reducible first
          | assumption | apply State.resetLevels_only | apply State.windowsFrom_only | apply State.coldHbm_only
          | apply State.coldTables_only | apply State.coldCourses_only | apply State.coldBank_only | apply State.coldTests_only
          | apply State.coldPin_only | apply State.coldGenerators_only | apply State.Only.foldl)
      | exact Has.sub ‹_› (by decide +kernel) | exact Has.bit ‹_› (by decide +kernel) | intro _ | (dsimp only)
      | fail_if_no_progress (with_reducible apply State.Only.upd_shore)
theorem State.coldReady_only {s0 s : State} {c : ColdStart} (h_s : s0.Only l s) (hl : Has l [.num 1, .num 9, .num 11, .num 12,
    .faults, .coast, .shore, .nv]) : s0.Only l (State.coldReady s c) := by
  unfold State.coldReady
  refine State.Only.ite (State.Only.upd_nv h_s) ?_
  have h : s0.Only l (s.trainPorts (List.range 8)) := State.trainPorts_only h_s (hl.sub (by decide +kernel))
  generalize s.trainPorts (List.range 8) = t at h ⊢
  have h2 : s0.Only l (t.setNum Obj.START_US (sat32 c.micros)) := State.setNum_only h
        (by first | exact hl.bit (by decide +kernel) | exact State.Only.fam hl (by decide) (by decide) (by decide +kernel) | exact State.Only.fam1 hl (by decide) (by decide +kernel))
  dsimp only
  generalize t.setNum Obj.START_US (sat32 c.micros) = u at h2 ⊢
  exact State.Only.ite (State.Only.upd_nv h) (State.Only.upd_nv h2)
theorem State.coldStart_only {s0 s : State} {c : ColdStart} (h_s : s0.Only l s) (hl : Has l [.tide, .oct, .badObj, .reg,
    .faults, .wall, .tables, .sel, .csa, .hbm, .coast, .sched, .host, .shore, .nv, .power, .pins, .out, .device]) (t_obj : ∀ i,
    l (.num i) = true) : s0.Only l (State.coldStart s c) := by
  unfold State.coldStart
  repeat' first
      | (with_reducible first
          | assumption | apply State.settle_only | apply State.deviceFault_only | apply State.withTrip_only
          | apply State.coldDefaults_only | apply State.coldImage_only | apply State.coldApply_only
          | apply State.coldReady_only | apply State.Only.ite)
      | exact Has.all ‹_› t_obj (by decide +kernel)
theorem State.warmEgs_only {s0 s : State} (h_s : s0.Only l s) (hl : Has l [.num 1, .num 5, .num 11, .faults, .hbm, .egs,
    .shore, .mem]) : s0.Only l (State.warmEgs s) := by
  unfold State.warmEgs
  repeat' first
      | (with_reducible first | assumption | apply State.dropFlip_only | apply State.Only.foldl)
      | exact Has.bit ‹_› (by decide +kernel) | intro _ | (dsimp only)
      | fail_if_no_progress (with_reducible apply State.Only.upd_egs)
theorem State.warmBank_only {s0 s : State} {b : Nat} (h_s : s0.Only l s) (hl : Has l [.num 1, .num 5, .num 7, .num 11, .faults,
    .csa, .hbm, .shore]) : s0.Only l (State.warmBank s b) := by
  unfold State.warmBank
  repeat' first
      | (with_reducible first
          | assumption | apply State.eventNote_only | apply State.readLines_only | apply State.setCsaBank_only
          | apply State.scrubAccount_only | apply State.clearNow_only | apply State.Only.ite)
      | exact Has.sub ‹_› (by decide +kernel) | exact Has.bit ‹_› (by decide +kernel) | (dsimp only) | split
      | fail_if_no_progress (with_reducible apply State.Only.upd_csa)
theorem State.warmArrays_only {s0 s : State} (h_s : s0.Only l s) (hl : Has l [.num 1, .num 5, .num 7, .num 10, .num 11,
    .faults, .sel, .csa, .hbm, .shore, .power]) : s0.Only l (State.warmArrays s) := by
  unfold State.warmArrays
  repeat' first
      | (with_reducible first
          | assumption | apply State.resetLevels_only | apply State.warmBank_only | apply State.Only.foldl
          | exact State.Only.yes rfl)
      | exact Has.sub ‹_› (by decide +kernel) | intro _ _ _ _; rfl | exact State.Only.no (Has.bit ‹_› (by decide +kernel))
      | intro _ | (dsimp only) | fail_if_no_progress (with_reducible apply State.Only.upd) | exact List.prefix_refl _
theorem State.warmWall_only {s0 s : State} (h_s : s0.Only l s) (hl : Has l [.num 1, .num 4, .num 5, .num 11, .faults, .wall,
    .mortar, .sel, .csa, .hbm, .egs, .sched, .shore, .sram, .mem, .slots]) : s0.Only l (State.warmWall s) := by
  unfold State.warmWall
  repeat' first
      | (with_reducible first
          | assumption | apply State.shadowEmpty_only | apply State.closeBooks_only | apply State.zeroiseSram_only
          | exact State.Only.yes rfl)
      | exact Has.sub ‹_› (by decide +kernel) | intro _ _ _ _; rfl | exact State.Only.no (Has.bit ‹_› (by decide +kernel))
      | intro _ | (dsimp only) | fail_if_no_progress (with_reducible apply State.Only.upd) | exact List.prefix_refl _
theorem State.warmCoast_only {s0 s : State} (h_s : s0.Only l s) (hl : Has l [.num 1, .num 3, .num 4, .num 5, .num 6, .num 8,
    .num 9, .num 10, .num 11, .reg, .faults, .wall, .mortar, .tables, .hbm, .egs, .coast, .sched, .host, .shore, .power, .out,
    .mem]) : s0.Only l (State.warmCoast s) := by
  unfold State.warmCoast
  repeat' first
      | (with_reducible first
          | assumption | apply State.setNum_only | apply State.sendCredit_only | apply State.reachCheck_only
          | apply State.trainPorts_only | apply State.Only.foldl)
      | exact Has.sub ‹_› (by decide +kernel) | exact Has.bit ‹_› (by decide +kernel) | intro _ | (dsimp only)
      | fail_if_no_progress (with_reducible apply State.Only.upd_coast)
theorem State.warmReady_only {s0 s : State} (h_s : s0.Only l s) (hl : Has l [.num 1, .num 3, .num 4, .num 5, .num 8, .num 10,
    .num 11, .num 12, .reg, .faults, .wall, .tables, .hbm, .sched, .host, .shore, .nv, .power, .out, .device]) : s0.Only l
    (State.warmReady s) := by
  unfold State.warmReady
  repeat' first
      | (with_reducible first
          | assumption | apply State.setNum_only | apply State.inc32_only | apply State.event_only
          | apply State.raiseGlobal_only | apply State.settle_only | exact State.Only.yes rfl)
      | exact Has.sub ‹_› (by decide +kernel) | exact Has.bit ‹_› (by decide +kernel) | intro _ _ _ _; rfl
      | exact State.Only.no (Has.bit ‹_› (by decide +kernel)) | intro _ | (dsimp only)
      | fail_if_no_progress (with_reducible apply State.Only.upd) | exact List.prefix_refl _
theorem State.warmDone_only {s0 s : State} (h_s : s0.Only l s) (hl : Has l [.num 1, .num 3, .num 4, .num 5, .num 6, .num 7,
    .num 8, .num 9, .num 10, .num 11, .num 12, .reg, .faults, .wall, .mortar, .tables, .sel, .csa, .hbm, .egs, .coast, .sched,
    .host, .shore, .nv, .power, .out, .device, .sram, .mem, .slots]) : s0.Only l (State.warmDone s) := by
  unfold State.warmDone
  repeat' first
      | (with_reducible first
          | assumption | apply State.warmEgs_only | apply State.warmArrays_only | apply State.warmWall_only
          | apply State.warmCoast_only | apply State.warmReady_only)
      | exact Has.sub ‹_› (by decide +kernel)

/-! ### Step -/

theorem State.withFetchWord_only {s0 s : State} {nbits w : Nat} (h_s : s0.Only l s) : s0.Only l (State.withFetchWord s nbits w)
    := by
  exact h_s

end Sys2Proof.Machine
end

