-- ==== Sys2Proof/Laws/State.lean ====
section
/-!
SUPPORT. What the updates of the state leave alone, field by field, and what the reads of numbers give after them.
-/

namespace Sys2Proof.Machine

/-- The parts of a list, as a predicate. -/
def among (ps : List Part) (p : Part) : Bool := ps.any fun q => q.code == p.code
theorem Has.among (ps : List Part) : Has (among ps) ps := fun p hp => List.any_eq_true.2 ⟨p, hp, beq_self_eq_true _⟩

/-- Every part that a settling of the job choice does not write stands. -/
theorem State.settle_keeps (s : State) (p : Part) (h : among [.num 1, .num 3, .num 4, .num 5, .num 8, .num 10, .num 11, .reg, .faults,
    .wall, .tables, .hbm, .sched, .host, .shore, .power, .out] p = false) : p.same s s.settle :=
  (State.settle_only (.refl s) (Has.among _)).same p h

namespace State

variable (s : State)

/-! `setNum` writes `obj` alone. -/

@[simp] theorem setNum_tide (k v : Nat) : (s.setNum k v).tide = s.tide := rfl
@[simp] theorem setNum_pps (k v : Nat) : (s.setNum k v).pps = s.pps := rfl
@[simp] theorem setNum_oct (k v : Nat) : (s.setNum k v).oct = s.oct := rfl
@[simp] theorem setNum_badObj (k v : Nat) : (s.setNum k v).badObj = s.badObj := rfl
@[simp] theorem setNum_reg (k v : Nat) : (s.setNum k v).reg = s.reg := rfl
@[simp] theorem setNum_faults (k v : Nat) : (s.setNum k v).faults = s.faults := rfl
@[simp] theorem setNum_wall (k v : Nat) : (s.setNum k v).wall = s.wall := rfl
@[simp] theorem setNum_mortar (k v : Nat) : (s.setNum k v).mortar = s.mortar := rfl
@[simp] theorem setNum_tables (k v : Nat) : (s.setNum k v).tables = s.tables := rfl
@[simp] theorem setNum_sel (k v : Nat) : (s.setNum k v).sel = s.sel := rfl
@[simp] theorem setNum_csa (k v : Nat) : (s.setNum k v).csa = s.csa := rfl
@[simp] theorem setNum_hbm (k v : Nat) : (s.setNum k v).hbm = s.hbm := rfl
@[simp] theorem setNum_egs (k v : Nat) : (s.setNum k v).egs = s.egs := rfl
@[simp] theorem setNum_coast (k v : Nat) : (s.setNum k v).coast = s.coast := rfl
@[simp] theorem setNum_sched (k v : Nat) : (s.setNum k v).sched = s.sched := rfl
@[simp] theorem setNum_host (k v : Nat) : (s.setNum k v).host = s.host := rfl
@[simp] theorem setNum_shore (k v : Nat) : (s.setNum k v).shore = s.shore := rfl
@[simp] theorem setNum_nv (k v : Nat) : (s.setNum k v).nv = s.nv := rfl
@[simp] theorem setNum_power (k v : Nat) : (s.setNum k v).power = s.power := rfl
@[simp] theorem setNum_pins (k v : Nat) : (s.setNum k v).pins = s.pins := rfl
@[simp] theorem setNum_out (k v : Nat) : (s.setNum k v).out = s.out := rfl
@[simp] theorem setNum_pending (k v : Nat) : (s.setNum k v).pending = s.pending := rfl

/-! `setOcts` writes `oct` alone. -/

@[simp] theorem setOcts_tide (k o : Nat) (l : List Byte) : (s.setOcts k o l).tide = s.tide := rfl
@[simp] theorem setOcts_pps (k o : Nat) (l : List Byte) : (s.setOcts k o l).pps = s.pps := rfl
@[simp] theorem setOcts_obj (k o : Nat) (l : List Byte) : (s.setOcts k o l).obj = s.obj := rfl
@[simp] theorem setOcts_badObj (k o : Nat) (l : List Byte) : (s.setOcts k o l).badObj = s.badObj := rfl
@[simp] theorem setOcts_reg (k o : Nat) (l : List Byte) : (s.setOcts k o l).reg = s.reg := rfl
@[simp] theorem setOcts_faults (k o : Nat) (l : List Byte) : (s.setOcts k o l).faults = s.faults := rfl
@[simp] theorem setOcts_wall (k o : Nat) (l : List Byte) : (s.setOcts k o l).wall = s.wall := rfl
@[simp] theorem setOcts_mortar (k o : Nat) (l : List Byte) : (s.setOcts k o l).mortar = s.mortar := rfl
@[simp] theorem setOcts_tables (k o : Nat) (l : List Byte) : (s.setOcts k o l).tables = s.tables := rfl
@[simp] theorem setOcts_sel (k o : Nat) (l : List Byte) : (s.setOcts k o l).sel = s.sel := rfl
@[simp] theorem setOcts_csa (k o : Nat) (l : List Byte) : (s.setOcts k o l).csa = s.csa := rfl
@[simp] theorem setOcts_hbm (k o : Nat) (l : List Byte) : (s.setOcts k o l).hbm = s.hbm := rfl
@[simp] theorem setOcts_egs (k o : Nat) (l : List Byte) : (s.setOcts k o l).egs = s.egs := rfl
@[simp] theorem setOcts_coast (k o : Nat) (l : List Byte) : (s.setOcts k o l).coast = s.coast := rfl
@[simp] theorem setOcts_sched (k o : Nat) (l : List Byte) : (s.setOcts k o l).sched = s.sched := rfl
@[simp] theorem setOcts_host (k o : Nat) (l : List Byte) : (s.setOcts k o l).host = s.host := rfl
@[simp] theorem setOcts_shore (k o : Nat) (l : List Byte) : (s.setOcts k o l).shore = s.shore := rfl
@[simp] theorem setOcts_nv (k o : Nat) (l : List Byte) : (s.setOcts k o l).nv = s.nv := rfl
@[simp] theorem setOcts_power (k o : Nat) (l : List Byte) : (s.setOcts k o l).power = s.power := rfl
@[simp] theorem setOcts_pins (k o : Nat) (l : List Byte) : (s.setOcts k o l).pins = s.pins := rfl
@[simp] theorem setOcts_out (k o : Nat) (l : List Byte) : (s.setOcts k o l).out = s.out := rfl
@[simp] theorem setOcts_pending (k o : Nat) (l : List Byte) : (s.setOcts k o l).pending = s.pending := rfl

/-! `regSet` writes `reg` alone. -/

@[simp] theorem regSet_tide (a v : Nat) : (s.regSet a v).tide = s.tide := rfl
@[simp] theorem regSet_pps (a v : Nat) : (s.regSet a v).pps = s.pps := rfl
@[simp] theorem regSet_obj (a v : Nat) : (s.regSet a v).obj = s.obj := rfl
@[simp] theorem regSet_oct (a v : Nat) : (s.regSet a v).oct = s.oct := rfl
@[simp] theorem regSet_badObj (a v : Nat) : (s.regSet a v).badObj = s.badObj := rfl
@[simp] theorem regSet_faults (a v : Nat) : (s.regSet a v).faults = s.faults := rfl
@[simp] theorem regSet_wall (a v : Nat) : (s.regSet a v).wall = s.wall := rfl
@[simp] theorem regSet_mortar (a v : Nat) : (s.regSet a v).mortar = s.mortar := rfl
@[simp] theorem regSet_tables (a v : Nat) : (s.regSet a v).tables = s.tables := rfl
@[simp] theorem regSet_sel (a v : Nat) : (s.regSet a v).sel = s.sel := rfl
@[simp] theorem regSet_csa (a v : Nat) : (s.regSet a v).csa = s.csa := rfl
@[simp] theorem regSet_hbm (a v : Nat) : (s.regSet a v).hbm = s.hbm := rfl
@[simp] theorem regSet_egs (a v : Nat) : (s.regSet a v).egs = s.egs := rfl
@[simp] theorem regSet_coast (a v : Nat) : (s.regSet a v).coast = s.coast := rfl
@[simp] theorem regSet_sched (a v : Nat) : (s.regSet a v).sched = s.sched := rfl
@[simp] theorem regSet_host (a v : Nat) : (s.regSet a v).host = s.host := rfl
@[simp] theorem regSet_shore (a v : Nat) : (s.regSet a v).shore = s.shore := rfl
@[simp] theorem regSet_nv (a v : Nat) : (s.regSet a v).nv = s.nv := rfl
@[simp] theorem regSet_power (a v : Nat) : (s.regSet a v).power = s.power := rfl
@[simp] theorem regSet_pins (a v : Nat) : (s.regSet a v).pins = s.pins := rfl
@[simp] theorem regSet_out (a v : Nat) : (s.regSet a v).out = s.out := rfl
@[simp] theorem regSet_pending (a v : Nat) : (s.regSet a v).pending = s.pending := rfl

/-! `emit` writes `out` alone. -/

@[simp] theorem emit_tide (o : Out) : (s.emit o).tide = s.tide := rfl
@[simp] theorem emit_pps (o : Out) : (s.emit o).pps = s.pps := rfl
@[simp] theorem emit_obj (o : Out) : (s.emit o).obj = s.obj := rfl
@[simp] theorem emit_oct (o : Out) : (s.emit o).oct = s.oct := rfl
@[simp] theorem emit_badObj (o : Out) : (s.emit o).badObj = s.badObj := rfl
@[simp] theorem emit_reg (o : Out) : (s.emit o).reg = s.reg := rfl
@[simp] theorem emit_faults (o : Out) : (s.emit o).faults = s.faults := rfl
@[simp] theorem emit_wall (o : Out) : (s.emit o).wall = s.wall := rfl
@[simp] theorem emit_mortar (o : Out) : (s.emit o).mortar = s.mortar := rfl
@[simp] theorem emit_tables (o : Out) : (s.emit o).tables = s.tables := rfl
@[simp] theorem emit_sel (o : Out) : (s.emit o).sel = s.sel := rfl
@[simp] theorem emit_csa (o : Out) : (s.emit o).csa = s.csa := rfl
@[simp] theorem emit_hbm (o : Out) : (s.emit o).hbm = s.hbm := rfl
@[simp] theorem emit_egs (o : Out) : (s.emit o).egs = s.egs := rfl
@[simp] theorem emit_coast (o : Out) : (s.emit o).coast = s.coast := rfl
@[simp] theorem emit_sched (o : Out) : (s.emit o).sched = s.sched := rfl
@[simp] theorem emit_host (o : Out) : (s.emit o).host = s.host := rfl
@[simp] theorem emit_shore (o : Out) : (s.emit o).shore = s.shore := rfl
@[simp] theorem emit_nv (o : Out) : (s.emit o).nv = s.nv := rfl
@[simp] theorem emit_power (o : Out) : (s.emit o).power = s.power := rfl
@[simp] theorem emit_pins (o : Out) : (s.emit o).pins = s.pins := rfl
@[simp] theorem emit_pending (o : Out) : (s.emit o).pending = s.pending := rfl

/-! `setSlot` writes `wall` alone. -/

@[simp] theorem setSlot_tide (k : Nat) (x : Slot) : (s.setSlot k x).tide = s.tide := rfl
@[simp] theorem setSlot_pps (k : Nat) (x : Slot) : (s.setSlot k x).pps = s.pps := rfl
@[simp] theorem setSlot_obj (k : Nat) (x : Slot) : (s.setSlot k x).obj = s.obj := rfl
@[simp] theorem setSlot_oct (k : Nat) (x : Slot) : (s.setSlot k x).oct = s.oct := rfl
@[simp] theorem setSlot_badObj (k : Nat) (x : Slot) : (s.setSlot k x).badObj = s.badObj := rfl
@[simp] theorem setSlot_reg (k : Nat) (x : Slot) : (s.setSlot k x).reg = s.reg := rfl
@[simp] theorem setSlot_faults (k : Nat) (x : Slot) : (s.setSlot k x).faults = s.faults := rfl
@[simp] theorem setSlot_mortar (k : Nat) (x : Slot) : (s.setSlot k x).mortar = s.mortar := rfl
@[simp] theorem setSlot_tables (k : Nat) (x : Slot) : (s.setSlot k x).tables = s.tables := rfl
@[simp] theorem setSlot_sel (k : Nat) (x : Slot) : (s.setSlot k x).sel = s.sel := rfl
@[simp] theorem setSlot_csa (k : Nat) (x : Slot) : (s.setSlot k x).csa = s.csa := rfl
@[simp] theorem setSlot_hbm (k : Nat) (x : Slot) : (s.setSlot k x).hbm = s.hbm := rfl
@[simp] theorem setSlot_egs (k : Nat) (x : Slot) : (s.setSlot k x).egs = s.egs := rfl
@[simp] theorem setSlot_coast (k : Nat) (x : Slot) : (s.setSlot k x).coast = s.coast := rfl
@[simp] theorem setSlot_sched (k : Nat) (x : Slot) : (s.setSlot k x).sched = s.sched := rfl
@[simp] theorem setSlot_host (k : Nat) (x : Slot) : (s.setSlot k x).host = s.host := rfl
@[simp] theorem setSlot_shore (k : Nat) (x : Slot) : (s.setSlot k x).shore = s.shore := rfl
@[simp] theorem setSlot_nv (k : Nat) (x : Slot) : (s.setSlot k x).nv = s.nv := rfl
@[simp] theorem setSlot_power (k : Nat) (x : Slot) : (s.setSlot k x).power = s.power := rfl
@[simp] theorem setSlot_pins (k : Nat) (x : Slot) : (s.setSlot k x).pins = s.pins := rfl
@[simp] theorem setSlot_out (k : Nat) (x : Slot) : (s.setSlot k x).out = s.out := rfl
@[simp] theorem setSlot_pending (k : Nat) (x : Slot) : (s.setSlot k x).pending = s.pending := rfl

/-! `setHandle` writes `wall` alone. -/

@[simp] theorem setHandle_tide (k : Nat) (x : Handle) : (s.setHandle k x).tide = s.tide := rfl
@[simp] theorem setHandle_pps (k : Nat) (x : Handle) : (s.setHandle k x).pps = s.pps := rfl
@[simp] theorem setHandle_obj (k : Nat) (x : Handle) : (s.setHandle k x).obj = s.obj := rfl
@[simp] theorem setHandle_oct (k : Nat) (x : Handle) : (s.setHandle k x).oct = s.oct := rfl
@[simp] theorem setHandle_badObj (k : Nat) (x : Handle) : (s.setHandle k x).badObj = s.badObj := rfl
@[simp] theorem setHandle_reg (k : Nat) (x : Handle) : (s.setHandle k x).reg = s.reg := rfl
@[simp] theorem setHandle_faults (k : Nat) (x : Handle) : (s.setHandle k x).faults = s.faults := rfl
@[simp] theorem setHandle_mortar (k : Nat) (x : Handle) : (s.setHandle k x).mortar = s.mortar := rfl
@[simp] theorem setHandle_tables (k : Nat) (x : Handle) : (s.setHandle k x).tables = s.tables := rfl
@[simp] theorem setHandle_sel (k : Nat) (x : Handle) : (s.setHandle k x).sel = s.sel := rfl
@[simp] theorem setHandle_csa (k : Nat) (x : Handle) : (s.setHandle k x).csa = s.csa := rfl
@[simp] theorem setHandle_hbm (k : Nat) (x : Handle) : (s.setHandle k x).hbm = s.hbm := rfl
@[simp] theorem setHandle_egs (k : Nat) (x : Handle) : (s.setHandle k x).egs = s.egs := rfl
@[simp] theorem setHandle_coast (k : Nat) (x : Handle) : (s.setHandle k x).coast = s.coast := rfl
@[simp] theorem setHandle_sched (k : Nat) (x : Handle) : (s.setHandle k x).sched = s.sched := rfl
@[simp] theorem setHandle_host (k : Nat) (x : Handle) : (s.setHandle k x).host = s.host := rfl
@[simp] theorem setHandle_shore (k : Nat) (x : Handle) : (s.setHandle k x).shore = s.shore := rfl
@[simp] theorem setHandle_nv (k : Nat) (x : Handle) : (s.setHandle k x).nv = s.nv := rfl
@[simp] theorem setHandle_power (k : Nat) (x : Handle) : (s.setHandle k x).power = s.power := rfl
@[simp] theorem setHandle_pins (k : Nat) (x : Handle) : (s.setHandle k x).pins = s.pins := rfl
@[simp] theorem setHandle_out (k : Nat) (x : Handle) : (s.setHandle k x).out = s.out := rfl
@[simp] theorem setHandle_pending (k : Nat) (x : Handle) : (s.setHandle k x).pending = s.pending := rfl

/-! `setBrick` writes `wall` alone. -/

@[simp] theorem setBrick_tide (b : Nat) (x : Brick) : (s.setBrick b x).tide = s.tide := rfl
@[simp] theorem setBrick_pps (b : Nat) (x : Brick) : (s.setBrick b x).pps = s.pps := rfl
@[simp] theorem setBrick_obj (b : Nat) (x : Brick) : (s.setBrick b x).obj = s.obj := rfl
@[simp] theorem setBrick_oct (b : Nat) (x : Brick) : (s.setBrick b x).oct = s.oct := rfl
@[simp] theorem setBrick_badObj (b : Nat) (x : Brick) : (s.setBrick b x).badObj = s.badObj := rfl
@[simp] theorem setBrick_reg (b : Nat) (x : Brick) : (s.setBrick b x).reg = s.reg := rfl
@[simp] theorem setBrick_faults (b : Nat) (x : Brick) : (s.setBrick b x).faults = s.faults := rfl
@[simp] theorem setBrick_mortar (b : Nat) (x : Brick) : (s.setBrick b x).mortar = s.mortar := rfl
@[simp] theorem setBrick_tables (b : Nat) (x : Brick) : (s.setBrick b x).tables = s.tables := rfl
@[simp] theorem setBrick_sel (b : Nat) (x : Brick) : (s.setBrick b x).sel = s.sel := rfl
@[simp] theorem setBrick_csa (b : Nat) (x : Brick) : (s.setBrick b x).csa = s.csa := rfl
@[simp] theorem setBrick_hbm (b : Nat) (x : Brick) : (s.setBrick b x).hbm = s.hbm := rfl
@[simp] theorem setBrick_egs (b : Nat) (x : Brick) : (s.setBrick b x).egs = s.egs := rfl
@[simp] theorem setBrick_coast (b : Nat) (x : Brick) : (s.setBrick b x).coast = s.coast := rfl
@[simp] theorem setBrick_sched (b : Nat) (x : Brick) : (s.setBrick b x).sched = s.sched := rfl
@[simp] theorem setBrick_host (b : Nat) (x : Brick) : (s.setBrick b x).host = s.host := rfl
@[simp] theorem setBrick_shore (b : Nat) (x : Brick) : (s.setBrick b x).shore = s.shore := rfl
@[simp] theorem setBrick_nv (b : Nat) (x : Brick) : (s.setBrick b x).nv = s.nv := rfl
@[simp] theorem setBrick_power (b : Nat) (x : Brick) : (s.setBrick b x).power = s.power := rfl
@[simp] theorem setBrick_pins (b : Nat) (x : Brick) : (s.setBrick b x).pins = s.pins := rfl
@[simp] theorem setBrick_out (b : Nat) (x : Brick) : (s.setBrick b x).out = s.out := rfl
@[simp] theorem setBrick_pending (b : Nat) (x : Brick) : (s.setBrick b x).pending = s.pending := rfl

/-! `setPort` writes `coast` alone. -/

@[simp] theorem setPort_tide (p : Nat) (c : Port) : (s.setPort p c).tide = s.tide := rfl
@[simp] theorem setPort_pps (p : Nat) (c : Port) : (s.setPort p c).pps = s.pps := rfl
@[simp] theorem setPort_obj (p : Nat) (c : Port) : (s.setPort p c).obj = s.obj := rfl
@[simp] theorem setPort_oct (p : Nat) (c : Port) : (s.setPort p c).oct = s.oct := rfl
@[simp] theorem setPort_badObj (p : Nat) (c : Port) : (s.setPort p c).badObj = s.badObj := rfl
@[simp] theorem setPort_reg (p : Nat) (c : Port) : (s.setPort p c).reg = s.reg := rfl
@[simp] theorem setPort_faults (p : Nat) (c : Port) : (s.setPort p c).faults = s.faults := rfl
@[simp] theorem setPort_wall (p : Nat) (c : Port) : (s.setPort p c).wall = s.wall := rfl
@[simp] theorem setPort_mortar (p : Nat) (c : Port) : (s.setPort p c).mortar = s.mortar := rfl
@[simp] theorem setPort_tables (p : Nat) (c : Port) : (s.setPort p c).tables = s.tables := rfl
@[simp] theorem setPort_sel (p : Nat) (c : Port) : (s.setPort p c).sel = s.sel := rfl
@[simp] theorem setPort_csa (p : Nat) (c : Port) : (s.setPort p c).csa = s.csa := rfl
@[simp] theorem setPort_hbm (p : Nat) (c : Port) : (s.setPort p c).hbm = s.hbm := rfl
@[simp] theorem setPort_egs (p : Nat) (c : Port) : (s.setPort p c).egs = s.egs := rfl
@[simp] theorem setPort_sched (p : Nat) (c : Port) : (s.setPort p c).sched = s.sched := rfl
@[simp] theorem setPort_host (p : Nat) (c : Port) : (s.setPort p c).host = s.host := rfl
@[simp] theorem setPort_shore (p : Nat) (c : Port) : (s.setPort p c).shore = s.shore := rfl
@[simp] theorem setPort_nv (p : Nat) (c : Port) : (s.setPort p c).nv = s.nv := rfl
@[simp] theorem setPort_power (p : Nat) (c : Port) : (s.setPort p c).power = s.power := rfl
@[simp] theorem setPort_pins (p : Nat) (c : Port) : (s.setPort p c).pins = s.pins := rfl
@[simp] theorem setPort_out (p : Nat) (c : Port) : (s.setPort p c).out = s.out := rfl
@[simp] theorem setPort_pending (p : Nat) (c : Port) : (s.setPort p c).pending = s.pending := rfl

/-! `setMember` writes `coast` alone. -/

@[simp] theorem setMember_tide (d : Nat) (m : Member) : (s.setMember d m).tide = s.tide := rfl
@[simp] theorem setMember_pps (d : Nat) (m : Member) : (s.setMember d m).pps = s.pps := rfl
@[simp] theorem setMember_obj (d : Nat) (m : Member) : (s.setMember d m).obj = s.obj := rfl
@[simp] theorem setMember_oct (d : Nat) (m : Member) : (s.setMember d m).oct = s.oct := rfl
@[simp] theorem setMember_badObj (d : Nat) (m : Member) : (s.setMember d m).badObj = s.badObj := rfl
@[simp] theorem setMember_reg (d : Nat) (m : Member) : (s.setMember d m).reg = s.reg := rfl
@[simp] theorem setMember_faults (d : Nat) (m : Member) : (s.setMember d m).faults = s.faults := rfl
@[simp] theorem setMember_wall (d : Nat) (m : Member) : (s.setMember d m).wall = s.wall := rfl
@[simp] theorem setMember_mortar (d : Nat) (m : Member) : (s.setMember d m).mortar = s.mortar := rfl
@[simp] theorem setMember_tables (d : Nat) (m : Member) : (s.setMember d m).tables = s.tables := rfl
@[simp] theorem setMember_sel (d : Nat) (m : Member) : (s.setMember d m).sel = s.sel := rfl
@[simp] theorem setMember_csa (d : Nat) (m : Member) : (s.setMember d m).csa = s.csa := rfl
@[simp] theorem setMember_hbm (d : Nat) (m : Member) : (s.setMember d m).hbm = s.hbm := rfl
@[simp] theorem setMember_egs (d : Nat) (m : Member) : (s.setMember d m).egs = s.egs := rfl
@[simp] theorem setMember_sched (d : Nat) (m : Member) : (s.setMember d m).sched = s.sched := rfl
@[simp] theorem setMember_host (d : Nat) (m : Member) : (s.setMember d m).host = s.host := rfl
@[simp] theorem setMember_shore (d : Nat) (m : Member) : (s.setMember d m).shore = s.shore := rfl
@[simp] theorem setMember_nv (d : Nat) (m : Member) : (s.setMember d m).nv = s.nv := rfl
@[simp] theorem setMember_power (d : Nat) (m : Member) : (s.setMember d m).power = s.power := rfl
@[simp] theorem setMember_pins (d : Nat) (m : Member) : (s.setMember d m).pins = s.pins := rfl
@[simp] theorem setMember_out (d : Nat) (m : Member) : (s.setMember d m).out = s.out := rfl
@[simp] theorem setMember_pending (d : Nat) (m : Member) : (s.setMember d m).pending = s.pending := rfl

/-! `setCsaBank` writes `csa` alone. -/

@[simp] theorem setCsaBank_tide (b : Nat) (x : CsaBank) : (s.setCsaBank b x).tide = s.tide := rfl
@[simp] theorem setCsaBank_pps (b : Nat) (x : CsaBank) : (s.setCsaBank b x).pps = s.pps := rfl
@[simp] theorem setCsaBank_obj (b : Nat) (x : CsaBank) : (s.setCsaBank b x).obj = s.obj := rfl
@[simp] theorem setCsaBank_oct (b : Nat) (x : CsaBank) : (s.setCsaBank b x).oct = s.oct := rfl
@[simp] theorem setCsaBank_badObj (b : Nat) (x : CsaBank) : (s.setCsaBank b x).badObj = s.badObj := rfl
@[simp] theorem setCsaBank_reg (b : Nat) (x : CsaBank) : (s.setCsaBank b x).reg = s.reg := rfl
@[simp] theorem setCsaBank_faults (b : Nat) (x : CsaBank) : (s.setCsaBank b x).faults = s.faults := rfl
@[simp] theorem setCsaBank_wall (b : Nat) (x : CsaBank) : (s.setCsaBank b x).wall = s.wall := rfl
@[simp] theorem setCsaBank_mortar (b : Nat) (x : CsaBank) : (s.setCsaBank b x).mortar = s.mortar := rfl
@[simp] theorem setCsaBank_tables (b : Nat) (x : CsaBank) : (s.setCsaBank b x).tables = s.tables := rfl
@[simp] theorem setCsaBank_sel (b : Nat) (x : CsaBank) : (s.setCsaBank b x).sel = s.sel := rfl
@[simp] theorem setCsaBank_hbm (b : Nat) (x : CsaBank) : (s.setCsaBank b x).hbm = s.hbm := rfl
@[simp] theorem setCsaBank_egs (b : Nat) (x : CsaBank) : (s.setCsaBank b x).egs = s.egs := rfl
@[simp] theorem setCsaBank_coast (b : Nat) (x : CsaBank) : (s.setCsaBank b x).coast = s.coast := rfl
@[simp] theorem setCsaBank_sched (b : Nat) (x : CsaBank) : (s.setCsaBank b x).sched = s.sched := rfl
@[simp] theorem setCsaBank_host (b : Nat) (x : CsaBank) : (s.setCsaBank b x).host = s.host := rfl
@[simp] theorem setCsaBank_shore (b : Nat) (x : CsaBank) : (s.setCsaBank b x).shore = s.shore := rfl
@[simp] theorem setCsaBank_nv (b : Nat) (x : CsaBank) : (s.setCsaBank b x).nv = s.nv := rfl
@[simp] theorem setCsaBank_power (b : Nat) (x : CsaBank) : (s.setCsaBank b x).power = s.power := rfl
@[simp] theorem setCsaBank_pins (b : Nat) (x : CsaBank) : (s.setCsaBank b x).pins = s.pins := rfl
@[simp] theorem setCsaBank_out (b : Nat) (x : CsaBank) : (s.setCsaBank b x).out = s.out := rfl
@[simp] theorem setCsaBank_pending (b : Nat) (x : CsaBank) : (s.setCsaBank b x).pending = s.pending := rfl

/-! `setPin` writes `pins` alone. -/

@[simp] theorem setPin_tide (n : Nat) (p : Pin) : (s.setPin n p).tide = s.tide := rfl
@[simp] theorem setPin_pps (n : Nat) (p : Pin) : (s.setPin n p).pps = s.pps := rfl
@[simp] theorem setPin_obj (n : Nat) (p : Pin) : (s.setPin n p).obj = s.obj := rfl
@[simp] theorem setPin_oct (n : Nat) (p : Pin) : (s.setPin n p).oct = s.oct := rfl
@[simp] theorem setPin_badObj (n : Nat) (p : Pin) : (s.setPin n p).badObj = s.badObj := rfl
@[simp] theorem setPin_reg (n : Nat) (p : Pin) : (s.setPin n p).reg = s.reg := rfl
@[simp] theorem setPin_faults (n : Nat) (p : Pin) : (s.setPin n p).faults = s.faults := rfl
@[simp] theorem setPin_wall (n : Nat) (p : Pin) : (s.setPin n p).wall = s.wall := rfl
@[simp] theorem setPin_mortar (n : Nat) (p : Pin) : (s.setPin n p).mortar = s.mortar := rfl
@[simp] theorem setPin_tables (n : Nat) (p : Pin) : (s.setPin n p).tables = s.tables := rfl
@[simp] theorem setPin_sel (n : Nat) (p : Pin) : (s.setPin n p).sel = s.sel := rfl
@[simp] theorem setPin_csa (n : Nat) (p : Pin) : (s.setPin n p).csa = s.csa := rfl
@[simp] theorem setPin_hbm (n : Nat) (p : Pin) : (s.setPin n p).hbm = s.hbm := rfl
@[simp] theorem setPin_egs (n : Nat) (p : Pin) : (s.setPin n p).egs = s.egs := rfl
@[simp] theorem setPin_coast (n : Nat) (p : Pin) : (s.setPin n p).coast = s.coast := rfl
@[simp] theorem setPin_sched (n : Nat) (p : Pin) : (s.setPin n p).sched = s.sched := rfl
@[simp] theorem setPin_host (n : Nat) (p : Pin) : (s.setPin n p).host = s.host := rfl
@[simp] theorem setPin_shore (n : Nat) (p : Pin) : (s.setPin n p).shore = s.shore := rfl
@[simp] theorem setPin_nv (n : Nat) (p : Pin) : (s.setPin n p).nv = s.nv := rfl
@[simp] theorem setPin_power (n : Nat) (p : Pin) : (s.setPin n p).power = s.power := rfl
@[simp] theorem setPin_out (n : Nat) (p : Pin) : (s.setPin n p).out = s.out := rfl
@[simp] theorem setPin_pending (n : Nat) (p : Pin) : (s.setPin n p).pending = s.pending := rfl

/-! `setNotes` writes `shore` alone. -/

@[simp] theorem setNotes_tide (l : List Note) : (s.setNotes l).tide = s.tide := rfl
@[simp] theorem setNotes_pps (l : List Note) : (s.setNotes l).pps = s.pps := rfl
@[simp] theorem setNotes_obj (l : List Note) : (s.setNotes l).obj = s.obj := rfl
@[simp] theorem setNotes_oct (l : List Note) : (s.setNotes l).oct = s.oct := rfl
@[simp] theorem setNotes_badObj (l : List Note) : (s.setNotes l).badObj = s.badObj := rfl
@[simp] theorem setNotes_reg (l : List Note) : (s.setNotes l).reg = s.reg := rfl
@[simp] theorem setNotes_faults (l : List Note) : (s.setNotes l).faults = s.faults := rfl
@[simp] theorem setNotes_wall (l : List Note) : (s.setNotes l).wall = s.wall := rfl
@[simp] theorem setNotes_mortar (l : List Note) : (s.setNotes l).mortar = s.mortar := rfl
@[simp] theorem setNotes_tables (l : List Note) : (s.setNotes l).tables = s.tables := rfl
@[simp] theorem setNotes_sel (l : List Note) : (s.setNotes l).sel = s.sel := rfl
@[simp] theorem setNotes_csa (l : List Note) : (s.setNotes l).csa = s.csa := rfl
@[simp] theorem setNotes_hbm (l : List Note) : (s.setNotes l).hbm = s.hbm := rfl
@[simp] theorem setNotes_egs (l : List Note) : (s.setNotes l).egs = s.egs := rfl
@[simp] theorem setNotes_coast (l : List Note) : (s.setNotes l).coast = s.coast := rfl
@[simp] theorem setNotes_sched (l : List Note) : (s.setNotes l).sched = s.sched := rfl
@[simp] theorem setNotes_host (l : List Note) : (s.setNotes l).host = s.host := rfl
@[simp] theorem setNotes_nv (l : List Note) : (s.setNotes l).nv = s.nv := rfl
@[simp] theorem setNotes_power (l : List Note) : (s.setNotes l).power = s.power := rfl
@[simp] theorem setNotes_pins (l : List Note) : (s.setNotes l).pins = s.pins := rfl
@[simp] theorem setNotes_out (l : List Note) : (s.setNotes l).out = s.out := rfl
@[simp] theorem setNotes_pending (l : List Note) : (s.setNotes l).pending = s.pending := rfl

/-! ### Reads of numbers after writes -/

@[simp] theorem num_setNum_self (k v : Nat) : (s.setNum k v).num k = v := Store.get_set_eq
theorem num_setNum_ne {s : State} {j k v : Nat} (h : j ≠ k) : (s.setNum j v).num k = s.num k := Store.get_set_ne h
theorem num_setNum (j k v : Nat) : (s.setNum j v).num k = if j = k then v else s.num k := by
  split
  · subst j; simp
  · exact num_setNum_ne ‹_›
@[simp] theorem regGet_regSet_self (a v : Nat) : (s.regSet a v).regGet a = v := Store.get_set_eq
theorem regGet_regSet_ne {s : State} {a b v : Nat} (h : a ≠ b) : (s.regSet a v).regGet b = s.regGet b := Store.get_set_ne h
theorem inc32_num_ne {s : State} {j k n : Nat} (h : j ≠ k) : (s.inc32 j n).num k = s.num k := by
  unfold inc32; split <;> simp [num_setNum_ne h]
theorem inc64_num_ne {s : State} {j k n : Nat} (h : j ≠ k) : (s.inc64 j n).num k = s.num k := by
  unfold inc64; split <;> simp [num_setNum_ne h]
theorem live_true {s t : State} {c : Bool} (h : s.held = false) (hc : c = true) : s.live c t = t := by
  simp [live, h, hc]
@[simp] theorem num_setOcts (k o j : Nat) (l : List Byte) : (s.setOcts k o l).num j = s.num j := rfl
@[simp] theorem num_regSet (a v j : Nat) : (s.regSet a v).num j = s.num j := rfl
@[simp] theorem num_emit (o : Out) (j : Nat) : (s.emit o).num j = s.num j := rfl

end State

theorem leBytes_length (n v : Nat) : (leBytes n v).length = n := by
  induction n generalizing v with
  | zero => rfl
  | succ n ih => simp [leBytes, ih]

end Sys2Proof.Machine
end

