-- ==== Sys2Proof/Tests/Slice0.lean ====
section
/-!
SUPPORT. Tests: each check of well-formedness refuses an ill-formed command; for every statement with hypotheses, concrete states
and operands that meet them together; and single steps whose results are worked out by hand from the spec.
-/

namespace Sys2Proof.Tests

open Sys2Proof Sys2Proof.Machine

set_option Elab.async false

/-! ### Well-formedness: each check refuses an ill-formed command -/

/-- A message, a request, the octets of an ordered set and of a flit, and a frame with every field in its
range; each check below spoils one field. -/
def wfMsg (src dst : Node) (body : MsgBody) : Msg := ⟨.req, src, dst, 0, 0, body, {}, 0⟩
def wfReq : Request := ⟨.port 7, 1, 1, 1, 4, 0, 0, false, [0, 0, 0, 0]⟩
def wfSet : List Byte := List.replicate 56 0
def wfFlit : List Byte := List.replicate 64 0
def wfFrame : Frame := ⟨1, false, 0x88B5, 64, true, wfReq⟩
def wfStraps : ColdStart := ⟨0, 0, false, true, [], [], [], [], [], [], [], 0, 0⟩

theorem test_wf_sound_terms_pass :
    Instr.wf (.read wfReq) = true ∧
    Instr.wf (.sync 0 wfSet 0) = true ∧
    Instr.wf (.token 0 (wfMsg (.brick 1) (.brick 1) (.token 0 0 0 0))) = true ∧
    Instr.wf (.dataFlit 0 wfFlit) = true ∧
    Instr.wf (.creditAck 0 wfFlit) = true ∧
    Instr.wf (.ident 0 wfFlit 0) = true ∧
    Instr.wf (.frameReceive wfFrame) = true ∧
    Instr.wf (.coldReset wfStraps) = true := by decide

theorem test_wf_end_point_exists :
    Instr.wf (.hbmRead (wfMsg (.brick 4352) (.channel 0) (.hbmRead 0 8))) = false ∧
    Instr.wf (.hbmRead (wfMsg (.unit 68) (.channel 0) (.hbmRead 0 8))) = false ∧
    Instr.wf (.hbmRead (wfMsg (.bank 64) (.channel 0) (.hbmRead 0 8))) = false ∧
    Instr.wf (.hbmRead (wfMsg (.brick 0) (.channel 256) (.hbmRead 0 8))) = false ∧
    Instr.wf (.hbmRead (wfMsg (.egs 16) (.channel 0) (.hbmRead 0 8))) = false := by decide

theorem test_wf_message_field_widths :
    Instr.wf (.token 0 ⟨.req, .brick 0, .brick 1, 256, 0, .token 0 0 0 0, {}, 0⟩) = false ∧
    Instr.wf (.token 0 ⟨.req, .brick 0, .brick 1, 0, 2, .token 0 0 0 0, {}, 0⟩) = false ∧
    Instr.wf (.token 0 ⟨.req, .brick 0, .brick 1, 0, 0, .token 0 0 0 0, { words := 257 }, 0⟩) = false ∧
    Instr.wf (.token 0 ⟨.req, .brick 0, .brick 1, 0, 0, .token 0 0 0 0, { headers := 4225 }, 0⟩) = false := by decide

theorem test_wf_ordered_set_length :
    Instr.wf (.sync 0 (List.replicate 55 0) 0) = false ∧
    Instr.wf (.delayRequest 0 (List.replicate 57 0) 0) = false ∧
    Instr.wf (.delayResponse 0 [] 0) = false := by decide

theorem test_wf_ordered_set_port_and_sub :
    Instr.wf (.sync 8 wfSet 0) = false ∧
    Instr.wf (.delayRequest 0 wfSet 96) = false ∧
    Instr.wf (.delayResponse 8 wfSet 95) = false := by decide

theorem test_wf_flit_octets :
    Instr.wf (.dataFlit 0 (List.replicate 63 0)) = false ∧
    Instr.wf (.dataFlit 8 wfFlit) = false ∧
    Instr.wf (.creditAck 0 (List.replicate 65 0)) = false ∧
    Instr.wf (.creditAck 8 wfFlit) = false ∧
    Instr.wf (.ident 0 [] 0) = false ∧
    Instr.wf (.ident 8 wfFlit 0) = false ∧
    Instr.wf (.ident 0 wfFlit 16) = false := by decide

theorem test_wf_request_fields :
    Instr.wf (.read ⟨.port 281474976710656, 1, 1, 1, 4, 0, 0, false, [0, 0, 0, 0]⟩) = false ∧
    Instr.wf (.read ⟨.port 7, 65536, 1, 1, 4, 0, 0, false, [0, 0, 0, 0]⟩) = false ∧
    Instr.wf (.read ⟨.port 7, 1, 256, 1, 4, 0, 0, false, [0, 0, 0, 0]⟩) = false ∧
    Instr.wf (.read ⟨.port 7, 1, 1, 256, 4, 0, 0, false, [0, 0, 0, 0]⟩) = false ∧
    Instr.wf (.read ⟨.port 7, 1, 1, 1, 65536, 0, 0, false, [0, 0, 0, 0]⟩) = false ∧
    Instr.wf (.read ⟨.port 7, 1, 1, 1, 4, 65536, 0, false, [0, 0, 0, 0]⟩) = false ∧
    Instr.wf (.read ⟨.port 7, 1, 1, 1, 4, 0, 256, false, [0, 0, 0, 0]⟩) = false := by decide

theorem test_wf_frame_fields :
    Instr.wf (.frameReceive ⟨281474976710656, false, 0, 64, true, wfReq⟩) = false ∧
    Instr.wf (.frameReceive ⟨1, false, 65536, 64, true, wfReq⟩) = false ∧
    Instr.wf (.frameReceive ⟨1, false, 0, 64, true, ⟨.port 7, 65536, 1, 1, 4, 0, 0, false, [0, 0, 0, 0]⟩⟩) = false ∧
    Instr.wf (.frameReceive ⟨1, false, 0, 64, true, ⟨.mailbox, 1, 1, 1, 4, 0, 0, false, [0, 0, 0, 0]⟩⟩) = false := by decide

theorem test_wf_straps :
    Instr.wf (.coldReset ⟨64, 0, false, true, [], [], [], [], [], [], [], 0, 0⟩) = false ∧
    Instr.wf (.coldReset ⟨0, 4, false, true, [], [], [], [], [], [], [], 0, 0⟩) = false := by decide

theorem test_wf_memory_message_ends_and_bodies :
    Instr.wf (.token 0 (wfMsg (.brick 0) (.unit 0) (.token 0 0 0 0))) = false ∧
    Instr.wf (.token 0 (wfMsg (.brick 0) (.brick 0) (.readReq 0 8))) = false ∧
    Instr.wf (.remoteRead (wfMsg (.brick 0) (.bank 0) (.readReq 0 8))) = false ∧
    Instr.wf (.remoteRead (wfMsg (.brick 0) (.brick 0) (.token 0 0 0 0))) = false ∧
    Instr.wf (.remoteWrite (wfMsg (.brick 0) (.egs 0) (.writeReq 0 []))) = false ∧
    Instr.wf (.remoteWrite (wfMsg (.brick 0) (.brick 0) (.token 0 0 0 0))) = false ∧
    Instr.wf (.readData (wfMsg (.brick 0) (.channel 0) (.readData []))) = false ∧
    Instr.wf (.readData (wfMsg (.brick 0) (.brick 0) (.token 0 0 0 0))) = false ∧
    Instr.wf (.writeAccepted (wfMsg (.brick 0) (.unit 0) (.writeAccepted 0))) = false ∧
    Instr.wf (.writeAccepted (wfMsg (.brick 0) (.brick 0) (.token 0 0 0 0))) = false ∧
    Instr.wf (.readFailed (wfMsg (.unit 0) (.egs 0) (.readFailed 0))) = false ∧
    Instr.wf (.readFailed (wfMsg (.brick 0) (.unit 0) (.readFailed 0))) = false ∧
    Instr.wf (.readFailed (wfMsg (.brick 0) (.brick 0) (.token 0 0 0 0))) = false := by decide

theorem test_wf_selection_message_ends_and_bodies :
    Instr.wf (.selGrant (wfMsg (.brick 0) (.brick 0) (.selGrant 0))) = false ∧
    Instr.wf (.selGrant (wfMsg (.unit 0) (.unit 0) (.selGrant 0))) = false ∧
    Instr.wf (.selGrant (wfMsg (.unit 0) (.brick 0) (.token 0 0 0 0))) = false ∧
    Instr.wf (.selData (wfMsg (.unit 0) (.unit 0) (.selData [] false))) = false ∧
    Instr.wf (.selData (wfMsg (.brick 0) (.unit 0) (.selData [] true))) = false ∧
    Instr.wf (.selLastData (wfMsg (.brick 0) (.brick 0) (.selData [] true))) = false ∧
    Instr.wf (.selLastData (wfMsg (.brick 0) (.unit 0) (.selData [] false))) = false ∧
    Instr.wf (.selResultWrite (wfMsg (.unit 0) (.unit 0) (.selResult 0 []))) = false ∧
    Instr.wf (.selResultWrite (wfMsg (.unit 0) (.brick 0) (.token 0 0 0 0))) = false ∧
    Instr.wf (.selDone (wfMsg (.unit 0) (.unit 0) (.selDone 0))) = false ∧
    Instr.wf (.selDone (wfMsg (.unit 0) (.brick 0) (.token 0 0 0 0))) = false := by decide

theorem test_wf_search_message_ends_and_bodies :
    Instr.wf (.csaGrant (wfMsg (.brick 0) (.brick 0) (.csaGrant 0))) = false ∧
    Instr.wf (.csaGrant (wfMsg (.bank 0) (.bank 0) (.csaGrant 0))) = false ∧
    Instr.wf (.csaGrant (wfMsg (.bank 0) (.brick 0) (.token 0 0 0 0))) = false ∧
    Instr.wf (.csaData (wfMsg (.bank 0) (.bank 0) (.csaData [] false))) = false ∧
    Instr.wf (.csaData (wfMsg (.brick 0) (.bank 0) (.csaData [] true))) = false ∧
    Instr.wf (.csaLastData (wfMsg (.brick 0) (.brick 0) (.csaData [] true))) = false ∧
    Instr.wf (.csaLastData (wfMsg (.brick 0) (.bank 0) (.csaData [] false))) = false ∧
    Instr.wf (.csaResultWrite (wfMsg (.bank 0) (.bank 0) (.csaResult 0 []))) = false ∧
    Instr.wf (.csaResultWrite (wfMsg (.bank 0) (.brick 0) (.token 0 0 0 0))) = false ∧
    Instr.wf (.csaDone (wfMsg (.bank 0) (.bank 0) (.csaDone 0 0 0 0))) = false ∧
    Instr.wf (.csaDone (wfMsg (.bank 0) (.brick 0) (.token 0 0 0 0))) = false := by decide

theorem test_wf_hbm_and_list_message_ends_and_bodies :
    Instr.wf (.hbmRead (wfMsg (.brick 0) (.brick 0) (.hbmRead 0 8))) = false ∧
    Instr.wf (.hbmRead (wfMsg (.brick 0) (.channel 0) (.token 0 0 0 0))) = false ∧
    Instr.wf (.hbmWrite (wfMsg (.brick 0) (.brick 0) (.hbmWrite 0 []))) = false ∧
    Instr.wf (.hbmWrite (wfMsg (.brick 0) (.channel 0) (.token 0 0 0 0))) = false ∧
    Instr.wf (.hbmReadData (wfMsg (.channel 0) (.egs 0) (.hbmReadData []))) = false ∧
    Instr.wf (.hbmReadData (wfMsg (.channel 0) (.brick 0) (.token 0 0 0 0))) = false ∧
    Instr.wf (.hbmWriteAccepted (wfMsg (.channel 0) (.egs 0) (.hbmWriteAccepted 0))) = false ∧
    Instr.wf (.hbmWriteAccepted (wfMsg (.channel 0) (.brick 0) (.token 0 0 0 0))) = false ∧
    Instr.wf (.hbmReadFailed (wfMsg (.channel 0) (.egs 0) (.hbmReadFailed 0))) = false ∧
    Instr.wf (.hbmReadFailed (wfMsg (.channel 0) (.brick 0) (.token 0 0 0 0))) = false ∧
    Instr.wf (.listData (wfMsg (.egs 0) (.egs 0) (.listData []))) = false ∧
    Instr.wf (.listData (wfMsg (.brick 0) (.brick 0) (.listData []))) = false ∧
    Instr.wf (.listData (wfMsg (.brick 0) (.egs 0) (.token 0 0 0 0))) = false ∧
    Instr.wf (.egsResultWrite (wfMsg (.egs 0) (.egs 0) (.egsResult 0 []))) = false ∧
    Instr.wf (.egsResultWrite (wfMsg (.egs 0) (.brick 0) (.token 0 0 0 0))) = false ∧
    Instr.wf (.egsDone (wfMsg (.egs 0) (.egs 0) (.egsDone 0 0 0 0))) = false ∧
    Instr.wf (.egsDone (wfMsg (.egs 0) (.brick 0) (.token 0 0 0 0))) = false := by decide

theorem test_wf_tide_numbers :
    Instr.wf (.generatorPendingStart 16) = false ∧
    Instr.wf (.cadenceLaunch 16) = false ∧
    Instr.wf (.ppsEdge 96 0) = false := by decide

theorem test_wf_brick_numbers :
    Instr.wf (.opDispatch 0 4352) = false ∧
    Instr.wf (.relay 0 4352) = false ∧
    Instr.wf (.endOp 0 4352) = false ∧
    Instr.wf (.firingComplete 0 4352) = false := by decide

theorem test_wf_bank_line :
    Instr.wf (.bankLine 4096 0 {}) = false ∧
    Instr.wf (.bankLine 0 256 {}) = false ∧
    Instr.wf (.bankLine 0 0 { words := 257 }) = false ∧
    Instr.wf (.bankLine 4095 255 { poisoned := true }) = true := by decide

theorem test_wf_courses :
    Instr.wf (.select 68 {}) = false ∧
    Instr.wf (.unique 68 {}) = false ∧
    Instr.wf (.segReduce 68 {}) = false ∧
    Instr.wf (.select 0 { words := 257 }) = false := by decide

theorem test_wf_banks :
    Instr.wf (.search 64 {}) = false ∧
    Instr.wf (.insert 64 {}) = false ∧
    Instr.wf (.delete 64 {}) = false ∧
    Instr.wf (.updateData 64 {}) = false ∧
    Instr.wf (.csaRead 64 {}) = false ∧
    Instr.wf (.bulkLoad 64 {}) = false ∧
    Instr.wf (.respace 64 {}) = false ∧
    Instr.wf (.clear 64 {}) = false ∧
    Instr.wf (.csaClearingDone 64) = false ∧
    Instr.wf (.scrubStep 64) = false ∧
    Instr.wf (.search 0 { headers := 4225 }) = false := by decide

theorem test_wf_channels :
    Instr.wf (.refresh 256) = false ∧
    Instr.wf (.patrolRead 256) = false := by decide

theorem test_wf_engines :
    Instr.wf (.poolNone 16 {}) = false ∧
    Instr.wf (.poolSum 16 {}) = false ∧
    Instr.wf (.poolMean 16 {}) = false ∧
    Instr.wf (.poolWeightedSum 16 {}) = false ∧
    Instr.wf (.update 16 {}) = false ∧
    Instr.wf (.reclaim 16) = false ∧
    Instr.wf (.update 0 { words := 257 }) = false := by decide

theorem test_wf_row_tags :
    Instr.wf (.egsRowFetched 16 0 0) = false ∧
    Instr.wf (.egsRowFetched 0 256 0) = false ∧
    Instr.wf (.remoteRowTimeout 0 0 4294967296) = false := by decide

theorem test_wf_doorbell_widths :
    Instr.wf (.updRingTail 4294967296) = false ∧
    Instr.wf (.mbDoorbell 4294967296) = false ∧
    Instr.wf (.resetRequest 4294967296) = false := by decide

theorem test_wf_ports :
    Instr.wf (.controlFlitDue 8) = false ∧
    Instr.wf (.trainingTimeout 8) = false ∧
    Instr.wf (.reserveWindow 8) = false ∧
    Instr.wf (.laneLoss 8 0) = false ∧
    Instr.wf (.laneLoss 0 16) = false ∧
    Instr.wf (.retrainDone 8 0) = false ∧
    Instr.wf (.retrainDone 0 16) = false ∧
    Instr.wf (.messageForward 8 0) = false ∧
    Instr.wf (.messageForward 0 3) = false ∧
    Instr.wf (.skipFlit 8 true [0, 0, 0, 0]) = false ∧
    Instr.wf (.skipFlit 0 true [0, 0, 0]) = false := by decide

theorem test_wf_message_sources :
    Instr.wf (.rowReq 9 0) = false ∧
    Instr.wf (.rowData 9 0) = false ∧
    Instr.wf (.rowNak 9 0) = false ∧
    Instr.wf (.grad 9 0) = false ∧
    Instr.wf (.replicaPut 9 0) = false ∧
    Instr.wf (.replicaRemove 9 0) = false ∧
    Instr.wf (.updCredit 9 0) = false ∧
    Instr.wf (.discard 9 0) = false ∧
    Instr.wf (.probe 9 0) = false ∧
    Instr.wf (.probeAck 9 0) = false ∧
    Instr.wf (.launchReady 9 0) = false ∧
    Instr.wf (.launchGo 9 0) = false ∧
    Instr.wf (.launchAbort 9 0) = false ∧
    Instr.wf (.reachTeardown 9 0) = false := by decide

theorem test_wf_message_upsets :
    Instr.wf (.rowReq 8 3) = false ∧
    Instr.wf (.rowData 8 3) = false ∧
    Instr.wf (.rowNak 8 3) = false ∧
    Instr.wf (.grad 8 3) = false ∧
    Instr.wf (.replicaPut 8 3) = false ∧
    Instr.wf (.replicaRemove 8 3) = false ∧
    Instr.wf (.updCredit 8 3) = false ∧
    Instr.wf (.discard 8 3) = false ∧
    Instr.wf (.probe 8 3) = false ∧
    Instr.wf (.probeAck 8 3) = false ∧
    Instr.wf (.launchReady 8 3) = false ∧
    Instr.wf (.launchGo 8 3) = false ∧
    Instr.wf (.launchAbort 8 3) = false ∧
    Instr.wf (.reachTeardown 8 3) = false := by decide

theorem test_wf_member_timers :
    Instr.wf (.updCreditTimer 64) = false ∧
    Instr.wf (.probeTimer 64) = false ∧
    Instr.wf (.launchWaitExpiry 4294967296) = false := by decide

theorem test_wf_ring_clients :
    Instr.wf (.sqTail 0 0) = false ∧
    Instr.wf (.sqTail 1 4294967296) = false ∧
    Instr.wf (.cqHead 64 0) = false ∧
    Instr.wf (.cqHead 1 4294967296) = false ∧
    Instr.wf (.fetchTimeout 0) = false ∧
    Instr.wf (.enable 0) = false ∧
    Instr.wf (.stop 0) = false ∧
    Instr.wf (.disable 0) = false ∧
    Instr.wf (.resume 0) = false ∧
    Instr.wf (.resumeFlush 0) = false ∧
    Instr.wf (.bulkEligible 64) = false ∧
    Instr.wf (.deadlineExpiry 64) = false := by decide

theorem test_wf_descriptor_fetch :
    Instr.wf (.descriptorFetch 0 (List.replicate 256 0) 0) = false ∧
    Instr.wf (.descriptorFetch 1 [0] 0) = false ∧
    Instr.wf (.descriptorFetch 1 (List.replicate 256 0) 3) = false := by decide +kernel

theorem test_wf_bar_ranges :
    Instr.wf (.bar2Read 0 0 false) = false ∧
    Instr.wf (.bar2Read 274877906940 8 false) = false ∧
    Instr.wf (.bar2Write 0 [] false false) = false ∧
    Instr.wf (.bar2Write 274877906943 [0, 0] false false) = false ∧
    Instr.wf (.bar0Write 1 0 4 0 false) = false ∧
    Instr.wf (.bar0Write 0 65533 4 0 false) = false ∧
    Instr.wf (.bar0Write 4 4093 4 0 false) = false ∧
    Instr.wf (.bar0Write 0 0 4 4294967296 false) = false ∧
    Instr.wf (.bar0Read 2 0 4) = false := by decide

theorem test_wf_host_events :
    Instr.wf (.hostReset 0) = false ∧
    Instr.wf (.hostReset 6) = false ∧
    Instr.wf (.msixSend 128) = false ∧
    Instr.wf (.faultReport 0 false) = false := by decide

theorem test_wf_management_events :
    Instr.wf (.notifyRetry 65536) = false ∧
    Instr.wf (.transferAbandon (.port 281474976710656)) = false := by decide

theorem test_wf_power_samples :
    Instr.wf (.dispatchSample 65536 0) = false ∧
    Instr.wf (.sensorCalibration [0]) = false ∧
    Instr.wf (.sensorReading (List.replicate 33 0) []) = false ∧
    Instr.wf (.sensorReading [] (List.replicate 9 0)) = false := by decide

theorem test_wf_pins_and_link :
    Instr.wf (.jtagInstruction 256) = false ∧
    Instr.wf (.linkSettled 0 true 16) = false ∧
    Instr.wf (.linkSettled 7 true 16) = false ∧
    Instr.wf (.linkSettled 6 true 3) = false ∧
    Instr.wf (.shoreInputEdge 16 true) = false ∧
    Instr.wf (.tachPeriodTimeout 16) = false := by decide

/-! ### Deciding the hypotheses that the statements name -/

/-- The state that an outcome goes on in, and whether it goes on. -/
def outGet (o : Host.Outcome State Fault Refusal) : State := match o with
  | .next t => t
  | _ => {}
def outOk (o : Host.Outcome State Fault Refusal) : Bool := match o with
  | .next _ => true
  | _ => false
theorem next_of {o : Host.Outcome State Fault Refusal} (h : outOk o = true) : o = .next (outGet o) := by
  cases o <;> simp_all [outOk, outGet]

theorem delivers_of {s : State} {m : Msg} (h : s.held = false ∧ s.wall.closed = false ∧ s.nextInFlight m = true ∧
    s.msgLegal m = true ∧ m.upset = {}) : s.delivers m := h

def takesB (s : State) (q : Request) : Bool :=
  !s.held && s.waits q && (match q.src with
    | .port mac => !s.nv.otp.bad && !s.isDuplicate mac q.seq
    | .mailbox => true)
theorem takes_of {s : State} {q : Request} (h : takesB s q = true) : s.takes q := by
  unfold takesB at h
  unfold State.takes
  cases hq : q.src <;> simp_all

def passesB (s : State) (q : Request) : Bool := takesB s q && headerCode q == 0 && !s.holdRefuses q
theorem passes_of {s : State} {q : Request} (h : passesB s q = true) : s.passes q := by
  simp only [passesB, Bool.and_eq_true, beq_iff_eq, Bool.not_eq_true'] at h
  exact ⟨takes_of h.1.1, h.1.2, h.2⟩

def reachesB (s : State) (q : Request) (r : ObjRow) : Bool :=
  passesB s q && objectRow (reqKey q) == some r && (s.heard q).objectCode q == 0
theorem reaches_of {s : State} {q : Request} {r : ObjRow} (h : reachesB s q r = true) : s.reaches q r := by
  simp only [reachesB, Bool.and_eq_true, beq_iff_eq] at h
  exact ⟨passes_of h.1.1, h.1.2, h.2⟩

def acceptsB (s : State) (q : Request) (r : ObjRow) : Bool :=
  reachesB s q r && q.body.length == r.size && (s.heard q).cmdCode (reqKey q) (reqValue q) == 0
theorem accepts_of {s : State} {q : Request} (r : ObjRow) (h : acceptsB s q r = true) : s.accepts q := by
  simp only [acceptsB, Bool.and_eq_true, beq_iff_eq] at h
  exact ⟨⟨r, reaches_of h.1.1, h.1.2⟩, h.2⟩

theorem get_ind {α : Type} {d : Nat → α} {P : α → Prop} (hd : ∀ k, P (d k)) :
    ∀ (l : Store α) (k : Nat), (∀ p ∈ l, P p.2) → P (Store.get d l k)
  | [], k, _ => hd k
  | (k', v) :: r, k, h => by
    unfold Store.get
    split
    · exact h (k', v) (.head _)
    · exact get_ind hd r k (fun p hp => h p (.tail _ hp))
/-- No entry of a bank is hit where no entry that any bank holds is. -/
theorem noHit {s : State} {b : Nat} {key : List Nat} (h : ∀ p ∈ s.csa.entries, ¬(p.2.valid = true ∧ csaMatches key p.2 = true))
    (i : Nat) : ¬((s.csaEntry b i).valid = true ∧ csaMatches key (s.csaEntry b i) = true) :=
  get_ind (P := fun e : CsaEntry => ¬(e.valid = true ∧ csaMatches key e = true)) (fun _ h => absurd h.1 (by decide)) _ _ h

/-! ### States and operands of the witnesses -/

def base : State := State.reset
def sets (s : State) (l : List (Nat × Nat)) : State := l.foldl (fun t p => t.setNum p.1 p.2) s
def at_ (s : State) (n : Nat) : State := { s with tide := { s.tide with now := n, clock := n } }
def gen : State := sets base [(Obj.TIDE_STATE, 1), (Obj.PHASE 3, 5), (Obj.PERIOD_INT 3, 100), (Obj.NUMERATOR 3, 1),
    (Obj.DENOMINATOR 3, 3), (Obj.ENABLE 3, 1)]
def genP (n : Nat) : State := { gen with tide := { gen.tide with pendingStart := 8, now := n } }
def genL : State := sets { gen with tide := { gen.tide with now := 1000 } } [(Obj.NEXT_LAUNCH 3, 990), (Obj.ACCUMULATOR 3,
    2)]
def portsUp : State := sets base [(Obj.PORT_STATE 2, 2), (Obj.PORT_STATE 5, 2), (Obj.TIDE_STATE, 1)]
def upD := at_ portsUp 0x800
def ud : State := { at_ portsUp 50 with tide := { (at_ portsUp 50).tide with requestAt := [(2, 4001)] } }
def m3 : OrderedSet := { portsUp.sos 3 with tideAtTx := 44, txSub := 5, reqRxTide := 43, reqRxSub := 90 }
def free : State := sets base [(Obj.PORT_STATE 2, 2), (Obj.PORT_STATE 5, 2)]
def sy : OrderedSet := { free.sos 1 with sender := 1, master := 0, hop := 0, tideAtTx := 100000, txSub := 9 }
def me3 : State := { free with nv := { free.nv with addr := 3 } }
def locked : State := sets me3 [(Obj.TIDE_STATE, 2), (Obj.MASTER_ADDR, 1), (Obj.UPSTREAM_PORT, 2)]
def aligned2 : State := { at_ locked 100000 with tide := { (at_ locked 100000).tide with everAligned := true } }
def off (s : State) (n : Int) : State := { s with tide := { s.tide with offset := n } }
def pp : State :=
    { at_ aligned2 100000000 with pps := { aligned2.pps with lastEdge := some (50000000*96), label := some 77, inRange := 3, mapped := true } }
def word (k : Nat) (pri tmpl pre rel fir succs : Nat) : Nat := k * 2^62 + pri * 2^59 + tmpl*2^53 + pre * 2^45 + rel * 2^37 +
    fir * 2^21 + succs*2^12
def put (m : List (Nat × Byte)) (a : Nat) (l : List Byte) : List (Nat × Byte) := Store.setMany zeroByte m a l
def job1 : Job :=
    { client := 5, pos := 0, desc := { maxRun := 1000 }, maint := none, candAt := some 0, elig := some 0, displaced := 0, aborts := 0, bad := false }
def running (slots : List (Nat × Slot)) (act : List (Nat × Byte)) : State :=
  let s := sets base [(Obj.SCHED_STATE, 3), (Obj.CURRENT_CLIENT, 5), (Obj.DISPATCH_LEVEL, 64)]
  { s with
    sched := { s.sched with run := some { job := job1, start := 0, ownerChange := false, mute := false } }
    wall := { s.wall with closed := false, slots := slots, active := act } }
def act (w : Nat) : List (Nat × Byte) := put [] (5 * 16384 + 0x1000 + 7 * 32) (leBytes 8 w)
def sl : Slot := { counter := 0, early := 2, firingsLeft := 3, ready := some 0, in0 := { status := .pending, handle := 9 } }
def rEnd := running [(5 * 256 + 7, sl)] (act (word 2 1 0 0 5 3 0))
def rRelay := running [(5 * 256 + 7, sl)] (act (word 1 1 0 0 5 3 1))
def rTmpl := running [(5 * 256 + 7, sl)] (act (word 0 1 0 0 5 3 1))
def fir : Firing :=
    { slot := 7, firing := 0, at_ := 0, posts := false, in0 := {}, in1 := {}, outHandle := none, segs := [], phase := .finished, fill := 0, elems := [], faulted := false }
def withFir (s : State) (b : Nat) (f : Firing) : State :=
    { s with wall := { s.wall with bricks := [(b, { firing := some f })] } }
def rFin := withFir rTmpl 5 fir
def msg (c : MsgClass) (a b : Node) (tag : Nat) (body : MsgBody) : Msg :=
    { cls := c, src := a, dst := b, tag := tag, parity := 0, body := body }
def fly (s : State) (m : Msg) : State := { s with mortar := { s.mortar with flight := [m] } }
def tok (hin : Nat) := msg .tok (.brick 6) (.brick 5) 0 (.token 7 hin 9 12)
def rTok (x : Slot) (hin : Nat) : State := fly (running [(5 * 256 + 7, x)] (act (word 0 1 0 0 5 3 1))) (tok hin)
def rDone := { rEnd with wall := { rEnd.wall with ended := true } }
def mj : Run := { job := { job1 with client := 0, maint := some (3, 0) }, start := 0, ownerChange := true, mute := false }
def rM := { rEnd with sched := { rEnd.sched with run := some mj } }
def mRd := msg .req (.brick 6) (.brick 5) 3 (.readReq 10 7)
def mWr := msg .req (.brick 6) (.brick 5) 3 (.writeReq 10 [1,2,3])
def sr (s : State) : State := { s with wall := { s.wall with sram := put [] (5 * 2^18 + 8) [1,2,3,4,5,6,7,8,9] } }
def bad (s : State) : State := { s with wall := { s.wall with sramUe := [5 * 2^15 + 2], sramCe := [5*2^15+1] } }
def seg1 : Segment :=
    { stream := 0, hbm := false, far := 6, addr := 0x40, len := 8, tag := some 3, data := [], done := false }
def seg3 : Segment :=
    { stream := 0, hbm := true, far := 6, addr := 0x40, len := 8, tag := some 5, data := [], done := false }
def fir2 (p : Phase) : Firing := { fir with segs := [seg1, seg3], phase := p }
def segw (hbm : Bool) : Segment :=
    { stream := 2, hbm := hbm, far := 6, addr := 0x40, len := 8, tag := some 6, data := [1,2,3,4,5,6,7,8], done := false }
def firw (hbm : Bool) : Firing := { fir with segs := [segw hbm], phase := .writing }
def an (b : MsgBody) (tag : Nat) : Msg := msg .rsp (match b with
    | .hbmReadData _ | .hbmWriteAccepted _ | .hbmReadFailed _ => .channel 6
    | _ => .brick 6) (.brick 5) tag b
def rAns (b : MsgBody) (tag : Nat) (p : Phase) : State := fly (withFir rTmpl 5 (fir2 p)) (an b tag)
def rAnw (b : MsgBody) (tag : Nat) (hbm : Bool) : State := fly (withFir rTmpl 5 (firw hbm)) (an b tag)
def rNo (b : MsgBody) : State := fly rTmpl (an b 3)
def up (u : Upset) : Msg := { mRd with upset := u }
def hdr : List Byte := leBytes 4 0x42565753 ++ leBytes 2 1 ++ leBytes 2 64 ++ leBytes 4 256 ++ leBytes 4 0 ++ leBytes 4 (1 +
    64*256+1*65536) ++ leBytes 4 0 ++ leBytes 4 64 ++ leBytes 2 1 ++ leBytes 2 0 ++ leBytes 16 0 ++ leBytes 16 0
def sect : List Byte := leBytes 2 (0 + 256*5) ++ leBytes 2 64 ++ leBytes 2 32 ++ leBytes 2 0 ++ leBytes 4 128 ++ leBytes 4 0
def bundle : List Byte := hdr ++ sect ++ List.replicate 48 0 ++ (List.range 128).map (fun n => BitVec.ofNat 8 n)
def ld0 : Load := { client := 5, pos := 0, lines := [], ready := false }
def jb : Job := { job1 with desc := { maxRun := 1000, bundle := 0x1000 } }
def loading (l : Load) : State := let s := base;
    { s with hbm := { s.hbm with mem := put [] 0x1000 bundle }, sched := { s.sched with slots := [jb], load := some l } }
def lines := (loading ld0).loadLines 0x1000
def ln (b n : Nat) : Nat × List Byte := (lines.find? (fun p => p.1 == b * 256 + n)).getD (0, [])
def selBlk (mode order fmt segop unit n k rows : Nat) : List Byte :=
  leBytes 1 (mode + 4*order) ++ leBytes 1 fmt ++ leBytes 1 segop ++ leBytes 1 unit ++ leBytes 4 n ++ leBytes 4 k ++ leBytes 2 rows ++ leBytes 2 0 ++
  leBytes 4 0x100 ++ leBytes 4 0x200 ++ leBytes 4 (if mode = 1 ∨ mode = 2 then 0x300 else 0) ++ leBytes 4 0 ++ leBytes 4 64 ++ leBytes 1 (if mode = 1 ∨ mode = 2 then 7 else 3) ++ leBytes 1 0 ++ leBytes 1 0 ++ leBytes 1 0 ++ leBytes 8 0 ++ leBytes 16 0
def hc (blk : List Byte) : HubCmd := { brick := 5, parity := 0, client := 5, block := blk, tag := 2, arrival := 0 }
def rSel (c : Nat) (blk : List Byte) : State := { rEnd with sel := { rEnd.sel with queue := [(c, hc blk)] } }
def el (l : List Nat) : List Elem := l.map (fun x => (true, x))
def mSel (l : List Elem) (last : Bool) := msg .req (.brick 5) (.unit 3) 0x40 (.selData l last)
def selRun (blk : List Byte) (tk : Nat) : SelRun := { brick := 5, parity := 0, block := blk, taken := tk, rows := [] }
def rSelRun (blk : List Byte) (tk : Nat) (m : Msg) : State :=
    { fly rEnd m with sel := { rEnd.sel with run := [(3, selRun blk tk)] } }
def k0 := selBlk 0 0 0 0 3 4 2 1
def k1 := selBlk 1 0 0 0 3 4 2 1
def k2 := selBlk 2 0 3 0 3 4 0 1
def k3 := selBlk 3 0 0 0 3 4 2 1
def firG (n : Nat) : Firing := { fir with phase := .waitGrant, elems := (List.range n).map (fun i => (true, i + 2^40)) }
def mg := msg .rsp (.unit 3) (.brick 5) 0x40 (.selGrant 3)
def rGr (m : Msg) (n : Nat) : State :=
    { fly (withFir rTmpl 5 (firG n)) m with sel := { rEnd.sel with run := [(3, selRun k0 0)] } }
def mcg := msg .rsp (.bank 3) (.brick 5) 0x41 (.csaGrant 3)
def mr (b : MsgBody) := msg .rsp (.unit 3) (.brick 5) 0x40 b
def outst (tag : Nat) (en : Bool) : Outstanding :=
    { tag := tag, slot := 7, succEn := en, succCourse := 0, succPos := 6, succSlot := 9, block := 0, unit := 3 }
def rDn (tag : Nat) (en : Bool) (m : Msg) : State := let s := fly rTmpl m;
    { s with wall := { s.wall with bricks := [(5, { out := [outst tag en, outst 2 true] })] } }
def md (tag : Nat) (b : MsgBody) := msg .rsp (.unit 3) (.brick 5) tag b
def csaBlk (op bank form count start out : Nat) : List Byte := leBytes 1 op ++ leBytes 1 bank ++ leBytes 1 form ++ leBytes 1
    0 ++ leBytes 4 count ++ leBytes 4 start ++ leBytes 4 out ++ leBytes 16 0
def rCsa (blk : List Byte) (st : Nat) : State :=
  let s := rEnd.setNum (Obj.CSA_BANKSET 5) 8
  let s := s.setCsaBank 3 { s.csaBank 3 with state := st, lastOwner := 5 }
  { s with csa := { s.csa with queue := [(3, hc blk)], entries := [(3*8192+4, { units := [(7, 0xFF)], data := 99, valid := true })] } }
def mh (b : MsgBody) := msg .req (.brick 5) (.channel 9) 3 b
def hb (s : State) : State := { s with hbm := { s.hbm with mem := put [] 0x2000 [1,2,3,4,5,6,7,8,9,10,11,12,13,14,15,16] } }
def hbad (s : State) : State := { s with hbm := { s.hbm with ue := [0x2000/8], ce := [0x2040/8] } }
def hdead (s : State) : State := { s with hbm := { s.hbm with retired := [blockOf 0x2000] } }
def mw := mh (.hbmWrite 0x2004 [9,9,9])
def mw2 := mh (.hbmWrite 0x2FFFFFFFFF [9,9,9])
def mrd := mh (.hbmRead 0x2004 9)
def mrd2 := mh (.hbmRead 0x3004000004 9)
def calS : State := { base with tide := { base.tide with now := 4194304, nextCal := 4194304 } }
def pat (n : Nat) (s : State) : State := { s with hbm := { s.hbm with ce := [patrolAddress 3 n / 8], patrol := [(3, n)] } }
def tdesc : List Byte := leBytes 4 9 ++ leBytes 2 8 ++ leBytes 1 0 ++ leBytes 1 1 ++ leBytes 8 32 ++ leBytes 8 0x10000 ++
    leBytes 8 0 ++ leBytes 8 0 ++ leBytes 24 0 ++ leBytes 8 0x20000 ++ leBytes 4 10 ++ leBytes 52 0
def rule1 : List Byte := leBytes 1 1 ++ leBytes 31 0
def lkBlk (pool n bags : Nat) : List Byte := leBytes 1 pool ++ leBytes 1 1 ++ leBytes 1 4 ++ leBytes 1 0 ++ leBytes 2 6 ++
    leBytes 2 0 ++ leBytes 4 n ++ leBytes 4 bags ++ leBytes 4 0x100 ++ leBytes 4 (if pool = 0 then 0 else 0x200) ++ leBytes
    4 (if pool = 3 then 0x300 else 0) ++ leBytes 4 0x1000 ++ leBytes 4 64 ++ leBytes 4 0 ++ leBytes 24 0
def upBlk (n : Nat) : List Byte := leBytes 1 0x80 ++ leBytes 1 1 ++ leBytes 1 4 ++ leBytes 1 0 ++ leBytes 2 6 ++ leBytes 6 0
    ++ leBytes 4 n ++ leBytes 4 0x100 ++ leBytes 4 0x400 ++ leBytes 4 64 ++ leBytes 4 0x3f800000 ++ leBytes 4 0 ++ leBytes
    28 0
def egsS (s : State) : State :=
    { s.setNum Obj.WORK_ENABLE 1 with egs := { s.egs with desc := put [] (128*6) tdesc, rules := put [] 0 rule1 } }
def rEg (blk : List Byte) : State := let s := egsS rEnd; { s with egs := { s.egs with store := [(4, 11, hc blk)] } }
def lseg (i : Nat) : Segment :=
    { stream := 0, hbm := false, far := 0, addr := 0x100, len := 12, tag := some (100 + i), data := [], done := false }
def ecmd (blk : List Byte) (rows : List RowWork) (sorted : Bool) : EgsCmd :=
    { cmd := hc blk, tag := 11, desc := tdesc, rule := rule1, lists := [lseg 0], rows := rows, remote := 1, missing := 2, sorted := sorted }
def mld := msg .rsp (.brick 5) (.egs 4) 100 (.listData (leBytes 4 1 ++ leBytes 4 2 ++ leBytes 4 1))
def mrf := msg .rsp (.brick 5) (.egs 4) 100 (.readFailed 1)
def rw_ (row : Nat) (p : RowPhase) : RowWork :=
    { row := row, phase := p, req := 0, entry := 0, via := 0, owner := 0, askedAt := 0, absent := false, version := 0, tier := 0, elems := [] }
def rWk (s : State) (c : EgsCmd) : State := { s with egs := { s.egs with work := [(4, c)] } }
def late (s : State) : State := { s with tide := { s.tide with clock := 65536 } }
def dec : State :=
    { (base.setNum Obj.DECAY_EPOCHS 2) with egs := { base.egs with sketch := [(3,5),(8,1)] }, tide := { base.tide with now := 131072, nextDecay := 131072 } }
def recd (e : Nat) : List Byte := leBytes 4 3 ++ leBytes 4 5 ++ leBytes 2 6 ++ leBytes 2 e ++ leBytes 4 0
def rcl (e now : Nat) : State := let s := egsS (base.setNum Obj.WORK_BASE 0x40000);
    { s with egs := { s.egs with retireTail := [(4, 1)] }, hbm := { s.hbm with mem := put [] (0x40000 + 4 * 0x400000) (recd e) }, tide := { s.tide with now := now } }
def ddd (s : State) (a : Nat) : State := { s with hbm := { s.hbm with retired := [blockOf a] } }
def flip1 : Flip :=
    { egs := 4, desc := tdesc, rule := rule1, table := 6, row := 2, source := .update 11 5, work := .remove, phase := .ready, counted := false, entryAddr := 0x10020, old := 0, new := 77, slot := none, velocity := none, replica := false }
def rFl (f : Flip) : State := let s := rWk (egsS rEnd) (ecmd (upBlk 3) [] true);
    { s with egs := { s.egs with flips := [f] } }
def rent (op : Nat) : List Byte := leBytes 4 op ++ leBytes 2 6 ++ leBytes 2 0 ++ leBytes 4 2 ++ leBytes 52 0
def ring1 (op : Nat) : State := let s := egsS ((base.setNum Obj.UPD_RING_BASE 0x80000).setNum Obj.UPD_RING_ENTRIES 16)
  { s with egs := { s.egs with ringTail := 1 }, hbm := { s.hbm with mem := put [] 0x80000 (rent op) }, host := { s.host with linkUp := true } }
def keyS (blk : List Byte) (r : CsaRun) (m : Msg) : State :=
  let s := fly (rCsa blk 2) m
  let s := { s with csa := { s.csa with queue := [] } }
  s.setCsaBank 3 { s.csaBank 3 with run := some r }
def crun (blk : List Byte) : CsaRun := State.csaRunOf (hc blk)
def mcd (l : List Elem) (last : Bool) := msg .req (.brick 5) (.bank 3) 0x41 (.csaData l last)
def s1k := csaBlk 0 3 0 1 0 0x40
def w2 (s : State) : State := s.setNum (Obj.ENTRY_UNITS 3) 2
def clr (own run : Bool) : State := let s := rCsa s1k 1; let s := if own then s else s.setNum (Obj.CSA_BANKSET 5) 0;
    s.setCsaBank 3 { s.csaBank 3 with run := if run then some (crun s1k) else none }
def scr (p : Nat) : State := let s := at_ ((rCsa s1k 2).setNum Obj.SCRUB_ENABLE 1 |>.setNum Obj.RATE_NOW 64) (4096*3+1024);
    s.setCsaBank 3 { s.csaBank 3 with scrub := p }
def reach (s : State) : State := sets s [(Obj.TOPOLOGY,0),(Obj.DIM_X,4),(Obj.DIM_Y,1),(Obj.PORT_STATE 0,2),(Obj.PORT_STATE
    2,2),(Obj.LANE_MASK 0, 15),(Obj.WIDTH 0, 4)]
def p56 (l : List Byte) : List Byte := l ++ List.replicate (56 - l.length) 0
def fl (last : Bool) (seq : Nat) (pl : List Byte) : Flit :=
    { crcOk := true, vc := 1, dateline := 1, seq := seq, last := last, ackSeq := 0, payload := pl }
def ca (crc res : Bool) (nak : Option Nat) : CreditAck :=
    { crcOk := crc, reserved := res, ackSeq := 4, nak := nak, freed := [1,2,3,4,5,6] }
def pU : State := let s := reach base; s.setPort 0
    { s.port 0 with rxSeq := 2047, replay := [fl true 3 (p56 [1]), fl true 5 (p56 [2]), fl true 6 (p56 [3])], nakSent := false, freedOut := [(2,9)], reported := [] }
def pay : List Byte := [3, 0, 4, 0, 7, 0, 0, 0, 1]
def idn (crc : Bool) (snd good : Nat) : Ident :=
    { crcOk := crc, reserved := false, sender := snd, senderPort := 2, topology := 0, dimX := 4, dimY := 1, goodLanes := good, epoch := 6, reachId := (reach base).num Obj.REACH_ID }
def st (n : Nat) (s : State) : State := s.setNum (Obj.PORT_STATE 0) n
def pc (s : State) (at' tf ex : Nat) (clock : Nat) : State :=
    { s.setPort 0 { s.port 0 with attempts := at', trainFrom := tf, excluded := ex, retrainFails := at' } with tide := { s.tide with clock := clock } }
def wn (s : State) : State := sets (at_ s (8192*2+100)) [(Obj.RESERVE_LOG2 0, 1), (Obj.RESERVE_LENGTH 0, 50),
    (Obj.RESERVE_OFFSET 0, 100)]
def cm (port vcd dest src typ stat tag : Nat) (body : List Byte) : CoastMsg :=
    { port := port, vcd := vcd, bytes := leBytes 1 dest ++ leBytes 1 src ++ leBytes 1 typ ++ leBytes 1 stat ++ leBytes 2 tag ++ leBytes 2 0 ++ body }
def inb (s : State) (m : CoastMsg) : State := { s with coast := { s.coast with inbox := [m] } }
def rE := egsS (reach base)
def down0 (s : State) : State := s.setNum (Obj.PORT_STATE 0) 4
def down (s : State) : State := s.setNum (Obj.PORT_STATE 2) 4
def mFw (v : Nat) := cm 0 v 3 1 1 0 7 (leBytes 8 1)
def mRq (t r : Nat) := cm 0 0 0 1 1 0 7 (leBytes 2 t ++ leBytes 2 0 ++ leBytes 4 r)
def hbmEnt (s : State) (_ : Bool) : State :=
    { s with hbm := { s.hbm with mem := put (put [] 0x10020 (leBytes 16 (mkEntry 2 3 0 0 1 0 true false false))) (0x20000 + 3*64) (leBytes 4 2 ++ leBytes 2 6 ++ leBytes 1 1 ++ leBytes 41 0) } }
def rwr : RowWork := { rw_ 2 .remote with req := 5 }
def er := ecmd (lkBlk 0 3 0) [rwr] true
def mRd_ (tag : Nat) := cm 0 2 0 1 1 0 tag (leBytes 4 2 ++ leBytes 2 6 ++ leBytes 1 4 ++ leBytes 60 0)
def mNk (tag stat : Nat) := cm 0 2 0 1 2 stat tag []
def mUp (typ stat : Nat) := cm 0 4 0 1 typ stat 0 (leBytes 4 5 ++ leBytes 4 2 ++ leBytes 2 6 ++ leBytes 100 0)
def mCr (typ stat : Nat) (b : List Byte) := cm 0 2 0 1 typ stat 0 b
def unr (s : State) : State := s.setNum Obj.UNREACHABLE_MASK 6
def clk (s : State) (n : Nat) : State := { s with tide := { s.tide with clock := n } }
def adv (s : State) : State := clk (s.setMember 1 { s.member 1 with advanced := some 100, received := 3, freedOut := 2 })
    132
def mLr (typ : Nat) (b : List Byte) := cm 0 2 0 1 typ 0 0 b
def s1a (s : State) : State := { s with nv := { s.nv with addr := 1 } }
def mLr1 (typ : Nat) (b : List Byte) := cm 2 2 1 0 typ 0 0 b
def lch : Launch := { job := 9, members := [1], first := 0 }
def wl (s : State) : State := clk { s with coast := { s.coast with launches := [lch] } } 65536
def hold1 (start : Option Nat) (s : State) : State :=
    { s.setNum Obj.SCHED_STATE 5 with sched := { s.sched with hold := some { client := 5, pos := 0, job := 9, sentAt := 0, start := start }, slots := [{ job1 with desc := { cls := 0, flags := 0, reachJob := 9, maxRun := 1000 } }] } }
def hh (x : Option Nat) : ReachHold := { client := 5, pos := 0, job := 9, sentAt := 0, start := x }
def rE0 := rE.setNum Obj.UNREACHABLE_MASK 0
def desc0 (cls flags gen seq bundle launch dead maxr rj : Nat) : List Byte := leBytes 1 cls ++ leBytes 1 flags ++ leBytes 1
    gen ++ leBytes 1 0 ++ leBytes 4 seq ++ leBytes 8 bundle ++ leBytes 5 launch ++ leBytes 3 0 ++ leBytes 5 dead ++ leBytes
    3 0 ++ leBytes 4 maxr ++ leBytes 4 rj ++ leBytes 216 0
def lk (s : State) : State := { s with host := { s.host with linkUp := true } }
def cl (s : State) : State := sets (lk s) [(Obj.RING_STATE 5, 1), (Obj.CLIENT_ENABLE 5, 1)] |>.setCReg 5 0x10 0x0303
def fet (s : State) : State := { cl s with sched := { (cl s).sched with fetch := [(5, 0)] } }
def dl0 := desc0 0 0 0 1 0x1000 0 0 1000 0
def jq (p : Nat) : Job := { job1 with pos := p, candAt := some 0 }
def withJ (l : List Job) (s : State) : State := { s with sched := { s.sched with slots := l } }
def fA := withJ [jq 7] (fet base)
def fB := { fet base with tide := { (fet base).tide with clock := 2500000 } }
def jr (_ : Nat) (fl : Nat) : Job := { job1 with desc := { maxRun := 1000, bundle := 0x1000, flags := fl, reachJob := 9 } }
def selS (rdy : Bool) (fl : Nat) (s : State) : State :=
  let s := cl s
  { s with hbm := { s.hbm with mem := put [] 0x1000 bundle }, sched := { s.sched with slots := [jr 0 fl], event := true, load := some { client := 5, pos := 0, lines := [1280, 1344], ready := rdy } } }
def chosenS (fl : Nat) (s : State) : State := let s := selS true fl s;
    { s with sched := { s.sched with event := false, chosen := some (5,0) } }
def ow (s : State) : State := { s with sched := { s.sched with lastOwner := 5 } }
def jnb : Job := { job1 with elig := none, desc := { maxRun := 1000, flags := 4, launch := 50 } }
def jcd : Job := { job1 with desc := { cls := 1, maxRun := 1000, launch := 50, deadline := 60 } }
def tS (j : Job) : State := at_ (withJ [j] (cl base)) 60
def e0 : State := (cl base).setNum (Obj.RING_STATE 5) 0
def st1 : State := withJ [jq 7, jq 8] (fet base)
def h1 : State := withJ [jq 7, jq 8] ((fet base).setNum (Obj.CLIENT_HALTED 5) 1)
def hs : State := lk (hb base)
def barred (s : State) : State := { s with nv := { s.nv with ready := false } }
def hy0 : State := ((sets hs [(Obj.HOST_RESET_ENABLE, 1)]).regSet 8 31)
def hy (m : Bool) : State :=
    { hy0 with host := { hy0.host with due := [3,5], functionMask := m, mailbox := put [] 0x100 [0x30,1,2,3] }, sched := { hy0.sched with slots := [jq 7], run := some { job := job1, start := 0, ownerChange := false, mute := false } } }
def hrS : State := let s := hold1 none (hy false);
    { s with host := { s.host with request := some { src := .mailbox, seq := 0, version := 1, opcode := 0x30, length := 0, index := 0, sub := 0, reserved := false, body := [] } }, sched := { s.sched with run := some { job := job1, start := 0, ownerChange := false, mute := false } } }
def rep1 (p : Nat) (s : State) : FaultReport := { plainReport s 0x0901 7 p 5 6 with detail1 := 7 }
def jx : Job := { job1 with client := 5 }
def rx : Run := { job := jx, start := 3, ownerChange := false, mute := false }
def fS (p : Nat) : State := let s := cl rEnd;
    { s with faults := { s.faults with reports := [rep1 p s] }, sched := { s.sched with run := some rx } }
def lr : LogRec := eventRec base 0x0A30 0 1 2
def lgS (n : Nat) : State := let s := base.setNum Obj.LOG_WRITTEN n;
    { s with faults := { s.faults with queue := [lr, lr] } , pins := { s.pins with uart := [[1,2]] } }
def uS (n : Nat) : State := sets (lgS n) [(Obj.FUNCTION_NOW 3, 2), (Obj.FUNCTION_NOW 4, 3)]
def au : State := let s := sets base [(Obj.POWER_STATE, 1), (Obj.ENABLE 3, 1), (Obj.NEXT_LAUNCH 3, 800)];
    { s with power := { s.power with automatic := true } }
def wk (n : Nat) (l : Bool) : State := let s := at_ (base.setNum Obj.POWER_STATE 2) n;
    { s with power := { s.power with wakeAt := 0, lullDue := l } }
def dr : State := let s := clk (base.setNum Obj.POWER_STATE 3) 500;
    { s with power := { s.power with drain := some { abandon := false, at_ := 0 } } }
def c0 (b : Nat) (ok : Bool) : ColdStart :=
    { addr := 3, boot := b, secure := false, otpOk := ok, courses := [7], srams := [], routers := [], units := [], banks := [], sensors := [], channels := [], micros := 5000, ticks := 77 }
def offS : State := { base with pins := { base.pins with off := true } }
def porS (j : Nat) : State := { base with pins := { base.pins with por := true, jtag := j } }
def hel : State := outGet (exec .porNAssertion base)
def warm1 : State := { base with nv := { base.nv with warm := true, ready := false } }
def fj (st : FlashStep) : FlashJob :=
    { slot := 1, image := imageHeader 4 (List.replicate 600 7) ++ List.replicate 600 7, seq := 4, step := st }
def fw (st : FlashStep) : State := { base with nv := { base.nv with work := some (fj st) } }
def tch : State := clk (sets base [(Obj.FUNCTION_NOW 3, 4)]) 67108864
def rq (op idx sub : Nat) (body : List Byte) : Request :=
    { src := .port 7, seq := 1, version := 1, opcode := op, length := 8 + body.length, index := idx, sub := sub, reserved := false, body := body }
def mb (q : Request) : Request := { q with src := .mailbox }
def ask (s : State) (q : Request) : State := match q.src with
  | .port _ => { s with shore := { s.shore with queue := [q] } }
  | .mailbox => { s with host := { s.host with linkUp := true, request := some q, busy := true } }
def mgr (s : State) : State := { s with shore := { s.shore with lease := 1, holder := 7, leaseEnd := 1000 } }
def box (s : State) (d : Bool) (m : Nat) : State :=
    { s with shore := { s.shore with lease := 2, holder := m, delegated := d } }
def r0 : ObjRow :=
    { lo := 0, hi := 0, subLo := 0, subHi := 0, ty := .u8, access := .ro, persist := false, kind := .stat, size := 1, dflt := 0 }
def orow (q : Request) : ObjRow := (objectRow (reqKey q)).getD r0
def wr (k v n : Nat) : Request := rq 2 (k / 256) (k % 256) (beBytes n v)
def heardS (s : State) : State :=
    { s with shore := { s.shore with sources := [{ mac := 7, last := 1, responses := [(1, [1,2,3])] }] } }
def fr (op : Nat) : Frame :=
    { dest := base.portMac, tagged := false, etherType := 0x88B5, length := 64, fcsOk := true, request := rq op 1 0 [] }
def trf (k : Nat) (w : Bool) (l : List Byte) (n : Nat) : Transfer :=
    { src := .port 7, key := k, write := w, total := n, data := l, at_ := 0 }
def withT (s : State) (t : Transfer) : State := { s with shore := { s.shore with transfers := [t] } }
def note0 (q : Option Nat) (n : Nat) : Note :=
    { event := 0x1002, logSeq := 1, tide := 5, detail := 6, seq := q, tries := n, sentAt := 0 }
def withN (s : State) (n : Note) : State := { s with shore := { s.shore with notes := [n] } }
def oc (m : OrderedSet) : List Byte := sosOctets m
def genL0 : State := sets genL [(Obj.ACCUMULATOR 3, 1)]
def wx3 : State := { aligned2 with tide := { aligned2.tide with pending := some (0, false), adoptAt := 4096 } }
def wx4 : State := { aligned2 with tide := { aligned2.tide with pending := some (3, false), adoptAt := 4096 } }
def wx5 : State :=
    { at_ (sets aligned2 [(Obj.TIDE_STATE, 4)]) 300000 with tide := { (at_ aligned2 300000).tide with holdSince := 5} }
def ppOut : State := sets { at_ pp 200000000 with pps := {pp.pps with lastEdge := some 5}} [(Obj.PPS_LOCK,1)]
def rEnd1 : State := running [(5 * 256 + 7, { sl with firingsLeft := 1, in1 := { status := .pending, handle := 4 } })] (act
    (word 2 1 0 0 5 3 0))
def run1 : Run := { job := job1, start := 0, ownerChange := false, mute := false }
def mrc (b : MsgBody) := msg .rsp (.bank 3) (.brick 5) 0x41 b
def mre (b : MsgBody) := msg .rsp (.egs 3) (.brick 5) 7 b
def mdc (b : MsgBody) := msg .rsp (.bank 3) (.brick 5) 0x41 b
def mde (tag : Nat) (b : MsgBody) := msg .rsp (.egs 3) (.brick 5) tag b
def rDn' (o : Outstanding) (m : Msg) : State := let s := fly rTmpl m;
    { s with wall := { s.wall with bricks := [(5, { out := [o, outst 2 true] })] } }
def outst' (tag : Nat) : Outstanding := { outst tag true with succCourse := 200 }
def kb1 := selBlk 1 0 0 0 3 0 2 1
def kb2 := selBlk 2 0 3 0 3 0 0 1
def sl1 : Slot := { sl with firingsLeft := 1, in1 := { status := .pending, handle := 4 } }
def rTmpl1 := running [(5 * 256 + 7, sl1)] (act (word 0 1 0 0 5 3 1))
def rRelay1 := running [(5 * 256 + 7, sl1)] (act (word 1 1 0 0 5 3 1))
def ppM : State := sets (at_ pp 100000100) [(Obj.TIDE_STATE, 1), (Obj.MASTER_ADDR, 3), (Obj.PPS_LOCK, 1)]
def hcal (s : State) : State := { s with hbm := { s.hbm with calAt := some s.now } }
def applyR : State := { base with hbm := { base.hbm with regionsPending := true, mem := put [] 5 [6] } }
def applyT : State := { base with tables := { base.tables with pending := true } }
def applyE : State :=
    { base with egs := { base.egs with pending := true, descStaged := put [] (128*6) tdesc, ringsStaged := put [] (48*6+32) (leBytes 8 0x5000 ++ leBytes 4 3 ++ leBytes 4 0) } }
def hdeadP : State := { pat 7 base with hbm := { (pat 7 base).hbm with retired := [blockOf (patrolAddress 3 7)] } }
def c2l : EgsCmd := { ecmd (lkBlk 0 3 0) [] false with lists := [lseg 0, lseg 1] }
def c1l (sorted : Bool) : EgsCmd := ecmd (lkBlk 0 3 0) [] sorted
def ld12 : List Byte := leBytes 4 1 ++ leBytes 4 2 ++ leBytes 4 1
def cDir : EgsCmd := ecmd (lkBlk 0 3 0) [rw_ 2 .dir] true
def mFw8 : CoastMsg := cm 0 0 3 0 1 0 7 (leBytes 8 1)
def mRq8 (t : Nat) : CoastMsg := cm 8 0 0 0 1 0 7 (leBytes 2 t ++ leBytes 2 0 ++ leBytes 4 2)
def rSl : RowWork := { rw_ 2 .slot with entry := mkEntry 2 3 0 0 1 0 true false false, askedAt := 5 }
def cSl : EgsCmd := ecmd (lkBlk 0 3 0) [rSl, rw_ 1 .dir] true
def cRem : EgsCmd := ecmd (lkBlk 0 3 0) [rw_ 2 .remote] true
def cRemU : EgsCmd := ecmd (upBlk 3) [rw_ 2 .remote] true
def rclN : State := { rcl 1 (65536*4) with egs := { (rcl 1 (65536*4)).egs with desc := [] } }
def rclE : State :=
    { rcl 1 (65536*4) with hbm := { (rcl 1 (65536*4)).hbm with mem := put ((rcl 1 (65536*4)).hbm.mem) 0x10030 (leBytes 16 (mkEntry 3 3 0 0 0 0 true false true)) } }
def flipG (p : Bool) : Flip := { flip1 with source := .grad 5, new := mkEntry 2 4 3 0 2 0 true false p }
def lastFlip (c : Instr) (s : State) : Flip := ((outGet (exec c s)).egs.flips.getLast?).getD flip1
def rentT (op tier : Nat) : List Byte := leBytes 1 op ++ leBytes 1 tier ++ leBytes 2 0 ++ leBytes 2 6 ++ leBytes 2 0 ++
    leBytes 4 2 ++ leBytes 52 0
def ringE (op tier ent : Nat) : State :=
  let s := ring1 op
  let s := { s with hbm := { s.hbm with mem := put (put (put s.hbm.mem 0x80000 (rentT op tier)) 0x10020 (leBytes 16 ent)) (0x20000 + 3*64) (leBytes 4 2 ++ leBytes 2 6 ++ leBytes 1 1 ++ leBytes 41 0) } }
  (s.setFreeRing 6 0 { base := 0x5000, cap := 4, count := 3 }).setFreeRing 6 1 { base := 0x5000, cap := 4, count := 3 }
def entP : Nat := mkEntry 2 3 0 0 1 0 true false false
def entR : Nat := mkEntry 2 3 0 0 1 0 true true false
def fo (last : Bool) (seq : Nat) (pl : List Byte) : List Byte := flitOctets (fl last seq (p56 pl))
def bad64 (l : List Byte) : List Byte := l.set 60 (l.getD 60 0 + 1)
def co (nak : Option Nat) : List Byte := creditOctets (ca true false nak)
def io (snd good : Nat) : List Byte := identOctets (idn true snd good)
def pay3 : List Byte := [3, 0, 1, 0, 7, 0, 0, 0, 1]
def scrW : Nat := ((scr 0).scrubWindow).getD 0
def scrN : Nat := ((scr 0).stepInterval scrW ((scr 0).scrubUnits (scr 0).scrubOpen) (((scr 0).scrubAccount 3).csaBank
    3).steps).getD 0
def clrDue (st : Nat) : State := let s := clr true true; s.setCsaBank 3 { s.csaBank 3 with state := st, clearDue := true }
def er2 : EgsCmd := ecmd (lkBlk 0 3 0) [rwr, rw_ 1 .dir] true
def gradS : State := ((hbmEnt rE true).setFreeRing 6 0 { base := 0x5000, cap := 4, count := 3 }).setFreeRing 6 1
    { base := 0x5000, cap := 4, count := 3 }
def mGr : CoastMsg := cm 0 4 0 1 1 0 0 (leBytes 2 6 ++ leBytes 2 0 ++ leBytes 4 2 ++ leBytes 4 0x3f800000 ++ leBytes 4 0 ++
    leBytes 32 0)
def tdescR : List Byte := tdesc.take 32 ++ leBytes 8 0x30000 ++ leBytes 1 1 ++ tdesc.drop 41
def repS : State :=
    { gradS with egs := { gradS.egs with desc := put [] (128*6) tdescR }, hbm := { gradS.hbm with mem := put (put gradS.hbm.mem 0x30000 (leBytes 16 (mkEntry 2 3 0 0 1 0 true true false))) 0x30040 (leBytes 16 (mkEntry 2 3 0 0 1 0 true true false)) } }
def cool (s : State) : State := s.setNum Obj.HEAT_ENABLE 0
def mRp (typ : Nat) : CoastMsg := cm 0 4 0 1 typ 0 0 (leBytes 2 6 ++ leBytes 2 0 ++ leBytes 4 2 ++ leBytes 48 0)
def ex (c : Instr) (s : State) : State := outGet (exec c s)
def l9 (typ : Nat) (n x : Nat) (v : Nat) : CoastMsg := mLr1 typ (leBytes 4 n ++ leBytes x v)
def l1 (typ : Nat) : CoastMsg := mLr typ (leBytes 4 9 ++ [1])
def adv0 (s : State) : State := clk (s.setMember 0 { s.member 0 with advanced := some 100, received := 3, freedOut := 2 })
    132
def jHold : Job := { job1 with desc := { cls := 0, flags := 0, reachJob := 9, maxRun := 1000 } }
def holdL (s : State) : State := let s := hold1 (some 4) (at_ s 4);
    { s with sched := { s.sched with load := some { client := 5, pos := 0, lines := [], ready := true } } }
def hNow : State := { h1 with sched := { h1.sched with halts := [(5, h1.lclk, true)] } }
def run2 : Run := { job := job1, start := 3, ownerChange := false, mute := false }
def tear1 : Teardown := { at_ := 20, outcome := 1, code := 0x901, owed := false }
def tearS : State := let s := clk (cl rEnd) 20; { s with sched := { s.sched with run := some run2, tear := some tear1 } }
def thr (r : Nat) (l : List Nat) : State := let s := (at_ base 1024).setNum Obj.RATE_NOW r;
    { s with csa := { s.csa with candidates := l } }
def dsp (lim lvl : Nat) : State := sets (at_ base 1024) [(Obj.POWER_LIMIT, lim), (Obj.DISPATCH_LEVEL, lvl)]
def calN : State := let s := at_ base 1048576; s
def calT : State := let s := at_ base 0x200;
    { s with tide := { s.tide with nextSensor := 1048576 }, power := { s.power with tests := [5, 9999] } }
def wx18 : State := { warm1 with nv := { warm1.nv with hold := true } }
def drvS : State := let s := sets base [(Obj.FUNCTION_NOW 3, 1), (Obj.DRIVE_ENABLE 3, 16)]; s.setPin 3
    { s.pin 3 with driving := true }
def W (q : Request) (s : State) : State := ask (mgr s) q
def C1 := wr Obj.RETIRE_COURSE 0x8005 2
def C1f : State := base.setCourse 5 2
def C2 := wr Obj.TABLES_APPLY 1 1
def C3 := wr Obj.REGIONS_APPLY 1 1
def C4 := wr Obj.EMB_APPLY 1 1
def C5 := wr Obj.RETIRE_BLOCK 0x80000003 4
def C5f : State := { base with hbm := { base.hbm with retired := [1] } }
def C6 := wr Obj.START_RELEASE 1 1
def C7 := wr Obj.NV_COMMIT (2^63 + 1) 8
def C8 := wr Obj.RESTORE_FACTORY 0x81 1
def C9 := wr Obj.RESTORE_FACTORY 0x83 1
def C9b := wr Obj.RESTORE_FACTORY 0x82 1
def C10 := wr Obj.WARM_RESET 0xD752 2
def C11 := wr Obj.POWER_REQUEST 0x80 1
def C12 := wr Obj.POWER_REQUEST 0x81 1
def C13 := wr Obj.POWER_REQUEST 0xC2 1
def ct (k b : Nat) := wr Obj.SELFTEST_REQUEST (0x8000 + k * 256 + b) 2
def hd : State := { base with nv := { base.nv with hold := true, ready := false, step := 8 } }
def lx : State :=
    { base with tide := { base.tide with clock := 2 }, shore := { base.shore with lease := 1, leaseEnd := 0 } }
def mS : State := ask (mgr base) (rq 8 0 0 [])
def nn : State := withN base (note0 none 0)
def q1 : Request := wr Obj.LEASE_DEFAULT_MS 200 4
def q2 : Request := wr (Obj.ENABLE 3) 0 1
def q2a : Request := wr (Obj.ENABLE 3) 1 1
def q3 : Request := wr (Obj.CSA_BANKSET 5) 8 8
def q3z : Request := wr (Obj.CSA_BANKSET 5) 0 8
def q4 : Request := wr 0x700301 4 1
def q5 : Request := wr 0x700302 1 1
def q6 : Request := wr 0xE00301 2 1
def tr0 (k : Nat) (l : List Byte) : Transfer := trf k false l l.length
def t8 : Transfer := tr0 0x503002 [1,2,3,4,5,6,7,8]
def t10 : Transfer := trf 0x503001 true [9,9] 64
def t12 : Transfer := trf 0x503001 true [3,0,0,0] 4
def q8 : Request := rq 4 0x5030 2 (beBytes 4 4 ++ beBytes 2 16 ++ [0,0])
def q9 : Request := rq 5 0x5030 1 (beBytes 4 8)
def q10 : Request := rq 6 0x5030 1 (beBytes 4 2 ++ [1,2,3])
def q11 : Request := rq 7 0x5030 2 (beBytes 4 0)
def q12 : Request := rq 7 0x5030 1 (beBytes 4 (crc32c [3,0,0,0]))
def qc : Request := rq 0x10 0 0 (beBytes 4 200)
def qb : Request := rq 0x10 0 0 (beBytes 4 7)
def qn : Request := rq 0x11 0 0 (beBytes 4 300)
def ql : Request := rq 0x12 0 0 []
def qd : Request := rq 0x13 0 0 []
def qr : Request := rq 0x14 0 0 []
def qi : Request := rq 0x30 0 0 []
def both (s : State) : State := { s with shore := { s.shore with queue := [qc] } }
def plcaS : State := { base with shore := { base.shore with plcaDue := true } }
def fullQ : State := { base with shore := { base.shore with queue := List.replicate 16 (rq 1 1 1 []) } }
def frBad : Frame := { fr 1 with fcsOk := false }
def frOther : Frame := { fr 1 with dest := 5 }
def trOld : State := { withT base (trf 1 false [1] 1) with tide := { base.tide with clock := 100000000 } }
def noteOld (n : Nat) : State := { withN base (note0 (some 3) n) with tide := { base.tide with clock := 5000000 } }
def noSrc : State :=
    { heardS base with shore := { (heardS base).shore with sources := [{ mac := 7, last := 1, responses := [] }] } }
def rqM : State := ask base (mb (rq 1 0x2010 0 []))
def g3on : State := base.setNum (Obj.ENABLE 3) 1
def qW : Request := wr 0x404005 0xFF 1
def ownB (lo : Nat) : State := let s := base.setNum (Obj.CSA_BANKSET 5) 8; s.setCsaBank 3
    { s.csaBank 3 with state := 2, lastOwner := lo }
def genA (ph : Nat) : State := sets base [(Obj.TIDE_STATE, 2), (Obj.PHASE 3, ph)]
def w1cS : State := base.setNum 0x404005 1
def w1cF : State := let s := base.setNum 0x404005 1;
    { s with shore := { s.shore with start := Store.set Obj.default s.shore.start 0x404005 1 } }
def thr64 : List Byte := base.octs Obj.THROTTLE_POINTS 0 64
def qO : Request := rq 2 0x7110 1 thr64
def chg : State := base.setNum Obj.LEASE_DEFAULT_MS 777
def chgO : State := base.setOcts Obj.THROTTLE_POINTS 0 [9]
def kLease : ObjRow := (objectRow Obj.LEASE_DEFAULT_MS).getD r0
def kThr : ObjRow := (objectRow Obj.THROTTLE_POINTS).getD r0
def qFo : Request := wr Obj.THROTTLE_DISABLE 1 1
def qCo : Request := wr Obj.FCS_ERRORS 7 4
def rq9 : Request := { rq 1 0x2010 0 [] with version := 9 }
def qRn : Request := rq 1 (Obj.LEASE_DEFAULT_MS / 256) (Obj.LEASE_DEFAULT_MS % 256) []
def own5 : State := base.setCsaBank 3 { base.csaBank 3 with lastOwner := 5 }
def q4e : Request := wr 0x700301 (base.num 0x700301) 1
def ppNL : State := { at_ pp 100050000 with pps := { pp.pps with label := none } }
def dReq : OrderedSet := { portsUp.sos 2 with txSub := 9 }
def dBad : OrderedSet := { portsUp.sos 1 with txSub := 96 }
def a1 := [1,2,3,4,5,6,7,8].map (BitVec.ofNat 8)
def known1 : SourceState := { mac := 7, last := 1, responses := [(1, [1, 2, 3])] }
def known0 : SourceState := { mac := 7, last := 1, responses := [] }

/-! ### Witnesses: the hypotheses of each statement, met together -/

/-- A step of a waiting command. -/
def waiting (c : Instr) : State := { at_ base 100 with pending := [c, .restep] }

theorem witness_StepRunsTheFrontCommand : (waiting (.ppsEdge 3 60)).pending = .ppsEdge 3 60 :: [.restep] := rfl

theorem witness_EmptyQueuePassesATick :
    (base.pending = [] ∧ base.held = false ∧ base.sched.tear = none ∧ base.hbm.held = [] ∧ base.hbm.heldReplies = []) ∧
    (hel.pending = [] ∧ hel.held = true) ∧
    tearS.pending = [] ∧ tearS.held = false ∧ tearS.sched.run = some run2 ∧ tearS.sched.tear = some tear1 ∧
    tear1.at_ ≤ tearS.clock + 1 := by decide +kernel

theorem witness_WellFormedCommandsNeverStop : Instr.wf (.generatorPendingStart 15) = true ∧ Instr.wf (.bankLine 4095 255 {}) = true :=
  by decide

theorem witness_CommandsKeepTheQueueAndTheOutputs : exec .syncSend portsUp = .next (outGet (exec .syncSend portsUp)) :=
  next_of (by decide +kernel)

theorem witness_FrameOfEveryCommand :
    exec (.cadenceLaunch 3) genL = .next (outGet (exec (.cadenceLaunch 3) genL)) ∧ mayChange .egs (.cadenceLaunch 3) = false ∧
    mayChange (.num 6) (.cadenceLaunch 3) = false := ⟨next_of (by decide +kernel), by decide, by decide⟩

theorem witness_InvariantIsKeptByEveryStep :
    State.memoryOk (waiting (.ppsEdge 3 60)) ∧ (waiting (.ppsEdge 3 60)).now < 2 ^ 64 ∧ State.queueOk (waiting (.ppsEdge 3 60)) := by
  unfold State.memoryOk State.queueOk; decide +kernel

theorem witness_OtpIsNeverWritten :
    step (waiting (.ppsEdge 3 60)) = .next (outGet (step (waiting (.ppsEdge 3 60)))) ∧
    ∀ c r, (waiting (.ppsEdge 3 60)).pending ≠ .coldReset c :: r := ⟨next_of (by decide +kernel), nofun⟩

theorem witness_TideNeverDecreases :
    exec .tideCorrection aligned2 = .next (outGet (exec .tideCorrection aligned2)) ∧ aligned2.now + 2 < 2 ^ 64 ∧
    Instr.tideCorrection ≠ .restep ∧ (∀ p m x, Instr.tideCorrection ≠ .sync p m x) ∧
    (∀ x, Instr.tideCorrection ≠ .coldReset x) ∧ Instr.tideCorrection ≠ .porNAssertion ∧
    Instr.tideCorrection ≠ .railsRemoved ∧ (∀ n, Instr.tideCorrection ≠ .jtagInstruction n) :=
  ⟨next_of (by decide +kernel), by decide +kernel, nofun, nofun, nofun, nofun, nofun, nofun⟩

theorem witness_ColdResetLeavesTheStatedState :
    { wfStraps with addr := 63, boot := 3 }.addr < 64 ∧ { wfStraps with addr := 63, boot := 3 }.boot < 4 ∧
    (hel.pins.off = true ∨ hel.pins.por = true) ∧ jtagHolds hel.pins.jtag = false := by decide +kernel

theorem witness_HeldDeviceIgnoresCommands :
    Instr.wf (.cadenceLaunch 15) = true ∧ hel.held = true ∧ (∀ x, Instr.cadenceLaunch 15 ≠ .coldReset x) ∧
    Instr.cadenceLaunch 15 ≠ .porNAssertion ∧ Instr.cadenceLaunch 15 ≠ .railsRemoved ∧
    (∀ n, Instr.cadenceLaunch 15 ≠ .jtagInstruction n) ∧ Instr.cadenceLaunch 15 ≠ .thermalTrip ∧
    (∀ n v, Instr.cadenceLaunch 15 ≠ .shoreInputEdge n v) :=
  ⟨by decide, by decide +kernel, nofun, nofun, nofun, nofun, nofun, nofun⟩

/-- 1.5 in BF16, once as 192 × 2^-7 and once as 3 × 2^-1; 127 in INT8; 1.5 in a fixed-point format of 8 bits. -/
theorem witness_RepresentableValuesConvertExactly :
    (fmtBF16.cls = 0 ∧ fmtBF16.width = 1 + fmtBF16.exp + fmtBF16.mant ∧ 1 ≤ fmtBF16.exp) ∧ 1 ≤ fmtBF16.width ∧
    0x3FC0 < 2 ^ fmtBF16.width ∧ (∀ r, Round.nearest = .stochastic r → r < 65536) ∧
    decodeNum fmtBF16 0x3FC0 = .fin false 192 (-7) ∧
    3 * 2 ^ ((-1 : Int) - min (-1) (-7)).toNat = 192 * 2 ^ ((-7 : Int) - min (-1) (-7)).toNat :=
  ⟨by decide, by decide, by decide, nofun, by decide, by decide⟩

theorem witness_RepresentableValuesConvertExactly_fixed :
    decodeNum fmtI64 (2 ^ 63) = .fin true (2 ^ 63) 0 ∧ 2 ^ 63 < 2 ^ fmtI64.width ∧
    decodeNum { fmtI32 with cls := 3, width := 8, exp := 4 } 24 = .fin false 24 (-4) ∧
    (∀ r, Round.stochastic 65535 = .stochastic r → r < 65536) :=
  ⟨by decide, by decide, by decide, fun r h => by injection h; omega⟩

/-- INT64 and its unsigned kin at the limits: exact, below and above. -/
theorem witness_IntegerArithmeticSaturates :
    (fmtI64.cls = 1 ∧ fmtI64.exp = 0 ∧ 1 ≤ fmtI64.width) ∧ ((fmtUint 8).cls = 1 ∧ (fmtUint 8).exp = 0 ∧ 1 ≤ (fmtUint 8).width) ∧
    fmtI64.lo = -2 ^ 63 ∧ fmtI64.hi = 2 ^ 63 - 1 ∧ (fmtUint 8).lo = 0 ∧ (fmtUint 8).hi = 255 ∧
    fmtI64.hi < toSigned 64 (2 ^ 63 - 1) + toSigned 64 1 ∧ toSigned 64 (2 ^ 63) - toSigned 64 1 < fmtI64.lo ∧
    fmtI64.hi < ((toSigned 64 (2 ^ 63)).natAbs : Int) ∧ fmtI64.hi < -(toSigned 64 (2 ^ 63)) := by decide

theorem witness_FlashAndPinsFollowTheirRules_eraseBlock :
    (fw (.eraseBlock 15)).held = false ∧ (fw (.eraseBlock 15)).nv.work = some (fj (.eraseBlock 15)) ∧
    (fj (.eraseBlock 15)).step = .eraseBlock 15 := ⟨by decide +kernel, rfl, rfl⟩

/-- The mailbox's request of the host. -/
def mailRead : Request := { rq 1 0x2010 0 [] with src := .mailbox }

theorem witness_RequestsAreAnsweredOnce_taken :
    (ask base (rq 1 0x2010 0 [])).takes (rq 1 0x2010 0 []) ∧ rowOfRequest (rq 1 0x2010 0 []) ≠ .notifyAck ∧
    (ask base mailRead).takes mailRead ∧ headerCode { rq 1 0x2010 0 [] with version := 2 } ≠ 0 :=
  ⟨takes_of (by decide +kernel), by decide +kernel, takes_of (by decide +kernel), by decide +kernel⟩

theorem witness_PendingGeneratorStartsFromPhase_1 :
    let x1 := (genP 1000).num (Obj.PERIOD_INT 3) * (genP 1000).num (Obj.DENOMINATOR 3) + (genP 1000).num (Obj.NUMERATOR 3)
    (genP 1000).held = false ∧ (genP 1000).startPending 3 = true ∧ (genP 1000).aligned = true ∧ (genP 1000).num (Obj.NUMERATOR
    3) < (genP 1000).num (Obj.DENOMINATOR 3) ∧ (if (genP 1000).now + 16 ≤ (genP 1000).num (Obj.PHASE 3) then 0 else (((genP
    1000).now + 16 - (genP 1000).num (Obj.PHASE 3)) * (genP 1000).num (Obj.DENOMINATOR 3) + x1 - 1) / x1) ≠ 0 :=
  by decide +kernel

theorem witness_PendingGeneratorStartsFromPhase_2 :
    let x1 := sets (genP 0) [(Obj.PHASE 3, 16)]
    let x2 := x1.num (Obj.PERIOD_INT 3) * x1.num (Obj.DENOMINATOR 3) + x1.num (Obj.NUMERATOR 3)
    x1.held = false ∧ x1.startPending 3 = true ∧ x1.aligned = true ∧ x1.num (Obj.NUMERATOR 3) < x1.num (Obj.DENOMINATOR 3) ∧ (if
    x1.now + 16 ≤ x1.num (Obj.PHASE 3) then 0 else ((x1.now + 16 - x1.num (Obj.PHASE 3)) * x1.num (Obj.DENOMINATOR 3) + x2 -
    1) / x2) = 0 :=
  by decide +kernel

theorem witness_LaunchAdvancesTheGenerator_1 :
    genL.held = false ∧ genL.num (Obj.ENABLE 3) = 1 ∧ genL.startPending 3 = false ∧ genL.num (Obj.NEXT_LAUNCH 3) ≤ genL.now ∧
    genL.num (Obj.DENOMINATOR 3) ≤ genL.num (Obj.ACCUMULATOR 3) + genL.num (Obj.NUMERATOR 3) :=
  by decide +kernel

theorem witness_LaunchAdvancesTheGenerator_2 :
    genL0.held = false ∧ genL0.num (Obj.ENABLE 3) = 1 ∧ genL0.startPending 3 = false ∧ genL0.num (Obj.NEXT_LAUNCH 3) ≤ genL0.now
    ∧ genL0.num (Obj.ACCUMULATOR 3) + genL0.num (Obj.NUMERATOR 3) < genL0.num (Obj.DENOMINATOR 3) :=
  by decide +kernel

theorem witness_TideOrderedSetsAreExchanged_1 :
    portsUp.held = false ∧ portsUp.isMaster = true ∧ portsUp.tide.nextSync ≤ portsUp.now ∧ portsUp.tideAt 0 4096 = true ∧
    upD.held = false ∧ upD.tide.nextDelay ≤ upD.now ∧ upD.tideAt 2048 4096 = true ∧ 3 ∉ upD.upPorts ∧ portsUp.num
    (Obj.PORT_STATE 2) = 2 ∧ State.sosOk (parseSos (oc { portsUp.sos 1 with kind := 9 })) = false ∧ ud.held = false ∧ ud.num
    (Obj.PORT_STATE 2) = 2 ∧ State.sosOk (parseSos (oc m3)) = true ∧ (parseSos (oc m3)).kind = 3 ∧ (Store.get (fun _ => 0)
    ud.tide.requestAt 2 = 4000 + 1) ∧ ((ud.now * 96 + 7 : Nat) : Int) - ((4000 : Nat) : Int) - ((((parseSos (oc
    m3)).tideAtTx * 96 + (parseSos (oc m3)).txSub : Nat) : Int) - (((parseSos (oc m3)).reqRxTide * 96 + (parseSos (oc
    m3)).reqRxSub : Nat) : Int)) = ((796 : Nat) : Int) ∧ (0 < Obj.PORT_DELAY * 65536 + 2 * 4 ∨ Obj.PORT_DELAY * 65536 + 2 *
    4 + 4 ≤ 0) :=
  by decide +kernel

theorem witness_TideOrderedSetsAreExchanged_2 :
    portsUp.held = false ∧ portsUp.isMaster = true ∧ portsUp.tide.nextSync ≤ portsUp.now ∧ portsUp.tideAt 0 4096 = true ∧
    upD.held = false ∧ upD.tide.nextDelay ≤ upD.now ∧ upD.tideAt 2048 4096 = true ∧ 3 ∉ upD.upPorts ∧ portsUp.num
    (Obj.PORT_STATE 2) = 2 ∧ State.sosOk (parseSos (oc dBad)) = false ∧ ud.held = false ∧ ud.num (Obj.PORT_STATE 2) = 2 ∧
    State.sosOk (parseSos (oc dReq)) = true ∧ (parseSos (oc dReq)).kind = 2 :=
  by decide +kernel

theorem witness_SyncIsTaken_1 :
    (at_ me3 500).held = false ∧ (at_ me3 500).num (Obj.PORT_STATE 2) = 2 ∧ State.sosOk (parseSos (oc sy)) = true ∧ (parseSos
    (oc sy)).kind = 1 ∧ ((at_ me3 500).num Obj.TIDE_STATE = 0 ∨ (at_ me3 500).num Obj.TIDE_STATE = 4 ∧ (parseSos (oc
    sy)).master ≠ (at_ me3 500).num Obj.MASTER_ADDR ∧ (parseSos (oc sy)).master ≠ (at_ me3 500).addr) ∧ (((at_ me3 500).num
    Obj.TIDE_STATE = 0 ∨ (at_ me3 500).num Obj.TIDE_STATE = 4 ∧ (parseSos (oc sy)).master ≠ (at_ me3 500).num
    Obj.MASTER_ADDR ∧ (parseSos (oc sy)).master ≠ (at_ me3 500).addr) ∨ (parseSos (oc sy)).master = (at_ me3 500).num
    Obj.MASTER_ADDR ∧ (parseSos (oc sy)).master ≠ (at_ me3 500).addr) ∧ (outGet (exec (Instr.sync 2 (oc sy) 7) (at_ me3
    500))).num Obj.UPSTREAM_PORT = 2 ∧ ((at_ me3 500).num Obj.TIDE_STATE = 0 ∨ (at_ me3 500).tide.everAligned = false) :=
  by decide +kernel

theorem witness_SyncIsTaken_2 :
    let x1 := parseSos (oc { sy with sender := 0, master := 0 })
    aligned2.held = false ∧ aligned2.num (Obj.PORT_STATE 2) = 2 ∧ State.sosOk x1 = true ∧ x1.kind = 1 ∧ (¬(aligned2.num
    Obj.TIDE_STATE = 0 ∨ aligned2.num Obj.TIDE_STATE = 4 ∧ x1.master ≠ aligned2.num Obj.MASTER_ADDR ∧ x1.master ≠
    aligned2.addr)) ∧ x1.master ≠ aligned2.num Obj.MASTER_ADDR ∧ x1.master ≠ aligned2.addr ∧ aligned2.tide.pending = none ∧
    rank (bit x1.flags 0) x1.master < aligned2.masterRank :=
  by decide +kernel

theorem witness_SyncIsTaken_3 :
    let x1 := sets aligned2 [(Obj.TIDE_STATE, 4)]
    x1.held = false ∧ x1.num (Obj.PORT_STATE 2) = 2 ∧ State.sosOk (parseSos (oc sy)) = true ∧ (parseSos (oc sy)).kind = 1 ∧
    (x1.num Obj.TIDE_STATE = 0 ∨ x1.num Obj.TIDE_STATE = 4 ∧ (parseSos (oc sy)).master ≠ x1.num Obj.MASTER_ADDR ∧ (parseSos
    (oc sy)).master ≠ x1.addr) ∧ ((x1.num Obj.TIDE_STATE = 0 ∨ x1.num Obj.TIDE_STATE = 4 ∧ (parseSos (oc sy)).master ≠
    x1.num Obj.MASTER_ADDR ∧ (parseSos (oc sy)).master ≠ x1.addr) ∨ (parseSos (oc sy)).master = x1.num Obj.MASTER_ADDR ∧
    (parseSos (oc sy)).master ≠ x1.addr) ∧ (outGet (exec (Instr.sync 2 (oc sy) 7) x1)).num Obj.UPSTREAM_PORT = 2 ∧ x1.num
    Obj.TIDE_STATE ≠ 0 ∧ x1.num Obj.TIDE_STATE ≠ 5 ∧ x1.tide.everAligned = true :=
  by decide +kernel

theorem witness_MastershipFollowsTheSyncs_1 :
    wx4.held = false ∧ wx4.tide.pending = some (3, false) ∧ wx4.tide.adoptAt ≤ wx4.now ∧ 3 = wx4.addr ∧ (at_ aligned2
    200000).held = false ∧ ((at_ aligned2 200000).num Obj.TIDE_STATE = 2 ∨ (at_ aligned2 200000).num Obj.TIDE_STATE = 3) ∧
    12288 ≤ (at_ aligned2 200000).clock - (at_ aligned2 200000).tide.lastSync ∧ wx5.held = false ∧ (wx5.num Obj.TIDE_STATE =
    0 ∧ 65536 ≤ wx5.clock - wx5.tide.lastSync ∨ wx5.num Obj.TIDE_STATE = 1 ∧ wx5.num Obj.MASTER_ADDR ≠ wx5.addr ∧ 65536 ≤
    wx5.clock - wx5.tide.lastSync ∨ wx5.num Obj.TIDE_STATE = 4 ∧ max wx5.tide.holdSince wx5.tide.lastSync + 65536 ≤
    wx5.clock) :=
  by decide +kernel

theorem witness_MastershipFollowsTheSyncs_2 :
    wx3.held = false ∧ wx3.tide.pending = some (0, false) ∧ wx3.tide.adoptAt ≤ wx3.now ∧ 0 ≠ wx3.addr ∧ (at_ aligned2
    200000).held = false ∧ ((at_ aligned2 200000).num Obj.TIDE_STATE = 2 ∨ (at_ aligned2 200000).num Obj.TIDE_STATE = 3) ∧
    12288 ≤ (at_ aligned2 200000).clock - (at_ aligned2 200000).tide.lastSync ∧ (at_ me3 70000).held = false ∧ ((at_ me3
    70000).num Obj.TIDE_STATE = 0 ∧ 65536 ≤ (at_ me3 70000).clock - (at_ me3 70000).tide.lastSync ∨ (at_ me3 70000).num
    Obj.TIDE_STATE = 1 ∧ (at_ me3 70000).num Obj.MASTER_ADDR ≠ (at_ me3 70000).addr ∧ 65536 ≤ (at_ me3 70000).clock - (at_
    me3 70000).tide.lastSync ∨ (at_ me3 70000).num Obj.TIDE_STATE = 4 ∧ max (at_ me3 70000).tide.holdSince (at_ me3
    70000).tide.lastSync + 65536 ≤ (at_ me3 70000).clock) :=
  by decide +kernel

theorem witness_CorrectionsAndRestepMoveTheTide_1 :
    let x1 := off (sets aligned2 [(Obj.TIDE_STATE, 3)]) 97
    let x2 := off (sets aligned2 [(Obj.TIDE_STATE, 5)]) 4000
    (off aligned2 96).held = false ∧ ((off aligned2 96).num Obj.TIDE_STATE = 2 ∨ (off aligned2 96).isMaster = true ∧ (off
    aligned2 96).ppsLock = true) ∧ 96 ≤ (off aligned2 96).tide.offset.natAbs ∧ (off aligned2 96).correctionFree 1024 = true
    ∧ 0 < (off aligned2 96).tide.offset ∧ x1.held = false ∧ x1.num Obj.TIDE_STATE = 3 ∧ x1.correctionFree 64 = true ∧ 96 <
    x1.tide.offset.natAbs ∧ 0 < x1.tide.offset ∧ x2.held = false ∧ x2.num Obj.TIDE_STATE = 5 ∧ x2.chipFree = true :=
  by decide +kernel

theorem witness_CorrectionsAndRestepMoveTheTide_2 :
    let x1 := off (sets aligned2 [(Obj.TIDE_STATE, 1), (Obj.PPS_LOCK, 1), (Obj.MASTER_ADDR, 3)]) (-100)
    let x2 := off (sets aligned2 [(Obj.TIDE_STATE, 5)]) (-4000)
    let x3 := off (sets aligned2 [(Obj.TIDE_STATE, 3)]) (-96)
    x1.held = false ∧ (x1.num Obj.TIDE_STATE = 2 ∨ x1.isMaster = true ∧ x1.ppsLock = true) ∧ 96 ≤ x1.tide.offset.natAbs ∧
    x1.correctionFree 1024 = true ∧ x1.tide.offset < 0 ∧ x3.held = false ∧ x3.num Obj.TIDE_STATE = 3 ∧ x3.correctionFree 64
    = true ∧ x3.tide.offset.natAbs ≤ 96 ∧ x2.held = false ∧ x2.num Obj.TIDE_STATE = 5 ∧ x2.chipFree = true ∧ x2.num
    (Obj.ENABLE 3) ≠ 1 :=
  by decide +kernel

theorem witness_CorrectionsAndRestepMoveTheTide_3 :
    let x1 := off (sets aligned2 [(Obj.TIDE_STATE, 3)]) (-150)
    let x2 := off (sets aligned2 [(Obj.TIDE_STATE, 5)]) (-4000)
    (off aligned2 (-96)).held = false ∧ ((off aligned2 (-96)).num Obj.TIDE_STATE = 2 ∨ (off aligned2 (-96)).isMaster = true ∧
    (off aligned2 (-96)).ppsLock = true) ∧ 96 ≤ (off aligned2 (-96)).tide.offset.natAbs ∧ (off aligned2
    (-96)).correctionFree 1024 = true ∧ (off aligned2 (-96)).tide.offset < 0 ∧ x1.held = false ∧ x1.num Obj.TIDE_STATE = 3 ∧
    x1.correctionFree 64 = true ∧ 96 < x1.tide.offset.natAbs ∧ x1.tide.offset < 0 ∧ x2.held = false ∧ x2.num Obj.TIDE_STATE
    = 5 ∧ x2.chipFree = true ∧ x2.num (Obj.ENABLE 3) ≠ 1 :=
  by decide +kernel

theorem witness_PpsAndPllEventsAct_1 :
    ppM.held = false ∧ (if (ppM.pps.labelCycle == ppM.lclk + 1) = true then ppM.pps.labelWas else ppM.pps.label) = some 77 ∧
    ppM.pps.lastEdge = some 4800000000 ∧ (((ppM.now * 96 + 5 : Nat) : Int) - ((4800000000 : Nat) : Int) - 4800000000).natAbs
    ≤ 48000 ∧ ppM.ppsLock = true ∧ ppM.isMaster = true ∧ 3 ≤ ppM.pps.inRange ∧ ppM.num Obj.PPS_LOCK ≤ 1 ∧ ppOut.held = false
    ∧ ppOut.pps.lastEdge = some 5 ∧ ppOut.num Obj.PPS_LOCK = 1 ∧ 5 + 50005000 * 96 ≤ ppOut.now * 96 ∧ pp.held = false ∧
    pp.pps.mapped = true ∧ pp.num Obj.TIDE_AT_EDGE ≤ pp.now ∧ pp.pps.lastPulse ≠ some ((pp.num Obj.TAI_AT_EDGE + (pp.now -
    pp.num Obj.TIDE_AT_EDGE) / 50000000) % 2 ^ 64) ∧ aligned2.held = false :=
  by decide +kernel

theorem witness_PpsAndPllEventsAct_2 :
    ppNL.held = false ∧ (if (ppNL.pps.labelCycle == ppNL.lclk + 1) = true then ppNL.pps.labelWas else ppNL.pps.label) = none ∧
    ppNL.pps.lastEdge = some 4800000000 ∧ 48000 < (((ppNL.now * 96 + 5 : Nat) : Int) - ((4800000000 : Nat) : Int) -
    4800000000).natAbs ∧ ppOut.held = false ∧ ppOut.pps.lastEdge = some 5 ∧ ppOut.num Obj.PPS_LOCK = 1 ∧ 5 + 50005000 * 96 ≤
    ppOut.now * 96 ∧ pp.held = false ∧ pp.pps.mapped = true ∧ pp.num Obj.TIDE_AT_EDGE ≤ pp.now ∧ pp.pps.lastPulse ≠ some
    ((pp.num Obj.TAI_AT_EDGE + (pp.now - pp.num Obj.TIDE_AT_EDGE) / 50000000) % 2 ^ 64) ∧ aligned2.held = false :=
  by decide +kernel

theorem witness_PpsAndPllEventsAct_3 :
    let x1 := { pp with pps := { pp.pps with inRange := 1 } }
    x1.held = false ∧ (if (x1.pps.labelCycle == x1.lclk + 1) = true then x1.pps.labelWas else x1.pps.label) = some 77 ∧
    x1.pps.lastEdge = some 4800000000 ∧ (((x1.now * 96 + 5 : Nat) : Int) - ((4800000000 : Nat) : Int) - 4800000000).natAbs ≤
    48000 ∧ x1.pps.inRange < 3 ∧ ppOut.held = false ∧ ppOut.pps.lastEdge = some 5 ∧ ppOut.num Obj.PPS_LOCK = 1 ∧ 5 +
    50005000 * 96 ≤ ppOut.now * 96 ∧ pp.held = false ∧ pp.pps.mapped = true ∧ pp.num Obj.TIDE_AT_EDGE ≤ pp.now ∧
    pp.pps.lastPulse ≠ some ((pp.num Obj.TAI_AT_EDGE + (pp.now - pp.num Obj.TIDE_AT_EDGE) / 50000000) % 2 ^ 64) ∧
    aligned2.held = false :=
  by decide +kernel

theorem witness_DispatchRunsTheChosenSlot_1 :
    5 < 68 * 64 ∧ rRelay1.held = false ∧ rRelay1.dispatchChoice 5 4 = some 7 ∧ rRelay1.mayDispatch 5 4 = true ∧ (rRelay1.slotAt
    (5 * 256 + 7)).parityBad = false ∧ (rRelay1.configTouch 5 7).1 = false ∧ (rRelay1.opEntry 5 7).kind = 1 ∧
    (rRelay1.slotAt (5 * 256 + 7)).firingsLeft ≤ 1 ∧ (rRelay1.slotAt (5 * 256 + 7)).in0.status = InStatus.pending ∧
    (rRelay1.slotAt (5 * 256 + 7)).in1.status = InStatus.pending :=
  by decide +kernel

theorem witness_DispatchRunsTheChosenSlot_2 :
    5 < 68 * 64 ∧ rEnd1.held = false ∧ rEnd1.dispatchChoice 5 4 = some 7 ∧ rEnd1.mayDispatch 5 4 = true ∧ (rEnd1.slotAt (5 * 256
    + 7)).parityBad = false ∧ (rEnd1.configTouch 5 7).1 = false ∧ (rEnd1.opEntry 5 7).kind = 2 ∧ (rEnd1.slotAt (5 * 256 +
    7)).firingsLeft ≤ 1 ∧ (rEnd1.slotAt (5 * 256 + 7)).in0.status = InStatus.pending ∧ (rEnd1.slotAt (5 * 256 +
    7)).in1.status = InStatus.pending :=
  by decide +kernel

theorem witness_DispatchRunsTheChosenSlot_3 :
    5 < 68 * 64 ∧ rTmpl1.held = false ∧ rTmpl1.dispatchChoice 5 4 = some 7 ∧ rTmpl1.mayDispatch 5 4 = true ∧ (rTmpl1.slotAt (5 *
    256 + 7)).parityBad = false ∧ (rTmpl1.configTouch 5 7).1 = false ∧ (rTmpl1.opEntry 5 7).kind = 0 ∧ (rTmpl1.slotAt (5 *
    256 + 7)).firingsLeft ≤ 1 ∧ (rTmpl1.slotAt (5 * 256 + 7)).in0.status = InStatus.pending ∧ (rTmpl1.slotAt (5 * 256 +
    7)).in1.status = InStatus.pending :=
  by decide +kernel

theorem witness_DispatchRunsTheChosenSlot_4 :
    5 < 68 * 64 ∧ rEnd.held = false ∧ rEnd.dispatchChoice 5 4 = some 7 ∧ rEnd.mayDispatch 5 4 = true ∧ (rEnd.slotAt (5 * 256 +
    7)).parityBad = false ∧ (rEnd.configTouch 5 7).1 = false ∧ (rEnd.opEntry 5 7).kind = 2 ∧ 1 < (rEnd.slotAt (5 * 256 +
    7)).firingsLeft ∧ (rEnd.slotAt (5 * 256 + 7)).in0.status = InStatus.pending :=
  by decide +kernel

theorem witness_DispatchRunsTheChosenSlot_5 :
    5 < 68 * 64 ∧ rTmpl.held = false ∧ rTmpl.dispatchChoice 5 4 = some 7 ∧ rTmpl.mayDispatch 5 4 = true ∧ (rTmpl.slotAt (5 * 256
    + 7)).parityBad = false ∧ (rTmpl.configTouch 5 7).1 = false ∧ (rTmpl.opEntry 5 7).kind = 0 ∧ 1 < (rTmpl.slotAt (5 * 256
    + 7)).firingsLeft ∧ (rTmpl.slotAt (5 * 256 + 7)).in0.status = InStatus.pending :=
  by decide +kernel

theorem witness_DispatchRunsTheChosenSlot_6 :
    5 < 68 * 64 ∧ rRelay.held = false ∧ rRelay.dispatchChoice 5 4 = some 7 ∧ rRelay.mayDispatch 5 4 = true ∧ (rRelay.slotAt (5 *
    256 + 7)).parityBad = false ∧ (rRelay.configTouch 5 7).1 = false ∧ (rRelay.opEntry 5 7).kind = 1 ∧ 1 < (rRelay.slotAt (5
    * 256 + 7)).firingsLeft ∧ (rRelay.slotAt (5 * 256 + 7)).in0.status = InStatus.pending :=
  by decide +kernel

theorem witness_CompletionFreesTheBrick :
    5 < 68 * 64 ∧ rFin.held = false ∧ (rFin.brickAt 5).firing = some fir ∧ rFin.wallRuns = true ∧ rFin.bcOpen 9 = true ∧ fir.at_
    < 9 ∧ fir.phase = Phase.finished ∧ fir.segs.all Segment.done = true :=
  by decide +kernel

theorem witness_TokensLowerTheCounter_1 :
    let x1 := (rTok { early := 254, firingsLeft := 2 } 0).slotAt (5 * 256 + 7)
    (rTok { early := 254, firingsLeft := 2 } 0).delivers (tok 0) ∧ (tok 0).dst = Node.brick 5 ∧ (tok 0).body = MsgBody.token 7 0
    9 12 ∧ (rTok { early := 254, firingsLeft := 2 } 0).mayApply 5 4 (tok 0) = true ∧ x1.parityBad = false ∧ x1.firingsLeft ≠
    0 ∧ (x1.counter = 0 → x1.early < 255) ∧ (0 = 1 → x1.in0.status ≠ InStatus.pending) ∧ (0 = 2 → x1.in1.status ≠
    InStatus.pending) ∧ x1.counter = 0 ∧ 8 ≠ 5 * 256 + 7 :=
  ⟨delivers_of (by decide +kernel), by decide +kernel⟩

theorem witness_TokensLowerTheCounter_2 :
    let x1 := (rTok { counter := 1, firingsLeft := 2 } 1).slotAt (5 * 256 + 7)
    (rTok { counter := 1, firingsLeft := 2 } 1).delivers (tok 1) ∧ (tok 1).dst = Node.brick 5 ∧ (tok 1).body = MsgBody.token 7 1
    9 12 ∧ (rTok { counter := 1, firingsLeft := 2 } 1).mayApply 5 4 (tok 1) = true ∧ x1.parityBad = false ∧ x1.firingsLeft ≠
    0 ∧ (x1.counter = 0 → x1.early < 255) ∧ (1 = 1 → x1.in0.status ≠ InStatus.pending) ∧ (1 = 2 → x1.in1.status ≠
    InStatus.pending) ∧ 0 < x1.counter ∧ x1.counter = 1 ∧ 7 ≠ 5 * 256 + 7 :=
  ⟨delivers_of (by decide +kernel), by decide +kernel⟩

theorem witness_TokensLowerTheCounter_3 :
    let x1 := (rTok { counter := 3, firingsLeft := 2 } 2).slotAt (5 * 256 + 7)
    (rTok { counter := 3, firingsLeft := 2 } 2).delivers (tok 2) ∧ (tok 2).dst = Node.brick 5 ∧ (tok 2).body = MsgBody.token 7 2
    9 12 ∧ (rTok { counter := 3, firingsLeft := 2 } 2).mayApply 5 4 (tok 2) = true ∧ x1.parityBad = false ∧ x1.firingsLeft ≠
    0 ∧ (x1.counter = 0 → x1.early < 255) ∧ (2 = 1 → x1.in0.status ≠ InStatus.pending) ∧ (2 = 2 → x1.in1.status ≠
    InStatus.pending) ∧ 0 < x1.counter ∧ x1.counter ≠ 1 ∧ 8 ≠ 5 * 256 + 7 :=
  ⟨delivers_of (by decide +kernel), by decide +kernel⟩

theorem witness_JobEndFreesTheChip_1 :
    rDone.held = false ∧ rDone.sched.run = some run1 ∧ rDone.sched.tear = none ∧ run1.job.maint = none ∧ rDone.jobDone = true :=
  by decide +kernel

theorem witness_JobEndFreesTheChip_2 :
    rM.held = false ∧ rM.sched.run = some mj ∧ rM.sched.tear = none ∧ mj.job.maint = some (3, 0) ∧ rM.faults.reports = [] :=
  by decide +kernel

theorem witness_RemoteAccessesReachTheSram_1 :
    (fly (bad (sr rEnd)) mRd).delivers mRd ∧ (fly (bad (sr rEnd)) mWr).delivers mWr ∧ mRd.dst = Node.brick 5 ∧ mRd.body =
    MsgBody.readReq 10 7 ∧ (∃ w ∈ State.sramWords 5 10 7, w ∈ (fly (bad (sr rEnd)) mRd).wall.sramUe) ∧ mWr.dst = Node.brick
    5 ∧ mWr.body = MsgBody.writeReq 10 [1, 2, 3] ∧ (∀ w ∈ State.partialWords 5 10 [1, 2, 3].length, w ∉ (fly (bad (sr rEnd))
    mWr).wall.sramUe) ∧ (5 * 2 ^ 18 + 13 < 5 * 2 ^ 18 + 10 ∨ 5 * 2 ^ 18 + 10 + [1, 2, 3].length ≤ 5 * 2 ^ 18 + 13) :=
  ⟨delivers_of (by decide +kernel), delivers_of (by decide +kernel), by decide +kernel⟩

theorem witness_RemoteAccessesReachTheSram_2 :
    (fly (sr rEnd) mRd).delivers mRd ∧ (fly (sr rEnd) mWr).delivers mWr ∧ mRd.dst = Node.brick 5 ∧ mRd.body = MsgBody.readReq 10
    7 ∧ (∀ w ∈ State.sramWords 5 10 7, w ∉ (fly (sr rEnd) mRd).wall.sramUe ∧ w ∉ (fly (sr rEnd) mRd).wall.sramCe) ∧ mWr.dst
    = Node.brick 5 ∧ mWr.body = MsgBody.writeReq 10 [1, 2, 3] ∧ (∀ w ∈ State.partialWords 5 10 [1, 2, 3].length, w ∉ (fly
    (sr rEnd) mWr).wall.sramUe) ∧ (5 * 2 ^ 18 + 9 < 5 * 2 ^ 18 + 10 ∨ 5 * 2 ^ 18 + 10 + [1, 2, 3].length ≤ 5 * 2 ^ 18 + 9)
    :=
  ⟨delivers_of (by decide +kernel), delivers_of (by decide +kernel), by decide +kernel⟩

theorem witness_AnswersGoToTheFiring_1 :
    (rAns (MsgBody.readFailed 1) 3 Phase.gather).delivers (an (MsgBody.readFailed 1) 3) ∧ (rNo (MsgBody.hbmReadFailed
    1)).delivers (an (MsgBody.hbmReadFailed 1) 3) ∧ (an (MsgBody.readFailed 1) 3).dst = Node.brick 5 ∧ ((rAns
    (MsgBody.readFailed 1) 3 Phase.gather).brickAt 5).firing = some (fir2 Phase.gather) ∧ (an (MsgBody.readFailed 1) 3).body
    = MsgBody.readFailed 1 ∧ brickStatus 1 ≠ 0 ∧ (fir2 Phase.gather).faulted = false ∧ ((List.find? ((fun hbm x => x.tag ==
    some (an (MsgBody.readFailed 1) 3).tag && !x.done && x.hbm == hbm) false) (fir2 Phase.gather).segs).isSome = true) ∧ (an
    (MsgBody.hbmReadFailed 1) 3).dst = Node.brick 5 ∧ ((rNo (MsgBody.hbmReadFailed 1)).brickAt 5).firing = none ∧ ((rNo
    (MsgBody.hbmReadFailed 1)).brickAt 5).posted = [] ∧ (an (MsgBody.hbmReadFailed 1) 3).body = MsgBody.hbmReadFailed 1 :=
  ⟨delivers_of (by decide +kernel), delivers_of (by decide +kernel), by decide +kernel⟩

theorem witness_AnswersGoToTheFiring_2 :
    let x1 := an (MsgBody.writeAccepted 1) 6
    let x2 := an (MsgBody.hbmWriteAccepted 1) 3
    let x3 := rNo (MsgBody.hbmWriteAccepted 1)
    (rAnw (MsgBody.writeAccepted 1) 6 false).delivers x1 ∧ x3.delivers x2 ∧ x1.dst = Node.brick 5 ∧ ((rAnw
    (MsgBody.writeAccepted 1) 6 false).brickAt 5).firing = some (firw false) ∧ x1.body = MsgBody.writeAccepted 1 ∧
    brickStatus 1 ≠ 0 ∧ (firw false).faulted = false ∧ ((List.find? ((fun hbm x => x.tag == some x1.tag && !x.done && x.hbm
    == hbm) false) (firw false).segs).isSome = true) ∧ x2.dst = Node.brick 5 ∧ (x3.brickAt 5).firing = none ∧ (x3.brickAt
    5).posted = [] ∧ x2.body = MsgBody.hbmWriteAccepted 1 :=
  ⟨delivers_of (by decide +kernel), delivers_of (by decide +kernel), by decide +kernel⟩

theorem witness_AnswersGoToTheFiring_3 :
    let x1 := an (MsgBody.hbmWriteAccepted 2) 6
    (rAnw (MsgBody.hbmWriteAccepted 2) 6 true).delivers x1 ∧ (rNo (MsgBody.hbmReadFailed 1)).delivers (an (MsgBody.hbmReadFailed
    1) 3) ∧ x1.dst = Node.brick 5 ∧ ((rAnw (MsgBody.hbmWriteAccepted 2) 6 true).brickAt 5).firing = some (firw true) ∧
    x1.body = MsgBody.hbmWriteAccepted 2 ∧ hbmStatus 2 true ≠ 0 ∧ (firw true).faulted = false ∧ ((List.find? ((fun hbm x =>
    x.tag == some x1.tag && !x.done && x.hbm == hbm) true) (firw true).segs).isSome = true) ∧ (an (MsgBody.hbmReadFailed 1)
    3).dst = Node.brick 5 ∧ ((rNo (MsgBody.hbmReadFailed 1)).brickAt 5).firing = none ∧ ((rNo (MsgBody.hbmReadFailed
    1)).brickAt 5).posted = [] ∧ (an (MsgBody.hbmReadFailed 1) 3).body = MsgBody.hbmReadFailed 1 :=
  ⟨delivers_of (by decide +kernel), delivers_of (by decide +kernel), by decide +kernel⟩

theorem witness_AnswersGoToTheFiring_4 :
    let x1 := an (MsgBody.hbmReadFailed 1) 5
    (rAns (MsgBody.hbmReadFailed 1) 5 Phase.gather).delivers x1 ∧ (rNo (MsgBody.hbmReadFailed 1)).delivers (an
    (MsgBody.hbmReadFailed 1) 3) ∧ x1.dst = Node.brick 5 ∧ ((rAns (MsgBody.hbmReadFailed 1) 5 Phase.gather).brickAt
    5).firing = some (fir2 Phase.gather) ∧ x1.body = MsgBody.hbmReadFailed 1 ∧ hbmStatus 1 false ≠ 0 ∧ (fir2
    Phase.gather).faulted = false ∧ ((List.find? ((fun hbm x => x.tag == some x1.tag && !x.done && x.hbm == hbm) true) (fir2
    Phase.gather).segs).isSome = true) ∧ (an (MsgBody.hbmReadFailed 1) 3).dst = Node.brick 5 ∧ ((rNo (MsgBody.hbmReadFailed
    1)).brickAt 5).firing = none ∧ ((rNo (MsgBody.hbmReadFailed 1)).brickAt 5).posted = [] ∧ (an (MsgBody.hbmReadFailed 1)
    3).body = MsgBody.hbmReadFailed 1 :=
  ⟨delivers_of (by decide +kernel), delivers_of (by decide +kernel), by decide +kernel⟩

theorem witness_AnswersGoToTheFiring_5 :
    (rAns (MsgBody.readData a1) 3 Phase.gather).delivers (an (MsgBody.readData a1) 3) ∧ (rNo (MsgBody.readData a1)).delivers (an
    (MsgBody.readData a1) 3) ∧ (an (MsgBody.readData a1) 3).dst = Node.brick 5 ∧ ((rAns (MsgBody.readData a1) 3
    Phase.gather).brickAt 5).firing = some (fir2 Phase.gather) ∧ (an (MsgBody.readData a1) 3).body = MsgBody.readData a1 ∧
    (fir2 Phase.gather).phase = Phase.gather ∧ (Option.any (fun g => g.stream != 2) (List.find? ((fun hbm x => x.tag == some
    (an (MsgBody.readData a1) 3).tag && !x.done && x.hbm == hbm) false) (fir2 Phase.gather).segs) = true) ∧ (∀ x ∈ (fir2
    Phase.gather).segs, x.done = true ∨ x.tag.isSome = true) ∧ (∃ x ∈ (fir2 Phase.gather).segs, x.done = false ∧ (fun hbm x
    => x.tag == some (an (MsgBody.readData a1) 3).tag && !x.done && x.hbm == hbm) false x = false) ∧ ((rNo (MsgBody.readData
    a1)).brickAt 5).firing = none ∧ ((rNo (MsgBody.readData a1)).brickAt 5).posted = [] :=
  ⟨delivers_of (by decide +kernel), delivers_of (by decide +kernel), by decide +kernel⟩

theorem witness_AnswersGoToTheFiring_6 :
    let x1 := an (MsgBody.writeAccepted 0) 6
    (rAnw (MsgBody.writeAccepted 0) 6 false).delivers x1 ∧ (rNo (MsgBody.readFailed 1)).delivers (an (MsgBody.readFailed 1) 3) ∧
    x1.dst = Node.brick 5 ∧ ((rAnw (MsgBody.writeAccepted 0) 6 false).brickAt 5).firing = some (firw false) ∧ x1.body =
    MsgBody.writeAccepted 0 ∧ (firw false).phase = Phase.writing ∧ (Option.any (fun g => g.stream == 2) (List.find? ((fun
    hbm x => x.tag == some x1.tag && !x.done && x.hbm == hbm) false) (firw false).segs) = true) ∧ (∀ x ∈ (firw false).segs,
    x.done = true ∨ (fun hbm x => x.tag == some x1.tag && !x.done && x.hbm == hbm) false x = true) ∧ (an (MsgBody.readFailed
    1) 3).dst = Node.brick 5 ∧ ((rNo (MsgBody.readFailed 1)).brickAt 5).firing = none ∧ ((rNo (MsgBody.readFailed
    1)).brickAt 5).posted = [] ∧ (an (MsgBody.readFailed 1) 3).body = MsgBody.readFailed 1 :=
  ⟨delivers_of (by decide +kernel), delivers_of (by decide +kernel), by decide +kernel⟩

theorem witness_AnswersGoToTheFiring_7 :
    let x1 := an (MsgBody.hbmWriteAccepted 0) 6
    (rAnw (MsgBody.hbmWriteAccepted 0) 6 true).delivers x1 ∧ (rNo (MsgBody.hbmReadData a1)).delivers (an (MsgBody.hbmReadData
    a1) 3) ∧ x1.dst = Node.brick 5 ∧ ((rAnw (MsgBody.hbmWriteAccepted 0) 6 true).brickAt 5).firing = some (firw true) ∧
    x1.body = MsgBody.hbmWriteAccepted 0 ∧ (firw true).phase = Phase.writing ∧ (Option.any (fun g => g.stream == 2)
    (List.find? ((fun hbm x => x.tag == some x1.tag && !x.done && x.hbm == hbm) true) (firw true).segs) = true) ∧ (∀ x ∈
    (firw true).segs, x.done = true ∨ (fun hbm x => x.tag == some x1.tag && !x.done && x.hbm == hbm) true x = true) ∧ (an
    (MsgBody.hbmReadData a1) 3).dst = Node.brick 5 ∧ ((rNo (MsgBody.hbmReadData a1)).brickAt 5).firing = none ∧ ((rNo
    (MsgBody.hbmReadData a1)).brickAt 5).posted = [] ∧ (an (MsgBody.hbmReadData a1) 3).body = MsgBody.hbmReadData a1 :=
  ⟨delivers_of (by decide +kernel), delivers_of (by decide +kernel), by decide +kernel⟩

theorem witness_AnswersGoToTheFiring_8 :
    let x1 := an (MsgBody.hbmReadData a1) 5
    (rAns (MsgBody.hbmReadData a1) 5 Phase.gather).delivers x1 ∧ (rNo (MsgBody.writeAccepted 1)).delivers (an
    (MsgBody.writeAccepted 1) 3) ∧ x1.dst = Node.brick 5 ∧ ((rAns (MsgBody.hbmReadData a1) 5 Phase.gather).brickAt 5).firing
    = some (fir2 Phase.gather) ∧ x1.body = MsgBody.hbmReadData a1 ∧ (fir2 Phase.gather).phase = Phase.gather ∧ (Option.any
    (fun g => g.stream != 2) (List.find? ((fun hbm x => x.tag == some x1.tag && !x.done && x.hbm == hbm) true) (fir2
    Phase.gather).segs) = true) ∧ (∀ x ∈ (fir2 Phase.gather).segs, x.done = true ∨ x.tag.isSome = true) ∧ (∃ x ∈ (fir2
    Phase.gather).segs, x.done = false ∧ (fun hbm x => x.tag == some x1.tag && !x.done && x.hbm == hbm) true x = false) ∧
    (an (MsgBody.writeAccepted 1) 3).dst = Node.brick 5 ∧ ((rNo (MsgBody.writeAccepted 1)).brickAt 5).firing = none ∧ ((rNo
    (MsgBody.writeAccepted 1)).brickAt 5).posted = [] ∧ (an (MsgBody.writeAccepted 1) 3).body = MsgBody.writeAccepted 1 :=
  ⟨delivers_of (by decide +kernel), delivers_of (by decide +kernel), by decide +kernel⟩

theorem witness_UpsetFlitsHaveTheirOutcome_1 :
    (fly rEnd mRd).nextInFlight (up { lost := some 0 }) = true ∧ (fly rEnd mRd).wall.closed = false ∧ ((up
    { lost := some 0 }).upset.lost.isSome = true ∨ ((fly rEnd mRd).ejected (up { lost := some 0 })).msgLegal (up
    { lost := some 0 }) = false) ∧ (fly rEnd mRd).sched.run.isSome = true ∧ (fly rEnd mRd).sched.tear = none :=
  by decide +kernel

theorem witness_UpsetFlitsHaveTheirOutcome_2 :
    (fly rEnd mRd).nextInFlight mRd = true ∧ (fly rEnd mRd).wall.closed = false ∧ ((fly rEnd mRd).ejected mRd).msgLegal mRd =
    true ∧ mRd.upset = { } :=
  by decide +kernel

theorem witness_UpsetFlitsHaveTheirOutcome_3 :
    (fly rEnd mRd).nextInFlight (up { words := 256 }) = true ∧ (fly rEnd mRd).wall.closed = false ∧ ((fly rEnd mRd).ejected (up
    { words := 256 })).msgLegal (up { words := 256 }) = true ∧ (up { words := 256 }).upset = { words := 256 } :=
  by decide +kernel

theorem witness_UpsetFlitsHaveTheirOutcome_4 :
    (fly rEnd mRd).nextInFlight (up { poisoned := true }) = true ∧ (fly rEnd mRd).wall.closed = false ∧ ((fly rEnd mRd).ejected
    (up { poisoned := true })).msgLegal (up { poisoned := true }) = true ∧ (up { poisoned := true }).upset =
    { poisoned := true } :=
  by decide +kernel

theorem witness_UpsetFlitsHaveTheirOutcome_5 :
    (fly rEnd mRd).nextInFlight (up { headers := 4224 }) = true ∧ (fly rEnd mRd).wall.closed = false ∧ ((fly rEnd mRd).ejected
    (up { headers := 4224 })).msgLegal (up { headers := 4224 }) = true ∧ (up { headers := 4224 }).upset =
    { headers := 4224 } :=
  by decide +kernel

theorem witness_BankLineReachesTheShadow :
    (loading ld0).held = false ∧ (loading ld0).sched.load = some ld0 ∧ (loading ld0).jobAt ld0.client ld0.pos = some jb ∧
    (List.find? (fun p => p.1 == 5 * 256 + 0) ((loading ld0).loadLines jb.desc.bundle) = some (ln 5 0)) ∧ ld0.ready = false
    ∧ 5 * 256 + 0 ∉ ld0.lines ∧ (loading ld0).msgLegal
    { cls := MsgClass.cfg, src := Node.south, dst := Node.brick ((loading ld0).courseMap.getD (5 / 64) 0 * 64 + 5 % 64), tag := 0, parity := 0, body := MsgBody.bankLine (ln 5 0).2 }
    = true ∧ (5 * 16384 + 64 < 5 * 16384 + 0 * 64 ∨ 5 * 16384 + 0 * 64 + (ln 5 0).2.length ≤ 5 * 16384 + 64) :=
  by decide +kernel

theorem witness_SelectionUnitsWork_1 :
    let x1 := rSelRun k2 1 (mSel (el [5, 6, 9]) true)
    x1.delivers (mSel (el [5, 6, 9]) true) ∧ (rSel 3 kb2).held = false ∧ (rSel 3 kb2).wall.closed = false ∧ (rSel 3 kb2).selHead
    3 = some (hc kb2) ∧ (((rSel 3 kb2).sel.run.any fun p => p.1 == 3) = false) ∧ (rSel 3 kb2).msgLegal ((hc kb2).message
    (Node.unit 3) { }) = true ∧ (parseSel (hc kb2).block).mode = 2 ∧ ((rSel 3 kb2).selCode (hc kb2).block).1 ≠ 0 ∧ (mSel (el
    [5, 6, 9]) true).src = Node.brick 5 ∧ (mSel (el [5, 6, 9]) true).dst = Node.unit 3 ∧ (List.find? (fun p => p.1 == 3 &&
    p.2.brick == 5) x1.sel.run = some (3, selRun k2 1)) ∧ ((x1.sel.ue.any fun y => y / 512 == 3) = false) ∧ ((x1.sel.ce.any
    fun y => y / 512 == 3) = false) ∧ (mSel (el [5, 6, 9]) true).body = MsgBody.selData (el [5, 6, 9]) true ∧ (selRun k2
    1).taken + (el [5, 6, 9]).length = (parseSel (selRun k2 1).block).n * (parseSel (selRun k2 1).block).rows :=
  ⟨delivers_of (by decide +kernel), by decide +kernel⟩

theorem witness_SelectionUnitsWork_2 :
    let x1 := rSelRun k2 1 (mSel (el [5, 6]) false)
    x1.delivers (mSel (el [5, 6]) false) ∧ (rSel 3 kb1).held = false ∧ (rSel 3 kb1).wall.closed = false ∧ (rSel 3 kb1).selHead 3
    = some (hc kb1) ∧ (((rSel 3 kb1).sel.run.any fun p => p.1 == 3) = false) ∧ (rSel 3 kb1).msgLegal ((hc kb1).message
    (Node.unit 3) { }) = true ∧ (parseSel (hc kb1).block).mode = 1 ∧ ((rSel 3 kb1).selCode (hc kb1).block).1 ≠ 0 ∧ (mSel (el
    [5, 6]) false).src = Node.brick 5 ∧ (mSel (el [5, 6]) false).dst = Node.unit 3 ∧ (List.find? (fun p => p.1 == 3 &&
    p.2.brick == 5) x1.sel.run = some (3, selRun k2 1)) ∧ ((x1.sel.ue.any fun y => y / 512 == 3) = false) ∧ ((x1.sel.ce.any
    fun y => y / 512 == 3) = false) ∧ (mSel (el [5, 6]) false).body = MsgBody.selData (el [5, 6]) false ∧ (selRun k2
    1).taken + (el [5, 6]).length ≤ (parseSel (selRun k2 1).block).n * (parseSel (selRun k2 1).block).rows :=
  ⟨delivers_of (by decide +kernel), by decide +kernel⟩

theorem witness_SelectionUnitsWork_3 :
    let x1 := rSelRun k2 1 (mSel (el [5, 6]) false)
    x1.delivers (mSel (el [5, 6]) false) ∧ (rSel 3 k3).held = false ∧ (rSel 3 k3).wall.closed = false ∧ (rSel 3 k3).selHead 3 =
    some (hc k3) ∧ (((rSel 3 k3).sel.run.any fun p => p.1 == 3) = false) ∧ (rSel 3 k3).msgLegal ((hc k3).message (Node.unit
    3) { }) = true ∧ ((parseSel (hc k3).block).mode = 0 ∨ (parseSel (hc k3).block).mode = 3) ∧ ((rSel 3 k3).selCode (hc
    k3).block).1 ≠ 0 ∧ (mSel (el [5, 6]) false).src = Node.brick 5 ∧ (mSel (el [5, 6]) false).dst = Node.unit 3 ∧
    (List.find? (fun p => p.1 == 3 && p.2.brick == 5) x1.sel.run = some (3, selRun k2 1)) ∧ ((x1.sel.ue.any fun y => y / 512
    == 3) = false) ∧ ((x1.sel.ce.any fun y => y / 512 == 3) = false) ∧ (mSel (el [5, 6]) false).body = MsgBody.selData (el
    [5, 6]) false ∧ (selRun k2 1).taken + (el [5, 6]).length ≤ (parseSel (selRun k2 1).block).n * (parseSel (selRun k2
    1).block).rows :=
  ⟨delivers_of (by decide +kernel), by decide +kernel⟩

theorem witness_SelectionUnitsWork_4 :
    let x1 := rSelRun k1 1 (mSel (el [5, 6, 9]) true)
    x1.delivers (mSel (el [5, 6, 9]) true) ∧ (rSel 3 k2).held = false ∧ (rSel 3 k2).wall.closed = false ∧ (rSel 3 k2).selHead 3
    = some (hc k2) ∧ (((rSel 3 k2).sel.run.any fun p => p.1 == 3) = false) ∧ (rSel 3 k2).msgLegal ((hc k2).message
    (Node.unit 3) { }) = true ∧ (parseSel (hc k2).block).mode = 2 ∧ ((rSel 3 k2).selCode (hc k2).block).1 = 0 ∧ (mSel (el
    [5, 6, 9]) true).src = Node.brick 5 ∧ (mSel (el [5, 6, 9]) true).dst = Node.unit 3 ∧ (List.find? (fun p => p.1 == 3 &&
    p.2.brick == 5) x1.sel.run = some (3, selRun k1 1)) ∧ ((x1.sel.ue.any fun y => y / 512 == 3) = false) ∧ ((x1.sel.ce.any
    fun y => y / 512 == 3) = false) ∧ (mSel (el [5, 6, 9]) true).body = MsgBody.selData (el [5, 6, 9]) true ∧ (selRun k1
    1).taken + (el [5, 6, 9]).length = (parseSel (selRun k1 1).block).n * (parseSel (selRun k1 1).block).rows :=
  ⟨delivers_of (by decide +kernel), by decide +kernel⟩

theorem witness_SelectionUnitsWork_5 :
    let x1 := rSelRun k0 0 (mSel (el [5, 6]) false)
    x1.delivers (mSel (el [5, 6]) false) ∧ (rSel 3 k0).held = false ∧ (rSel 3 k0).wall.closed = false ∧ (rSel 3 k0).selHead 3 =
    some (hc k0) ∧ (((rSel 3 k0).sel.run.any fun p => p.1 == 3) = false) ∧ (rSel 3 k0).msgLegal ((hc k0).message (Node.unit
    3) { }) = true ∧ ((parseSel (hc k0).block).mode = 0 ∨ (parseSel (hc k0).block).mode = 3) ∧ ((rSel 3 k0).selCode (hc
    k0).block).1 = 0 ∧ (mSel (el [5, 6]) false).src = Node.brick 5 ∧ (mSel (el [5, 6]) false).dst = Node.unit 3 ∧
    (List.find? (fun p => p.1 == 3 && p.2.brick == 5) x1.sel.run = some (3, selRun k0 0)) ∧ ((x1.sel.ue.any fun y => y / 512
    == 3) = false) ∧ ((x1.sel.ce.any fun y => y / 512 == 3) = false) ∧ (mSel (el [5, 6]) false).body = MsgBody.selData (el
    [5, 6]) false ∧ (selRun k0 0).taken + (el [5, 6]).length ≤ (parseSel (selRun k0 0).block).n * (parseSel (selRun k0
    0).block).rows :=
  ⟨delivers_of (by decide +kernel), by decide +kernel⟩

theorem witness_SelectionUnitsWork_6 :
    let x1 := rSelRun k0 0 (mSel (el [5, 6, 9, 1]) true)
    x1.delivers (mSel (el [5, 6, 9, 1]) true) ∧ (rSel 3 k1).held = false ∧ (rSel 3 k1).wall.closed = false ∧ (rSel 3 k1).selHead
    3 = some (hc k1) ∧ (((rSel 3 k1).sel.run.any fun p => p.1 == 3) = false) ∧ (rSel 3 k1).msgLegal ((hc k1).message
    (Node.unit 3) { }) = true ∧ (parseSel (hc k1).block).mode = 1 ∧ ((rSel 3 k1).selCode (hc k1).block).1 = 0 ∧ (mSel (el
    [5, 6, 9, 1]) true).src = Node.brick 5 ∧ (mSel (el [5, 6, 9, 1]) true).dst = Node.unit 3 ∧ (List.find? (fun p => p.1 ==
    3 && p.2.brick == 5) x1.sel.run = some (3, selRun k0 0)) ∧ ((x1.sel.ue.any fun y => y / 512 == 3) = false) ∧
    ((x1.sel.ce.any fun y => y / 512 == 3) = false) ∧ (mSel (el [5, 6, 9, 1]) true).body = MsgBody.selData (el [5, 6, 9, 1])
    true ∧ (selRun k0 0).taken + (el [5, 6, 9, 1]).length = (parseSel (selRun k0 0).block).n * (parseSel (selRun k0
    0).block).rows :=
  ⟨delivers_of (by decide +kernel), by decide +kernel⟩

theorem witness_GrantsSendTheElements_1 :
    (rGr mg 0).delivers mg ∧ mg.dst = Node.brick 5 ∧ ((rGr mg 0).brickAt 5).firing = some (firG 0) ∧ (firG 0).phase =
    Phase.waitGrant ∧ mg.src = Node.unit 3 ∧ mg.body = MsgBody.selGrant 3 :=
  ⟨delivers_of (by decide +kernel), by decide +kernel⟩

theorem witness_GrantsSendTheElements_2 :
    (rGr mcg 80).delivers mcg ∧ mcg.dst = Node.brick 5 ∧ ((rGr mcg 80).brickAt 5).firing = some (firG 80) ∧ (firG 80).phase =
    Phase.waitGrant ∧ mcg.src = Node.bank 3 ∧ mcg.body = MsgBody.csaGrant 3 :=
  ⟨delivers_of (by decide +kernel), by decide +kernel⟩

theorem witness_ResultsReachTheSram_1 :
    (fly (sr rEnd) (mr (MsgBody.selResult 10 [7, 7, 7]))).delivers (mr (MsgBody.selResult 10 [7, 7, 7])) ∧ (mr
    (MsgBody.selResult 10 [7, 7, 7])).dst = Node.brick 5 ∧ (∀ w ∈ State.partialWords 5 10 [7, 7, 7].length, w ∉ (fly (sr
    rEnd) (mr (MsgBody.selResult 10 [7, 7, 7]))).wall.sramUe) ∧ (mr (MsgBody.selResult 10 [7, 7, 7])).body =
    MsgBody.selResult 10 [7, 7, 7] ∧ (5 * 2 ^ 18 + 13 < 5 * 2 ^ 18 + 10 ∨ 5 * 2 ^ 18 + 10 + [7, 7, 7].length ≤ 5 * 2 ^ 18 +
    13) :=
  ⟨delivers_of (by decide +kernel), by decide +kernel⟩

theorem witness_ResultsReachTheSram_2 :
    (fly (sr rEnd) (mrc (MsgBody.csaResult 10 [7, 7, 7]))).delivers (mrc (MsgBody.csaResult 10 [7, 7, 7])) ∧ (mrc
    (MsgBody.csaResult 10 [7, 7, 7])).dst = Node.brick 5 ∧ (∀ w ∈ State.partialWords 5 10 [7, 7, 7].length, w ∉ (fly (sr
    rEnd) (mrc (MsgBody.csaResult 10 [7, 7, 7]))).wall.sramUe) ∧ (mrc (MsgBody.csaResult 10 [7, 7, 7])).body =
    MsgBody.csaResult 10 [7, 7, 7] ∧ (5 * 2 ^ 18 + 13 < 5 * 2 ^ 18 + 10 ∨ 5 * 2 ^ 18 + 10 + [7, 7, 7].length ≤ 5 * 2 ^ 18 +
    13) :=
  ⟨delivers_of (by decide +kernel), by decide +kernel⟩

theorem witness_ResultsReachTheSram_3 :
    (fly (sr rEnd) (mre (MsgBody.egsResult 10 [7, 7, 7]))).delivers (mre (MsgBody.egsResult 10 [7, 7, 7])) ∧ (mre
    (MsgBody.egsResult 10 [7, 7, 7])).dst = Node.brick 5 ∧ (∀ w ∈ State.partialWords 5 10 [7, 7, 7].length, w ∉ (fly (sr
    rEnd) (mre (MsgBody.egsResult 10 [7, 7, 7]))).wall.sramUe) ∧ (mre (MsgBody.egsResult 10 [7, 7, 7])).body =
    MsgBody.egsResult 10 [7, 7, 7] ∧ (5 * 2 ^ 18 + 13 < 5 * 2 ^ 18 + 10 ∨ 5 * 2 ^ 18 + 10 + [7, 7, 7].length ≤ 5 * 2 ^ 18 +
    13) :=
  ⟨delivers_of (by decide +kernel), by decide +kernel⟩

theorem witness_DonesPassTheToken_1 :
    (rDn' (outst 64 true) (md 64 (MsgBody.selDone 1284))).delivers (md 64 (MsgBody.selDone 1284)) ∧ (md 64 (MsgBody.selDone
    1284)).dst = Node.brick 5 ∧ (List.find? (fun x => x.tag == 64) ((rDn' (outst 64 true) (md 64 (MsgBody.selDone
    1284))).brickAt 5).out = some (outst 64 true)) ∧ ((rDn' (outst 64 true) (md 64 (MsgBody.selDone 1284))).brickAt
    5).firing = none ∧ 64 = 64 ∧ (md 64 (MsgBody.selDone 1284)).body = MsgBody.selDone 1284 :=
  ⟨delivers_of (by decide +kernel), by decide +kernel⟩

theorem witness_DonesPassTheToken_2 :
    (rDn 65 true (mdc (MsgBody.csaDone 1542 1 2 3))).delivers (mdc (MsgBody.csaDone 1542 1 2 3)) ∧ (mdc (MsgBody.csaDone 1542 1
    2 3)).dst = Node.brick 5 ∧ (List.find? (fun x => x.tag == 65) ((rDn 65 true (mdc (MsgBody.csaDone 1542 1 2 3))).brickAt
    5).out = some (outst 65 true)) ∧ ((rDn 65 true (mdc (MsgBody.csaDone 1542 1 2 3))).brickAt 5).firing = none ∧ 65 = 65 ∧
    (mdc (MsgBody.csaDone 1542 1 2 3)).body = MsgBody.csaDone 1542 1 2 3 :=
  ⟨delivers_of (by decide +kernel), by decide +kernel⟩

theorem witness_DonesPassTheToken_3 :
    (rDn 7 true (mde 7 (MsgBody.egsDone 1799 1 2 3))).delivers (mde 7 (MsgBody.egsDone 1799 1 2 3)) ∧ (mde 7 (MsgBody.egsDone
    1799 1 2 3)).dst = Node.brick 5 ∧ (List.find? (fun x => x.tag == 7) ((rDn 7 true (mde 7 (MsgBody.egsDone 1799 1 2
    3))).brickAt 5).out = some (outst 7 true)) ∧ ((rDn 7 true (mde 7 (MsgBody.egsDone 1799 1 2 3))).brickAt 5).firing = none
    ∧ 7 = (mde 7 (MsgBody.egsDone 1799 1 2 3)).tag ∧ (mde 7 (MsgBody.egsDone 1799 1 2 3)).body = MsgBody.egsDone 1799 1 2 3
    :=
  ⟨delivers_of (by decide +kernel), by decide +kernel⟩

theorem witness_DonesPassTheToken_4 :
    let x1 := rDn' (outst' 64) (md 64 (MsgBody.selDone 0))
    x1.delivers (md 64 (MsgBody.selDone 0)) ∧ (md 64 (MsgBody.selDone 0)).dst = Node.brick 5 ∧ (List.find? (fun x => x.tag ==
    64) (x1.brickAt 5).out = some (outst' 64)) ∧ (x1.brickAt 5).firing = none ∧ 64 = 64 ∧ (md 64 (MsgBody.selDone 0)).body =
    MsgBody.selDone 0 ∧ 0 = 0 ∧ (outst' 64).succEn = true ∧ x1.physBrick (outst' 64).succCourse ((outst' 64).succPos % 64) =
    none :=
  ⟨delivers_of (by decide +kernel), by decide +kernel⟩

theorem witness_DonesPassTheToken_5 :
    let x1 := mdc (MsgBody.csaDone 0 1 2 3)
    (rDn' (outst' 65) x1).delivers x1 ∧ x1.dst = Node.brick 5 ∧ (List.find? (fun x => x.tag == 65) ((rDn' (outst' 65)
    x1).brickAt 5).out = some (outst' 65)) ∧ ((rDn' (outst' 65) x1).brickAt 5).firing = none ∧ 65 = 65 ∧ x1.body =
    MsgBody.csaDone 0 1 2 3 ∧ 0 = 0 ∧ (outst' 65).succEn = true ∧ (rDn' (outst' 65) x1).physBrick (outst' 65).succCourse
    ((outst' 65).succPos % 64) = none :=
  ⟨delivers_of (by decide +kernel), by decide +kernel⟩

theorem witness_DonesPassTheToken_6 :
    let x1 := mde 7 (MsgBody.egsDone 0 1 2 3)
    (rDn' (outst' 7) x1).delivers x1 ∧ x1.dst = Node.brick 5 ∧ (List.find? (fun x => x.tag == 7) ((rDn' (outst' 7) x1).brickAt
    5).out = some (outst' 7)) ∧ ((rDn' (outst' 7) x1).brickAt 5).firing = none ∧ 7 = x1.tag ∧ x1.body = MsgBody.egsDone 0 1
    2 3 ∧ 0 = 0 ∧ (outst' 7).succEn = true ∧ (rDn' (outst' 7) x1).physBrick (outst' 7).succCourse ((outst' 7).succPos % 64)
    = none :=
  ⟨delivers_of (by decide +kernel), by decide +kernel⟩

theorem witness_DonesPassTheToken_7 :
    (rDn 64 false (md 64 (MsgBody.selDone 0))).delivers (md 64 (MsgBody.selDone 0)) ∧ (md 64 (MsgBody.selDone 0)).dst =
    Node.brick 5 ∧ (List.find? (fun x => x.tag == 64) ((rDn 64 false (md 64 (MsgBody.selDone 0))).brickAt 5).out = some
    (outst 64 false)) ∧ ((rDn 64 false (md 64 (MsgBody.selDone 0))).brickAt 5).firing = none ∧ 64 = 64 ∧ (md 64
    (MsgBody.selDone 0)).body = MsgBody.selDone 0 ∧ 0 = 0 ∧ (outst 64 false).succEn = false :=
  ⟨delivers_of (by decide +kernel), by decide +kernel⟩

theorem witness_DonesPassTheToken_8 :
    (rDn 65 false (mdc (MsgBody.csaDone 0 1 2 3))).delivers (mdc (MsgBody.csaDone 0 1 2 3)) ∧ (mdc (MsgBody.csaDone 0 1 2
    3)).dst = Node.brick 5 ∧ (List.find? (fun x => x.tag == 65) ((rDn 65 false (mdc (MsgBody.csaDone 0 1 2 3))).brickAt
    5).out = some (outst 65 false)) ∧ ((rDn 65 false (mdc (MsgBody.csaDone 0 1 2 3))).brickAt 5).firing = none ∧ 65 = 65 ∧
    (mdc (MsgBody.csaDone 0 1 2 3)).body = MsgBody.csaDone 0 1 2 3 ∧ 0 = 0 ∧ (outst 65 false).succEn = false :=
  ⟨delivers_of (by decide +kernel), by decide +kernel⟩

theorem witness_DonesPassTheToken_9 :
    (rDn 7 false (mde 7 (MsgBody.egsDone 0 1 2 3))).delivers (mde 7 (MsgBody.egsDone 0 1 2 3)) ∧ (mde 7 (MsgBody.egsDone 0 1 2
    3)).dst = Node.brick 5 ∧ (List.find? (fun x => x.tag == 7) ((rDn 7 false (mde 7 (MsgBody.egsDone 0 1 2 3))).brickAt
    5).out = some (outst 7 false)) ∧ ((rDn 7 false (mde 7 (MsgBody.egsDone 0 1 2 3))).brickAt 5).firing = none ∧ 7 = (mde 7
    (MsgBody.egsDone 0 1 2 3)).tag ∧ (mde 7 (MsgBody.egsDone 0 1 2 3)).body = MsgBody.egsDone 0 1 2 3 ∧ 0 = 0 ∧ (outst 7
    false).succEn = false :=
  ⟨delivers_of (by decide +kernel), by decide +kernel⟩

theorem witness_DonesPassTheToken_10 :
    let x1 := rDn 64 true (md 64 (MsgBody.selDone 0))
    x1.delivers (md 64 (MsgBody.selDone 0)) ∧ (md 64 (MsgBody.selDone 0)).dst = Node.brick 5 ∧ (List.find? (fun x => x.tag ==
    64) (x1.brickAt 5).out = some (outst 64 true)) ∧ (x1.brickAt 5).firing = none ∧ 64 = 64 ∧ (md 64 (MsgBody.selDone
    0)).body = MsgBody.selDone 0 ∧ 0 = 0 ∧ (outst 64 true).succEn = true ∧ x1.physBrick (outst 64 true).succCourse ((outst
    64 true).succPos % 64) = some 6 :=
  ⟨delivers_of (by decide +kernel), by decide +kernel⟩

theorem witness_DonesPassTheToken_11 :
    let x1 := mdc (MsgBody.csaDone 0 1 2 3)
    (rDn 65 true x1).delivers x1 ∧ x1.dst = Node.brick 5 ∧ (List.find? (fun x => x.tag == 65) ((rDn 65 true x1).brickAt 5).out =
    some (outst 65 true)) ∧ ((rDn 65 true x1).brickAt 5).firing = none ∧ 65 = 65 ∧ x1.body = MsgBody.csaDone 0 1 2 3 ∧ 0 = 0
    ∧ (outst 65 true).succEn = true ∧ (rDn 65 true x1).physBrick (outst 65 true).succCourse ((outst 65 true).succPos % 64) =
    some 6 :=
  ⟨delivers_of (by decide +kernel), by decide +kernel⟩

theorem witness_DonesPassTheToken_12 :
    let x1 := mde 7 (MsgBody.egsDone 0 1 2 3)
    (rDn 7 true x1).delivers x1 ∧ x1.dst = Node.brick 5 ∧ (List.find? (fun x => x.tag == 7) ((rDn 7 true x1).brickAt 5).out =
    some (outst 7 true)) ∧ ((rDn 7 true x1).brickAt 5).firing = none ∧ 7 = x1.tag ∧ x1.body = MsgBody.egsDone 0 1 2 3 ∧ 0 =
    0 ∧ (outst 7 true).succEn = true ∧ (rDn 7 true x1).physBrick (outst 7 true).succCourse ((outst 7 true).succPos % 64) =
    some 6 :=
  ⟨delivers_of (by decide +kernel), by decide +kernel⟩

theorem witness_BankTakesItsHead_1 :
    let x1 := (rCsa (csaBlk 0 3 0 1 0 0) 2).csaBank 3
    (rCsa (csaBlk 0 3 0 1 0 0) 2).held = false ∧ (rCsa (csaBlk 0 3 0 1 0 0) 2).wall.closed = false ∧ (Option.map Prod.snd
    (List.find? (fun p => p.1 == 3) (rCsa (csaBlk 0 3 0 1 0 0) 2).csa.queue) = some (hc (csaBlk 0 3 0 1 0 0))) ∧ x1.run =
    none ∧ x1.state ≠ 1 ∧ x1.state ≠ 3 ∧ (rCsa (csaBlk 0 3 0 1 0 0) 2).calPause = false ∧ (rCsa (csaBlk 0 3 0 1 0 0)
    2).msgLegal ((hc (csaBlk 0 3 0 1 0 0)).message (Node.bank 3) { }) = true ∧ (rCsa (csaBlk 0 3 0 1 0 0) 2).csaCode 3 (hc
    (csaBlk 0 3 0 1 0 0)) = 0 ∧ (parseCsa (hc (csaBlk 0 3 0 1 0 0)).block).op < 6 ∧ (parseCsa (hc (csaBlk 0 3 0 1 0
    0)).block).op ≠ 4 :=
  by decide +kernel

theorem witness_BankTakesItsHead_2 :
    let x1 := (rCsa (csaBlk 1 3 0 1 0 0) 2).csaBank 3
    (rCsa (csaBlk 1 3 0 1 0 0) 2).held = false ∧ (rCsa (csaBlk 1 3 0 1 0 0) 2).wall.closed = false ∧ (Option.map Prod.snd
    (List.find? (fun p => p.1 == 3) (rCsa (csaBlk 1 3 0 1 0 0) 2).csa.queue) = some (hc (csaBlk 1 3 0 1 0 0))) ∧ x1.run =
    none ∧ x1.state ≠ 1 ∧ x1.state ≠ 3 ∧ (rCsa (csaBlk 1 3 0 1 0 0) 2).calPause = false ∧ (rCsa (csaBlk 1 3 0 1 0 0)
    2).msgLegal ((hc (csaBlk 1 3 0 1 0 0)).message (Node.bank 3) { }) = true ∧ (rCsa (csaBlk 1 3 0 1 0 0) 2).csaCode 3 (hc
    (csaBlk 1 3 0 1 0 0)) = 0 ∧ (parseCsa (hc (csaBlk 1 3 0 1 0 0)).block).op < 6 ∧ (parseCsa (hc (csaBlk 1 3 0 1 0
    0)).block).op ≠ 4 :=
  by decide +kernel

theorem witness_BankTakesItsHead_3 :
    let x1 := (rCsa (csaBlk 2 3 0 1 0 0) 2).csaBank 3
    (rCsa (csaBlk 2 3 0 1 0 0) 2).held = false ∧ (rCsa (csaBlk 2 3 0 1 0 0) 2).wall.closed = false ∧ (Option.map Prod.snd
    (List.find? (fun p => p.1 == 3) (rCsa (csaBlk 2 3 0 1 0 0) 2).csa.queue) = some (hc (csaBlk 2 3 0 1 0 0))) ∧ x1.run =
    none ∧ x1.state ≠ 1 ∧ x1.state ≠ 3 ∧ (rCsa (csaBlk 2 3 0 1 0 0) 2).calPause = false ∧ (rCsa (csaBlk 2 3 0 1 0 0)
    2).msgLegal ((hc (csaBlk 2 3 0 1 0 0)).message (Node.bank 3) { }) = true ∧ (rCsa (csaBlk 2 3 0 1 0 0) 2).csaCode 3 (hc
    (csaBlk 2 3 0 1 0 0)) = 0 ∧ (parseCsa (hc (csaBlk 2 3 0 1 0 0)).block).op < 6 ∧ (parseCsa (hc (csaBlk 2 3 0 1 0
    0)).block).op ≠ 4 :=
  by decide +kernel

theorem witness_BankTakesItsHead_4 :
    let x1 := (rCsa (csaBlk 3 3 0 1 0 0) 2).csaBank 3
    (rCsa (csaBlk 3 3 0 1 0 0) 2).held = false ∧ (rCsa (csaBlk 3 3 0 1 0 0) 2).wall.closed = false ∧ (Option.map Prod.snd
    (List.find? (fun p => p.1 == 3) (rCsa (csaBlk 3 3 0 1 0 0) 2).csa.queue) = some (hc (csaBlk 3 3 0 1 0 0))) ∧ x1.run =
    none ∧ x1.state ≠ 1 ∧ x1.state ≠ 3 ∧ (rCsa (csaBlk 3 3 0 1 0 0) 2).calPause = false ∧ (rCsa (csaBlk 3 3 0 1 0 0)
    2).msgLegal ((hc (csaBlk 3 3 0 1 0 0)).message (Node.bank 3) { }) = true ∧ (rCsa (csaBlk 3 3 0 1 0 0) 2).csaCode 3 (hc
    (csaBlk 3 3 0 1 0 0)) = 0 ∧ (parseCsa (hc (csaBlk 3 3 0 1 0 0)).block).op < 6 ∧ (parseCsa (hc (csaBlk 3 3 0 1 0
    0)).block).op ≠ 4 :=
  by decide +kernel

theorem witness_BankTakesItsHead_5 :
    let x1 := rCsa (csaBlk 4 3 0 5 0 256) 2
    x1.held = false ∧ x1.wall.closed = false ∧ (Option.map Prod.snd (List.find? (fun p => p.1 == 3) x1.csa.queue) = some (hc
    (csaBlk 4 3 0 5 0 256))) ∧ (x1.csaBank 3).run = none ∧ (x1.csaBank 3).state ≠ 1 ∧ (x1.csaBank 3).state ≠ 3 ∧ x1.calPause
    = false ∧ x1.msgLegal ((hc (csaBlk 4 3 0 5 0 256)).message (Node.bank 3) { }) = true ∧ x1.csaCode 3 (hc (csaBlk 4 3 0 5
    0 256)) = 0 ∧ (parseCsa (hc (csaBlk 4 3 0 5 0 256)).block).op = 4 ∧ (x1.csaBank 3).ce = [] ∧ (x1.csaBank 3).ue = [] :=
  by decide +kernel

theorem witness_BankTakesItsHead_6 :
    let x1 := (rCsa (csaBlk 5 3 0 1 0 0) 2).csaBank 3
    (rCsa (csaBlk 5 3 0 1 0 0) 2).held = false ∧ (rCsa (csaBlk 5 3 0 1 0 0) 2).wall.closed = false ∧ (Option.map Prod.snd
    (List.find? (fun p => p.1 == 3) (rCsa (csaBlk 5 3 0 1 0 0) 2).csa.queue) = some (hc (csaBlk 5 3 0 1 0 0))) ∧ x1.run =
    none ∧ x1.state ≠ 1 ∧ x1.state ≠ 3 ∧ (rCsa (csaBlk 5 3 0 1 0 0) 2).calPause = false ∧ (rCsa (csaBlk 5 3 0 1 0 0)
    2).msgLegal ((hc (csaBlk 5 3 0 1 0 0)).message (Node.bank 3) { }) = true ∧ (rCsa (csaBlk 5 3 0 1 0 0) 2).csaCode 3 (hc
    (csaBlk 5 3 0 1 0 0)) ≠ 0 :=
  by decide +kernel

theorem witness_BankTakesItsHead_7 :
    let x1 := (rCsa (csaBlk 6 3 0 0 0 0) 2).csaBank 3
    (rCsa (csaBlk 6 3 0 0 0 0) 2).held = false ∧ (rCsa (csaBlk 6 3 0 0 0 0) 2).wall.closed = false ∧ (Option.map Prod.snd
    (List.find? (fun p => p.1 == 3) (rCsa (csaBlk 6 3 0 0 0 0) 2).csa.queue) = some (hc (csaBlk 6 3 0 0 0 0))) ∧ x1.run =
    none ∧ x1.state ≠ 1 ∧ x1.state ≠ 3 ∧ (rCsa (csaBlk 6 3 0 0 0 0) 2).calPause = false ∧ (rCsa (csaBlk 6 3 0 0 0 0)
    2).msgLegal ((hc (csaBlk 6 3 0 0 0 0)).message (Node.bank 3) { }) = true ∧ (rCsa (csaBlk 6 3 0 0 0 0) 2).csaCode 3 (hc
    (csaBlk 6 3 0 0 0 0)) = 0 ∧ (parseCsa (hc (csaBlk 6 3 0 0 0 0)).block).op = 6 ∧ x1.ce = [] ∧ x1.ue = [] :=
  by decide +kernel

theorem witness_BankTakesItsHead_8 :
    let x1 := (rCsa (csaBlk 7 3 0 0 0 0) 2).csaBank 3
    (rCsa (csaBlk 7 3 0 0 0 0) 2).held = false ∧ (rCsa (csaBlk 7 3 0 0 0 0) 2).wall.closed = false ∧ (Option.map Prod.snd
    (List.find? (fun p => p.1 == 3) (rCsa (csaBlk 7 3 0 0 0 0) 2).csa.queue) = some (hc (csaBlk 7 3 0 0 0 0))) ∧ x1.run =
    none ∧ x1.state ≠ 1 ∧ x1.state ≠ 3 ∧ (rCsa (csaBlk 7 3 0 0 0 0) 2).calPause = false ∧ (rCsa (csaBlk 7 3 0 0 0 0)
    2).msgLegal ((hc (csaBlk 7 3 0 0 0 0)).message (Node.bank 3) { }) = true ∧ (rCsa (csaBlk 7 3 0 0 0 0) 2).csaCode 3 (hc
    (csaBlk 7 3 0 0 0 0)) = 0 ∧ (parseCsa (hc (csaBlk 7 3 0 0 0 0)).block).op = 7 :=
  by decide +kernel

theorem witness_BankTakesItsHead_9 :
    let x1 := (rCsa (csaBlk 9 3 0 0 0 0) 2).csaBank 3
    (rCsa (csaBlk 9 3 0 0 0 0) 2).held = false ∧ (rCsa (csaBlk 9 3 0 0 0 0) 2).wall.closed = false ∧ (Option.map Prod.snd
    (List.find? (fun p => p.1 == 3) (rCsa (csaBlk 9 3 0 0 0 0) 2).csa.queue) = some (hc (csaBlk 9 3 0 0 0 0))) ∧ x1.run =
    none ∧ x1.state ≠ 1 ∧ x1.state ≠ 3 ∧ (rCsa (csaBlk 9 3 0 0 0 0) 2).calPause = false ∧ (rCsa (csaBlk 9 3 0 0 0 0)
    2).msgLegal ((hc (csaBlk 9 3 0 0 0 0)).message (Node.bank 3) { }) = true ∧ (rCsa (csaBlk 9 3 0 0 0 0) 2).csaCode 3 (hc
    (csaBlk 9 3 0 0 0 0)) ≠ 0 :=
  by decide +kernel

theorem witness_BankTakesItsHead_10 :
    let x1 := (rCsa (csaBlk 0 3 0 1 0 0) 4).csaBank 3
    (rCsa (csaBlk 0 3 0 1 0 0) 4).held = false ∧ (rCsa (csaBlk 0 3 0 1 0 0) 4).wall.closed = false ∧ (Option.map Prod.snd
    (List.find? (fun p => p.1 == 3) (rCsa (csaBlk 0 3 0 1 0 0) 4).csa.queue) = some (hc (csaBlk 0 3 0 1 0 0))) ∧ x1.run =
    none ∧ x1.state ≠ 1 ∧ x1.state ≠ 3 ∧ (rCsa (csaBlk 0 3 0 1 0 0) 4).calPause = false ∧ (rCsa (csaBlk 0 3 0 1 0 0)
    4).msgLegal ((hc (csaBlk 0 3 0 1 0 0)).message (Node.bank 3) { }) = true ∧ (rCsa (csaBlk 0 3 0 1 0 0) 4).csaCode 3 (hc
    (csaBlk 0 3 0 1 0 0)) ≠ 0 :=
  by decide +kernel

theorem witness_HbmServesReadsAndWrites_1 :
    (fly (hb rEnd) mw).delivers mw ∧ (fly (hb rEnd) mrd).delivers mrd ∧ mw.dst = Node.channel 9 ∧ mw.body = MsgBody.hbmWrite
    8196 [9, 9, 9] ∧ State.addressOk (fly (hb rEnd) mw).runClient 8196 [9, 9, 9].length = true ∧ ((fly (hb rEnd) mw).hbmDead
    8196 = false ∨ ∃ p, (fly (hb rEnd) mw).hbm.patrolHit = some p ∧ p.2 = (fly (hb rEnd) mw).clock ∧ [9, 9, 9] ≠ [] ∧ 8196 /
    64 ≤ p.1 ∧ p.1 ≤ (8196 + [9, 9, 9].length - 1) / 64 ∧ (fly (hb rEnd) mw).pcState (pcOf 8196) = 0) ∧ (∀ w ∈ (fly (hb
    rEnd) mw).hbm.ce ++ (fly (hb rEnd) mw).hbm.ue, w / 8 ∉ State.mergedLines 8196 [9, 9, 9].length) ∧ (8195 < 8196 ∨ 8196 +
    [9, 9, 9].length ≤ 8195) ∧ (¬((fly (hb rEnd) mw).calPause = true ∧ (0 ≠ 0 ∨ State.mergedLines 8196 [9, 9, 9].length ≠
    []))) ∧ mrd.dst = Node.channel 9 ∧ mrd.body = MsgBody.hbmRead 8196 9 ∧ (fly (hb rEnd) mrd).calPause = false :=
  ⟨delivers_of (by decide +kernel), delivers_of (by decide +kernel), by decide +kernel⟩

theorem witness_HbmServesReadsAndWrites_2 :
    let x1 := fly (hcal (hdead (hb rEnd))) mw
    x1.delivers mw ∧ (fly (hcal (hdead (hb rEnd))) mrd).delivers mrd ∧ mw.dst = Node.channel 9 ∧ mw.body = MsgBody.hbmWrite 8196
    [9, 9, 9] ∧ State.addressOk x1.runClient 8196 [9, 9, 9].length = true ∧ x1.hbmDead 8196 = true ∧ (¬∃ p, x1.hbm.patrolHit
    = some p ∧ p.2 = x1.clock ∧ [9, 9, 9] ≠ [] ∧ 8196 / 64 ≤ p.1 ∧ p.1 ≤ (8196 + [9, 9, 9].length - 1) / 64 ∧ x1.pcState
    (pcOf 8196) = 0) ∧ (x1.calPause = true ∧ (2 ≠ 0 ∨ State.mergedLines 8196 [9, 9, 9].length ≠ [])) ∧ mrd.dst =
    Node.channel 9 ∧ mrd.body = MsgBody.hbmRead 8196 9 ∧ (fly (hcal (hdead (hb rEnd))) mrd).calPause = true :=
  ⟨delivers_of (by decide +kernel), delivers_of (by decide +kernel), by decide +kernel⟩

theorem witness_HbmServesReadsAndWrites_3 :
    (fly (hb rEnd) mw2).delivers mw2 ∧ (fly (hbad (hb rEnd)) mrd).delivers mrd ∧ mw2.dst = Node.channel 9 ∧ mw2.body =
    MsgBody.hbmWrite 206158430207 [9, 9, 9] ∧ State.addressOk (fly (hb rEnd) mw2).runClient 206158430207 [9, 9, 9].length =
    false ∧ (fly (hb rEnd) mw2).calPause = false ∧ mrd.dst = Node.channel 9 ∧ mrd.body = MsgBody.hbmRead 8196 9 ∧ (fly (hbad
    (hb rEnd)) mrd).calPause = false :=
  ⟨delivers_of (by decide +kernel), delivers_of (by decide +kernel), by decide +kernel⟩

theorem witness_HbmServesReadsAndWrites_4 :
    (fly (hcal (hb rEnd)) mw2).delivers mw2 ∧ (fly (hbad (hb rEnd)) mrd2).delivers mrd2 ∧ mw2.dst = Node.channel 9 ∧ mw2.body =
    MsgBody.hbmWrite 206158430207 [9, 9, 9] ∧ State.addressOk (fly (hcal (hb rEnd)) mw2).runClient 206158430207 [9, 9,
    9].length = false ∧ (fly (hcal (hb rEnd)) mw2).calPause = true ∧ mrd2.dst = Node.channel 9 ∧ mrd2.body = MsgBody.hbmRead
    206225539076 9 ∧ (fly (hbad (hb rEnd)) mrd2).calPause = false :=
  ⟨delivers_of (by decide +kernel), delivers_of (by decide +kernel), by decide +kernel⟩

theorem witness_HbmServesReadsAndWrites_5 :
    (fly (hdead (hb rEnd)) mw).delivers mw ∧ (fly (hdead (hb rEnd)) mrd).delivers mrd ∧ mw.dst = Node.channel 9 ∧ mw.body =
    MsgBody.hbmWrite 8196 [9, 9, 9] ∧ State.addressOk (fly (hdead (hb rEnd)) mw).runClient 8196 [9, 9, 9].length = true ∧
    (fly (hdead (hb rEnd)) mw).hbmDead 8196 = true ∧ (¬∃ p, (fly (hdead (hb rEnd)) mw).hbm.patrolHit = some p ∧ p.2 = (fly
    (hdead (hb rEnd)) mw).clock ∧ [9, 9, 9] ≠ [] ∧ 8196 / 64 ≤ p.1 ∧ p.1 ≤ (8196 + [9, 9, 9].length - 1) / 64 ∧ (fly (hdead
    (hb rEnd)) mw).pcState (pcOf 8196) = 0) ∧ (¬((fly (hdead (hb rEnd)) mw).calPause = true ∧ (2 ≠ 0 ∨ State.mergedLines
    8196 [9, 9, 9].length ≠ []))) ∧ mrd.dst = Node.channel 9 ∧ mrd.body = MsgBody.hbmRead 8196 9 ∧ (fly (hdead (hb rEnd))
    mrd).calPause = false :=
  ⟨delivers_of (by decide +kernel), delivers_of (by decide +kernel), by decide +kernel⟩

theorem witness_HbmServesReadsAndWrites_6 :
    (fly (hcal (hb rEnd)) mw).delivers mw ∧ (fly (hcal (hb rEnd)) mrd2).delivers mrd2 ∧ mw.dst = Node.channel 9 ∧ mw.body =
    MsgBody.hbmWrite 8196 [9, 9, 9] ∧ State.addressOk (fly (hcal (hb rEnd)) mw).runClient 8196 [9, 9, 9].length = true ∧
    ((fly (hcal (hb rEnd)) mw).hbmDead 8196 = false ∨ ∃ p, (fly (hcal (hb rEnd)) mw).hbm.patrolHit = some p ∧ p.2 = (fly
    (hcal (hb rEnd)) mw).clock ∧ [9, 9, 9] ≠ [] ∧ 8196 / 64 ≤ p.1 ∧ p.1 ≤ (8196 + [9, 9, 9].length - 1) / 64 ∧ (fly (hcal
    (hb rEnd)) mw).pcState (pcOf 8196) = 0) ∧ (∀ w ∈ (fly (hcal (hb rEnd)) mw).hbm.ce ++ (fly (hcal (hb rEnd)) mw).hbm.ue, w
    / 8 ∉ State.mergedLines 8196 [9, 9, 9].length) ∧ (8195 < 8196 ∨ 8196 + [9, 9, 9].length ≤ 8195) ∧ ((fly (hcal (hb rEnd))
    mw).calPause = true ∧ (0 ≠ 0 ∨ State.mergedLines 8196 [9, 9, 9].length ≠ [])) ∧ mrd2.dst = Node.channel 9 ∧ mrd2.body =
    MsgBody.hbmRead 206225539076 9 ∧ (fly (hcal (hb rEnd)) mrd2).calPause = true :=
  ⟨delivers_of (by decide +kernel), delivers_of (by decide +kernel), by decide +kernel⟩

theorem witness_HbmUpkeepAndApplies_1 :
    base.held = false ∧ base.asleep = false ∧ calS.held = false ∧ calS.tide.nextCal ≤ calS.now ∧ calS.tideAt (calS.num
    Obj.HBM_CAL_OFFSET) 4194304 = true ∧ calS.asleep = false ∧ (pat 7 base).held = false ∧ (pat 7 base).calPause = false ∧
    (pat 7 base).asleep = false ∧ (Store.get (fun _ => 0) (pat 7 base).hbm.patrolDue 3 ≤ 16 * (pat 7 base).clock + 15) ∧
    ((pat 7 base).hbmDead (patrolAddress 3 (Store.get (fun _ => 0) (pat 7 base).hbm.patrol 3)) = false) ∧ applyT.held =
    false ∧ applyT.applyIdle = true ∧ applyT.tables.pending = true :=
  by decide +kernel

theorem witness_HbmUpkeepAndApplies_2 :
    base.held = false ∧ base.asleep = false ∧ hdeadP.held = false ∧ hdeadP.calPause = false ∧ hdeadP.asleep = false ∧ (Store.get
    (fun _ => 0) hdeadP.hbm.patrolDue 3 ≤ 16 * hdeadP.clock + 15) ∧ applyE.held = false ∧ applyE.applyIdle = true ∧
    applyE.egs.pending = true ∧ 6 ∈ validTables applyE.egs.descStaged ∧ 6 ∉ validTables applyE.egs.desc :=
  by decide +kernel

theorem witness_HbmUpkeepAndApplies_3 :
    base.held = false ∧ base.asleep = false ∧ calS.held = false ∧ calS.tide.nextCal ≤ calS.now ∧ calS.tideAt (calS.num
    Obj.HBM_CAL_OFFSET) 4194304 = true ∧ calS.asleep = false ∧ (pat 12582911 base).held = false ∧ (pat 12582911
    base).calPause = false ∧ (pat 12582911 base).asleep = false ∧ (Store.get (fun _ => 0) (pat 12582911 base).hbm.patrolDue
    3 ≤ 16 * (pat 12582911 base).clock + 15) ∧ ((pat 12582911 base).hbmDead (patrolAddress 3 (Store.get (fun _ => 0) (pat
    12582911 base).hbm.patrol 3)) = false) ∧ applyR.held = false ∧ applyR.applyIdle = true ∧ applyR.hbm.regionsPending =
    true :=
  by decide +kernel

theorem witness_EnginesWorkTheirCommands_1 :
    let x1 := rWk (hbmEnt (egsS rEnd) true) cDir
    let x2 := List.take 4 (List.drop ((parseTable cDir.desc).shardAt 2 % 64) (x1.tableRead ((parseTable cDir.desc).shardAt 2 / 64 * 64)
        64).2.1)
    let x3 := ofLe (List.take 16 (List.drop ((parseTable cDir.desc).entryAt (ofLe x2 % 65536) 2 % 64) ((x1.tableRead ((parseTable
        cDir.desc).shardAt 2 / 64 * 64) 64).2.2.tableRead ((parseTable cDir.desc).entryAt (ofLe x2 % 65536) 2 / 64 * 64)
        64).2.1))
    (rWk (fly (egsS rEnd) mld) c2l).delivers mld ∧ (rEg (lkBlk 0 3 0)).held = false ∧ (rEg (lkBlk 0 3 0)).wall.closed = false ∧
    (List.find? (fun p => p.1 == 4) (rEg (lkBlk 0 3 0)).egs.store = some (4, 11, hc (lkBlk 0 3 0))) ∧ (rEg (lkBlk 0 3
    0)).msgLegal ((hc (lkBlk 0 3 0)).message (Node.egs 4) { }) = true ∧ ((List.filter (fun w => w.1 == 4) (rEg (lkBlk 0 3
    0)).egs.work).length < 2) ∧ (((List.filter (fun w => w.1 == 4) (rEg (lkBlk 0 3 0)).egs.work).all fun x => x.2.sorted) =
    true) ∧ isLookup 0 (hc (lkBlk 0 3 0)).block = true ∧ (if isUpdate (hc (lkBlk 0 3 0)).block = true then (rEg (lkBlk 0 3
    0)).updateCode (hc (lkBlk 0 3 0)).client (hc (lkBlk 0 3 0)).block else (rEg (lkBlk 0 3 0)).lookupCode (hc (lkBlk 0 3
    0)).client (hc (lkBlk 0 3 0)).block) = 0 ∧ mld.src = Node.brick 5 ∧ mld.dst = Node.egs 4 ∧ (rWk (fly (egsS rEnd) mld)
    c2l).listReader 4 5 = some c2l ∧ ((c2l.lists.any fun g => g.tag == some mld.tag && !g.done) = true) ∧ mld.body =
    MsgBody.listData ld12 ∧ (∀ g ∈ c2l.lists, g.tag.isSome = true) ∧ ((c2l.lists.any fun g => !g.done && !(fun g => g.tag ==
    some mld.tag && !g.done) g) = true) ∧ x1.held = false ∧ x1.wall.closed = false ∧ x1.calPause = false ∧ x1.egsFirst 4 =
    some cDir ∧ cDir.sorted = true ∧ (List.find? (fun r => r.row == 2) cDir.rows = some (rw_ 2 RowPhase.dir)) ∧ isUpdate
    cDir.cmd.block = false ∧ (rw_ 2 RowPhase.dir).phase = RowPhase.dir ∧ cDir.lines = [] ∧ (x1.tableRead ((parseTable
    cDir.desc).shardAt 2 / 64 * 64) 64).1 = 0 ∧ shardOwner (ofLe x2) = x1.addr ∧ x1.addr < 64 ∧ x1.addr < x1.reachSize ∧
    (parseTable cDir.desc).entryAt (ofLe x2 % 65536) 2 / 64 ≠ (parseTable cDir.desc).shardAt 2 / 64 ∧ ((x1.tableRead
    ((parseTable cDir.desc).shardAt 2 / 64 * 64) 64).2.2.tableRead ((parseTable cDir.desc).entryAt (ofLe x2 % 65536) 2 / 64
    * 64) 64).1 = 0 ∧ entLegal x3 = true ∧ entPresent x3 = true ∧ entRow x3 = 2 ∧ (late (rWk (egsS rEnd) cRem)).held = false
    ∧ (List.find? (fun w => w.2.rows.any fun r => r.row == 2 && r.phase == RowPhase.remote && decide (r.askedAt + 65536 ≤
    (late (rWk (egsS rEnd) cRem)).clock)) (List.filter (fun w => w.1 == 4 && w.2.tag == 11) (late (rWk (egsS rEnd)
    cRem)).egs.work) = some (4, cRem)) ∧ isUpdate cRem.cmd.block = false :=
  ⟨delivers_of (by decide +kernel), by decide +kernel⟩

theorem witness_EnginesWorkTheirCommands_2 :
    let x1 := rWk (hbmEnt (egsS rEnd) true) cSl
    let x2 := x1.tableRead ((parseTable cSl.desc).slotAt (entTier rSl.entry) (entSlot rSl.entry)) ((parseTable cSl.desc).slotBytes
        (entTier rSl.entry))
    (rWk (fly (egsS rEnd) mrf) (c1l false)).delivers mrf ∧ (rWk (fly (egsS rEnd) mld) (c1l false)).delivers mld ∧ (rEg (lkBlk 1
    3 2)).held = false ∧ (rEg (lkBlk 1 3 2)).wall.closed = false ∧ (List.find? (fun p => p.1 == 4) (rEg (lkBlk 1 3
    2)).egs.store = some (4, 11, hc (lkBlk 1 3 2))) ∧ (rEg (lkBlk 1 3 2)).msgLegal ((hc (lkBlk 1 3 2)).message (Node.egs 4)
    { }) = true ∧ ((List.filter (fun w => w.1 == 4) (rEg (lkBlk 1 3 2)).egs.work).length < 2) ∧ (((List.filter (fun w => w.1
    == 4) (rEg (lkBlk 1 3 2)).egs.work).all fun x => x.2.sorted) = true) ∧ isLookup 1 (hc (lkBlk 1 3 2)).block = true ∧ (if
    isUpdate (hc (lkBlk 1 3 2)).block = true then (rEg (lkBlk 1 3 2)).updateCode (hc (lkBlk 1 3 2)).client (hc (lkBlk 1 3
    2)).block else (rEg (lkBlk 1 3 2)).lookupCode (hc (lkBlk 1 3 2)).client (hc (lkBlk 1 3 2)).block) = 0 ∧ mrf.src =
    Node.brick 5 ∧ mrf.dst = Node.egs 4 ∧ (rWk (fly (egsS rEnd) mrf) (c1l false)).listReader 4 5 = some (c1l false) ∧ (((c1l
    false).lists.any fun g => g.tag == some mrf.tag && !g.done) = true) ∧ mrf.body = MsgBody.readFailed 1 ∧ mld.src =
    Node.brick 5 ∧ mld.dst = Node.egs 4 ∧ mld.body = MsgBody.listData ld12 ∧ x1.held = false ∧ x1.wall.closed = false ∧
    x1.calPause = false ∧ x1.egsFirst 4 = some cSl ∧ cSl.sorted = true ∧ (List.find? (fun r => r.row == 2) cSl.rows = some
    rSl) ∧ isUpdate cSl.cmd.block = false ∧ rSl.phase = RowPhase.slot ∧ x1.clock ≤ rSl.askedAt + 16384 ∧ x2.1 = 0 ∧
    slotHeaderOk (le cSl.cmd.block 4 2 % 4096) 2 rSl.entry x2.2.1 = true ∧ ((cSl.rows.any fun y => y.row != 2 && y.phase !=
    RowPhase.done) = true) ∧ (late (rWk (egsS rEnd) cRemU)).held = false ∧ (List.find? (fun w => w.2.rows.any fun r => r.row
    == 2 && r.phase == RowPhase.remote && decide (r.askedAt + 65536 ≤ (late (rWk (egsS rEnd) cRemU)).clock)) (List.filter
    (fun w => w.1 == 4 && w.2.tag == 11) (late (rWk (egsS rEnd) cRemU)).egs.work) = some (4, cRemU)) :=
  ⟨delivers_of (by decide +kernel), delivers_of (by decide +kernel), by decide +kernel⟩

theorem witness_EnginesWorkTheirCommands_3 :
    let x1 := rWk (hbmEnt (egsS rEnd) true) cSl
    let x2 := x1.tableRead ((parseTable cSl.desc).slotAt (entTier rSl.entry) (entSlot rSl.entry)) ((parseTable cSl.desc).slotBytes
        (entTier rSl.entry))
    (rWk (fly (egsS rEnd) mrf) (c1l false)).delivers mrf ∧ (rWk (fly (egsS rEnd) mld) (c1l false)).delivers mld ∧ (rEg (lkBlk 2
    3 2)).held = false ∧ (rEg (lkBlk 2 3 2)).wall.closed = false ∧ (List.find? (fun p => p.1 == 4) (rEg (lkBlk 2 3
    2)).egs.store = some (4, 11, hc (lkBlk 2 3 2))) ∧ (rEg (lkBlk 2 3 2)).msgLegal ((hc (lkBlk 2 3 2)).message (Node.egs 4)
    { }) = true ∧ ((List.filter (fun w => w.1 == 4) (rEg (lkBlk 2 3 2)).egs.work).length < 2) ∧ (((List.filter (fun w => w.1
    == 4) (rEg (lkBlk 2 3 2)).egs.work).all fun x => x.2.sorted) = true) ∧ isLookup 2 (hc (lkBlk 2 3 2)).block = true ∧ (if
    isUpdate (hc (lkBlk 2 3 2)).block = true then (rEg (lkBlk 2 3 2)).updateCode (hc (lkBlk 2 3 2)).client (hc (lkBlk 2 3
    2)).block else (rEg (lkBlk 2 3 2)).lookupCode (hc (lkBlk 2 3 2)).client (hc (lkBlk 2 3 2)).block) = 0 ∧ mrf.src =
    Node.brick 5 ∧ mrf.dst = Node.egs 4 ∧ (rWk (fly (egsS rEnd) mrf) (c1l false)).listReader 4 5 = some (c1l false) ∧ (((c1l
    false).lists.any fun g => g.tag == some mrf.tag && !g.done) = true) ∧ mrf.body = MsgBody.readFailed 1 ∧ mld.src =
    Node.brick 5 ∧ mld.dst = Node.egs 4 ∧ mld.body = MsgBody.listData ld12 ∧ x1.held = false ∧ x1.wall.closed = false ∧
    x1.calPause = false ∧ x1.egsFirst 4 = some cSl ∧ cSl.sorted = true ∧ (List.find? (fun r => r.row == 2) cSl.rows = some
    rSl) ∧ isUpdate cSl.cmd.block = false ∧ rSl.phase = RowPhase.slot ∧ x1.clock ≤ rSl.askedAt + 16384 ∧ x2.1 = 0 ∧
    slotHeaderOk (le cSl.cmd.block 4 2 % 4096) 2 rSl.entry x2.2.1 = true ∧ ((cSl.rows.any fun y => y.row != 2 && y.phase !=
    RowPhase.done) = true) ∧ (late (rWk (egsS rEnd) cRemU)).held = false ∧ (List.find? (fun w => w.2.rows.any fun r => r.row
    == 2 && r.phase == RowPhase.remote && decide (r.askedAt + 65536 ≤ (late (rWk (egsS rEnd) cRemU)).clock)) (List.filter
    (fun w => w.1 == 4 && w.2.tag == 11) (late (rWk (egsS rEnd) cRemU)).egs.work) = some (4, cRemU)) :=
  ⟨delivers_of (by decide +kernel), delivers_of (by decide +kernel), by decide +kernel⟩

theorem witness_EnginesWorkTheirCommands_4 :
    let x1 := rWk (hbmEnt (egsS rEnd) true) cSl
    let x2 := x1.tableRead ((parseTable cSl.desc).slotAt (entTier rSl.entry) (entSlot rSl.entry)) ((parseTable cSl.desc).slotBytes
        (entTier rSl.entry))
    (rWk (fly (egsS rEnd) mrf) (c1l false)).delivers mrf ∧ (rWk (fly (egsS rEnd) mld) (c1l false)).delivers mld ∧ (rEg (lkBlk 3
    3 2)).held = false ∧ (rEg (lkBlk 3 3 2)).wall.closed = false ∧ (List.find? (fun p => p.1 == 4) (rEg (lkBlk 3 3
    2)).egs.store = some (4, 11, hc (lkBlk 3 3 2))) ∧ (rEg (lkBlk 3 3 2)).msgLegal ((hc (lkBlk 3 3 2)).message (Node.egs 4)
    { }) = true ∧ ((List.filter (fun w => w.1 == 4) (rEg (lkBlk 3 3 2)).egs.work).length < 2) ∧ (((List.filter (fun w => w.1
    == 4) (rEg (lkBlk 3 3 2)).egs.work).all fun x => x.2.sorted) = true) ∧ isLookup 3 (hc (lkBlk 3 3 2)).block = true ∧ (if
    isUpdate (hc (lkBlk 3 3 2)).block = true then (rEg (lkBlk 3 3 2)).updateCode (hc (lkBlk 3 3 2)).client (hc (lkBlk 3 3
    2)).block else (rEg (lkBlk 3 3 2)).lookupCode (hc (lkBlk 3 3 2)).client (hc (lkBlk 3 3 2)).block) = 0 ∧ mrf.src =
    Node.brick 5 ∧ mrf.dst = Node.egs 4 ∧ (rWk (fly (egsS rEnd) mrf) (c1l false)).listReader 4 5 = some (c1l false) ∧ (((c1l
    false).lists.any fun g => g.tag == some mrf.tag && !g.done) = true) ∧ mrf.body = MsgBody.readFailed 1 ∧ mld.src =
    Node.brick 5 ∧ mld.dst = Node.egs 4 ∧ mld.body = MsgBody.listData ld12 ∧ x1.held = false ∧ x1.wall.closed = false ∧
    x1.calPause = false ∧ x1.egsFirst 4 = some cSl ∧ cSl.sorted = true ∧ (List.find? (fun r => r.row == 2) cSl.rows = some
    rSl) ∧ isUpdate cSl.cmd.block = false ∧ rSl.phase = RowPhase.slot ∧ x1.clock ≤ rSl.askedAt + 16384 ∧ x2.1 = 0 ∧
    slotHeaderOk (le cSl.cmd.block 4 2 % 4096) 2 rSl.entry x2.2.1 = true ∧ ((cSl.rows.any fun y => y.row != 2 && y.phase !=
    RowPhase.done) = true) ∧ (late (rWk (egsS rEnd) cRemU)).held = false ∧ (List.find? (fun w => w.2.rows.any fun r => r.row
    == 2 && r.phase == RowPhase.remote && decide (r.askedAt + 65536 ≤ (late (rWk (egsS rEnd) cRemU)).clock)) (List.filter
    (fun w => w.1 == 4 && w.2.tag == 11) (late (rWk (egsS rEnd) cRemU)).egs.work) = some (4, cRemU)) :=
  ⟨delivers_of (by decide +kernel), delivers_of (by decide +kernel), by decide +kernel⟩

theorem witness_EnginesWorkTheirCommands_5 :
    let x1 := rWk (hbmEnt (egsS rEnd) true) cSl
    let x2 := x1.tableRead ((parseTable cSl.desc).slotAt (entTier rSl.entry) (entSlot rSl.entry)) ((parseTable cSl.desc).slotBytes
        (entTier rSl.entry))
    (rWk (fly (egsS rEnd) mrf) (c1l false)).delivers mrf ∧ (rWk (fly (egsS rEnd) mld) (c1l false)).delivers mld ∧ (rEg (upBlk
    3)).held = false ∧ (rEg (upBlk 3)).wall.closed = false ∧ (List.find? (fun p => p.1 == 4) (rEg (upBlk 3)).egs.store =
    some (4, 11, hc (upBlk 3))) ∧ (rEg (upBlk 3)).msgLegal ((hc (upBlk 3)).message (Node.egs 4) { }) = true ∧ ((List.filter
    (fun w => w.1 == 4) (rEg (upBlk 3)).egs.work).length < 2) ∧ (((List.filter (fun w => w.1 == 4) (rEg (upBlk
    3)).egs.work).all fun x => x.2.sorted) = true) ∧ isUpdate (hc (upBlk 3)).block = true ∧ (if isUpdate (hc (upBlk
    3)).block = true then (rEg (upBlk 3)).updateCode (hc (upBlk 3)).client (hc (upBlk 3)).block else (rEg (upBlk
    3)).lookupCode (hc (upBlk 3)).client (hc (upBlk 3)).block) = 0 ∧ mrf.src = Node.brick 5 ∧ mrf.dst = Node.egs 4 ∧ (rWk
    (fly (egsS rEnd) mrf) (c1l false)).listReader 4 5 = some (c1l false) ∧ (((c1l false).lists.any fun g => g.tag == some
    mrf.tag && !g.done) = true) ∧ mrf.body = MsgBody.readFailed 1 ∧ mld.src = Node.brick 5 ∧ mld.dst = Node.egs 4 ∧ mld.body
    = MsgBody.listData ld12 ∧ x1.held = false ∧ x1.wall.closed = false ∧ x1.calPause = false ∧ x1.egsFirst 4 = some cSl ∧
    cSl.sorted = true ∧ (List.find? (fun r => r.row == 2) cSl.rows = some rSl) ∧ isUpdate cSl.cmd.block = false ∧ rSl.phase
    = RowPhase.slot ∧ x1.clock ≤ rSl.askedAt + 16384 ∧ x2.1 = 0 ∧ slotHeaderOk (le cSl.cmd.block 4 2 % 4096) 2 rSl.entry
    x2.2.1 = true ∧ ((cSl.rows.any fun y => y.row != 2 && y.phase != RowPhase.done) = true) ∧ (late (rWk (egsS rEnd)
    cRemU)).held = false ∧ (List.find? (fun w => w.2.rows.any fun r => r.row == 2 && r.phase == RowPhase.remote && decide
    (r.askedAt + 65536 ≤ (late (rWk (egsS rEnd) cRemU)).clock)) (List.filter (fun w => w.1 == 4 && w.2.tag == 11) (late (rWk
    (egsS rEnd) cRemU)).egs.work) = some (4, cRemU)) :=
  ⟨delivers_of (by decide +kernel), delivers_of (by decide +kernel), by decide +kernel⟩

theorem witness_EnginesWorkTheirCommands_6 :
    let x1 := rWk (hbmEnt (egsS rEnd) true) cSl
    let x2 := x1.tableRead ((parseTable cSl.desc).slotAt (entTier rSl.entry) (entSlot rSl.entry)) ((parseTable cSl.desc).slotBytes
        (entTier rSl.entry))
    (rWk (fly (egsS rEnd) mrf) (c1l false)).delivers mrf ∧ (rWk (fly (egsS rEnd) mld) (c1l false)).delivers mld ∧ (rEg (upBlk
    0)).held = false ∧ (rEg (upBlk 0)).wall.closed = false ∧ (List.find? (fun p => p.1 == 4) (rEg (upBlk 0)).egs.store =
    some (4, 11, hc (upBlk 0))) ∧ (rEg (upBlk 0)).msgLegal ((hc (upBlk 0)).message (Node.egs 4) { }) = true ∧ ((List.filter
    (fun w => w.1 == 4) (rEg (upBlk 0)).egs.work).length < 2) ∧ (((List.filter (fun w => w.1 == 4) (rEg (upBlk
    0)).egs.work).all fun x => x.2.sorted) = true) ∧ isUpdate (hc (upBlk 0)).block = true ∧ (if isUpdate (hc (upBlk
    0)).block = true then (rEg (upBlk 0)).updateCode (hc (upBlk 0)).client (hc (upBlk 0)).block else (rEg (upBlk
    0)).lookupCode (hc (upBlk 0)).client (hc (upBlk 0)).block) ≠ 0 ∧ mrf.src = Node.brick 5 ∧ mrf.dst = Node.egs 4 ∧ (rWk
    (fly (egsS rEnd) mrf) (c1l false)).listReader 4 5 = some (c1l false) ∧ (((c1l false).lists.any fun g => g.tag == some
    mrf.tag && !g.done) = true) ∧ mrf.body = MsgBody.readFailed 1 ∧ mld.src = Node.brick 5 ∧ mld.dst = Node.egs 4 ∧ mld.body
    = MsgBody.listData ld12 ∧ x1.held = false ∧ x1.wall.closed = false ∧ x1.calPause = false ∧ x1.egsFirst 4 = some cSl ∧
    cSl.sorted = true ∧ (List.find? (fun r => r.row == 2) cSl.rows = some rSl) ∧ isUpdate cSl.cmd.block = false ∧ rSl.phase
    = RowPhase.slot ∧ x1.clock ≤ rSl.askedAt + 16384 ∧ x2.1 = 0 ∧ slotHeaderOk (le cSl.cmd.block 4 2 % 4096) 2 rSl.entry
    x2.2.1 = true ∧ ((cSl.rows.any fun y => y.row != 2 && y.phase != RowPhase.done) = true) ∧ (late (rWk (egsS rEnd)
    cRemU)).held = false ∧ (List.find? (fun w => w.2.rows.any fun r => r.row == 2 && r.phase == RowPhase.remote && decide
    (r.askedAt + 65536 ≤ (late (rWk (egsS rEnd) cRemU)).clock)) (List.filter (fun w => w.1 == 4 && w.2.tag == 11) (late (rWk
    (egsS rEnd) cRemU)).egs.work) = some (4, cRemU)) :=
  ⟨delivers_of (by decide +kernel), delivers_of (by decide +kernel), by decide +kernel⟩

theorem witness_EnginesWorkTheirCommands_7 :
    let x1 := rWk (hbmEnt (egsS rEnd) true) cSl
    let x2 := x1.tableRead ((parseTable cSl.desc).slotAt (entTier rSl.entry) (entSlot rSl.entry)) ((parseTable cSl.desc).slotBytes
        (entTier rSl.entry))
    (rWk (fly (egsS rEnd) mrf) (c1l false)).delivers mrf ∧ (rWk (fly (egsS rEnd) mld) (c1l false)).delivers mld ∧ (rEg (lkBlk 0
    0 0)).held = false ∧ (rEg (lkBlk 0 0 0)).wall.closed = false ∧ (List.find? (fun p => p.1 == 4) (rEg (lkBlk 0 0
    0)).egs.store = some (4, 11, hc (lkBlk 0 0 0))) ∧ (rEg (lkBlk 0 0 0)).msgLegal ((hc (lkBlk 0 0 0)).message (Node.egs 4)
    { }) = true ∧ ((List.filter (fun w => w.1 == 4) (rEg (lkBlk 0 0 0)).egs.work).length < 2) ∧ (((List.filter (fun w => w.1
    == 4) (rEg (lkBlk 0 0 0)).egs.work).all fun x => x.2.sorted) = true) ∧ isLookup 0 (hc (lkBlk 0 0 0)).block = true ∧ (if
    isUpdate (hc (lkBlk 0 0 0)).block = true then (rEg (lkBlk 0 0 0)).updateCode (hc (lkBlk 0 0 0)).client (hc (lkBlk 0 0
    0)).block else (rEg (lkBlk 0 0 0)).lookupCode (hc (lkBlk 0 0 0)).client (hc (lkBlk 0 0 0)).block) ≠ 0 ∧ isUpdate (hc
    (lkBlk 0 0 0)).block = false ∧ mrf.src = Node.brick 5 ∧ mrf.dst = Node.egs 4 ∧ (rWk (fly (egsS rEnd) mrf) (c1l
    false)).listReader 4 5 = some (c1l false) ∧ (((c1l false).lists.any fun g => g.tag == some mrf.tag && !g.done) = true) ∧
    mrf.body = MsgBody.readFailed 1 ∧ mld.src = Node.brick 5 ∧ mld.dst = Node.egs 4 ∧ mld.body = MsgBody.listData ld12 ∧
    x1.held = false ∧ x1.wall.closed = false ∧ x1.calPause = false ∧ x1.egsFirst 4 = some cSl ∧ cSl.sorted = true ∧
    (List.find? (fun r => r.row == 2) cSl.rows = some rSl) ∧ isUpdate cSl.cmd.block = false ∧ rSl.phase = RowPhase.slot ∧
    x1.clock ≤ rSl.askedAt + 16384 ∧ x2.1 = 0 ∧ slotHeaderOk (le cSl.cmd.block 4 2 % 4096) 2 rSl.entry x2.2.1 = true ∧
    ((cSl.rows.any fun y => y.row != 2 && y.phase != RowPhase.done) = true) ∧ (late (rWk (egsS rEnd) cRemU)).held = false ∧
    (List.find? (fun w => w.2.rows.any fun r => r.row == 2 && r.phase == RowPhase.remote && decide (r.askedAt + 65536 ≤
    (late (rWk (egsS rEnd) cRemU)).clock)) (List.filter (fun w => w.1 == 4 && w.2.tag == 11) (late (rWk (egsS rEnd)
    cRemU)).egs.work) = some (4, cRemU)) :=
  ⟨delivers_of (by decide +kernel), delivers_of (by decide +kernel), by decide +kernel⟩

theorem witness_EnginesWorkTheirCommands_8 :
    let x1 := rWk (hbmEnt (egsS rEnd) true) cSl
    let x2 := x1.tableRead ((parseTable cSl.desc).slotAt (entTier rSl.entry) (entSlot rSl.entry)) ((parseTable cSl.desc).slotBytes
        (entTier rSl.entry))
    (rWk (fly (egsS rEnd) mrf) (c1l false)).delivers mrf ∧ (rWk (fly (egsS rEnd) mld) (c1l false)).delivers mld ∧ (rEg (lkBlk 1
    0 2)).held = false ∧ (rEg (lkBlk 1 0 2)).wall.closed = false ∧ (List.find? (fun p => p.1 == 4) (rEg (lkBlk 1 0
    2)).egs.store = some (4, 11, hc (lkBlk 1 0 2))) ∧ (rEg (lkBlk 1 0 2)).msgLegal ((hc (lkBlk 1 0 2)).message (Node.egs 4)
    { }) = true ∧ ((List.filter (fun w => w.1 == 4) (rEg (lkBlk 1 0 2)).egs.work).length < 2) ∧ (((List.filter (fun w => w.1
    == 4) (rEg (lkBlk 1 0 2)).egs.work).all fun x => x.2.sorted) = true) ∧ isLookup 1 (hc (lkBlk 1 0 2)).block = true ∧ (if
    isUpdate (hc (lkBlk 1 0 2)).block = true then (rEg (lkBlk 1 0 2)).updateCode (hc (lkBlk 1 0 2)).client (hc (lkBlk 1 0
    2)).block else (rEg (lkBlk 1 0 2)).lookupCode (hc (lkBlk 1 0 2)).client (hc (lkBlk 1 0 2)).block) ≠ 0 ∧ isUpdate (hc
    (lkBlk 1 0 2)).block = false ∧ mrf.src = Node.brick 5 ∧ mrf.dst = Node.egs 4 ∧ (rWk (fly (egsS rEnd) mrf) (c1l
    false)).listReader 4 5 = some (c1l false) ∧ (((c1l false).lists.any fun g => g.tag == some mrf.tag && !g.done) = true) ∧
    mrf.body = MsgBody.readFailed 1 ∧ mld.src = Node.brick 5 ∧ mld.dst = Node.egs 4 ∧ mld.body = MsgBody.listData ld12 ∧
    x1.held = false ∧ x1.wall.closed = false ∧ x1.calPause = false ∧ x1.egsFirst 4 = some cSl ∧ cSl.sorted = true ∧
    (List.find? (fun r => r.row == 2) cSl.rows = some rSl) ∧ isUpdate cSl.cmd.block = false ∧ rSl.phase = RowPhase.slot ∧
    x1.clock ≤ rSl.askedAt + 16384 ∧ x2.1 = 0 ∧ slotHeaderOk (le cSl.cmd.block 4 2 % 4096) 2 rSl.entry x2.2.1 = true ∧
    ((cSl.rows.any fun y => y.row != 2 && y.phase != RowPhase.done) = true) ∧ (late (rWk (egsS rEnd) cRemU)).held = false ∧
    (List.find? (fun w => w.2.rows.any fun r => r.row == 2 && r.phase == RowPhase.remote && decide (r.askedAt + 65536 ≤
    (late (rWk (egsS rEnd) cRemU)).clock)) (List.filter (fun w => w.1 == 4 && w.2.tag == 11) (late (rWk (egsS rEnd)
    cRemU)).egs.work) = some (4, cRemU)) :=
  ⟨delivers_of (by decide +kernel), delivers_of (by decide +kernel), by decide +kernel⟩

theorem witness_EnginesWorkTheirCommands_9 :
    let x1 := rWk (hbmEnt (egsS rEnd) true) cSl
    let x2 := x1.tableRead ((parseTable cSl.desc).slotAt (entTier rSl.entry) (entSlot rSl.entry)) ((parseTable cSl.desc).slotBytes
        (entTier rSl.entry))
    (rWk (fly (egsS rEnd) mrf) (c1l false)).delivers mrf ∧ (rWk (fly (egsS rEnd) mld) (c1l false)).delivers mld ∧ (rEg (lkBlk 2
    0 2)).held = false ∧ (rEg (lkBlk 2 0 2)).wall.closed = false ∧ (List.find? (fun p => p.1 == 4) (rEg (lkBlk 2 0
    2)).egs.store = some (4, 11, hc (lkBlk 2 0 2))) ∧ (rEg (lkBlk 2 0 2)).msgLegal ((hc (lkBlk 2 0 2)).message (Node.egs 4)
    { }) = true ∧ ((List.filter (fun w => w.1 == 4) (rEg (lkBlk 2 0 2)).egs.work).length < 2) ∧ (((List.filter (fun w => w.1
    == 4) (rEg (lkBlk 2 0 2)).egs.work).all fun x => x.2.sorted) = true) ∧ isLookup 2 (hc (lkBlk 2 0 2)).block = true ∧ (if
    isUpdate (hc (lkBlk 2 0 2)).block = true then (rEg (lkBlk 2 0 2)).updateCode (hc (lkBlk 2 0 2)).client (hc (lkBlk 2 0
    2)).block else (rEg (lkBlk 2 0 2)).lookupCode (hc (lkBlk 2 0 2)).client (hc (lkBlk 2 0 2)).block) ≠ 0 ∧ isUpdate (hc
    (lkBlk 2 0 2)).block = false ∧ mrf.src = Node.brick 5 ∧ mrf.dst = Node.egs 4 ∧ (rWk (fly (egsS rEnd) mrf) (c1l
    false)).listReader 4 5 = some (c1l false) ∧ (((c1l false).lists.any fun g => g.tag == some mrf.tag && !g.done) = true) ∧
    mrf.body = MsgBody.readFailed 1 ∧ mld.src = Node.brick 5 ∧ mld.dst = Node.egs 4 ∧ mld.body = MsgBody.listData ld12 ∧
    x1.held = false ∧ x1.wall.closed = false ∧ x1.calPause = false ∧ x1.egsFirst 4 = some cSl ∧ cSl.sorted = true ∧
    (List.find? (fun r => r.row == 2) cSl.rows = some rSl) ∧ isUpdate cSl.cmd.block = false ∧ rSl.phase = RowPhase.slot ∧
    x1.clock ≤ rSl.askedAt + 16384 ∧ x2.1 = 0 ∧ slotHeaderOk (le cSl.cmd.block 4 2 % 4096) 2 rSl.entry x2.2.1 = true ∧
    ((cSl.rows.any fun y => y.row != 2 && y.phase != RowPhase.done) = true) ∧ (late (rWk (egsS rEnd) cRemU)).held = false ∧
    (List.find? (fun w => w.2.rows.any fun r => r.row == 2 && r.phase == RowPhase.remote && decide (r.askedAt + 65536 ≤
    (late (rWk (egsS rEnd) cRemU)).clock)) (List.filter (fun w => w.1 == 4 && w.2.tag == 11) (late (rWk (egsS rEnd)
    cRemU)).egs.work) = some (4, cRemU)) :=
  ⟨delivers_of (by decide +kernel), delivers_of (by decide +kernel), by decide +kernel⟩

theorem witness_EnginesWorkTheirCommands_10 :
    let x1 := rWk (hbmEnt (egsS rEnd) true) cSl
    let x2 := x1.tableRead ((parseTable cSl.desc).slotAt (entTier rSl.entry) (entSlot rSl.entry)) ((parseTable cSl.desc).slotBytes
        (entTier rSl.entry))
    (rWk (fly (egsS rEnd) mrf) (c1l false)).delivers mrf ∧ (rWk (fly (egsS rEnd) mld) (c1l false)).delivers mld ∧ (rEg (lkBlk 3
    0 2)).held = false ∧ (rEg (lkBlk 3 0 2)).wall.closed = false ∧ (List.find? (fun p => p.1 == 4) (rEg (lkBlk 3 0
    2)).egs.store = some (4, 11, hc (lkBlk 3 0 2))) ∧ (rEg (lkBlk 3 0 2)).msgLegal ((hc (lkBlk 3 0 2)).message (Node.egs 4)
    { }) = true ∧ ((List.filter (fun w => w.1 == 4) (rEg (lkBlk 3 0 2)).egs.work).length < 2) ∧ (((List.filter (fun w => w.1
    == 4) (rEg (lkBlk 3 0 2)).egs.work).all fun x => x.2.sorted) = true) ∧ isLookup 3 (hc (lkBlk 3 0 2)).block = true ∧ (if
    isUpdate (hc (lkBlk 3 0 2)).block = true then (rEg (lkBlk 3 0 2)).updateCode (hc (lkBlk 3 0 2)).client (hc (lkBlk 3 0
    2)).block else (rEg (lkBlk 3 0 2)).lookupCode (hc (lkBlk 3 0 2)).client (hc (lkBlk 3 0 2)).block) ≠ 0 ∧ isUpdate (hc
    (lkBlk 3 0 2)).block = false ∧ mrf.src = Node.brick 5 ∧ mrf.dst = Node.egs 4 ∧ (rWk (fly (egsS rEnd) mrf) (c1l
    false)).listReader 4 5 = some (c1l false) ∧ (((c1l false).lists.any fun g => g.tag == some mrf.tag && !g.done) = true) ∧
    mrf.body = MsgBody.readFailed 1 ∧ mld.src = Node.brick 5 ∧ mld.dst = Node.egs 4 ∧ mld.body = MsgBody.listData ld12 ∧
    x1.held = false ∧ x1.wall.closed = false ∧ x1.calPause = false ∧ x1.egsFirst 4 = some cSl ∧ cSl.sorted = true ∧
    (List.find? (fun r => r.row == 2) cSl.rows = some rSl) ∧ isUpdate cSl.cmd.block = false ∧ rSl.phase = RowPhase.slot ∧
    x1.clock ≤ rSl.askedAt + 16384 ∧ x2.1 = 0 ∧ slotHeaderOk (le cSl.cmd.block 4 2 % 4096) 2 rSl.entry x2.2.1 = true ∧
    ((cSl.rows.any fun y => y.row != 2 && y.phase != RowPhase.done) = true) ∧ (late (rWk (egsS rEnd) cRemU)).held = false ∧
    (List.find? (fun w => w.2.rows.any fun r => r.row == 2 && r.phase == RowPhase.remote && decide (r.askedAt + 65536 ≤
    (late (rWk (egsS rEnd) cRemU)).clock)) (List.filter (fun w => w.1 == 4 && w.2.tag == 11) (late (rWk (egsS rEnd)
    cRemU)).egs.work) = some (4, cRemU)) :=
  ⟨delivers_of (by decide +kernel), delivers_of (by decide +kernel), by decide +kernel⟩

theorem witness_EpochWorkOfTheEngines_1 :
    let x1 := rclN.hbmBytes (rclN.retireAt 4 (rclN.retireHead 4)) 16
    dec.held = false ∧ dec.tide.nextDecay ≤ dec.now ∧ dec.asleep = false ∧ dec.num Obj.DECAY_EPOCHS ≠ 0 ∧ dec.now / 65536 %
    dec.num Obj.DECAY_EPOCHS = 0 ∧ rclN.held = false ∧ rclN.asleep = false ∧ rclN.calPause = false ∧ rclN.retireHead 4 <
    rclN.retireTail 4 ∧ rclN.tide.reclaimFrom ≤ rclN.now ∧ rclN.tide.shifts = [] ∧ (rclN.tableRead (rclN.retireAt 4
    (rclN.retireHead 4)) 16).1 = 0 ∧ 3 ≤ (rclN.now / 65536 + 65536 - le x1 10 2) % 65536 ∧ rclN.graceEnd 4 (rclN.retireHead
    4) (le x1 10 2) ≤ rclN.now ∧ (rclN.tableDesc (le x1 8 2 % 4096)).valid = false :=
  by decide +kernel

theorem witness_EpochWorkOfTheEngines_2 :
    let x1 := rclE.hbmBytes (rclE.retireAt 4 (rclE.retireHead 4)) 16
    let x2 := (((rclE.tableRead (rclE.retireAt 4 (rclE.retireHead 4)) 16).2.2.retirePop 4).tableRead ((rclE.tableDesc (le x1 8 2 %
        4096)).shardAt (le x1 0 4)) 4).2.2.tableRead ((rclE.tableDesc (le x1 8 2 % 4096)).entryAt (ofLe (((rclE.tableRead
        (rclE.retireAt 4 (rclE.retireHead 4)) 16).2.2.retirePop 4).tableRead ((rclE.tableDesc (le x1 8 2 % 4096)).shardAt (le x1
        0 4)) 4).2.1 % 65536) (le x1 0 4)) 16
    dec.held = false ∧ dec.tide.nextDecay ≤ dec.now ∧ dec.asleep = false ∧ dec.num Obj.DECAY_EPOCHS ≠ 0 ∧ dec.now / 65536 %
    dec.num Obj.DECAY_EPOCHS = 0 ∧ rclE.held = false ∧ rclE.asleep = false ∧ rclE.calPause = false ∧ rclE.retireHead 4 <
    rclE.retireTail 4 ∧ rclE.tide.reclaimFrom ≤ rclE.now ∧ rclE.tide.shifts = [] ∧ (rclE.tableRead (rclE.retireAt 4
    (rclE.retireHead 4)) 16).1 = 0 ∧ 3 ≤ (rclE.now / 65536 + 65536 - le x1 10 2) % 65536 ∧ rclE.graceEnd 4 (rclE.retireHead
    4) (le x1 10 2) ≤ rclE.now ∧ (rclE.tableDesc (le x1 8 2 % 4096)).valid = true ∧ bit (le x1 8 2) 14 = false ∧
    rclE.egs.flips = [] ∧ (((rclE.tableRead (rclE.retireAt 4 (rclE.retireHead 4)) 16).2.2.retirePop 4).tableRead
    ((rclE.tableDesc (le x1 8 2 % 4096)).shardAt (le x1 0 4)) 4).1 = 0 ∧ x2.1 = 0 ∧ entLegal (ofLe x2.2.1) = true ∧
    entPending (ofLe x2.2.1) = true ∧ entVersion (ofLe x2.2.1) = le x1 12 1 :=
  by decide +kernel

theorem witness_EpochWorkOfTheEngines_3 :
    let x1 := ddd (rcl 1 (65536 * 4 - 1)) (262144 + 4 * 4194304)
    dec.held = false ∧ dec.tide.nextDecay ≤ dec.now ∧ dec.asleep = false ∧ dec.num Obj.DECAY_EPOCHS ≠ 0 ∧ dec.now / 65536 %
    dec.num Obj.DECAY_EPOCHS = 0 ∧ x1.held = false ∧ x1.asleep = false ∧ x1.calPause = false ∧ x1.retireHead 4 <
    x1.retireTail 4 ∧ x1.tide.reclaimFrom ≤ x1.now ∧ x1.tide.shifts = [] ∧ (x1.tableRead (x1.retireAt 4 (x1.retireHead 4))
    16).1 ≠ 0 :=
  by decide +kernel

theorem witness_EpochWorkOfTheEngines_4 :
    let x1 := (rcl 1 (65536 * 4 - 1)).retireAt 4 ((rcl 1 (65536 * 4 - 1)).retireHead 4)
    dec.held = false ∧ dec.tide.nextDecay ≤ dec.now ∧ dec.asleep = false ∧ dec.num Obj.DECAY_EPOCHS ≠ 0 ∧ dec.now / 65536 %
    dec.num Obj.DECAY_EPOCHS = 0 ∧ (rcl 1 (65536 * 4 - 1)).held = false ∧ (rcl 1 (65536 * 4 - 1)).asleep = false ∧ (rcl 1
    (65536 * 4 - 1)).calPause = false ∧ (rcl 1 (65536 * 4 - 1)).retireHead 4 < (rcl 1 (65536 * 4 - 1)).retireTail 4 ∧ (rcl 1
    (65536 * 4 - 1)).tide.reclaimFrom ≤ (rcl 1 (65536 * 4 - 1)).now ∧ (rcl 1 (65536 * 4 - 1)).tide.shifts = [] ∧ ((rcl 1
    (65536 * 4 - 1)).tableRead x1 16).1 = 0 ∧ ¬(3 ≤ ((rcl 1 (65536 * 4 - 1)).now / 65536 + 65536 - le ((rcl 1 (65536 * 4 -
    1)).hbmBytes x1 16) 10 2) % 65536 ∧ (rcl 1 (65536 * 4 - 1)).graceEnd 4 ((rcl 1 (65536 * 4 - 1)).retireHead 4) (le ((rcl
    1 (65536 * 4 - 1)).hbmBytes x1 16) 10 2) ≤ (rcl 1 (65536 * 4 - 1)).now) :=
  by decide +kernel

theorem witness_FlipsCommitConditionally_1 :
    (rFl (flipG false)).held = false ∧ (rFl (flipG false)).asleep = false ∧ (rFl (flipG false)).calPause = false ∧ (rFl (flipG
    false)).egs.flips[0]? = some (flipG false) ∧ (flipG false).phase = FlipPhase.ready ∧ (rFl (flipG false)).flipFirst 0
    (flipG false) = true ∧ ((rFl (flipG false)).tableRead (flipG false).entryAddr 16).1 = 0 ∧ ofLe ((rFl (flipG
    false)).tableRead (flipG false).entryAddr 16).2.1 = (flipG false).old ∧ (flipG false).source = FlipSource.grad 5 ∧
    (flipG false).velocity = none ∧ (entPending (flipG false).new = false ∨ entPending (flipG false).old = true) :=
  by decide +kernel

theorem witness_FlipsCommitConditionally_2 :
    (rFl (flipG true)).held = false ∧ (rFl (flipG true)).asleep = false ∧ (rFl (flipG true)).calPause = false ∧ (rFl (flipG
    true)).egs.flips[0]? = some (flipG true) ∧ (flipG true).phase = FlipPhase.ready ∧ (rFl (flipG true)).flipFirst 0 (flipG
    true) = true ∧ ((rFl (flipG true)).tableRead (flipG true).entryAddr 16).1 = 0 ∧ ofLe ((rFl (flipG true)).tableRead
    (flipG true).entryAddr 16).2.1 = (flipG true).old ∧ (flipG true).source = FlipSource.grad 5 ∧ (flipG true).velocity =
    none ∧ entPending (flipG true).new = true ∧ entPending (flipG true).old = false :=
  by decide +kernel

theorem witness_FlipsCommitConditionally_3 :
    (ddd (rFl flip1) 65568).held = false ∧ (ddd (rFl flip1) 65568).asleep = false ∧ (ddd (rFl flip1) 65568).calPause = false ∧
    (ddd (rFl flip1) 65568).egs.flips[0]? = some flip1 ∧ flip1.phase = FlipPhase.ready ∧ (ddd (rFl flip1) 65568).flipFirst 0
    flip1 = true ∧ ((ddd (rFl flip1) 65568).tableRead flip1.entryAddr 16).1 ≠ 0 :=
  by decide +kernel

theorem witness_FlipsCommitConditionally_4 :
    let x1 := (rFl { flip1 with old := 5 }).tableRead { flip1 with old := 5 }.entryAddr 16
    (rFl { flip1 with old := 5 }).held = false ∧ (rFl { flip1 with old := 5 }).asleep = false ∧ (rFl
    { flip1 with old := 5 }).calPause = false ∧ (rFl { flip1 with old := 5 }).egs.flips[0]? = some { flip1 with old := 5 } ∧
    { flip1 with old := 5 }.phase = FlipPhase.ready ∧ (rFl { flip1 with old := 5 }).flipFirst 0 { flip1 with old := 5 } =
    true ∧ x1.1 = 0 ∧ ofLe x1.2.1 ≠ { flip1 with old := 5 }.old ∧ { flip1 with old := 5 }.slot = none :=
  by decide +kernel

theorem witness_FlipsCommitConditionally_5 :
    let x1 := rFl { flip1 with old := 5, slot := some (0, 3) }
    let x2 := x1.tableRead { flip1 with old := 5, slot := some (0, 3) }.entryAddr 16
    x1.held = false ∧ x1.asleep = false ∧ x1.calPause = false ∧ x1.egs.flips[0]? = some
    { flip1 with old := 5, slot := some (0, 3) } ∧ { flip1 with old := 5, slot := some (0, 3) }.phase = FlipPhase.ready ∧
    x1.flipFirst 0 { flip1 with old := 5, slot := some (0, 3) } = true ∧ x2.1 = 0 ∧ ofLe x2.2.1 ≠
    { flip1 with old := 5, slot := some (0, 3) }.old ∧ { flip1 with old := 5, slot := some (0, 3) }.slot = some (0, 3) :=
  by decide +kernel

theorem witness_RingEntriesAreTakenInOrder_1 :
    let x1 := State.ringSkip 17 (ringE 1 0 0)
    let x2 := x1.hbmBytes (x1.ringAt x1.egs.ringNext) 64
    let x3 := x1.tableDesc (le x2 4 2 % 4096)
    let x4 := ({ (x1.tableRead (x1.ringAt x1.egs.ringNext) 64).2.2 with egs := { (x1.tableRead (x1.ringAt x1.egs.ringNext) 64).2.2.egs with ringNext := (x1.egs.ringNext + 1) % 2 ^ 32, ringWork := (x1.tableRead (x1.ringAt x1.egs.ringNext) 64).2.2.egs.ringWork ++ [({ position := x1.egs.ringNext, table := le x2 4 2 % 4096, row := le x2 8 4, complete := false } : RingEntry)] } }).ownEntry
        x3 (le x2 8 4)
    let x5 := x4.2.tableRead (le x2 16 6) (x3.dim * x3.fullBytes)
    let x6 := ofLe (x4.2.tableRead 65568 16).2.1
    7 < 2 ^ 32 ∧ (ring1 1).held = false ∧ (ring1 1).host.linkUp = true ∧ (ringE 1 0 0).held = false ∧ (ringE 1 0 0).ringRuns =
    true ∧ (ringE 1 0 0).calPause = false ∧ x1.num Obj.UPD_RING_ENTRIES ≠ 0 ∧ x1.egs.ringNext ≠ x1.egs.ringTail ∧
    ((List.filter (fun x => !x.complete) x1.egs.ringWork).length < 16) ∧ (((List.filter (fun x => !x.complete)
    x1.egs.ringWork).any fun x => x.table == le x2 4 2 % 4096 && x.row == le x2 8 4) = false) ∧ (x1.tableRead (x1.ringAt
    x1.egs.ringNext) 64).1 = 0 ∧ State.ringFormOk x2 = true ∧ x1.num Obj.WORK_ENABLE = 1 ∧ x3.valid = true ∧ le x2 8 4 ≤
    x3.rowsM1 ∧ x4.1 = Sum.inl 65568 ∧ (x4.2.tableRead 65568 16).1 = 0 ∧ entLegal x6 = true ∧ le x2 0 1 = 1 ∧ entPresent x6
    = false ∧ entPending x6 = false ∧ le x2 16 6 + x3.dim * x3.fullBytes ≤ usableEnd ∧ x5.1 = 0 ∧ (x5.2.2.tableRead 65568
    16).1 = 0 ∧ (x5.2.2.tableRead 65568 16).2.1 = (x4.2.tableRead 65568 16).2.1 ∧ ((fun y tier => (y.freeRing (le x2 4 2 %
    4096) tier).count ≠ 0 ∧ Option.any (fun n => ((y.freeTake (le x2 4 2 % 4096) tier).2.engineWrite (x3.slotAt tier n)
    (List.replicate (x3.slotBytes tier) 0)).1 == 0) (y.freeTake (le x2 4 2 % 4096) tier).1 = true) (x5.2.2.tableRead 65568
    16).2.2 (le x2 1 1)) :=
  by decide +kernel

theorem witness_RingEntriesAreTakenInOrder_2 :
    let x1 := State.ringSkip 17 (ringE 2 0 entP)
    let x2 := x1.hbmBytes (x1.ringAt x1.egs.ringNext) 64
    let x3 := ({ (x1.tableRead (x1.ringAt x1.egs.ringNext) 64).2.2 with egs := { (x1.tableRead (x1.ringAt x1.egs.ringNext) 64).2.2.egs with ringNext := (x1.egs.ringNext + 1) % 2 ^ 32, ringWork := (x1.tableRead (x1.ringAt x1.egs.ringNext) 64).2.2.egs.ringWork ++ [({ position := x1.egs.ringNext, table := le x2 4 2 % 4096, row := le x2 8 4, complete := false } : RingEntry)] } }).ownEntry
        (x1.tableDesc (le x2 4 2 % 4096)) (le x2 8 4)
    let x4 := ofLe (x3.2.tableRead 65568 16).2.1
    7 < 2 ^ 32 ∧ (ring1 1).held = false ∧ (ring1 1).host.linkUp = true ∧ (ringE 2 0 entP).held = false ∧ (ringE 2 0
    entP).ringRuns = true ∧ (ringE 2 0 entP).calPause = false ∧ x1.num Obj.UPD_RING_ENTRIES ≠ 0 ∧ x1.egs.ringNext ≠
    x1.egs.ringTail ∧ ((List.filter (fun x => !x.complete) x1.egs.ringWork).length < 16) ∧ (((List.filter (fun x =>
    !x.complete) x1.egs.ringWork).any fun x => x.table == le x2 4 2 % 4096 && x.row == le x2 8 4) = false) ∧ (x1.tableRead
    (x1.ringAt x1.egs.ringNext) 64).1 = 0 ∧ State.ringFormOk x2 = true ∧ x1.num Obj.WORK_ENABLE = 1 ∧ (x1.tableDesc (le x2 4
    2 % 4096)).valid = true ∧ le x2 8 4 ≤ (x1.tableDesc (le x2 4 2 % 4096)).rowsM1 ∧ x3.1 = Sum.inl 65568 ∧ (x3.2.tableRead
    65568 16).1 = 0 ∧ entLegal x4 = true ∧ le x2 0 1 = 2 ∧ entPresent x4 = true ∧ entPending x4 = false ∧ ((fun y =>
    y.retireFull (State.engineAt 65568)) (ringE 2 0 entP) = false) ∧ some (mkEntry (entRow x4) 0 (entSlot x4) (entTier x4)
    ((entVersion x4 + 1) % 256) 0 false false true) = some (mkEntry 2 0 3 0 2 0 false false true) :=
  by decide +kernel

theorem witness_RingEntriesAreTakenInOrder_3 :
    let x1 := State.ringSkip 17 (ringE 3 1 entP)
    let x2 := x1.hbmBytes (x1.ringAt x1.egs.ringNext) 64
    let x3 := x1.tableDesc (le x2 4 2 % 4096)
    let x4 := ({ (x1.tableRead (x1.ringAt x1.egs.ringNext) 64).2.2 with egs := { (x1.tableRead (x1.ringAt x1.egs.ringNext) 64).2.2.egs with ringNext := (x1.egs.ringNext + 1) % 2 ^ 32, ringWork := (x1.tableRead (x1.ringAt x1.egs.ringNext) 64).2.2.egs.ringWork ++ [({ position := x1.egs.ringNext, table := le x2 4 2 % 4096, row := le x2 8 4, complete := false } : RingEntry)] } }).ownEntry
        x3 (le x2 8 4)
    7 < 2 ^ 32 ∧ (ring1 1).held = false ∧ (ring1 1).host.linkUp = true ∧ (ringE 3 1 entP).held = false ∧ (ringE 3 1
    entP).ringRuns = true ∧ (ringE 3 1 entP).calPause = false ∧ x1.num Obj.UPD_RING_ENTRIES ≠ 0 ∧ x1.egs.ringNext ≠
    x1.egs.ringTail ∧ ((List.filter (fun x => !x.complete) x1.egs.ringWork).length < 16) ∧ (((List.filter (fun x =>
    !x.complete) x1.egs.ringWork).any fun x => x.table == le x2 4 2 % 4096 && x.row == le x2 8 4) = false) ∧ (x1.tableRead
    (x1.ringAt x1.egs.ringNext) 64).1 = 0 ∧ State.ringFormOk x2 = true ∧ x1.num Obj.WORK_ENABLE = 1 ∧ x3.valid = true ∧ le
    x2 8 4 ≤ x3.rowsM1 ∧ x4.1 = Sum.inl 65568 ∧ (le x2 0 1 = 3 ∧ Work.retier 1 = Work.retier (le x2 1 1) ∨ le x2 0 1 = 4 ∧
    Work.retier 1 = Work.replicate) ∧ (x4.2.flipTry (newFlip (State.engineAt 65568) (le x2 4 2 % 4096) (le x2 8 4)
    (x1.tableImage (le x2 4 2 % 4096)) (x1.ruleImage x3.rule) (FlipSource.ring x1.egs.ringNext) (Work.retier 1) 65568)).1 =
    Sum.inl (lastFlip Instr.retier (ringE 3 1 entP)) :=
  by decide +kernel

theorem witness_RingEntriesAreTakenInOrder_4 :
    let x1 := State.ringSkip 17 (ringE 4 0 entP)
    let x2 := x1.hbmBytes (x1.ringAt x1.egs.ringNext) 64
    let x3 := x1.tableDesc (le x2 4 2 % 4096)
    let x4 := ({ (x1.tableRead (x1.ringAt x1.egs.ringNext) 64).2.2 with egs := { (x1.tableRead (x1.ringAt x1.egs.ringNext) 64).2.2.egs with ringNext := (x1.egs.ringNext + 1) % 2 ^ 32, ringWork := (x1.tableRead (x1.ringAt x1.egs.ringNext) 64).2.2.egs.ringWork ++ [({ position := x1.egs.ringNext, table := le x2 4 2 % 4096, row := le x2 8 4, complete := false } : RingEntry)] } }).ownEntry
        x3 (le x2 8 4)
    7 < 2 ^ 32 ∧ (ring1 1).held = false ∧ (ring1 1).host.linkUp = true ∧ (ringE 4 0 entP).held = false ∧ (ringE 4 0
    entP).ringRuns = true ∧ (ringE 4 0 entP).calPause = false ∧ x1.num Obj.UPD_RING_ENTRIES ≠ 0 ∧ x1.egs.ringNext ≠
    x1.egs.ringTail ∧ ((List.filter (fun x => !x.complete) x1.egs.ringWork).length < 16) ∧ (((List.filter (fun x =>
    !x.complete) x1.egs.ringWork).any fun x => x.table == le x2 4 2 % 4096 && x.row == le x2 8 4) = false) ∧ (x1.tableRead
    (x1.ringAt x1.egs.ringNext) 64).1 = 0 ∧ State.ringFormOk x2 = true ∧ x1.num Obj.WORK_ENABLE = 1 ∧ x3.valid = true ∧ le
    x2 8 4 ≤ x3.rowsM1 ∧ x4.1 = Sum.inl 65568 ∧ (le x2 0 1 = 3 ∧ Work.replicate = Work.retier (le x2 1 1) ∨ le x2 0 1 = 4 ∧
    Work.replicate = Work.replicate) ∧ (x4.2.flipTry (newFlip (State.engineAt 65568) (le x2 4 2 % 4096) (le x2 8 4)
    (x1.tableImage (le x2 4 2 % 4096)) (x1.ruleImage x3.rule) (FlipSource.ring x1.egs.ringNext) Work.replicate 65568)).1 =
    Sum.inl (lastFlip Instr.replicate (ringE 4 0 entP)) :=
  by decide +kernel

theorem witness_RingEntriesAreTakenInOrder_5 :
    let x1 := State.ringSkip 17 (ringE 5 0 entR)
    let x2 := x1.hbmBytes (x1.ringAt x1.egs.ringNext) 64
    let x3 := ({ (x1.tableRead (x1.ringAt x1.egs.ringNext) 64).2.2 with egs := { (x1.tableRead (x1.ringAt x1.egs.ringNext) 64).2.2.egs with ringNext := (x1.egs.ringNext + 1) % 2 ^ 32, ringWork := (x1.tableRead (x1.ringAt x1.egs.ringNext) 64).2.2.egs.ringWork ++ [({ position := x1.egs.ringNext, table := le x2 4 2 % 4096, row := le x2 8 4, complete := false } : RingEntry)] } }).ownEntry
        (x1.tableDesc (le x2 4 2 % 4096)) (le x2 8 4)
    let x4 := ofLe (x3.2.tableRead 65568 16).2.1
    7 < 2 ^ 32 ∧ (ring1 1).held = false ∧ (ring1 1).host.linkUp = true ∧ (ringE 5 0 entR).held = false ∧ (ringE 5 0
    entR).ringRuns = true ∧ (ringE 5 0 entR).calPause = false ∧ x1.num Obj.UPD_RING_ENTRIES ≠ 0 ∧ x1.egs.ringNext ≠
    x1.egs.ringTail ∧ ((List.filter (fun x => !x.complete) x1.egs.ringWork).length < 16) ∧ (((List.filter (fun x =>
    !x.complete) x1.egs.ringWork).any fun x => x.table == le x2 4 2 % 4096 && x.row == le x2 8 4) = false) ∧ (x1.tableRead
    (x1.ringAt x1.egs.ringNext) 64).1 = 0 ∧ State.ringFormOk x2 = true ∧ x1.num Obj.WORK_ENABLE = 1 ∧ (x1.tableDesc (le x2 4
    2 % 4096)).valid = true ∧ le x2 8 4 ≤ (x1.tableDesc (le x2 4 2 % 4096)).rowsM1 ∧ x3.1 = Sum.inl 65568 ∧ (x3.2.tableRead
    65568 16).1 = 0 ∧ entLegal x4 = true ∧ le x2 0 1 = 5 ∧ entPresent x4 = true ∧ entReplica x4 = true ∧ some (ofLe
    (x3.2.tableRead 65568 16).2.1 - 2 ^ 82) = some (entR - 2 ^ 82) :=
  by decide +kernel

theorem witness_BankTakesElements_1 :
    let x1 := w2 (keyS s1k (crun s1k) (mcd (el [8]) false))
    let x2 := parseCsa (crun s1k).cmd.block
    x1.delivers (mcd (el [8]) false) ∧ (mcd (el [8]) false).src = Node.brick 5 ∧ (mcd (el [8]) false).dst = Node.bank 3 ∧
    (x1.csaBank 3).run = some (crun s1k) ∧ (crun s1k).cmd.brick = 5 ∧ (x2.op = 0 ∨ x1.calPause = false) ∧ (mcd (el [8])
    false).body = MsgBody.csaData (el [8]) false ∧ (crun s1k).elems + (el [8]).length ≤ csaPer (x1.csaW 3) x2.op * x2.count
    ∧ (crun s1k).pend.length + (el [8]).length < csaPer (x1.csaW 3) x2.op ∧ (crun s1k).res = [] :=
  ⟨delivers_of (by decide +kernel), by decide +kernel⟩

theorem witness_BankTakesElements_2 :
    let x1 := keyS s1k (crun s1k) (mcd (el [8]) true)
    let x2 := parseCsa (crun s1k).cmd.block
    x1.delivers (mcd (el [8]) true) ∧ (∀ i < 8192, ¬((x1.csaEntry 3 i).valid = true ∧ csaMatches (List.map Prod.snd (el [8]))
    (x1.csaEntry 3 i) = true)) ∧ (mcd (el [8]) true).src = Node.brick 5 ∧ (mcd (el [8]) true).dst = Node.bank 3 ∧
    (x1.csaBank 3).run = some (crun s1k) ∧ (crun s1k).cmd.brick = 5 ∧ (x2.op = 0 ∨ x1.calPause = false) ∧ (mcd (el [8])
    true).body = MsgBody.csaData (el [8]) true ∧ crun s1k = State.csaRunOf (crun s1k).cmd ∧ x2.op = 0 ∧ x2.form = 0 ∧
    x2.count = 1 ∧ (el [8]).length = x1.csaW 3 ∧ (el [8]).all Prod.fst = true ∧ (Store.wf (fun _ => { }) x1.csa.entries =
    true) :=
  ⟨delivers_of (by decide +kernel), fun i _ => noHit (by decide +kernel) i, by decide +kernel⟩

theorem witness_BankTakesElements_3 :
    let x1 := keyS s1k (crun s1k) (mcd (el [3847]) true)
    let x2 := parseCsa (crun s1k).cmd.block
    x1.delivers (mcd (el [3847]) true) ∧ (mcd (el [3847]) true).src = Node.brick 5 ∧ (mcd (el [3847]) true).dst = Node.bank 3 ∧
    (x1.csaBank 3).run = some (crun s1k) ∧ (crun s1k).cmd.brick = 5 ∧ (x2.op = 0 ∨ x1.calPause = false) ∧ (mcd (el [3847])
    true).body = MsgBody.csaData (el [3847]) true ∧ crun s1k = State.csaRunOf (crun s1k).cmd ∧ x2.op = 0 ∧ x2.form = 0 ∧
    x2.count = 1 ∧ (el [3847]).length = x1.csaW 3 ∧ (el [3847]).all Prod.fst = true ∧ (Store.wf (fun _ => { })
    x1.csa.entries = true) ∧ ((x1.csaEntry 3 4).valid = true ∧ csaMatches (List.map Prod.snd (el [3847])) (x1.csaEntry 3 4)
    = true) ∧ (∀ j < 4, ¬((x1.csaEntry 3 j).valid = true ∧ csaMatches (List.map Prod.snd (el [3847])) (x1.csaEntry 3 j) =
    true)) ∧ 2 * 4 ∉ (x1.csaBank 3).ue ∧ (x1.csaExplicit 3 = true → 2 * 4 + 1 ∉ (x1.csaBank 3).ue) :=
  ⟨delivers_of (by decide +kernel), by decide +kernel⟩

theorem witness_BankTakesElements_4 :
    let x1 := keyS s1k (crun s1k) (mcd (el []) true)
    x1.delivers (mcd (el []) true) ∧ (mcd (el []) true).src = Node.brick 5 ∧ (mcd (el []) true).dst = Node.bank 3 ∧ (x1.csaBank
    3).run = some (crun s1k) ∧ (crun s1k).cmd.brick = 5 ∧ ((parseCsa (crun s1k).cmd.block).op = 0 ∨ x1.calPause = false) ∧
    (mcd (el []) true).body = MsgBody.csaData (el []) true ∧ (crun s1k).elems + (el []).length ≠ csaPer (x1.csaW 3)
    (parseCsa (crun s1k).cmd.block).op * (parseCsa (crun s1k).cmd.block).count :=
  ⟨delivers_of (by decide +kernel), by decide +kernel⟩

theorem witness_BankTakesElements_5 :
    let x1 := keyS s1k (crun s1k) (mcd (el [8, 4]) false)
    x1.delivers (mcd (el [8, 4]) false) ∧ (mcd (el [8, 4]) false).src = Node.brick 5 ∧ (mcd (el [8, 4]) false).dst = Node.bank 3
    ∧ (x1.csaBank 3).run = some (crun s1k) ∧ (crun s1k).cmd.brick = 5 ∧ ((parseCsa (crun s1k).cmd.block).op = 0 ∨
    x1.calPause = false) ∧ (mcd (el [8, 4]) false).body = MsgBody.csaData (el [8, 4]) false ∧ csaPer (x1.csaW 3) (parseCsa
    (crun s1k).cmd.block).op * (parseCsa (crun s1k).cmd.block).count < (crun s1k).elems + (el [8, 4]).length :=
  ⟨delivers_of (by decide +kernel), by decide +kernel⟩

theorem witness_BanksClearAndScrub_1 :
    (clrDue 2).held = false ∧ (((clrDue 2).csaBank 3).state = 1 ∨ ((clrDue 2).csaBank 3).clearDue = true) ∧ (clrDue 2).calPause
    = false ∧ ((clrDue 2).csaBank 3).clearDue = true ∧ ((clrDue 2).csaBank 3).run = some (crun s1k) ∧ (scr 0).held = false ∧
    (scr 0).scrubWindow = some scrW ∧ (scr 0).calPause = false ∧ (scr 0).asleep = false ∧ (scr 0).num Obj.SCRUB_ENABLE = 1 ∧
    (((scr 0).csaBank 3).state = 0 ∨ ((scr 0).csaBank 3).state = 2) ∧ (scr 0).stepInterval scrW ((scr 0).scrubUnits (scr
    0).scrubOpen) (((scr 0).scrubAccount 3).csaBank 3).steps = some scrN :=
  by decide +kernel

theorem witness_BanksClearAndScrub_2 :
    (clr false false).held = false ∧ (((clr false false).csaBank 3).state = 1 ∨ ((clr false false).csaBank 3).clearDue = true) ∧
    (clr false false).calPause = false ∧ ((clr false false).csaBank 3).clearDue = false ∧ ((clr false false).csaBank 3).run
    = none ∧ (scr 4).held = false ∧ (scr 4).scrubWindow = some scrW ∧ (scr 4).calPause = false ∧ (scr 4).asleep = false ∧
    (scr 4).num Obj.SCRUB_ENABLE = 1 ∧ (((scr 4).csaBank 3).state = 0 ∨ ((scr 4).csaBank 3).state = 2) ∧ (scr
    4).stepInterval scrW ((scr 4).scrubUnits (scr 4).scrubOpen) (((scr 4).scrubAccount 3).csaBank 3).steps = some scrN :=
  by decide +kernel

theorem witness_BanksClearAndScrub_3 :
    (hcal (clr true true)).held = false ∧ (((hcal (clr true true)).csaBank 3).state = 1 ∨ ((hcal (clr true true)).csaBank
    3).clearDue = true) ∧ (hcal (clr true true)).calPause = true ∧ (scr 0).held = false ∧ (scr 0).scrubWindow = some scrW ∧
    (scr 0).calPause = false ∧ (scr 0).asleep = false ∧ (scr 0).num Obj.SCRUB_ENABLE = 1 ∧ (((scr 0).csaBank 3).state = 0 ∨
    ((scr 0).csaBank 3).state = 2) ∧ (scr 0).stepInterval scrW ((scr 0).scrubUnits (scr 0).scrubOpen) (((scr 0).scrubAccount
    3).csaBank 3).steps = some scrN :=
  by decide +kernel

theorem witness_FlitsAreTakenInOrder_1 :
    pU.held = false ∧ pU.num (Obj.PORT_STATE 0) = 2 ∧ flitKind (co none) = 1 ∧ le (co none) 4 1 ≠ 2 ∧ (parseCredit (co
    none)).crcOk = true ∧ (parseCredit (co none)).reserved = false ∧ (pU.port 0).queue = [] ∧ (parseCredit (co none)).nak =
    none ∧ 3 < [70000, 5, 6, 7].length :=
  by decide +kernel

theorem witness_FlitsAreTakenInOrder_2 :
    pU.held = false ∧ pU.num (Obj.PORT_STATE 0) = 2 ∧ flitKind (fo false 2047 [5]) = 0 ∧ (parseFlit (fo false 2047 [5])).vc < 3
    ∧ (parseFlit (fo false 2047 [5])).seq = (pU.port 0).rxSeq ∧ (parseFlit (fo false 2047 [5])).crcOk = true ∧ (parseFlit
    (fo false 2047 [5])).last = false ∧ 0 < [70000, 5, 6, 7].length :=
  by decide +kernel

theorem witness_FlitsAreTakenInOrder_3 :
    pU.held = false ∧ pU.num (Obj.PORT_STATE 0) = 2 ∧ (parseFlit (bad64 (fo true 2047 pay))).vc < 3 ∧ (parseFlit (bad64 (fo true
    2047 pay))).crcOk = false ∧ ((parseCredit (bad64 (fo true 2047 pay))).crcOk = false ∨ flitKind (bad64 (fo true 2047
    pay)) = 1 ∧ le (bad64 (fo true 2047 pay)) 4 1 ≠ 2 ∧ (parseCredit (bad64 (fo true 2047 pay))).reserved = true) ∧ 3 <
    [70000, 5, 6, 7].length :=
  by decide +kernel

theorem witness_FlitsAreTakenInOrder_4 :
    let x1 := parseFlit (fo true 2047 pay3)
    pU.held = false ∧ pU.num (Obj.PORT_STATE 0) = 2 ∧ flitKind (fo true 2047 pay3) = 0 ∧ x1.vc < 3 ∧ x1.seq = (pU.port 0).rxSeq
    ∧ x1.crcOk = true ∧ x1.last = true ∧ (pU.port 0).assembly = [] ∧ le x1.payload 0 1 < pU.reachSize ∧ le x1.payload 1 1 <
    pU.reachSize ∧ typeOk x1.vc (le x1.payload 2 1) = true ∧ 3 < [70000, 5, 6, 7].length :=
  by decide +kernel

theorem witness_FlitsAreTakenInOrder_5 :
    (st 1 pU).held = false ∧ ((st 1 pU).num (Obj.PORT_STATE 0) = 1 ∨ (st 1 pU).num (Obj.PORT_STATE 0) = 3) :=
  by decide +kernel

theorem witness_FlitsAreTakenInOrder_6 :
    pU.held = false ∧ pU.num (Obj.PORT_STATE 0) = 2 ∧ flitKind (co (some 5)) = 1 ∧ le (co (some 5)) 4 1 ≠ 2 ∧ (parseCredit (co
    (some 5))).crcOk = true ∧ (parseCredit (co (some 5))).reserved = false ∧ (pU.port 0).queue = [] ∧ (parseCredit (co (some
    5))).nak = some 5 ∧ 3 < [70000, 5, 6, 7].length :=
  by decide +kernel

theorem witness_PortsTrainAndRetrain_1 :
    (pc (st 1 pU) 2 0 0 500000).held = false ∧ (pc (st 1 pU) 2 0 0 500000).num (Obj.PORT_STATE 0) = 1 ∧ flitKind (io 1 7) = 1 ∧
    le (io 1 7) 4 1 = 2 ∧ (parseIdent (io 1 7)).crcOk = true ∧ (parseIdent (io 1 7)).reserved = false ∧ (pc (st 1 pU) 2 0 0
    500000).identOk 0 (parseIdent (io 1 7)) = true ∧ laneSet (((parseIdent (io 1 7)).goodLanes.land 15).land 15) ≠ 0 ∧ ((pc
    (st 1 pU) 2 0 0 500000).port 0).trainFrom + 500000 ≤ (pc (st 1 pU) 2 0 0 500000).clock ∧ 2 ≤ ((pc (st 1 pU) 2 0 0
    500000).port 0).attempts :=
  by decide +kernel

theorem witness_PortsTrainAndRetrain_2 :
    (wn (st 2 pU)).held = false ∧ (wn (st 2 pU)).num (Obj.PORT_STATE 0) = 2 ∧ Nat.land 15 ((wn (st 2 pU)).num (Obj.LANE_MASK 0))
    ≠ 0 ∧ (wn (st 2 pU)).num (Obj.RESERVE_LOG2 0) ≤ 10 ∧ (wn (st 2 pU)).num (Obj.RESERVE_LENGTH 0) ≠ 0 ∧ (wn (st 2
    pU)).tideAt ((wn (st 2 pU)).num (Obj.RESERVE_OFFSET 0)) (4096 * 2 ^ (wn (st 2 pU)).num (Obj.RESERVE_LOG2 0)) = true :=
  by decide +kernel

theorem witness_PortsTrainAndRetrain_3 :
    (pc (st 3 pU) 2 0 3 5000).held = false ∧ (pc (st 3 pU) 2 0 3 5000).num (Obj.PORT_STATE 0) = 3 ∧ (pc (st 3 pU) 2 0 3
    5000).clock ≤ ((pc (st 3 pU) 2 0 3 5000).port 0).trainFrom + 5000 :=
  by decide +kernel

theorem witness_PortsTrainAndRetrain_4 :
    (st 1 pU).held = false ∧ (st 1 pU).num (Obj.PORT_STATE 0) = 1 ∧ ((parseIdent (bad64 (io 1 15))).crcOk = false ∨ flitKind
    (bad64 (io 1 15)) = 1 ∧ le (bad64 (io 1 15)) 4 1 = 2 ∧ (parseIdent (bad64 (io 1 15))).reserved = true) :=
  by decide +kernel

theorem witness_PortsTrainAndRetrain_5 :
    (st 1 pU).held = false ∧ (st 1 pU).num (Obj.PORT_STATE 0) = 1 ∧ flitKind (io 2 15) = 1 ∧ le (io 2 15) 4 1 = 2 ∧ (parseIdent
    (io 2 15)).crcOk = true ∧ (parseIdent (io 2 15)).reserved = false ∧ (st 1 pU).identOk 0 (parseIdent (io 2 15)) = false
    :=
  by decide +kernel

theorem witness_PortsTrainAndRetrain_6 :
    (pc (st 3 pU) 1 0 3 5001).held = false ∧ (pc (st 3 pU) 1 0 3 5001).num (Obj.PORT_STATE 0) = 3 ∧ ((pc (st 3 pU) 1 0 3
    5001).port 0).trainFrom + 5000 < (pc (st 3 pU) 1 0 3 5001).clock ∧ ((pc (st 3 pU) 1 0 3 5001).port 0).retrainFails < 2
    :=
  by decide +kernel

theorem witness_PortsTrainAndRetrain_7 :
    (pc (st 3 pU) 2 0 3 5001).held = false ∧ (pc (st 3 pU) 2 0 3 5001).num (Obj.PORT_STATE 0) = 3 ∧ ((pc (st 3 pU) 2 0 3
    5001).port 0).trainFrom + 5000 < (pc (st 3 pU) 2 0 3 5001).clock ∧ 2 ≤ ((pc (st 3 pU) 2 0 3 5001).port 0).retrainFails
    :=
  by decide +kernel

theorem witness_PortsTrainAndRetrain_8 :
    (pc (st 1 pU) 1 0 0 500000).held = false ∧ (pc (st 1 pU) 1 0 0 500000).num (Obj.PORT_STATE 0) = 1 ∧ flitKind (io 1 7) = 1 ∧
    le (io 1 7) 4 1 = 2 ∧ (parseIdent (io 1 7)).crcOk = true ∧ (parseIdent (io 1 7)).reserved = false ∧ (pc (st 1 pU) 1 0 0
    500000).identOk 0 (parseIdent (io 1 7)) = true ∧ laneSet (((parseIdent (io 1 7)).goodLanes.land 15).land 15) ≠ 0 ∧ ((pc
    (st 1 pU) 1 0 0 500000).port 0).trainFrom + 500000 ≤ (pc (st 1 pU) 1 0 0 500000).clock ∧ ((pc (st 1 pU) 1 0 0
    500000).port 0).attempts < 2 :=
  by decide +kernel

theorem witness_MessagesAreTaken_1 :
    let x1 := (mRp 3).desc.getD ((inb repS (mRp 3)).tableImage (le (mRp 3).body 0 2 % 4096))
    (inb repS (mRp 3)).held = false ∧ (mRp 3).status = (inb repS (mRp 3)).num Obj.RESET_EPOCH ∧ (inb repS (mRp 3)).calPause =
    false ∧ (inb repS (mRp 3)).inMessage 0 2 3 = some (mRp 3) ∧ (parseTable x1).valid = true ∧ Work.replicaRemove.tierOk =
    true ∧ (parseTable x1).replicaLog2 ≠ 0 ∧ (((((inb repS (mRp 3)).unbuffer (mRp 3)).setMember (mRp 3).source
    { (inb repS (mRp 3)).member (mRp 3).source with received := (((inb repS (mRp 3)).member (mRp 3).source).received + coastFlits (mRp 3).bytes) % 2 ^ 32 }).updFreed
    (mRp 3).source (coastFlits (mRp 3).bytes)).flipTry (newFlip (State.engineAt ((parseTable x1).bucketAt (le (mRp 3).body 0
    2 % 4096) (le (mRp 3).body 4 4))) (le (mRp 3).body 0 2 % 4096) (le (mRp 3).body 4 4) x1 [] (FlipSource.replica (mRp
    3).source) Work.replicaRemove 0)).1 = Sum.inl (lastFlip (Instr.replicaRemove 0 0) (inb repS (mRp 3))) :=
  by decide +kernel

theorem witness_MessagesAreTaken_2 :
    let x1 := (mRp 2).desc.getD ((inb repS (mRp 2)).tableImage (le (mRp 2).body 0 2 % 4096))
    let x2 := Work.replicaPut (le (mRp 2).body 2 1) (List.drop 8 (mRp 2).body)
    (inb repS (mRp 2)).held = false ∧ (mRp 2).status = (inb repS (mRp 2)).num Obj.RESET_EPOCH ∧ (inb repS (mRp 2)).calPause =
    false ∧ (inb repS (mRp 2)).inMessage 0 2 2 = some (mRp 2) ∧ (parseTable x1).valid = true ∧ x2.tierOk = true ∧
    (parseTable x1).replicaLog2 ≠ 0 ∧ (((((inb repS (mRp 2)).unbuffer (mRp 2)).setMember (mRp 2).source
    { (inb repS (mRp 2)).member (mRp 2).source with received := (((inb repS (mRp 2)).member (mRp 2).source).received + coastFlits (mRp 2).bytes) % 2 ^ 32 }).updFreed
    (mRp 2).source (coastFlits (mRp 2).bytes)).flipTry (newFlip (State.engineAt ((parseTable x1).bucketAt (le (mRp 2).body 0
    2 % 4096) (le (mRp 2).body 4 4))) (le (mRp 2).body 0 2 % 4096) (le (mRp 2).body 4 4) x1 [] (FlipSource.replica (mRp
    2).source) x2 0)).1 = Sum.inl (lastFlip (Instr.replicaPut 0 0) (inb repS (mRp 2))) :=
  by decide +kernel

theorem witness_MessagesAreTaken_3 :
    let x1 := mGr.desc.getD ((inb gradS mGr).tableImage (le mGr.body 0 2 % 4096))
    let x2 := ((((inb gradS mGr).unbuffer mGr).setMember mGr.source
        { (inb gradS mGr).member mGr.source with received := (((inb gradS mGr).member mGr.source).received + coastFlits mGr.bytes) % 2 ^ 32 }).updFreed
        mGr.source (coastFlits mGr.bytes)).ownEntry (parseTable x1) (le mGr.body 4 4)
    (inb gradS mGr).held = false ∧ mGr.status = (inb gradS mGr).num Obj.RESET_EPOCH ∧ (inb gradS mGr).calPause = false ∧ (inb
    gradS mGr).inMessage 0 2 1 = some mGr ∧ x2.1 = Sum.inl 65568 ∧ (inb gradS mGr).num Obj.WORK_ENABLE = 1 ∧ le ((inb gradS
    mGr).ruleImage (parseTable x1).rule) 0 1 ≠ 0 ∧ (x2.2.flipTry (newFlip (State.engineAt 65568) (le mGr.body 0 2 % 4096)
    (le mGr.body 4 4) x1 ((inb gradS mGr).ruleImage (parseTable x1).rule) (FlipSource.grad mGr.source) (Work.grad (List.take
    (parseTable x1).dim (u32s (List.drop 16 mGr.body))) (le mGr.body 8 4) (le mGr.body 12 4)) 65568)).1 = Sum.inl (lastFlip
    (Instr.grad 0 0) (inb gradS mGr)) :=
  by decide +kernel

theorem witness_MessagesAreTaken_4 :
    (inb rE (mRq8 9)).held = false ∧ (inb rE (mRq8 9)).inMessage 8 0 1 = some (mRq8 9) ∧ (inb rE (mRq8 9)).calPause = false ∧
    (parseTable ((mRq8 9).desc.getD ((inb rE (mRq8 9)).tableImage (le (mRq8 9).body 0 2 % 4096)))).valid = false ∧ (inb rE
    (mRq8 9)).routePort (inb rE (mRq8 9)).addr (mRq8 9).source = none :=
  by decide +kernel

theorem witness_MessagesAreTaken_5 :
    (inb rE (mFw 0)).held = false ∧ (inb rE (mFw 0)).transitMessage 0 = some (mFw 0) ∧ (inb rE (mFw 0)).routePort (mFw 0).source
    (le (mFw 0).bytes 0 1) = some 2 ∧ (inb rE (mFw 0)).portUp 2 = true ∧ ((inb rE (mFw 0)).port 2).queue = [] ∧ ((inb rE
    (mFw 0)).port 2).replay.length < 1024 ∧ (mFw 0).bytes ≠ [] ∧ (mFw 0).bytes.length ≤ 56 ∧ (mFw 0).vcd < 6 ∧
    State.linkCredit ((inb rE (mFw 0)).port 2) ((mFw 0).vcd / 2 * 2 + (inb rE (mFw 0)).outSet (mFw 0).port ((mFw 0).vcd % 2)
    2) = true ∧ (inb rE (mFw 0)).mayStart 2 ((mFw 0).vcd / 2) = true :=
  by decide +kernel

theorem witness_MessagesAreTaken_6 :
    (inb (rWk rE er2) (mRd_ 16389)).held = false ∧ (inb (rWk rE er2) (mRd_ 16389)).inMessage 0 1 1 = some (mRd_ 16389) ∧ (inb
    (rWk rE er2) (mRd_ 16389)).requestOf ((mRd_ 16389).tag / 4096) ((mRd_ 16389).tag % 256) = some (er2, rwr) ∧ le (mRd_
    16389).body 0 4 = rwr.row ∧ le (mRd_ 16389).body 4 2 % 4096 = le er2.cmd.block 4 2 % 4096 ∧ bits (le (mRd_ 16389).body 4
    2) 13 12 < 3 ∧ (parseTable er2.desc).slotBytes (bits (le (mRd_ 16389).body 4 2) 13 12) ≤ (mRd_ 16389).body.length ∧
    ((er2.rows.any fun x => x.row != rwr.row && x.phase != RowPhase.done) = true) :=
  by decide +kernel

theorem witness_MessagesAreTaken_7 :
    (inb (rWk rE er) (mNk 16389 1)).held = false ∧ (inb (rWk rE er) (mNk 16389 1)).inMessage 0 1 2 = some (mNk 16389 1) ∧ (inb
    (rWk rE er) (mNk 16389 1)).requestOf ((mNk 16389 1).tag / 4096) ((mNk 16389 1).tag % 256) = some (er, rwr) ∧ (mNk 16389
    1).status = 1 :=
  by decide +kernel

theorem witness_MessagesAreTaken_8 :
    (inb (rWk rE er) (mNk 16389 2)).held = false ∧ (inb (rWk rE er) (mNk 16389 2)).inMessage 0 1 2 = some (mNk 16389 2) ∧ (inb
    (rWk rE er) (mNk 16389 2)).requestOf ((mNk 16389 2).tag / 4096) ((mNk 16389 2).tag % 256) = some (er, rwr) ∧ (mNk 16389
    2).status = 2 :=
  by decide +kernel

theorem witness_MessagesAreTaken_9 :
    (inb (rWk rE er) (mNk 16389 4)).held = false ∧ (inb (rWk rE er) (mNk 16389 4)).inMessage 0 1 2 = some (mNk 16389 4) ∧ (inb
    (rWk rE er) (mNk 16389 4)).requestOf ((mNk 16389 4).tag / 4096) ((mNk 16389 4).tag % 256) = some (er, rwr) ∧ (mNk 16389
    4).status = 4 :=
  by decide +kernel

theorem witness_MessagesAreTaken_10 :
    (inb (down rE) mFw8).held = false ∧ (inb (down rE) mFw8).transitMessage 0 = some mFw8 ∧ (Option.all (fun o => !(inb (down
    rE) mFw8).portUp o) ((inb (down rE) mFw8).routePort mFw8.source (le mFw8.bytes 0 1)) = true) ∧ mFw8.vcd / 2 = 0 ∧ (inb
    (down rE) mFw8).routePort (inb (down rE) mFw8).addr mFw8.source = none :=
  by decide +kernel

theorem witness_MessagesAreTaken_11 :
    let x1 := inb (cool (hbmEnt rE true)) (mRq8 6)
    let x2 := parseTable ((mRq8 6).desc.getD (x1.tableImage (le (mRq8 6).body 0 2 % 4096)))
    let x3 := (x1.unbuffer (mRq8 6)).tableRead (x2.shardAt (le (mRq8 6).body 4 4)) 4
    let x4 := x3.2.2.tableRead (x2.entryAt (ofLe x3.2.1 % 65536) (le (mRq8 6).body 4 4)) 16
    let x5 := x4.2.2.tableRead (x2.slotAt (entTier (ofLe x4.2.1)) (entSlot (ofLe x4.2.1))) (x2.slotBytes (entTier (ofLe x4.2.1)))
    x1.held = false ∧ x1.inMessage 8 0 1 = some (mRq8 6) ∧ x1.calPause = false ∧ x2.valid = true ∧ le (mRq8 6).body 4 4 ≤
    x2.rowsM1 ∧ x3.1 = 0 ∧ shardOwner (ofLe x3.2.1) = x1.addr ∧ x4.1 = 0 ∧ entLegal (ofLe x4.2.1) = true ∧ entPresent (ofLe
    x4.2.1) = true ∧ entRow (ofLe x4.2.1) = le (mRq8 6).body 4 4 ∧ x1.num Obj.HEAT_ENABLE ≠ 1 ∧ x5.1 = 0 ∧ slotHeaderOk (le
    (mRq8 6).body 0 2 % 4096) (le (mRq8 6).body 4 4) (ofLe x4.2.1) x5.2.1 = true ∧ x1.routePort x1.addr (mRq8 6).source =
    none :=
  by decide +kernel

theorem witness_MessagesAreTaken_12 :
    (inb rE (mUp 4 9)).held = false ∧ (mUp 4 9).status ≠ (inb rE (mUp 4 9)).num Obj.RESET_EPOCH ∧ (inb rE (mUp 4 9)).inMessage 0
    2 4 = some (mUp 4 9) :=
  by decide +kernel

theorem witness_MessagesAreTaken_13 :
    (inb rE (mUp 1 9)).held = false ∧ (mUp 1 9).status ≠ (inb rE (mUp 1 9)).num Obj.RESET_EPOCH ∧ (inb rE (mUp 1 9)).inMessage 0
    2 1 = some (mUp 1 9) ∧ (inb rE (mUp 1 9)).calPause = false :=
  by decide +kernel

theorem witness_MessagesAreTaken_14 :
    (inb rE (mUp 2 9)).held = false ∧ (mUp 2 9).status ≠ (inb rE (mUp 2 9)).num Obj.RESET_EPOCH ∧ (inb rE (mUp 2 9)).inMessage 0
    2 2 = some (mUp 2 9) ∧ (inb rE (mUp 2 9)).calPause = false :=
  by decide +kernel

theorem witness_MessagesAreTaken_15 :
    (inb rE (mUp 3 9)).held = false ∧ (mUp 3 9).status ≠ (inb rE (mUp 3 9)).num Obj.RESET_EPOCH ∧ (inb rE (mUp 3 9)).inMessage 0
    2 3 = some (mUp 3 9) ∧ (inb rE (mUp 3 9)).calPause = false :=
  by decide +kernel

theorem witness_MessagesAreTaken_16 :
    (inb (rWk rE er) (mNk 16390 4)).held = false ∧ (inb (rWk rE er) (mNk 16390 4)).inMessage 0 1 2 = some (mNk 16390 4) ∧ (inb
    (rWk rE er) (mNk 16390 4)).requestOf ((mNk 16390 4).tag / 4096) ((mNk 16390 4).tag % 256) = none :=
  by decide +kernel

theorem witness_MessagesAreTaken_17 :
    (inb (rWk rE er) (mNk 16389 5)).held = false ∧ (inb (rWk rE er) (mNk 16389 5)).inMessage 0 1 2 = some (mNk 16389 5) ∧ (inb
    (rWk rE er) (mNk 16389 5)).requestOf ((mNk 16389 5).tag / 4096) ((mNk 16389 5).tag % 256) = some (er, rwr) ∧ (mNk 16389
    5).status = 5 :=
  by decide +kernel

theorem witness_MessagesAreTaken_18 :
    (inb (down rE) (mFw 2)).held = false ∧ (inb (down rE) (mFw 2)).transitMessage 0 = some (mFw 2) ∧ (Option.all (fun o => !(inb
    (down rE) (mFw 2)).portUp o) ((inb (down rE) (mFw 2)).routePort (mFw 2).source (le (mFw 2).bytes 0 1)) = true) ∧ (mFw
    2).vcd / 2 = 1 :=
  by decide +kernel

theorem witness_MessagesAreTaken_19 :
    (inb (down rE) (mFw 5)).held = false ∧ (inb (down rE) (mFw 5)).transitMessage 0 = some (mFw 5) ∧ (Option.all (fun o => !(inb
    (down rE) (mFw 5)).portUp o) ((inb (down rE) (mFw 5)).routePort (mFw 5).source (le (mFw 5).bytes 0 1)) = true) ∧ (mFw
    5).vcd / 2 = 2 :=
  by decide +kernel

theorem witness_MessagesAreTaken_20 :
    (inb (rWk rE er) (mNk 16389 0)).held = false ∧ (inb (rWk rE er) (mNk 16389 0)).inMessage 0 1 2 = some (mNk 16389 0) ∧ (inb
    (rWk rE er) (mNk 16389 0)).requestOf ((mNk 16389 0).tag / 4096) ((mNk 16389 0).tag % 256) = some (er, rwr) ∧ ((mNk 16389
    0).status = 0 ∨ 5 < (mNk 16389 0).status) :=
  by decide +kernel

theorem witness_MessagesAreTaken_21 :
    (inb (rWk rE er) (mRd_ 16390)).held = false ∧ (inb (rWk rE er) (mRd_ 16390)).inMessage 0 1 1 = some (mRd_ 16390) ∧ (inb (rWk
    rE er) (mRd_ 16390)).requestOf ((mRd_ 16390).tag / 4096) ((mRd_ 16390).tag % 256) = none ∧ (((inb (rWk rE er) (mRd_
    16390)).egs.reserved.any fun x => x.1 == (mRd_ 16390).tag / 4096 && x.2.1 == (mRd_ 16390).tag % 256) = false) :=
  by decide +kernel

theorem witness_MessagesAreTaken_22 :
    (inb (down0 rE) (mRq 9 2)).held = false ∧ (inb (down0 rE) (mRq 9 2)).inMessage 0 0 1 = some (mRq 9 2) ∧ (inb (down0 rE) (mRq
    9 2)).calPause = false ∧ (parseTable ((mRq 9 2).desc.getD ((inb (down0 rE) (mRq 9 2)).tableImage (le (mRq 9 2).body 0 2
    % 4096)))).valid = false ∧ (inb (down0 rE) (mRq 9 2)).routePort (inb (down0 rE) (mRq 9 2)).addr (mRq 9 2).source = some
    0 ∧ (inb (down0 rE) (mRq 9 2)).portUp 0 = false :=
  by decide +kernel

theorem witness_MessagesAreTaken_23 :
    let x1 := inb (down0 (cool (hbmEnt rE true))) (mRq 6 2)
    let x2 := parseTable ((mRq 6 2).desc.getD (x1.tableImage (le (mRq 6 2).body 0 2 % 4096)))
    let x3 := (x1.unbuffer (mRq 6 2)).tableRead (x2.shardAt (le (mRq 6 2).body 4 4)) 4
    let x4 := x3.2.2.tableRead (x2.entryAt (ofLe x3.2.1 % 65536) (le (mRq 6 2).body 4 4)) 16
    let x5 := x4.2.2.tableRead (x2.slotAt (entTier (ofLe x4.2.1)) (entSlot (ofLe x4.2.1))) (x2.slotBytes (entTier (ofLe x4.2.1)))
    x1.held = false ∧ x1.inMessage 0 0 1 = some (mRq 6 2) ∧ x1.calPause = false ∧ x2.valid = true ∧ le (mRq 6 2).body 4 4 ≤
    x2.rowsM1 ∧ x3.1 = 0 ∧ shardOwner (ofLe x3.2.1) = x1.addr ∧ x4.1 = 0 ∧ entLegal (ofLe x4.2.1) = true ∧ entPresent (ofLe
    x4.2.1) = true ∧ entRow (ofLe x4.2.1) = le (mRq 6 2).body 4 4 ∧ x1.num Obj.HEAT_ENABLE ≠ 1 ∧ x5.1 = 0 ∧ slotHeaderOk (le
    (mRq 6 2).body 0 2 % 4096) (le (mRq 6 2).body 4 4) (ofLe x4.2.1) x5.2.1 = true ∧ x1.routePort x1.addr (mRq 6 2).source =
    some 0 ∧ x1.portUp 0 = false :=
  by decide +kernel

theorem witness_CreditsAndProbesAreAnswered_1 :
    let x1 := clk (inb (unr rE) (mCr 3 3 (leBytes 4 77))) 65536
    x1.held = false ∧ x1.inMessage 0 1 3 = some (mCr 3 3 (leBytes 4 77)) ∧ x1.routePort x1.addr (mCr 3 3 (leBytes 4 77)).source
    = some 0 ∧ x1.portUp 0 = true ∧ bit (x1.num Obj.UNREACHABLE_MASK) 1 = true ∧ 1 ∈ x1.others ∧ (x1.member 1).probeAt +
    65536 ≤ x1.clock :=
  by decide +kernel

theorem witness_CreditsAndProbesAreAnswered_2 :
    let x1 := down0 (adv (inb (unr rE) (mUp 4 0)))
    x1.held = false ∧ (x1.member (mUp 4 0).source).advanced = some 100 ∧ 100 + 32 ≤ x1.clock ∧ x1.routePort x1.addr (mUp 4
    0).source = some 0 ∧ x1.portUp 0 = false ∧ x1.inMessage 0 2 4 = some (mUp 4 0) ∧ (mUp 4 0).status = x1.num
    Obj.RESET_EPOCH :=
  by decide +kernel

theorem witness_CreditsAndProbesAreAnswered_3 :
    (inb (unr rE) (mCr 4 3 (leBytes 4 77))).held = false ∧ (inb (unr rE) (mCr 4 3 (leBytes 4 77))).inMessage 0 1 4 = some (mCr 4
    3 (leBytes 4 77)) :=
  by decide +kernel

theorem witness_CreditsAndProbesAreAnswered_4 :
    (adv0 rE).held = false ∧ ((adv0 rE).member (cm 0 4 0 0 4 0 0 []).source).advanced = some 100 ∧ 100 + 32 ≤ (adv0 rE).clock ∧
    (adv0 rE).routePort (adv0 rE).addr (cm 0 4 0 0 4 0 0 []).source = none :=
  by decide +kernel

theorem witness_CreditsAndProbesAreAnswered_5 :
    (inb (unr rE) (mCr 5 3 [20, 1, 0])).held = false ∧ (inb (unr rE) (mCr 5 3 [20, 1, 0])).inMessage 0 1 5 = some (mCr 5 3 [20,
    1, 0]) ∧ (inb (unr rE) (mCr 5 3 [20, 1, 0])).reachSize ≤ le (mCr 5 3 [20, 1, 0]).body 0 1 :=
  by decide +kernel

theorem witness_CreditsAndProbesAreAnswered_6 :
    (inb (unr rE) (mCr 5 3 [2, 1, 0])).held = false ∧ (inb (unr rE) (mCr 5 3 [2, 1, 0])).inMessage 0 1 5 = some (mCr 5 3 [2, 1,
    0]) ∧ le (mCr 5 3 [2, 1, 0]).body 1 1 = 1 ∧ le (mCr 5 3 [2, 1, 0]).body 0 1 < (inb (unr rE) (mCr 5 3 [2, 1,
    0])).reachSize ∧ le (mCr 5 3 [2, 1, 0]).body 0 1 ≠ (inb (unr rE) (mCr 5 3 [2, 1, 0])).addr :=
  by decide +kernel

theorem witness_ReachLaunchesGoTogether_1 :
    let x1 := holdL (inb (s1a rE) (l9 18 9 1 0))
    x1.held = false ∧ x1.sched.hold = some (hh (some 4)) ∧ (hh (some 4)).start = some 4 ∧ x1.jobAt (hh (some 4)).client (hh
    (some 4)).pos = some jHold ∧ 4 ≤ x1.now ∧ x1.serving = true ∧ x1.loadReady jHold = true ∧ x1.inMessage 2 1 18 = some (l9
    18 9 1 0) ∧ le (l9 18 9 1 0).body 4 1 ≠ 1 ∧ x1.holdsReach (le (l9 18 9 1 0).body 0 4) = true :=
  by decide +kernel

theorem witness_ReachLaunchesGoTogether_2 :
    let x1 := hold1 none (at_ (inb (s1a rE) (l9 18 8 1 0)) (131072 + 100000))
    x1.held = false ∧ x1.inMessage 2 1 18 = some (l9 18 8 1 0) ∧ le (l9 18 8 1 0).body 4 1 ≠ 1 ∧ x1.holdsReach (le (l9 18 8 1
    0).body 0 4) = false ∧ x1.sched.hold = some (hh none) ∧ (hh none).start = none ∧ (hh none).sentAt + 131072 + x1.num
    Obj.LAUNCH_LEAD ≤ x1.now :=
  by decide +kernel

theorem witness_ReachLaunchesGoTogether_3 :
    (hold1 none (inb (s1a rE) (l9 17 9 5 16))).held = false ∧ (hold1 none (inb (s1a rE) (l9 17 9 5 16))).inMessage 2 1 17 = some
    (l9 17 9 5 16) ∧ (hold1 none (inb (s1a rE) (l9 17 9 5 16))).sched.hold = some (hh none) ∧ (hh none).job = le (l9 17 9 5
    16).body 0 4 ∧ (hold1 none (inb (s1a rE) (l9 17 9 5 16))).now + 16 ≤ tide40 (le (l9 17 9 5 16).body 4 5) (hold1 none
    (inb (s1a rE) (l9 17 9 5 16))).now :=
  by decide +kernel

theorem witness_ReachLaunchesGoTogether_4 :
    (wl rE).held = false ∧ (List.find? (fun x => x.job == le (l9 16 9 1 1).body 0 4) (wl rE).coast.launches = some lch) ∧
    lch.first + 65536 ≤ (wl rE).clock ∧ (((List.range (wl rE).reachSize).all fun d => lch.members.contains d) = false) :=
  by decide +kernel

theorem witness_ReachLaunchesGoTogether_5 :
    (inb rE0 (l1 16)).held = false ∧ (inb rE0 (l1 16)).inMessage 0 1 16 = some (l1 16) ∧ (inb rE0 (l1 16)).addr = 0 ∧ (le (l1
    16).body 4 1 = 1 ∨ le (l1 16).body 4 1 = 2) ∧ (inb rE0 (l1 16)).num Obj.UNREACHABLE_MASK = 0 ∧ (inb rE0 (l1
    16)).coast.launches = [] ∧ 2 ≤ (inb rE0 (l1 16)).reachSize :=
  by decide +kernel

theorem witness_ReachLaunchesGoTogether_6 :
    (hold1 none (inb (s1a rE) (l9 19 9 2 560))).held = false ∧ (hold1 none (inb (s1a rE) (l9 19 9 2 560))).inMessage 2 1 19 =
    some (l9 19 9 2 560) ∧ ((hold1 none (inb (s1a rE) (l9 19 9 2 560))).runsReach (le (l9 19 9 2 560).body 0 4) || (hold1
    none (inb (s1a rE) (l9 19 9 2 560))).holdsReach (le (l9 19 9 2 560).body 0 4)) = true :=
  by decide +kernel

theorem witness_ReachLaunchesGoTogether_7 :
    (inb (s1a rE) (l9 16 9 1 1)).held = false ∧ (inb (s1a rE) (l9 16 9 1 1)).inMessage 2 1 16 = some (l9 16 9 1 1) ∧ (inb (s1a
    rE) (l9 16 9 1 1)).addr ≠ 0 :=
  by decide +kernel

theorem witness_ReachLaunchesGoTogether_8 :
    (hold1 none (inb (s1a rE) (l9 19 8 2 560))).held = false ∧ (hold1 none (inb (s1a rE) (l9 19 8 2 560))).inMessage 2 1 19 =
    some (l9 19 8 2 560) ∧ ((hold1 none (inb (s1a rE) (l9 19 8 2 560))).runsReach (le (l9 19 8 2 560).body 0 4) || (hold1
    none (inb (s1a rE) (l9 19 8 2 560))).holdsReach (le (l9 19 8 2 560).body 0 4)) = false :=
  by decide +kernel

theorem witness_ReachLaunchesGoTogether_9 :
    (hold1 none (at_ (inb (s1a rE) (l9 17 9 5 16)) 1)).held = false ∧ (hold1 none (at_ (inb (s1a rE) (l9 17 9 5 16))
    1)).inMessage 2 1 17 = some (l9 17 9 5 16) ∧ (hold1 none (at_ (inb (s1a rE) (l9 17 9 5 16)) 1)).sched.hold = some (hh
    none) ∧ (hh none).job = le (l9 17 9 5 16).body 0 4 ∧ tide40 (le (l9 17 9 5 16).body 4 5) (hold1 none (at_ (inb (s1a rE)
    (l9 17 9 5 16)) 1)).now < (hold1 none (at_ (inb (s1a rE) (l9 17 9 5 16)) 1)).now + 16 :=
  by decide +kernel

theorem witness_DescriptorsAreFetchedInOrder_1 :
    fB.held = false ∧ 257 < 2 ^ 32 ∧ fB.host.linkUp = true ∧ fB.ringState 5 ≠ 0 ∧ 2 ^ fB.sqLog2 5 < (257 + 2 ^ 32 - fB.sqHead 5)
    % 2 ^ 32 ∧ ((fB.sched.fetch.any fun p => p.1 == 5) = true) ∧ ((fB.sched.fetch.any fun p => p.1 == 5 && decide (p.2 +
    2500000 ≤ fB.clock)) = true) :=
  by decide +kernel

theorem witness_DescriptorsAreFetchedInOrder_2 :
    fA.held = false ∧ 8 < 2 ^ 32 ∧ fA.host.linkUp = true ∧ (fA.ringState 5 = 0 ∨ (8 + 2 ^ 32 - fA.sqHead 5) % 2 ^ 32 ≤ 2 ^
    fA.sqLog2 5) ∧ ((fA.sched.fetch.any fun p => p.1 == 5) = true) ∧ dl0.length = 256 ∧ descWellFormed dl0 fA.now = true ∧
    (Store.get (fun _ => 0) fA.sched.seqNext 5 = 0 ∨ Store.get (fun _ => 0) fA.sched.seqNext 5 = (parseDesc dl0 fA.now).seq
    + 1) ∧ ((parseDesc dl0 fA.now).cadence = true → fA.num (Obj.ENABLE (parseDesc dl0 fA.now).gen) ≠ 0) ∧ ((parseDesc dl0
    fA.now).reach = true → 1 < fA.reachSize) ∧ fA.jobsOf 5 = [jq 7] ∧ (jq 7).candAt.isSome = true :=
  by decide +kernel

theorem witness_SelectionSwitchesTheWall_1 :
    (selS false 0 base).held = false ∧ (selS false 0 base).sched.event = true ∧ (selS false 0 base).maySelect = true ∧ (selS
    false 0 base).choiceWaits = false ∧ (selS false 0 base).choose.job = some (jr 0 0) ∧ (jr 0 0).maint = none ∧ (selS false
    0 base).loadReady (jr 0 0) = false ∧ (selS true 0 base).held = false ∧ (selS true 0 base).sched.event = true ∧ (selS
    true 0 base).maySelect = true ∧ (selS true 0 base).choiceWaits = false ∧ (selS true 0 base).jobAt 5 0 = some (jr 0 0) ∧
    (chosenS 1 (s1a rE0)).held = false ∧ (chosenS 1 (s1a rE0)).sched.chosen = some (5, 0) ∧ (chosenS 1 (s1a rE0)).jobAt 5 0
    = some (jr 0 1) ∧ (chosenS 1 (s1a rE0)).loadReady (jr 0 1) = true ∧ (chosenS 1 (s1a rE0)).maySelect = true ∧ (chosenS 1
    (s1a rE0)).sched.event = false ∧ (jr 0 1).overdue (chosenS 1 (s1a rE0)).now = false ∧ (jr 0 1).desc.reach = true ∧
    (chosenS 1 (s1a rE0)).addr ≠ 0 ∧ bit ((chosenS 1 (s1a rE0)).num Obj.UNREACHABLE_MASK) 0 = false ∧ (sr (selS true 0
    base)).mortar.credits = [] ∧ (∀ m ∈ (sr (selS true 0 base)).mortar.flight, m.parity = (sr (selS true 0
    base)).mortar.parity) ∧ (sr (selS true 0 base)).wall.shadowUe = [] ∧ (sr (selS true 0 base)).tables.pending = false ∧
    (sr (selS true 0 base)).tables.appliedNow = false ∧ (∀ c < 68, (sr (selS true 0 base)).courseState c ≠ 3) ∧ le ((sr
    (selS true 0 base)).hbmBytes (jr 0 0).desc.bundle 64) 16 1 ≤ (sr (selS true 0 base)).logicalCourses ∧ (jr 0
    0).desc.paramsEn = false ∧ (jr 0 0).client ≠ (sr (selS true 0 base)).sched.lastOwner :=
  by decide +kernel

theorem witness_SelectionSwitchesTheWall_2 :
    (selS true 0 base).held = false ∧ (selS true 0 base).sched.event = true ∧ (selS true 0 base).maySelect = true ∧ (selS true 0
    base).choiceWaits = false ∧ (selS true 0 base).choose.job = some (jr 0 0) ∧ (jr 0 0).maint = none ∧ (selS true 0
    base).loadReady (jr 0 0) = true ∧ (jr 0 0).desc.reach = false ∧ (selS true 0 base).jobAt 5 0 = some (jr 0 0) ∧ (chosenS
    0 base).held = false ∧ (chosenS 0 base).sched.chosen = some (5, 0) ∧ (chosenS 0 base).jobAt 5 0 = some (jr 0 0) ∧
    (chosenS 0 base).loadReady (jr 0 0) = true ∧ (chosenS 0 base).maySelect = true ∧ (chosenS 0 base).sched.event = false ∧
    (jr 0 0).overdue (chosenS 0 base).now = false ∧ (selS true 0 base).mortar.credits = [] ∧ (∀ m ∈ (selS true 0
    base).mortar.flight, m.parity = (selS true 0 base).mortar.parity) ∧ (selS true 0 base).wall.shadowUe = [] ∧ (selS true 0
    base).tables.pending = false ∧ (selS true 0 base).tables.appliedNow = false ∧ (∀ c < 68, (selS true 0 base).courseState
    c ≠ 3) ∧ le ((selS true 0 base).hbmBytes (jr 0 0).desc.bundle 64) 16 1 ≤ (selS true 0 base).logicalCourses ∧ (jr 0
    0).desc.paramsEn = false ∧ (jr 0 0).client ≠ (selS true 0 base).sched.lastOwner :=
  by decide +kernel

theorem witness_SelectionSwitchesTheWall_3 :
    (selS false 0 base).held = false ∧ (selS false 0 base).sched.event = true ∧ (selS false 0 base).maySelect = true ∧ (selS
    false 0 base).choiceWaits = false ∧ (selS false 0 base).choose.job = some (jr 0 0) ∧ (jr 0 0).maint = none ∧ (selS false
    0 base).loadReady (jr 0 0) = false ∧ (selS true 0 base).held = false ∧ (selS true 0 base).sched.event = true ∧ (selS
    true 0 base).maySelect = true ∧ (selS true 0 base).choiceWaits = false ∧ (selS true 0 base).jobAt 5 0 = some (jr 0 0) ∧
    (chosenS 1 (s1a rE0)).held = false ∧ (chosenS 1 (s1a rE0)).sched.chosen = some (5, 0) ∧ (chosenS 1 (s1a rE0)).jobAt 5 0
    = some (jr 0 1) ∧ (chosenS 1 (s1a rE0)).loadReady (jr 0 1) = true ∧ (chosenS 1 (s1a rE0)).maySelect = true ∧ (chosenS 1
    (s1a rE0)).sched.event = false ∧ (jr 0 1).overdue (chosenS 1 (s1a rE0)).now = false ∧ (jr 0 1).desc.reach = true ∧
    (chosenS 1 (s1a rE0)).addr ≠ 0 ∧ bit ((chosenS 1 (s1a rE0)).num Obj.UNREACHABLE_MASK) 0 = false ∧ (ow (sr (selS true 0
    base))).mortar.credits = [] ∧ (∀ m ∈ (ow (sr (selS true 0 base))).mortar.flight, m.parity = (ow (sr (selS true 0
    base))).mortar.parity) ∧ (ow (sr (selS true 0 base))).wall.shadowUe = [] ∧ (ow (sr (selS true 0 base))).tables.pending =
    false ∧ (ow (sr (selS true 0 base))).tables.appliedNow = false ∧ (∀ c < 68, (ow (sr (selS true 0 base))).courseState c ≠
    3) ∧ le ((ow (sr (selS true 0 base))).hbmBytes (jr 0 0).desc.bundle 64) 16 1 ≤ (ow (sr (selS true 0
    base))).logicalCourses ∧ (jr 0 0).desc.paramsEn = false ∧ (jr 0 0).client = (ow (sr (selS true 0 base))).sched.lastOwner
    :=
  by decide +kernel

theorem witness_JobTimersAct_1 :
    (tS jcd).held = false ∧ ((tS jcd).jobsOf 5).head? = some jcd ∧ jcd.desc.cadence = true ∧ jcd.elig.isSome = true ∧
    jcd.desc.deadline ≤ (tS jcd).now ∧ (tS jcd).sched.hold = none ∧ jcd.maint = none :=
  by decide +kernel

theorem witness_JobTimersAct_2 :
    (tS jnb).held = false ∧ ((tS jnb).jobsOf 5).head? = some jnb ∧ jnb.candAt.isSome = true ∧ jnb.elig = none ∧ jnb.desc.cadence
    = false ∧ jnb.desc.launch ≤ (tS jnb).now ∧ (tS jnb).sched.run = none :=
  by decide +kernel

theorem witness_JobTimersAct_3 :
    (at_ rEnd 1000).held = false ∧ (at_ rEnd 1000).sched.run = some run1 ∧ run1.start + run1.job.desc.maxRun ≤ (at_ rEnd
    1000).now ∧ (at_ rEnd 1000).jobDone = false ∧ (at_ rEnd 1000).sched.tear = none ∧ (∀ f ∈ (at_ rEnd 1000).faults.reports,
    f.code ≠ 2305) :=
  by decide +kernel

theorem witness_ClientCommandsFollowTheRingState_1 :
    h1.held = false ∧ h1.host.linkUp = true ∧ h1.nv.ready = true ∧ h1.ringState 5 = 1 ∧ h1.sched.hold = none ∧ jq 8 ∈ h1.jobsOf
    5 ∧ (jq 8).maint = none ∧ h1.clientHalted 5 = true ∧ h1.haltedNow 5 = none ∧ h1.ringState 5 ≠ 0 ∧ h1.ringState 5 ≠ 3 :=
  by decide +kernel

theorem witness_ClientCommandsFollowTheRingState_2 :
    e0.held = false ∧ e0.host.linkUp = true ∧ e0.nv.ready = true ∧ e0.ringState 5 = 0 ∧ e0.ringConfigOk 5 = true ∧ e0.ringState
    5 ≠ 1 ∧ e0.ringState 5 ≠ 3 ∧ e0.resumable 5 = false :=
  by decide +kernel

theorem witness_ClientCommandsFollowTheRingState_3 :
    hNow.held = false ∧ hNow.host.linkUp = true ∧ hNow.nv.ready = true ∧ hNow.ringState 5 = 1 ∧ hNow.sched.hold = none ∧ jq 8 ∈
    hNow.jobsOf 5 ∧ (jq 8).maint = none ∧ hNow.haltedNow 5 = some true ∧ hNow.ringState 5 ≠ 0 ∧ hNow.ringState 5 ≠ 3 :=
  by decide +kernel

theorem witness_ClientCommandsFollowTheRingState_4 :
    (st1.setNum (Obj.RING_STATE 5) 3).held = false ∧ (st1.setNum (Obj.RING_STATE 5) 3).host.linkUp = true ∧ (st1.setNum
    (Obj.RING_STATE 5) 3).nv.ready = true ∧ (st1.setNum (Obj.RING_STATE 5) 3).ringState 5 = 3 ∧ (st1.setNum (Obj.RING_STATE
    5) 3).ringState 5 ≠ 0 ∧ (st1.setNum (Obj.RING_STATE 5) 3).ringState 5 ≠ 1 ∧ (st1.setNum (Obj.RING_STATE 5) 3).resumable
    5 = false :=
  by decide +kernel

theorem witness_HostAccessesAreServed_1 :
    (hy true).held = false ∧ (hy true).host.linkUp = true ∧ 8193 + 3 ≤ 2 ^ (hy true).bar2Log2 ∧ 8193 + 3 ≤ 2 ^ 38 ∧ (hy
    true).hostBarred = false ∧ (hy true).calPause = false ∧ (hy true).bar2Window + 8193 + 3 ≤ usableEnd ∧ (∀ (x : Nat), (hy
    true).bar2Window + 8193 ≤ x → x < (hy true).bar2Window + 8193 + 3 → (hy true).hbmDead x = false) ∧ (∀ w ∈ (hy
    true).hbm.ce ++ (hy true).hbm.ue, w / 8 ∉ linesOf ((hy true).bar2Window + 8193) 3) ∧ 1 ≤ [7, 7, 7].length ∧ 8193 + [7,
    7, 7].length ≤ 2 ^ (hy true).bar2Log2 ∧ 8193 + [7, 7, 7].length ≤ 2 ^ 38 ∧ (hy true).bar2Window + 8193 + [7, 7,
    7].length ≤ usableEnd ∧ (∀ (x : Nat), (hy true).bar2Window + 8193 ≤ x → x < (hy true).bar2Window + 8193 + [7, 7,
    7].length → (hy true).hbmDead x = false) ∧ (∀ w ∈ (hy true).hbm.ce ++ (hy true).hbm.ue, w / 8 ∉ State.mergedLines ((hy
    true).bar2Window + 8193) [7, 7, 7].length) ∧ (8192 < (hy true).bar2Window + 8193 ∨ (hy true).bar2Window + 8193 + [7, 7,
    7].length ≤ 8192) ∧ (0 = 0 ∧ 16368 + 3 ≤ 65536 ∨ 0 = 4 ∧ 16368 + 3 ≤ 4096) ∧ State.sizeOk 0 16368 3 = false ∧ 5 < 2 ^ 32
    ∧ 2147483648 + 8 < 2 ^ 32 ∧ bit (2147483648 + 8) 31 = true ∧ (hy true).host.busy = false ∧ 1 ≤ (2147483648 + 8) % 2048 ∧
    (2147483648 + 8) % 2048 ≤ 1920 ∧ 2147506002 < 2 ^ 32 ∧ bit 2147506002 31 = true ∧ 2147506002 % 65536 = 22354 ∧ (hy
    true).num Obj.HOST_RESET_ENABLE = 1 ∧ (hy true).nv.ready = true ∧ (hy true).warmRefused = false ∧ 2147506003 < 2 ^ 32 ∧
    2147506003 % 65536 ≠ 22354 ∧ 3 ∈ (hy true).host.due ∧ (hy true).vectorMasked 3 = true :=
  by decide +kernel

theorem witness_HostAccessesAreServed_2 :
    let x1 := (hy false).regSet (32780 + 48) 0
    x1.held = false ∧ x1.host.linkUp = true ∧ 8193 + 1 ≤ 2 ^ x1.bar2Log2 ∧ 8193 + 1 ≤ 2 ^ 38 ∧ x1.hostBarred = false ∧
    x1.calPause = false ∧ x1.bar2Window + 8193 + 1 ≤ usableEnd ∧ (∀ (x : Nat), x1.bar2Window + 8193 ≤ x → x < x1.bar2Window
    + 8193 + 1 → x1.hbmDead x = false) ∧ (∀ w ∈ x1.hbm.ce ++ x1.hbm.ue, w / 8 ∉ linesOf (x1.bar2Window + 8193) 1) ∧ 1 ≤
    [7].length ∧ 8193 + [7].length ≤ 2 ^ x1.bar2Log2 ∧ 8193 + [7].length ≤ 2 ^ 38 ∧ x1.bar2Window + 8193 + [7].length ≤
    usableEnd ∧ (∀ (x : Nat), x1.bar2Window + 8193 ≤ x → x < x1.bar2Window + 8193 + [7].length → x1.hbmDead x = false) ∧ (∀
    w ∈ x1.hbm.ce ++ x1.hbm.ue, w / 8 ∉ State.mergedLines (x1.bar2Window + 8193) [7].length) ∧ (8194 < x1.bar2Window + 8193
    ∨ x1.bar2Window + 8193 + [7].length ≤ 8194) ∧ (4 = 0 ∧ 4080 + 4 ≤ 65536 ∨ 4 = 4 ∧ 4080 + 4 ≤ 4096) ∧ 5 < 2 ^ 32 ∧
    2147483648 < 2 ^ 32 ∧ bit 2147483648 31 = true ∧ x1.host.busy = false ∧ (2147483648 % 2048 = 0 ∨ 1920 < 2147483648 %
    2048) ∧ 2147506002 < 2 ^ 32 ∧ bit 2147506002 31 = true ∧ 2147506002 % 65536 = 22354 ∧ x1.num Obj.HOST_RESET_ENABLE = 1 ∧
    x1.nv.ready = true ∧ x1.warmRefused = false ∧ 2147506003 < 2 ^ 32 ∧ 2147506003 % 65536 ≠ 22354 ∧ 3 ∈ x1.host.due ∧
    x1.vectorMasked 3 = false ∧ (Store.get (fun _ => 0) x1.host.sentAt 3 = 0) :=
  by decide +kernel

theorem witness_HostAccessesAreServed_3 :
    (barred (hy false)).held = false ∧ (barred (hy false)).host.linkUp = true ∧ 8193 + 1 ≤ 2 ^ (barred (hy false)).bar2Log2 ∧
    8193 + 1 ≤ 2 ^ 38 ∧ (barred (hy false)).hostBarred = true ∧ 1 ≤ [7].length ∧ 8193 + [7].length ≤ 2 ^ (barred (hy
    false)).bar2Log2 ∧ 8193 + [7].length ≤ 2 ^ 38 ∧ (4 = 0 ∧ 4080 + 3 ≤ 65536 ∨ 4 = 4 ∧ 4080 + 3 ≤ 4096) ∧ State.sizeOk 4
    4080 3 = false ∧ 5 < 2 ^ 32 ∧ 2147506003 < 2 ^ 32 ∧ 2147506003 % 65536 ≠ 22354 ∧ 3 ∈ (barred (hy false)).host.due ∧
    (barred (hy false)).vectorMasked 3 = true :=
  by decide +kernel

theorem witness_HostResetsEmptyTheRings :
    hrS.held = false ∧ hrS.host.linkUp = true ∧ 8 ∈ [1, 2, 4, 8, 16] ∧ hrS.host.perst = false ∧ hrS.nv.otp.bad = false ∧ 3 ≤
    hrS.nv.step :=
  by decide +kernel

theorem witness_FaultReportsTearTheJobDown_1 :
    (fS 0).held = false ∧ (fS 0).faults.reports = [rep1 0 (cl rEnd)] ∧ (rep1 0 (cl rEnd)).parity = (fS 0).mortar.parity ∧ (rep1
    0 (cl rEnd)).remote = none ∧ (rep1 0 (cl rEnd)).treeError = false ∧ (fS 0).sched.run = some rx ∧ rx.job.maint = none ∧
    (fS 0).sched.tear = none ∧ (fS 0).faults.queue.length < 64 ∧ rx.job.client ≠ 0 :=
  by decide +kernel

theorem witness_FaultReportsTearTheJobDown_2 :
    (uS 513).held = false ∧ (uS 513).faults.queue = [lr, lr] ∧ (uS 513).hbmDead (206124875776 + 64 * ((uS 513).num
    Obj.LOG_WRITTEN % 262144)) = false ∧ (206124875776 < 206124875776 + 64 * ((uS 513).num Obj.LOG_WRITTEN % 262144) ∨
    206124875776 + 64 * ((uS 513).num Obj.LOG_WRITTEN % 262144) + 64 ≤ 206124875776) ∧ (uS 513).pins.uart = [[1, 2]] ∧ ((uS
    513).someFn 2).isSome = true ∧ ((uS 513).someFn 3).isSome = true :=
  by decide +kernel

theorem witness_FaultReportsTearTheJobDown_3 :
    tearS.held = false ∧ tearS.sched.run = some run2 ∧ tearS.sched.tear = some tear1 ∧ tear1.at_ ≤ tearS.clock ∧ run2.job.maint
    = none ∧ run2.mute = false ∧ tear1.owed = false :=
  by decide +kernel

theorem witness_FaultReportsTearTheJobDown_4 :
    (fS 1).held = false ∧ (fS 1).faults.reports = [rep1 1 (cl rEnd)] ∧ (rep1 1 (cl rEnd)).parity ≠ (fS 1).mortar.parity ∧ (rep1
    1 (cl rEnd)).remote = none :=
  by decide +kernel

theorem witness_FaultReportsTearTheJobDown_5 :
    (ddd (uS 513) (206124875776 + 64 * 513)).held = false ∧ (ddd (uS 513) (206124875776 + 64 * 513)).faults.queue = [lr, lr] ∧
    (ddd (uS 513) (206124875776 + 64 * 513)).hbmDead (206124875776 + 64 * ((ddd (uS 513) (206124875776 + 64 * 513)).num
    Obj.LOG_WRITTEN % 262144)) = true ∧ (ddd (uS 513) (206124875776 + 64 * 513)).pins.uart = [[1, 2]] ∧ ((ddd (uS 513)
    (206124875776 + 64 * 513)).someFn 2).isSome = true ∧ ((ddd (uS 513) (206124875776 + 64 * 513)).someFn 3).isSome = true
    :=
  by decide +kernel

theorem witness_PowerFollowsTheSamples_1 :
    (thr 1 [9, 8, 7]).held = false ∧ (thr 1 [9, 8, 7]).tide.nextThrottle ≤ (thr 1 [9, 8, 7]).now ∧ (thr 1 [9, 8, 7]).tideAt 0
    1024 = true ∧ bit ((thr 1 [9, 8, 7]).num Obj.THROTTLE_DISABLE) 4 = false ∧ (thr 1 [9, 8, 7]).num Obj.RATE_NOW < (thr 1
    [9, 8, 7]).before.thermalCandidate Obj.THROTTLE_POINTS ((thr 1 [9, 8, 7]).hottest 17 4) ((thr 1 [9, 8, 7]).anyFaulty 17
    4) ∧ 3 ≤ (thr 1 [9, 8, 7]).csa.candidates.length ∧ (dsp 5 4).held = false ∧ (dsp 5 4).tide.nextDispatch ≤ (dsp 5 4).now
    ∧ (dsp 5 4).tideAt 0 1024 = true ∧ bit ((dsp 5 4).num Obj.DISPATCH_THROTTLE_DISABLE) 4 = false ∧ (dsp 5 4).num
    Obj.POWER_LIMIT ≠ 0 ∧ (dsp 5 4).num Obj.POWER_LIMIT < 9 ∧ 1 < (dsp 5 4).num Obj.DISPATCH_LEVEL ∧ (dsp 5 4).num
    Obj.DISPATCH_LEVEL ≤ 64 ∧ base.held = false ∧ 1 < [5, 2400].length ∧ base.calibrating 1 = false ∧ calN.held = false ∧
    calN.tide.nextSensor ≤ calN.now ∧ calN.tideAt 0 1048576 = true ∧ ([-65, 99].getD (calN.now / 1048576 % 32) 0 < -64 ∨ 64
    < [-65, 99].getD (calN.now / 1048576 % 32) 0) ∧ au.held = false ∧ au.powerState = 1 ∧ au.power.automatic = true ∧ (∃ g <
    16, au.num (Obj.ENABLE g) = 1 ∧ au.num (Obj.NEXT_LAUNCH g) ≤ au.now + 800) ∧ (wk 800 false).held = false ∧ (wk 800
    false).powerState = 2 ∧ (wk 800 false).power.wakeAt + 800 ≤ (wk 800 false).now ∧ (wk 800 false).sched.run = none ∧ (wk
    800 false).sched.hold = none ∧ (wk 800 false).power.drain = none ∧ dr.held = false ∧ dr.power.drain = some
    { abandon := false, at_ := 0 } ∧ dr.drained = true ∧ rEnd.pins.off = false ∧ rEnd.num Obj.TRIP_LATCHED = 0 ∧ rEnd.held =
    false ∧ rEnd.sched.tear = none :=
  by decide +kernel

theorem witness_PowerFollowsTheSamples_2 :
    (thr 1 []).held = false ∧ (thr 1 []).tide.nextThrottle ≤ (thr 1 []).now ∧ (thr 1 []).tideAt 0 1024 = true ∧ bit ((thr 1
    []).num Obj.THROTTLE_DISABLE) 4 = false ∧ (thr 1 []).num Obj.RATE_NOW < (thr 1 []).before.thermalCandidate
    Obj.THROTTLE_POINTS ((thr 1 []).hottest 17 4) ((thr 1 []).anyFaulty 17 4) ∧ (thr 1 []).csa.candidates.length < 3 ∧ (dsp
    0 64).held = false ∧ (dsp 0 64).tide.nextDispatch ≤ (dsp 0 64).now ∧ (dsp 0 64).tideAt 0 1024 = true ∧ bit ((dsp 0
    64).num Obj.DISPATCH_THROTTLE_DISABLE) 4 = false ∧ ((dsp 0 64).num Obj.POWER_LIMIT = 0 ∨ 9 ≤ (dsp 0 64).num
    Obj.POWER_LIMIT) ∧ (dsp 0 64).before.thermalCandidate Obj.DISPATCH_POINTS ((dsp 0 64).hottest 0 17) ((dsp 0
    64).anyFaulty 0 17) ≤ (dsp 0 64).num Obj.DISPATCH_LEVEL ∧ (dsp 0 64).before.thermalCandidate Obj.DISPATCH_POINTS ((dsp 0
    64).hottest 0 17) ((dsp 0 64).anyFaulty 0 17) ≤ 64 ∧ base.held = false ∧ 1 < [5, 2401].length ∧ base.calibrating 1 =
    false ∧ ([5, 2401].getD 1 0 < -640 ∨ 2400 < [5, 2401].getD 1 0) ∧ calT.held = false ∧ (calT.now < calT.tide.nextSensor ∨
    calT.tideAt 0 1048576 = false) ∧ calT.tideAt 512 1024 = true ∧ (∃ d ∈ calT.power.tests, d ≤ calT.now) ∧ au.held = false
    ∧ au.powerState = 1 ∧ au.power.automatic = true ∧ (∃ g < 16, au.num (Obj.ENABLE g) = 1 ∧ au.num (Obj.NEXT_LAUNCH g) ≤
    au.now + 800) ∧ (wk 800 true).held = false ∧ (wk 800 true).powerState = 2 ∧ (wk 800 true).power.wakeAt + 800 ≤ (wk 800
    true).now ∧ (wk 800 true).sched.run = none ∧ (wk 800 true).sched.hold = none ∧ (wk 800 true).power.drain = none ∧
    dr.held = false ∧ dr.power.drain = some { abandon := false, at_ := 0 } ∧ dr.drained = true ∧ hel.pins.off = false ∧
    hel.num Obj.TRIP_LATCHED = 0 ∧ hel.held = true :=
  by decide +kernel

theorem witness_PowerFollowsTheSamples_3 :
    (thr 64 []).held = false ∧ (thr 64 []).tide.nextThrottle ≤ (thr 64 []).now ∧ (thr 64 []).tideAt 0 1024 = true ∧ bit ((thr 64
    []).num Obj.THROTTLE_DISABLE) 4 = false ∧ (thr 64 []).before.thermalCandidate Obj.THROTTLE_POINTS ((thr 64 []).hottest
    17 4) ((thr 64 []).anyFaulty 17 4) ≤ (thr 64 []).num Obj.RATE_NOW ∧ (dsp 5 4).held = false ∧ (dsp 5 4).tide.nextDispatch
    ≤ (dsp 5 4).now ∧ (dsp 5 4).tideAt 0 1024 = true ∧ bit ((dsp 5 4).num Obj.DISPATCH_THROTTLE_DISABLE) 4 = false ∧ (dsp 5
    4).num Obj.POWER_LIMIT ≠ 0 ∧ (dsp 5 4).num Obj.POWER_LIMIT < 9 ∧ 1 < (dsp 5 4).num Obj.DISPATCH_LEVEL ∧ (dsp 5 4).num
    Obj.DISPATCH_LEVEL ≤ 64 ∧ calN.held = false ∧ calN.tide.nextSensor ≤ calN.now ∧ calN.tideAt 0 1048576 = true ∧ ([99,
    99].getD (calN.now / 1048576 % 32) 0 < -64 ∨ 64 < [99, 99].getD (calN.now / 1048576 % 32) 0) ∧ au.held = false ∧
    au.powerState = 1 ∧ au.power.automatic = true ∧ (∃ g < 16, au.num (Obj.ENABLE g) = 1 ∧ au.num (Obj.NEXT_LAUNCH g) ≤
    au.now + 800) ∧ (wk 800 false).held = false ∧ (wk 800 false).powerState = 2 ∧ (wk 800 false).power.wakeAt + 800 ≤ (wk
    800 false).now ∧ (wk 800 false).sched.run = none ∧ (wk 800 false).sched.hold = none ∧ (wk 800 false).power.drain = none
    ∧ dr.held = false ∧ dr.power.drain = some { abandon := false, at_ := 0 } ∧ dr.drained = true ∧ rEnd.pins.off = false ∧
    rEnd.num Obj.TRIP_LATCHED = 0 ∧ rEnd.held = false ∧ rEnd.sched.tear = none :=
  by decide +kernel

theorem witness_ResetsLeaveTheStatedState_1 :
    (c0 0 true).addr < 64 ∧ (c0 0 true).boot < 4 ∧ (offS.pins.off = true ∨ offS.pins.por = true) ∧ jtagHolds offS.pins.jtag =
    false ∧ (c0 0 true).otpOk = true ∧ (c0 0 true).boot ≠ 2 ∧ (porS 3).pins.por = true ∧ jtagHolds (porS 3).pins.jtag = true
    ∧ rEnd.pins.off = false ∧ warm1.held = false ∧ warm1.nv.warm = true :=
  by decide +kernel

theorem witness_ResetsLeaveTheStatedState_2 :
    (c0 1 false).addr < 64 ∧ (c0 1 false).boot < 4 ∧ (hel.pins.off = true ∨ hel.pins.por = true) ∧ jtagHolds hel.pins.jtag =
    false ∧ (c0 1 false).otpOk = false ∧ (c0 0 true).addr < 64 ∧ (c0 0 true).boot < 4 ∧ (porS 7).pins.por = true ∧ jtagHolds
    (porS 7).pins.jtag = true ∧ rEnd.pins.off = false ∧ (8 < 2 ∨ 7 < 8) ∧ wx18.held = false ∧ wx18.nv.warm = true :=
  by decide +kernel

theorem witness_ResetsLeaveTheStatedState_3 :
    (c0 3 true).addr < 64 ∧ (c0 3 true).boot < 4 ∧ (hel.pins.off = true ∨ hel.pins.por = true) ∧ jtagHolds hel.pins.jtag = false
    ∧ (c0 3 true).otpOk = true ∧ (c0 3 true).boot ≠ 2 ∧ (c0 0 true).addr < 64 ∧ (c0 0 true).boot < 4 ∧ (porS 7).pins.por =
    true ∧ jtagHolds (porS 7).pins.jtag = true ∧ rEnd.pins.off = false ∧ 2 = 2 ∧ wx18.held = false ∧ wx18.nv.warm = true :=
  by decide +kernel

theorem witness_ResetsLeaveTheStatedState_4 :
    (c0 2 true).addr < 64 ∧ (c0 2 true).boot < 4 ∧ ((porS 255).pins.off = true ∨ (porS 255).pins.por = true) ∧ jtagHolds (porS
    255).pins.jtag = false ∧ (c0 2 true).otpOk = true ∧ (c0 2 true).boot = 2 ∧ (c0 0 true).addr < 64 ∧ (c0 0 true).boot < 4
    ∧ (porS 7).pins.por = true ∧ jtagHolds (porS 7).pins.jtag = true ∧ rEnd.pins.off = false ∧ wx18.held = false ∧
    wx18.nv.warm = true :=
  by decide +kernel

theorem witness_FlashAndPinsFollowTheirRules_1 :
    (fw FlashStep.mark).nv.work = some (fj FlashStep.mark) ∧ (fw FlashStep.mark).held = false ∧ (fj FlashStep.mark).step =
    FlashStep.mark ∧ ((fj FlashStep.mark).step = FlashStep.verify ∨ (fj FlashStep.mark).step = FlashStep.mark) ∧ ((fj
    FlashStep.mark).step = FlashStep.mark ∨ (fj FlashStep.mark).step = FlashStep.page 1) ∧ drvS.pinDrives 3 = true ∧
    tch.held = false ∧ tch.pinFn 3 = 4 ∧ (tch.pin 3).tachAt.getD (tch.pin 3).tachFrom + 67108864 ≤ tch.clock :=
  ⟨rfl, by decide +kernel⟩

theorem witness_FlashAndPinsFollowTheirRules_2 :
    (fw FlashStep.eraseMarker).nv.work = some (fj FlashStep.eraseMarker) ∧ (fw FlashStep.eraseMarker).held = false ∧ (fj
    FlashStep.eraseMarker).step = FlashStep.eraseMarker ∧ ((fj FlashStep.eraseMarker).step = FlashStep.eraseMarker ∨ (fj
    FlashStep.eraseMarker).step = FlashStep.eraseBlock 1) ∧ tch.held = false ∧ tch.pinFn 3 = 4 ∧ (tch.pin 3).tachAt.getD
    (tch.pin 3).tachFrom + 67108864 ≤ tch.clock :=
  ⟨rfl, by decide +kernel⟩

theorem witness_FlashAndPinsFollowTheirRules_3 :
    (fw (FlashStep.eraseImages 1)).nv.work = some (fj (FlashStep.eraseImages 1)) ∧ (fw (FlashStep.eraseImages 1)).held = false ∧
    (fj (FlashStep.eraseImages 1)).step = FlashStep.eraseImages 1 ∧ drvS.pinDrives 3 = true ∧ tch.held = false ∧ tch.pinFn 3
    = 4 ∧ (tch.pin 3).tachAt.getD (tch.pin 3).tachFrom + 67108864 ≤ tch.clock :=
  ⟨rfl, by decide +kernel⟩

theorem witness_FlashAndPinsFollowTheirRules_4 :
    (fw (FlashStep.eraseImages 0)).nv.work = some (fj (FlashStep.eraseImages 0)) ∧ (fw (FlashStep.eraseImages 0)).held = false ∧
    (fj (FlashStep.eraseImages 0)).step = FlashStep.eraseImages 0 ∧ drvS.pinDrives 3 = true ∧ tch.held = false ∧ tch.pinFn 3
    = 4 ∧ (tch.pin 3).tachAt.getD (tch.pin 3).tachFrom + 67108864 ≤ tch.clock :=
  ⟨rfl, by decide +kernel⟩

theorem witness_FlashAndPinsFollowTheirRules_5 :
    (fw (FlashStep.page 1)).nv.work = some (fj (FlashStep.page 1)) ∧ (fw (FlashStep.page 1)).held = false ∧ (fj (FlashStep.page
    1)).step = FlashStep.page 1 ∧ ((fj (FlashStep.page 1)).step = FlashStep.mark ∨ (fj (FlashStep.page 1)).step =
    FlashStep.page 1) ∧ base.held = false ∧ (base.pin 15).switchAt = none ∧ base.pinDrives 15 = false ∧ tch.held = false ∧
    tch.pinFn 3 = 4 ∧ (tch.pin 3).tachAt.getD (tch.pin 3).tachFrom + 67108864 ≤ tch.clock :=
  ⟨rfl, by decide +kernel⟩

theorem witness_FlashAndPinsFollowTheirRules_6 :
    (fw FlashStep.verify).nv.work = some (fj FlashStep.verify) ∧ (fw FlashStep.verify).held = false ∧ (fj FlashStep.verify).step
    = FlashStep.verify ∧ ((fj FlashStep.verify).step = FlashStep.verify ∨ (fj FlashStep.verify).step = FlashStep.mark) ∧
    drvS.pinDrives 3 = true ∧ tch.held = false ∧ tch.pinFn 3 = 4 ∧ (tch.pin 3).tachAt.getD (tch.pin 3).tachFrom + 67108864 ≤
    tch.clock :=
  ⟨rfl, by decide +kernel⟩

theorem witness_RequestsAreAnsweredOnce_1 :
    let x1 := ask (heardS base) (rq 1 8208 0 [])
    (ask base (rq 1 8208 0 [])).takes (rq 1 8208 0 []) ∧ (rowOfRequest (rq 1 8208 0 []) ≠ Row.notifyAck ∨ (rq 1 8208 0 []).src =
    Source.mailbox) ∧ (rq 1 8208 0 []).src = Source.port 7 ∧ x1.held = false ∧ x1.waits (rq 1 8208 0 []) = true ∧
    x1.nv.otp.bad = false ∧ rowOfRequest (rq 1 8208 0 []) ≠ Row.notifyAck ∧ x1.isDuplicate 7 (rq 1 8208 0 []).seq = true ∧
    x1.sourceOf 7 = some known1 ∧ (List.find? (fun p => p.1 == (rq 1 8208 0 []).seq) known1.responses = some (1, [1, 2, 3]))
    ∧ fromPort (fr 48).request = true ∧ base.held = false ∧ 8 ≤ base.nv.step ∧ (fr 48).fcsOk = true ∧ frameWanted base (fr
    48) = true ∧ frameLengthOk (fr 48) = true ∧ base.shore.queue.length < 16 :=
  ⟨takes_of (by decide +kernel), by decide +kernel⟩

theorem witness_RequestsAreAnsweredOnce_2 :
    (rq 1 8208 0 []).src = Source.port 7 ∧ (ask noSrc (rq 1 8208 0 [])).held = false ∧ (ask noSrc (rq 1 8208 0 [])).waits (rq 1
    8208 0 []) = true ∧ (ask noSrc (rq 1 8208 0 [])).nv.otp.bad = false ∧ rowOfRequest (rq 1 8208 0 []) ≠ Row.notifyAck ∧
    (ask noSrc (rq 1 8208 0 [])).isDuplicate 7 (rq 1 8208 0 []).seq = true ∧ (ask noSrc (rq 1 8208 0 [])).sourceOf 7 = some
    known0 ∧ (List.find? (fun p => p.1 == (rq 1 8208 0 []).seq) known0.responses = none) ∧ fromPort (fr 48).request = true ∧
    fullQ.held = false ∧ 8 ≤ fullQ.nv.step ∧ (fr 48).fcsOk = true ∧ frameWanted fullQ (fr 48) = true ∧ frameLengthOk (fr 48)
    = true ∧ 16 ≤ fullQ.shore.queue.length :=
  by decide +kernel

theorem witness_RequestsAreAnsweredOnce_3 :
    rqM.takes (mb (rq 1 8208 0 [])) ∧ (rowOfRequest (mb (rq 1 8208 0 [])) ≠ Row.notifyAck ∨ (mb (rq 1 8208 0 [])).src =
    Source.mailbox) ∧ (mb (rq 1 8208 0 [])).src = Source.mailbox :=
  ⟨takes_of (by decide +kernel), by decide +kernel⟩

theorem witness_RequestsAreAnsweredOnce_4 :
    fromPort frBad.request = true ∧ base.held = false ∧ 8 ≤ base.nv.step ∧ frBad.fcsOk = false :=
  by decide +kernel

theorem witness_RequestsAreAnsweredOnce_5 :
    fromPort frOther.request = true ∧ base.held = false ∧ 8 ≤ base.nv.step ∧ frOther.fcsOk = true ∧ frameWanted base frOther =
    false :=
  by decide +kernel

theorem witness_RequestsAreAnsweredOnce_6 :
    (ask base rq9).takes rq9 ∧ (rowOfRequest rq9 ≠ Row.notifyAck ∨ rq9.src = Source.mailbox) ∧ rq9.src = Source.port 7 ∧
    headerCode rq9 ≠ 0 :=
  ⟨takes_of (by decide +kernel), by decide +kernel⟩

theorem witness_LeaseChangesAsItsTableSays_1 :
    (ask base qc).passes qc ∧ qc.opcode = 16 ∧ (ask base qc).leaseMs qc = some 200 ∧ qc.src = Source.port 7 ∧ (ask base
    qc).shore.lease = 0 ∧ lx.held = false ∧ lx.shore.lease = 1 ∧ lx.shore.leaseEnd / 2 < lx.lclk :=
  ⟨passes_of (by decide +kernel), by decide +kernel⟩

theorem witness_LeaseChangesAsItsTableSays_2 :
    (ask base qi).passes qi ∧ qi.opcode = 48 :=
  ⟨passes_of (by decide +kernel), by decide +kernel⟩

theorem witness_LeaseChangesAsItsTableSays_3 :
    (ask base ql).passes ql ∧ ql.opcode = 18 ∧ (ask base ql).holdsLease ql.src = false :=
  ⟨passes_of (by decide +kernel), by decide +kernel⟩

theorem witness_LeaseChangesAsItsTableSays_4 :
    (ask base qd).passes qd ∧ qd.opcode = 19 ∧ (ask base qd).holdsLease qd.src = false :=
  ⟨passes_of (by decide +kernel), by decide +kernel⟩

theorem witness_LeaseChangesAsItsTableSays_5 :
    (ask base qb).passes qb ∧ (qb.opcode = 16 ∨ qb.opcode = 17) ∧ (ask base qb).leaseMs qb = none :=
  ⟨passes_of (by decide +kernel), by decide +kernel⟩

theorem witness_LeaseChangesAsItsTableSays_6 :
    (ask base qr).passes qr ∧ qr.opcode = 20 ∧ qr.src = Source.port 7 ∧ (ask base qr).shore.lease ≠ 2 :=
  ⟨passes_of (by decide +kernel), by decide +kernel⟩

theorem witness_LeaseChangesAsItsTableSays_7 :
    (ask (mgr base) ql).passes ql ∧ ql.opcode = 18 ∧ (ask (mgr base) ql).shore.lease = 1 ∧ (ask (mgr base) ql).holdsLease ql.src
    = true :=
  ⟨passes_of (by decide +kernel), by decide +kernel⟩

theorem witness_LeaseChangesAsItsTableSays_8 :
    (ask (mgr base) qd).passes qd ∧ qd.opcode = 19 ∧ (ask (mgr base) qd).shore.lease = 1 ∧ (ask (mgr base) qd).holdsLease qd.src
    = true :=
  ⟨passes_of (by decide +kernel), by decide +kernel⟩

theorem witness_LeaseChangesAsItsTableSays_9 :
    (ask base qn).passes qn ∧ qn.opcode = 17 ∧ (ask base qn).leaseMs qn = some 300 ∧ ((ask base qn).shore.lease ≠ 1 ∨ (ask base
    qn).holdsLease qn.src = false) :=
  ⟨passes_of (by decide +kernel), by decide +kernel⟩

theorem witness_LeaseChangesAsItsTableSays_10 :
    (ask (mgr base) qn).passes qn ∧ qn.opcode = 17 ∧ (ask (mgr base) qn).leaseMs qn = some 300 ∧ (ask (mgr base) qn).shore.lease
    = 1 ∧ (ask (mgr base) qn).holdsLease qn.src = true :=
  ⟨passes_of (by decide +kernel), by decide +kernel⟩

theorem witness_LeaseChangesAsItsTableSays_11 :
    (ask (box base true 9) (mb ql)).passes (mb ql) ∧ (mb ql).opcode = 18 ∧ (ask (box base true 9) (mb ql)).shore.lease = 2 ∧ (mb
    ql).src = Source.mailbox ∧ (ask (box base true 9) (mb ql)).shore.delegated = true :=
  ⟨passes_of (by decide +kernel), by decide +kernel⟩

theorem witness_LeaseChangesAsItsTableSays_12 :
    (ask (box base false 9) (mb ql)).passes (mb ql) ∧ (mb ql).opcode = 18 ∧ (ask (box base false 9) (mb ql)).shore.lease = 2 ∧
    (mb ql).src = Source.mailbox ∧ (ask (box base false 9) (mb ql)).shore.delegated = false :=
  ⟨passes_of (by decide +kernel), by decide +kernel⟩

theorem witness_LeaseChangesAsItsTableSays_13 :
    (ask (box base false 9) (mb qc)).passes (mb qc) ∧ (mb qc).opcode = 16 ∧ (ask (box base false 9) (mb qc)).leaseMs (mb qc) =
    some 200 ∧ (mb qc).src = Source.mailbox ∧ (ask (box base false 9) (mb qc)).shore.lease = 2 :=
  ⟨passes_of (by decide +kernel), by decide +kernel⟩

theorem witness_LeaseChangesAsItsTableSays_14 :
    (ask (box base true 7) qr).passes qr ∧ qr.opcode = 20 ∧ qr.src = Source.port 7 ∧ (ask (box base true 7) qr).shore.lease = 2
    ∧ ((ask (box base true 7) qr).shore.delegated = false ∨ (ask (box base true 7) qr).shore.holder = 7) :=
  ⟨passes_of (by decide +kernel), by decide +kernel⟩

theorem witness_LeaseChangesAsItsTableSays_15 :
    (ask (mgr base) qc).passes qc ∧ qc.opcode = 16 ∧ (ask (mgr base) qc).leaseMs qc = some 200 ∧ qc.src = Source.port 7 ∧ (ask
    (mgr base) qc).shore.lease = 1 ∧ (ask (mgr base) qc).shore.holder = 7 ∧ lx.held = false ∧ lx.shore.lease = 1 ∧
    lx.shore.leaseEnd / 2 < lx.lclk :=
  ⟨passes_of (by decide +kernel), by decide +kernel⟩

theorem witness_LeaseChangesAsItsTableSays_16 :
    (ask base (mb qc)).passes (mb qc) ∧ (mb qc).opcode = 16 ∧ (ask base (mb qc)).leaseMs (mb qc) = some 200 ∧ (mb qc).src =
    Source.mailbox ∧ (ask base (mb qc)).shore.lease = 0 ∧ (ask base (mb qc)).portClaims = false ∧ (ask base (mb qc)).num
    Obj.MAILBOX_CLAIM_ENABLE ≠ 1 :=
  ⟨passes_of (by decide +kernel), by decide +kernel⟩

theorem witness_LeaseChangesAsItsTableSays_17 :
    (both (ask base (mb qc))).passes (mb qc) ∧ (mb qc).opcode = 16 ∧ (both (ask base (mb qc))).leaseMs (mb qc) = some 200 ∧ (mb
    qc).src = Source.mailbox ∧ ((both (ask base (mb qc))).shore.lease = 0 ∧ (both (ask base (mb qc))).portClaims = true ∨
    (both (ask base (mb qc))).shore.lease = 1) :=
  ⟨passes_of (by decide +kernel), by decide +kernel⟩

theorem witness_LeaseChangesAsItsTableSays_18 :
    (ask (box base false 9) qc).passes qc ∧ qc.opcode = 16 ∧ (ask (box base false 9) qc).leaseMs qc = some 200 ∧ qc.src =
    Source.port 7 ∧ ((ask (box base false 9) qc).shore.lease = 1 ∧ (ask (box base false 9) qc).shore.holder ≠ 7 ∨ (ask (box
    base false 9) qc).shore.lease = 2) ∧ lx.held = false ∧ lx.shore.lease = 1 ∧ lx.shore.leaseEnd / 2 < lx.lclk :=
  ⟨passes_of (by decide +kernel), by decide +kernel⟩

theorem witness_LeaseChangesAsItsTableSays_19 :
    (ask (base.setNum Obj.MAILBOX_CLAIM_ENABLE 1) (mb qc)).passes (mb qc) ∧ (mb qc).opcode = 16 ∧ (ask (base.setNum
    Obj.MAILBOX_CLAIM_ENABLE 1) (mb qc)).leaseMs (mb qc) = some 200 ∧ (mb qc).src = Source.mailbox ∧ (ask (base.setNum
    Obj.MAILBOX_CLAIM_ENABLE 1) (mb qc)).shore.lease = 0 ∧ (ask (base.setNum Obj.MAILBOX_CLAIM_ENABLE 1) (mb qc)).portClaims
    = false ∧ (ask (base.setNum Obj.MAILBOX_CLAIM_ENABLE 1) (mb qc)).num Obj.MAILBOX_CLAIM_ENABLE = 1 :=
  ⟨passes_of (by decide +kernel), by decide +kernel⟩

theorem witness_ObjectsAreReadAndWritten_1 :
    (W q9 base).reaches q9 (orow q9) ∧ q9.opcode = 5 ∧ (W q9 base).transferOf q9.src = none ∧ lengthOk (reqKey q9) (orow q9)
    (ofBe q9.body) = true ∧ (W q9 base).transfersFull q9.src = false :=
  ⟨reaches_of (by decide +kernel), by decide +kernel⟩

theorem witness_ObjectsAreReadAndWritten_2 :
    (W q10 (withT base t10)).reaches q10 (orow q10) ∧ q10.opcode = 6 ∧ (W q10 (withT base t10)).ownTransfer q10 true = some t10
    ∧ List.drop 4 q10.body ≠ [] ∧ (List.drop 4 q10.body).length ≤ 1024 ∧ ofBe (List.take 4 q10.body) = t10.data.length ∧
    t10.data.length + (List.drop 4 q10.body).length ≤ t10.total :=
  ⟨reaches_of (by decide +kernel), by decide +kernel⟩

theorem witness_ObjectsAreReadAndWritten_3 :
    (W q11 (withT base t8)).reaches q11 (orow q11) ∧ q11.opcode = 7 ∧ (W q11 (withT base t8)).ownTransfer q11 true = none ∧ (W
    q11 (withT base t8)).ownTransfer q11 false = some t8 :=
  ⟨reaches_of (by decide +kernel), by decide +kernel⟩

theorem witness_ObjectsAreReadAndWritten_4 :
    let x1 := ask (withN base (note0 (some 1) 1)) (rq 33 0 0 [])
    (ask base (rq 1 8208 0 [])).reaches (rq 1 8208 0 []) (orow (rq 1 8208 0 [])) ∧ mS.passes (rq 8 0 0 []) ∧ (rq 1 8208 0
    []).opcode = 1 ∧ (ask base (rq 1 8208 0 [])).wordBad (reqKey (rq 1 8208 0 [])) = false ∧ reqKey (rq 1 8208 0 []) ≠
    Obj.RECORD ∧ reqKey (rq 1 8208 0 []) ≠ Obj.SPILL_RECORD ∧ reqKey (rq 1 8208 0 []) = Obj.TIDE_NOW ∧ octetType (orow (rq 1
    8208 0 [])).ty = false ∧ (rq 8 0 0 []).opcode = 8 ∧ trOld.held = false ∧ trOld.transferOf (Source.port 7) = some (trf 1
    false [1] 1) ∧ (trf 1 false [1] 1).at_ + 100000000 ≤ trOld.clock ∧ nn.held = false ∧ nn.nextNote = some (note0 none 0) ∧
    8 ≤ nn.nv.step ∧ nn.unacked < 4 ∧ nn.notifyMac ≠ 0 ∧ (noteOld 1).held = false ∧ (List.find? (fun n => n.seq == some 3)
    (noteOld 1).shore.notes = some (note0 (some 3) 1)) ∧ (note0 (some 3) 1).sentAt + (noteOld 1).num Obj.NOTIFY_RETRY_MS *
    50000 ≤ (noteOld 1).clock ∧ (note0 (some 3) 1).tries < (noteOld 1).num Obj.NOTIFY_TRIES ∧ (noteOld 1).notifyMac ≠ 0 ∧
    x1.held = false ∧ x1.waits (rq 33 0 0 []) = true ∧ (rq 33 0 0 []).src = Source.port 7 ∧ (rq 33 0 0 []).opcode = 33 ∧ (rq
    33 0 0 []).version = 1 ∧ (List.find? (fun n => n.seq == some (rq 33 0 0 []).seq) x1.shore.notes = some (note0 (some 1)
    1)) ∧ plcaS.held = false ∧ plcaS.shore.plcaDue = true :=
  ⟨reaches_of (by decide +kernel), passes_of (by decide +kernel), by decide +kernel⟩

theorem witness_ObjectsAreReadAndWritten_5 :
    (ask (mgr base) (rq 2 8208 0 (beBytes 8 5))).reaches (rq 2 8208 0 (beBytes 8 5)) (orow (rq 1 8208 0 [])) ∧ rowOfRequest (rq
    2 8208 0 (beBytes 8 5)) = Row.write ∧ (orow (rq 1 8208 0 [])).access = ObjAccess.ro :=
  ⟨reaches_of (by decide +kernel), by decide +kernel⟩

theorem witness_ObjectsAreReadAndWritten_6 :
    (W q1 base).reaches q1 (orow q1) ∧ (orow q1).access ≠ ObjAccess.ro ∧ (orow q1).kind ≠ ObjKind.cmd ∧ octetType (orow q1).ty =
    false ∧ ((W q1 base).heard q1).valueCode (reqKey q1) (orow q1) q1.body = 0 ∧ ((W q1 base).heard q1).stateCode (reqKey
    q1) (orow q1) = 0 ∧ rowOfRequest q1 = Row.write ∧ (orow q1).kind = ObjKind.ctrl ∧ (keyIndex (reqKey q1) < 12544 ∨ 12607
    < keyIndex (reqKey q1)) :=
  ⟨reaches_of (by decide +kernel), by decide +kernel⟩

theorem witness_ObjectsAreReadAndWritten_7 :
    (W q2 g3on).reaches q2 (orow q2) ∧ (orow q2).access ≠ ObjAccess.ro ∧ (orow q2).kind ≠ ObjKind.cmd ∧ octetType (orow q2).ty =
    false ∧ ((W q2 g3on).heard q2).valueCode (reqKey q2) (orow q2) q2.body = 0 ∧ ((W q2 g3on).heard q2).stateCode (reqKey
    q2) (orow q2) = 0 ∧ (orow q2).kind = ObjKind.ctrl ∧ rowOfRequest q2 = Row.generatorEnable ∧ normNum (reqKey q2) (ofBe
    q2.body) = 0 ∧ (W q2 g3on).num (Obj.ENABLE (q2.index - 8224)) = 1 :=
  ⟨reaches_of (by decide +kernel), by decide +kernel⟩

theorem witness_ObjectsAreReadAndWritten_8 :
    (W q2a base).reaches q2a (orow q2a) ∧ (orow q2a).access ≠ ObjAccess.ro ∧ (orow q2a).kind ≠ ObjKind.cmd ∧ octetType (orow
    q2a).ty = false ∧ ((W q2a base).heard q2a).valueCode (reqKey q2a) (orow q2a) q2a.body = 0 ∧ ((W q2a base).heard
    q2a).stateCode (reqKey q2a) (orow q2a) = 0 ∧ (orow q2a).kind = ObjKind.ctrl ∧ rowOfRequest q2a = Row.generatorEnable ∧
    normNum (reqKey q2a) (ofBe q2a.body) = 1 ∧ (W q2a base).num (Obj.ENABLE (q2a.index - 8224)) = 0 ∧ bit (W q2a
    base).tide.offDue (q2a.index - 8224) = false ∧ (W q2a base).num Obj.TIDE_STATE = 0 :=
  ⟨reaches_of (by decide +kernel), by decide +kernel⟩

theorem witness_ObjectsAreReadAndWritten_9 :
    (W q2a (genA 100)).reaches q2a (orow q2a) ∧ (orow q2a).access ≠ ObjAccess.ro ∧ (orow q2a).kind ≠ ObjKind.cmd ∧ octetType
    (orow q2a).ty = false ∧ ((W q2a (genA 100)).heard q2a).valueCode (reqKey q2a) (orow q2a) q2a.body = 0 ∧ ((W q2a (genA
    100)).heard q2a).stateCode (reqKey q2a) (orow q2a) = 0 ∧ (orow q2a).kind = ObjKind.ctrl ∧ rowOfRequest q2a =
    Row.generatorEnable ∧ normNum (reqKey q2a) (ofBe q2a.body) = 1 ∧ (W q2a (genA 100)).num (Obj.ENABLE (q2a.index - 8224))
    = 0 ∧ bit (W q2a (genA 100)).tide.offDue (q2a.index - 8224) = false ∧ (W q2a (genA 100)).num Obj.TIDE_STATE ≠ 0 ∧ (W q2a
    (genA 100)).now + 16 ≤ (W q2a (genA 100)).num (Obj.PHASE (q2a.index - 8224)) :=
  ⟨reaches_of (by decide +kernel), by decide +kernel⟩

theorem witness_ObjectsAreReadAndWritten_10 :
    (W q3 base).reaches q3 (orow q3) ∧ (orow q3).access ≠ ObjAccess.ro ∧ (orow q3).kind ≠ ObjKind.cmd ∧ octetType (orow q3).ty =
    false ∧ ((W q3 base).heard q3).valueCode (reqKey q3) (orow q3) q3.body = 0 ∧ ((W q3 base).heard q3).stateCode (reqKey
    q3) (orow q3) = 0 ∧ (orow q3).kind = ObjKind.ctrl ∧ rowOfRequest q3 = Row.csaBankset ∧ (W q3 base).calPause = false ∧
    bit ((W q3 base).num (Obj.CSA_BANKSET (q3.index - 12544))) 3 = false ∧ bit (normNum (reqKey q3) (ofBe q3.body)) 3 = true
    ∧ ((W q3 base).csaBank 3).lastOwner ≠ q3.index - 12544 :=
  ⟨reaches_of (by decide +kernel), by decide +kernel⟩

theorem witness_ObjectsAreReadAndWritten_11 :
    (W q3z (ownB 5)).reaches q3z (orow q3z) ∧ (orow q3z).access ≠ ObjAccess.ro ∧ (orow q3z).kind ≠ ObjKind.cmd ∧ octetType (orow
    q3z).ty = false ∧ ((W q3z (ownB 5)).heard q3z).valueCode (reqKey q3z) (orow q3z) q3z.body = 0 ∧ ((W q3z (ownB 5)).heard
    q3z).stateCode (reqKey q3z) (orow q3z) = 0 ∧ (orow q3z).kind = ObjKind.ctrl ∧ rowOfRequest q3z = Row.csaBankset ∧ (W q3z
    (ownB 5)).calPause = false ∧ bit ((W q3z (ownB 5)).num (Obj.CSA_BANKSET (q3z.index - 12544))) 3 = true ∧ bit (normNum
    (reqKey q3z) (ofBe q3z.body)) 3 = false :=
  ⟨reaches_of (by decide +kernel), by decide +kernel⟩

theorem witness_ObjectsAreReadAndWritten_12 :
    (W q3 (ownB 5)).reaches q3 (orow q3) ∧ (orow q3).access ≠ ObjAccess.ro ∧ (orow q3).kind ≠ ObjKind.cmd ∧ octetType (orow
    q3).ty = false ∧ ((W q3 (ownB 5)).heard q3).valueCode (reqKey q3) (orow q3) q3.body = 0 ∧ ((W q3 (ownB 5)).heard
    q3).stateCode (reqKey q3) (orow q3) = 0 ∧ (orow q3).kind = ObjKind.ctrl ∧ rowOfRequest q3 = Row.csaBankset ∧ (W q3 (ownB
    5)).calPause = false ∧ bit (normNum (reqKey q3) (ofBe q3.body)) 3 = bit ((W q3 (ownB 5)).num (Obj.CSA_BANKSET (q3.index
    - 12544))) 3 :=
  ⟨reaches_of (by decide +kernel), by decide +kernel⟩

theorem witness_ObjectsAreReadAndWritten_13 :
    (W q4 base).reaches q4 (orow q4) ∧ (orow q4).access ≠ ObjAccess.ro ∧ (orow q4).kind ≠ ObjKind.cmd ∧ octetType (orow q4).ty =
    false ∧ ((W q4 base).heard q4).valueCode (reqKey q4) (orow q4) q4.body = 0 ∧ ((W q4 base).heard q4).stateCode (reqKey
    q4) (orow q4) = 0 ∧ (orow q4).kind = ObjKind.ctrl ∧ (rowOfRequest q4 = Row.entryUnits ∧ Instr.entryUnits q4 =
    Instr.entryUnits q4 ∨ rowOfRequest q4 = Row.priorityMode ∧ Instr.entryUnits q4 = Instr.priorityMode q4) ∧ (W q4
    base).calPause = false ∧ (W q4 base).num (reqKey q4) ≠ normNum (reqKey q4) (ofBe q4.body) :=
  ⟨reaches_of (by decide +kernel), by decide +kernel⟩

theorem witness_ObjectsAreReadAndWritten_14 :
    (W q5 base).reaches q5 (orow q5) ∧ (orow q5).access ≠ ObjAccess.ro ∧ (orow q5).kind ≠ ObjKind.cmd ∧ octetType (orow q5).ty =
    false ∧ ((W q5 base).heard q5).valueCode (reqKey q5) (orow q5) q5.body = 0 ∧ ((W q5 base).heard q5).stateCode (reqKey
    q5) (orow q5) = 0 ∧ (orow q5).kind = ObjKind.ctrl ∧ (rowOfRequest q5 = Row.entryUnits ∧ Instr.priorityMode q5 =
    Instr.entryUnits q5 ∨ rowOfRequest q5 = Row.priorityMode ∧ Instr.priorityMode q5 = Instr.priorityMode q5) ∧ (W q5
    base).calPause = false ∧ (W q5 base).num (reqKey q5) ≠ normNum (reqKey q5) (ofBe q5.body) :=
  ⟨reaches_of (by decide +kernel), by decide +kernel⟩

theorem witness_ObjectsAreReadAndWritten_15 :
    (W q6 base).reaches q6 (orow q6) ∧ (orow q6).access ≠ ObjAccess.ro ∧ (orow q6).kind ≠ ObjKind.cmd ∧ octetType (orow q6).ty =
    false ∧ ((W q6 base).heard q6).valueCode (reqKey q6) (orow q6) q6.body = 0 ∧ ((W q6 base).heard q6).stateCode (reqKey
    q6) (orow q6) = 0 ∧ (orow q6).kind = ObjKind.ctrl ∧ (rowOfRequest q6 = Row.function) ∧ (W q6 base).pinFn (q6.index -
    57344) ≠ normNum (reqKey q6) (ofBe q6.body) :=
  ⟨reaches_of (by decide +kernel), by decide +kernel⟩

theorem witness_ObjectsAreReadAndWritten_16 :
    (W qW w1cS).reaches qW (orow qW) ∧ (orow qW).access ≠ ObjAccess.ro ∧ (orow qW).kind ≠ ObjKind.cmd ∧ octetType (orow qW).ty =
    false ∧ ((W qW w1cS).heard qW).valueCode (reqKey qW) (orow qW) qW.body = 0 ∧ ((W qW w1cS).heard qW).stateCode (reqKey
    qW) (orow qW) = 0 ∧ rowOfRequest qW = Row.write ∧ (orow qW).kind = ObjKind.w1c ∧ 0 < 8 * (orow qW).size :=
  ⟨reaches_of (by decide +kernel), by decide +kernel⟩

theorem witness_ObjectsAreReadAndWritten_17 :
    (W qW w1cF).reaches qW (orow qW) ∧ (orow qW).access ≠ ObjAccess.ro ∧ (orow qW).kind ≠ ObjKind.cmd ∧ octetType (orow qW).ty =
    false ∧ ((W qW w1cF).heard qW).valueCode (reqKey qW) (orow qW) qW.body = 0 ∧ ((W qW w1cF).heard qW).stateCode (reqKey
    qW) (orow qW) = 0 ∧ rowOfRequest qW = Row.write ∧ (orow qW).kind = ObjKind.w1c ∧ 0 < 8 * (orow qW).size :=
  ⟨reaches_of (by decide +kernel), by decide +kernel⟩

theorem witness_ObjectsAreReadAndWritten_18 :
    (W qO base).reaches qO (orow qO) ∧ rowOfRequest qO = Row.write ∧ (orow qO).access ≠ ObjAccess.ro ∧ (orow qO).kind ≠
    ObjKind.cmd ∧ octetType (orow qO).ty = true ∧ ((W qO base).heard qO).valueCode (reqKey qO) (orow qO) qO.body = 0 ∧ ((W
    qO base).heard qO).stateCode (reqKey qO) (orow qO) = 0 ∧ reqKey qO ∉ [Obj.REGION_ENTRY, Obj.TABLE_ENTRY, Obj.FREE_RINGS,
    Obj.STAGE_WINDOW] :=
  ⟨reaches_of (by decide +kernel), by decide +kernel⟩

theorem witness_ObjectsAreReadAndWritten_19 :
    (noteOld 8).held = false ∧ (List.find? (fun n => n.seq == some 3) (noteOld 8).shore.notes = some (note0 (some 3) 8)) ∧
    (note0 (some 3) 8).sentAt + (noteOld 8).num Obj.NOTIFY_RETRY_MS * 50000 ≤ (noteOld 8).clock ∧ (noteOld 8).num
    Obj.NOTIFY_TRIES ≤ (note0 (some 3) 8).tries :=
  by decide +kernel

theorem witness_ObjectsAreReadAndWritten_20 :
    (W (rq 3 20528 2 []) base).reaches (rq 3 20528 2 []) (orow (rq 3 20528 2 [])) ∧ (rq 3 20528 2 []).opcode = 3 ∧ (W (rq 3
    20528 2 []) base).wordBad (reqKey (rq 3 20528 2 [])) = false ∧ (W (rq 3 20528 2 []) base).transferOf (rq 3 20528 2
    []).src = none ∧ (W (rq 3 20528 2 []) base).transfersFull (rq 3 20528 2 []).src = false ∧ reqKey (rq 3 20528 2 []) ≠
    Obj.RECORD ∧ reqKey (rq 3 20528 2 []) ≠ Obj.SPILL_RECORD :=
  ⟨reaches_of (by decide +kernel), by decide +kernel⟩

theorem witness_ObjectsAreReadAndWritten_21 :
    (W q8 (withT base t8)).reaches q8 (orow q8) ∧ q8.opcode = 4 ∧ (W q8 (withT base t8)).ownTransfer q8 false = some t8 ∧ 1 ≤
    ofBe (List.take 2 (List.drop 4 q8.body)) ∧ ofBe (List.take 2 (List.drop 4 q8.body)) ≤ 1024 ∧ ofBe (List.take 4 q8.body)
    < t8.total :=
  ⟨reaches_of (by decide +kernel), by decide +kernel⟩

theorem witness_ObjectsAreReadAndWritten_22 :
    (ask base qRn).reaches qRn (orow qRn) ∧ qRn.opcode = 1 ∧ (ask base qRn).wordBad (reqKey qRn) = false ∧ reqKey qRn ≠
    Obj.RECORD ∧ reqKey qRn ≠ Obj.SPILL_RECORD ∧ octetType (orow qRn).ty = false ∧ keySub (reqKey qRn) ≠ 0 ∧ (ask base
    qRn).hardNum (reqKey qRn) = none ∧ ¬(8224 ≤ keyIndex (reqKey qRn) ∧ keyIndex (reqKey qRn) ≤ 8239 ∧ keySub (reqKey qRn) =
    7) :=
  ⟨reaches_of (by decide +kernel), by decide +kernel⟩

theorem witness_ObjectsAreReadAndWritten_23 :
    (W qFo base).reaches qFo (orow qFo) ∧ (orow qFo).access ≠ ObjAccess.ro ∧ (orow qFo).kind ≠ ObjKind.cmd ∧ octetType (orow
    qFo).ty = false ∧ ((W qFo base).heard qFo).valueCode (reqKey qFo) (orow qFo) qFo.body = 0 ∧ ((W qFo base).heard
    qFo).stateCode (reqKey qFo) (orow qFo) = 0 ∧ rowOfRequest qFo = Row.write ∧ (orow qFo).kind = ObjKind.forced :=
  ⟨reaches_of (by decide +kernel), by decide +kernel⟩

theorem witness_ObjectsAreReadAndWritten_24 :
    (W qCo base).reaches qCo (orow qCo) ∧ (orow qCo).access ≠ ObjAccess.ro ∧ (orow qCo).kind ≠ ObjKind.cmd ∧ octetType (orow
    qCo).ty = false ∧ ((W qCo base).heard qCo).valueCode (reqKey qCo) (orow qCo) qCo.body = 0 ∧ ((W qCo base).heard
    qCo).stateCode (reqKey qCo) (orow qCo) = 0 ∧ rowOfRequest qCo = Row.write ∧ (orow qCo).kind = ObjKind.count ∧ (keyIndex
    (reqKey qCo) < 12544 ∨ 12607 < keyIndex (reqKey qCo)) ∧ (W qCo base).startNum (reqKey qCo) = (W qCo base).num (reqKey
    qCo) :=
  ⟨reaches_of (by decide +kernel), by decide +kernel⟩

theorem witness_ObjectsAreReadAndWritten_25 :
    (W q3 own5).reaches q3 (orow q3) ∧ (orow q3).access ≠ ObjAccess.ro ∧ (orow q3).kind ≠ ObjKind.cmd ∧ octetType (orow q3).ty =
    false ∧ ((W q3 own5).heard q3).valueCode (reqKey q3) (orow q3) q3.body = 0 ∧ ((W q3 own5).heard q3).stateCode (reqKey
    q3) (orow q3) = 0 ∧ (orow q3).kind = ObjKind.ctrl ∧ rowOfRequest q3 = Row.csaBankset ∧ (W q3 own5).calPause = false ∧
    bit ((W q3 own5).num (Obj.CSA_BANKSET (q3.index - 12544))) 3 = false ∧ bit (normNum (reqKey q3) (ofBe q3.body)) 3 = true
    ∧ ((W q3 own5).csaBank 3).lastOwner = q3.index - 12544 ∧ ((W q3 own5).csaBank 3).state = 0 :=
  ⟨reaches_of (by decide +kernel), by decide +kernel⟩

theorem witness_ObjectsAreReadAndWritten_26 :
    (W q4e base).reaches q4e (orow q4e) ∧ (orow q4e).access ≠ ObjAccess.ro ∧ (orow q4e).kind ≠ ObjKind.cmd ∧ octetType (orow
    q4e).ty = false ∧ ((W q4e base).heard q4e).valueCode (reqKey q4e) (orow q4e) q4e.body = 0 ∧ ((W q4e base).heard
    q4e).stateCode (reqKey q4e) (orow q4e) = 0 ∧ (orow q4e).kind = ObjKind.ctrl ∧ (rowOfRequest q4e = Row.entryUnits ∧
    Instr.entryUnits q4e = Instr.entryUnits q4e ∨ rowOfRequest q4e = Row.priorityMode ∧ Instr.entryUnits q4e =
    Instr.priorityMode q4e) ∧ (W q4e base).calPause = false ∧ (W q4e base).num (reqKey q4e) = normNum (reqKey q4e) (ofBe
    q4e.body) :=
  ⟨reaches_of (by decide +kernel), by decide +kernel⟩

theorem witness_ObjectsAreReadAndWritten_27 :
    (W q12 (withT base t12)).reaches q12 (orow q12) ∧ q12.opcode = 7 ∧ (W q12 (withT base t12)).ownTransfer q12 true = some t12
    ∧ crc32c t12.data = ofBe q12.body ∧ t12.data.length = t12.total ∧ (orow q12).access ≠ ObjAccess.ro ∧ (orow q12).kind ≠
    ObjKind.cmd ∧ octetType (orow q12).ty = true ∧ (((W q12 (withT base t12)).heard q12).closeTransfer q12.src).valueCode
    (reqKey q12) (orow q12) t12.data = 0 ∧ (((W q12 (withT base t12)).heard q12).closeTransfer q12.src).stateCode (reqKey
    q12) (orow q12) = 0 ∧ reqKey q12 ∉ [Obj.REGION_ENTRY, Obj.TABLE_ENTRY, Obj.FREE_RINGS, Obj.STAGE_WINDOW] :=
  ⟨reaches_of (by decide +kernel), by decide +kernel⟩

theorem witness_CommandObjectsHaveTheirEffect_1 :
    (W C10 rEnd).accepts C10 ∧ rowOfRequest C10 = Row.warmReset :=
  ⟨accepts_of (orow C10) (by decide +kernel), by decide +kernel⟩

theorem witness_CommandObjectsHaveTheirEffect_2 :
    (W C13 base).accepts C13 ∧ rowOfRequest C13 = Row.powerHold ∧ (W C13 base).sched.run = none ∧ (W C13 base).sched.hold = none
    :=
  ⟨accepts_of (orow C13) (by decide +kernel), by decide +kernel⟩

theorem witness_CommandObjectsHaveTheirEffect_3 :
    (W C11 base).accepts C11 ∧ rowOfRequest C11 = Row.powerActive :=
  ⟨accepts_of (orow C11) (by decide +kernel), by decide +kernel⟩

theorem witness_CommandObjectsHaveTheirEffect_4 :
    (W C7 base).accepts C7 ∧ rowOfRequest C7 = Row.nvCommit ∧ (W C7 base).num Obj.STAGE_LENGTH = 0 :=
  ⟨accepts_of (orow C7) (by decide +kernel), by decide +kernel⟩

theorem witness_CommandObjectsHaveTheirEffect_5 :
    (W C5 C5f).accepts C5 ∧ rowOfRequest C5 = Row.retireBlock ∧ (W C5 C5f).hbm.retired.length < 4096 ∧ 1 ∈ (W C5
    C5f).hbm.retired :=
  ⟨accepts_of (orow C5) (by decide +kernel), by decide +kernel⟩

theorem witness_CommandObjectsHaveTheirEffect_6 :
    (W C12 base).accepts C12 ∧ rowOfRequest C12 = Row.powerLull ∧ (W C12 base).sched.run = none ∧ (W C12 base).sched.hold = none
    ∧ (W C12 base).power.drain = none ∧ (W C12 base).powerState ≤ 1 :=
  ⟨accepts_of (orow C12) (by decide +kernel), by decide +kernel⟩

theorem witness_CommandObjectsHaveTheirEffect_7 :
    (W C9 chg).accepts C9 ∧ rowOfRequest C9 = Row.restoreFactoryLive ∧ ((W C9 chg).commanded C9).changedKeys =
    [Obj.LEASE_DEFAULT_MS] ∧ rowOf Obj.LEASE_DEFAULT_MS = some kLease ∧ octetType kLease.ty = false ∧ kLease.kind =
    ObjKind.ctrl ∧ (keyIndex Obj.LEASE_DEFAULT_MS < 12544 ∨ 12607 < keyIndex Obj.LEASE_DEFAULT_MS) ∧ (keyIndex
    Obj.LEASE_DEFAULT_MS < 8224 ∨ 8239 < keyIndex Obj.LEASE_DEFAULT_MS) ∧ bit (reqValue C9) 0 = true :=
  ⟨accepts_of (orow C9) (by decide +kernel), by decide +kernel⟩

theorem witness_CommandObjectsHaveTheirEffect_8 :
    (W C8 base).accepts C8 ∧ rowOfRequest C8 = Row.eraseImages :=
  ⟨accepts_of (orow C8) (by decide +kernel), by decide +kernel⟩

theorem witness_CommandObjectsHaveTheirEffect_9 :
    (W (ct 6 0) base).accepts (ct 6 0) ∧ rowOfRequest (ct 6 0) = Row.sensors :=
  ⟨accepts_of (orow (ct 6 0)) (by decide +kernel), by decide +kernel⟩

theorem witness_CommandObjectsHaveTheirEffect_10 :
    (W C12 rEnd).accepts C12 ∧ rowOfRequest C12 = Row.powerLull ∧ (W C12 rEnd).powerState ≠ 1 ∧ (W C12 rEnd).sched.run = some
    run1 :=
  ⟨accepts_of (orow C12) (by decide +kernel), by decide +kernel⟩

theorem witness_CommandObjectsHaveTheirEffect_11 :
    (W C1 C1f).accepts C1 ∧ rowOfRequest C1 = Row.retireCourse ∧ 2 ≤ (W C1 C1f).courseState (reqValue C1 % 128) ∧ 6 ≠ reqValue
    C1 % 128 :=
  ⟨accepts_of (orow C1) (by decide +kernel), by decide +kernel⟩

theorem witness_CommandObjectsHaveTheirEffect_12 :
    (W (ct 5 9) base).accepts (ct 5 9) ∧ rowOfRequest (ct 5 9) = Row.csaBank :=
  ⟨accepts_of (orow (ct 5 9)) (by decide +kernel), by decide +kernel⟩

theorem witness_CommandObjectsHaveTheirEffect_13 :
    (W (ct 3 0) base).accepts (ct 3 0) ∧ rowOfRequest (ct 3 0) = Row.brickSram :=
  ⟨accepts_of (orow (ct 3 0)) (by decide +kernel), by decide +kernel⟩

theorem witness_CommandObjectsHaveTheirEffect_14 :
    (W (ct 4 0) base).accepts (ct 4 0) ∧ rowOfRequest (ct 4 0) = Row.selection :=
  ⟨accepts_of (orow (ct 4 0)) (by decide +kernel), by decide +kernel⟩

theorem witness_CommandObjectsHaveTheirEffect_15 :
    (W (ct 2 0) base).accepts (ct 2 0) ∧ rowOfRequest (ct 2 0) = Row.brickLogic :=
  ⟨accepts_of (orow (ct 2 0)) (by decide +kernel), by decide +kernel⟩

theorem witness_CommandObjectsHaveTheirEffect_16 :
    (W C6 hd).accepts C6 ∧ rowOfRequest C6 = Row.startRelease ∧ (W C6 hd).nv.hold = true :=
  ⟨accepts_of (orow C6) (by decide +kernel), by decide +kernel⟩

theorem witness_CommandObjectsHaveTheirEffect_17 :
    (W C13 rEnd).accepts C13 ∧ rowOfRequest C13 = Row.powerHold ∧ (W C13 rEnd).sched.run = some run1 ∧ (W C13 rEnd).sched.tear =
    none :=
  ⟨accepts_of (orow C13) (by decide +kernel), by decide +kernel⟩

theorem witness_CommandObjectsHaveTheirEffect_18 :
    (W C4 base).accepts C4 ∧ rowOfRequest C4 = Row.embApply :=
  ⟨accepts_of (orow C4) (by decide +kernel), by decide +kernel⟩

theorem witness_CommandObjectsHaveTheirEffect_19 :
    (W C2 base).accepts C2 ∧ rowOfRequest C2 = Row.tablesApply :=
  ⟨accepts_of (orow C2) (by decide +kernel), by decide +kernel⟩

theorem witness_CommandObjectsHaveTheirEffect_20 :
    (W C3 base).accepts C3 ∧ rowOfRequest C3 = Row.regionsApply :=
  ⟨accepts_of (orow C3) (by decide +kernel), by decide +kernel⟩

theorem witness_CommandObjectsHaveTheirEffect_21 :
    (W C6 base).accepts C6 ∧ rowOfRequest C6 = Row.startRelease ∧ (W C6 base).nv.hold = false :=
  ⟨accepts_of (orow C6) (by decide +kernel), by decide +kernel⟩

theorem witness_CommandObjectsHaveTheirEffect_22 :
    (W (ct 1 0) base).reaches (ct 1 0) (orow (ct 1 0)) ∧ (ct 1 0).body.length = (orow (ct 1 0)).size ∧ rowOfRequest (ct 1 0) =
    Row.router ∧ reqValue (ct 1 0) % 64 = 0 :=
  ⟨reaches_of (by decide +kernel), by decide +kernel⟩

theorem witness_CommandObjectsHaveTheirEffect_23 :
    (W C1 base).accepts C1 ∧ rowOfRequest C1 = Row.retireCourse ∧ ((W C1 base).courseState (reqValue C1 % 128) = 0 ∨ (W C1
    base).courseState (reqValue C1 % 128) = 1) ∧ 6 ≠ reqValue C1 % 128 :=
  ⟨accepts_of (orow C1) (by decide +kernel), by decide +kernel⟩

theorem witness_CommandObjectsHaveTheirEffect_24 :
    (W C9b chgO).accepts C9b ∧ rowOfRequest C9b = Row.restoreFactoryLive ∧ ((W C9b chgO).commanded C9b).changedKeys =
    [Obj.THROTTLE_POINTS] ∧ rowOf Obj.THROTTLE_POINTS = some kThr ∧ octetType kThr.ty = true ∧ Obj.THROTTLE_POINTS ≠
    Obj.RETIRED_BLOCKS :=
  ⟨accepts_of (orow C9b) (by decide +kernel), by decide +kernel⟩

/-! ### Single steps, their results worked out by hand from the spec -/

/-- R43: one edge of TCLK advances TIDE_NOW by 1. -/
theorem test_empty_queue_ticks : (outGet (step base)).now = 1 := by decide +kernel

/-- The command in front runs and leaves the queue. -/
theorem test_front_command_leaves : (outGet (step (waiting (.ppsEdge 3 60)))).pending = [.restep] := by decide +kernel

/-- R48, R49: a launch at 990 with period 100 + 1/3 and an accumulator of 2/3 carries: the next is at 1,091, the accumulator 0. -/
theorem test_launch_carries :
    (outGet (exec (.cadenceLaunch 3) genL)).num (Obj.NEXT_LAUNCH 3) = 1091 ∧
    (outGet (exec (.cadenceLaunch 3) genL)).num (Obj.ACCUMULATOR 3) = 0 ∧
    (outGet (exec (.cadenceLaunch 3) genL)).num (Obj.LAUNCH_COUNT 3) = 1 := by decide +kernel

/-- R66: a PPS edge at root cycle 3 of TIDE_NOW 100 is counted and timed in root cycles. -/
theorem test_pps_edge_is_timed :
    (outGet (exec (.ppsEdge 3 60) (at_ base 100))).pps.lastEdge = some 9603 ∧
    (outGet (exec (.ppsEdge 3 60) (at_ base 100))).num Obj.PPS_EDGES = 1 := by decide +kernel

/-- R57, R81: an offset of 200 root cycles advances the tide by two in one TCLK cycle and leaves 104. -/
theorem test_correction_advances_by_two :
    (outGet (exec .tideCorrection (off aligned2 200))).now = 100002 ∧
    (outGet (exec .tideCorrection (off aligned2 200))).tide.offset = 104 := by decide +kernel

/-- R96: octets 10 to 16 of a brick's SRAM, as written from octet 8 on with 1 to 9, answer a remote read as 3 to 9. -/
theorem test_remote_read_answers :
    ((outGet (exec (.remoteRead mRd) (fly (sr rEnd) mRd))).mortar.flight.map (fun m => (m.dst, m.body))) =
      [(.brick 6, .readData [3, 4, 5, 6, 7, 8, 9])] := by decide +kernel

/-- R153: a token takes a COUNTER of 2 to 1 and does not make the slot ready. -/
theorem test_token_lowers_counter :
    ((outGet (exec (.token 0 (tok 1)) (rTok { sl with counter := 2, ready := none, in0 := {} } 1))).slotAt (5 * 256 + 7)).counter
      = 1 := by decide +kernel

/-- No row of the table of commands gives bits, so no word spells a command. -/
theorem test_no_word_spells_a_command : decodeTableWord 32 0 = none ∧ base.withFetchWord 32 0 = base := by decide +kernel

end Sys2Proof.Tests
end

section
/-!
SUPPORT. What the proofs about the clocks and the tide share (spec/02): commands carried out, the keys of the cadence
generators, and the operations that leave the tide, its numbers and the error marks of numbers alone.
-/

namespace Sys2Proof.Machine

theorem Has.of_all {l : Part → Bool} {ps : List Part} (h : ps.all l = true) : Has l ps := List.all_eq_true.1 h

/-- The numbers of a cadence generator stand in section 2, each under its own key. -/
theorem generatorKey_div (g i : Nat) (hi : i < 256) : ((0x2020 + g % 256) * 256 + i) / 0x100000 = 2 := by omega

theorem generatorKey_ne_sub {g i j : Nat} (h : i ≠ j) : (0x2020 + g % 256) * 256 + i ≠ (0x2020 + g % 256) * 256 + j := by
  omega

theorem generatorKey_ne_generator {g h i j : Nat} (hi : i < 256) (hj : j < 256) (hne : g % 256 ≠ h % 256) :
    (0x2020 + g % 256) * 256 + i ≠ (0x2020 + h % 256) * 256 + j := by omega

theorem act_true {ok : Bool} (h : ok = true) (t : State) : act ok t = .next t := by rw [h]; rfl

theorem act_live {s t : State} {ok c : Bool} (hok : ok = true) (hheld : s.held = false) (hc : c = true) :
    act ok (s.live c t) = .next t := by
  rw [State.live_true hheld hc, act_true hok]

/-- Every key of a list is set to one value. -/
theorem Store.get_foldl_set {α : Type} [DecidableEq α] (d : Nat → α) (v : α) (l : List Nat) (r : Store α) (k : Nat) :
    Store.get d (l.foldl (fun r p => Store.set d r p v) r) k = if k ∈ l then v else Store.get d r k := by
  induction l generalizing r with
  | nil => simp
  | cons p l ih =>
    rw [List.foldl_cons, ih]
    by_cases hl : k ∈ l
    · simp [hl]
    · by_cases hp : p = k
      · subst hp; simp [Store.get_set_eq]
      · simp [hl, Ne.symm hp, Store.get_set_ne hp]

/-- Every part but the tide, its numbers and the error marks of numbers. -/
def offTide (p : Part) : Bool := p ∉ [Part.tide, .badObj, .num 2]

namespace State

variable {s t : State}

theorem Only.tide_eq (h : s.Only offTide t) : t.tide = s.tide := h.same .tide rfl

theorem Only.num_eq (h : s.Only offTide t) {k : Nat} (hk : k / 0x100000 = 2) : t.num k = s.num k := h.same (.num 2) rfl k hk

theorem Only.badObj_eq (h : s.Only offTide t) : t.badObj = s.badObj := h.same .badObj rfl

theorem num_inc32_congr {k n : Nat} (hb : t.badObj = s.badObj) (hk : t.num k = s.num k) :
    (t.inc32 k n).num k = (s.inc32 k n).num k := by
  have bad : t.wordBad k = s.wordBad k := by simp only [wordBad, hb]
  cases h : s.wordBad k <;> simp [inc32, bad, h, hk]

theorem num_inc64_congr {k n : Nat} (hb : t.badObj = s.badObj) (hk : t.num k = s.num k) :
    (t.inc64 k n).num k = (s.inc64 k n).num k := by
  have bad : t.wordBad k = s.wordBad k := by simp only [wordBad, hb]
  cases h : s.wordBad k <;> simp [inc64, bad, h, hk]

@[simp] theorem inc32_tide (s : State) (k n : Nat) : (s.inc32 k n).tide = s.tide := by
  unfold inc32; split <;> rfl

@[simp] theorem inc64_tide (s : State) (k n : Nat) : (s.inc64 k n).tide = s.tide := by
  unfold inc64; split <;> rfl

theorem settle_offTide (s : State) : s.Only offTide s.settle := settle_only (.refl s) (.of_all (by decide +kernel))

theorem launchSeen_offTide (s : State) (g t : Nat) (took : Bool) : s.Only offTide (s.launchSeen g t took) :=
  launchSeen_only (.refl s) (.of_all (by decide +kernel))

end State

end Sys2Proof.Machine
end

section
/-!
SUPPORT. The launches of a cadence generator (spec/02: R48, R49, R52, R53).
-/

namespace Sys2Proof.Machine

namespace State

theorem generatorOff_offTide (s : State) (g : Nat) : s.Only offTide (s.generatorOff g) :=
  generatorOff_only (.refl s) (.of_all (by decide +kernel))

/-- One launch passed sets the two numbers that `cadenceStep` gives, whichever branch of `cadenceRun` computes them. -/
theorem cadenceRun_one (period num den next acc : Nat) :
    cadenceRun period num den 1 next acc = cadenceStep period num den next acc := by
  unfold cadenceRun
  split
  · rename_i h
    obtain ⟨hacc, hnum⟩ := h
    unfold cadenceStep
    split
    · have hq : (acc + num) / den = 1 := Nat.div_eq_of_lt_le (by omega) (by omega)
      have hr : (acc + num) % den = acc + num - den := by
        rw [Nat.mod_eq_sub_mod (by omega), Nat.mod_eq_of_lt (by omega)]
      simp [hq, hr]
    · simp [Nat.div_eq_of_lt (show acc + num < den by omega), Nat.mod_eq_of_lt (show acc + num < den by omega)]
  · rfl

/-- NEXT_LAUNCH and the accumulator of a generator after its next launch (R48), NEXT_LAUNCH before its reduction modulo 2^64. -/
def launchStep (s : State) (g : Nat) : Nat × Nat :=
  cadenceStep (s.num (Obj.PERIOD_INT g)) (s.num (Obj.NUMERATOR g)) (s.num (Obj.DENOMINATOR g)) (s.num (Obj.NEXT_LAUNCH g))
    (s.num (Obj.ACCUMULATOR g))

theorem launchStep_of_carry {s : State} {g : Nat}
    (h : s.num (Obj.DENOMINATOR g) ≤ s.num (Obj.ACCUMULATOR g) + s.num (Obj.NUMERATOR g)) :
    s.launchStep g = (s.num (Obj.NEXT_LAUNCH g) + s.num (Obj.PERIOD_INT g) + 1,
      s.num (Obj.ACCUMULATOR g) + s.num (Obj.NUMERATOR g) - s.num (Obj.DENOMINATOR g)) :=
  if_pos h

theorem launchStep_of_lt {s : State} {g : Nat}
    (h : s.num (Obj.ACCUMULATOR g) + s.num (Obj.NUMERATOR g) < s.num (Obj.DENOMINATOR g)) :
    s.launchStep g = (s.num (Obj.NEXT_LAUNCH g) + s.num (Obj.PERIOD_INT g),
      s.num (Obj.ACCUMULATOR g) + s.num (Obj.NUMERATOR g)) :=
  if_neg (Nat.not_le.2 h)

theorem passLaunches_one_accumulator (s : State) (g : Nat) :
    (s.passLaunches g 1).num (Obj.ACCUMULATOR g) = (s.launchStep g).2 := by
  rw [passLaunches, num_setNum_self, cadenceRun_one, launchStep]

theorem passLaunches_one_nextLaunch (s : State) (g : Nat) :
    (s.passLaunches g 1).num (Obj.NEXT_LAUNCH g) = (s.launchStep g).1 % 2 ^ 64 := by
  rw [passLaunches, num_setNum_ne (generatorKey_ne_sub (by decide)), num_setNum_self, cadenceRun_one, launchStep]

@[simp] theorem passLaunches_tide (s : State) (g k : Nat) : (s.passLaunches g k).tide = s.tide := rfl

theorem passLaunches_num_nextLaunch (s : State) (g k : Nat) :
    (s.passLaunches g k).num (Obj.NEXT_LAUNCH g) =
      (cadenceRun (s.num (Obj.PERIOD_INT g)) (s.num (Obj.NUMERATOR g)) (s.num (Obj.DENOMINATOR g)) k
        (s.num (Obj.NEXT_LAUNCH g)) (s.num (Obj.ACCUMULATOR g))).1 % 2 ^ 64 :=
  (num_setNum_ne (generatorKey_ne_sub (by decide))).trans (num_setNum_self ..)

theorem passLaunches_num_ne (s : State) {g k j : Nat} (hn : j ≠ Obj.NEXT_LAUNCH g) (ha : j ≠ Obj.ACCUMULATOR g) :
    (s.passLaunches g k).num j = s.num j :=
  (num_setNum_ne ha.symm).trans (num_setNum_ne hn.symm)

/-- What a launch does after its generator's numbers are set reaches pins, jobs and the record of the launch only. -/
theorem takeLaunch_keeps (s : State) (g : Nat) :
    (s.takeLaunch g).now = s.now ∧
      ∀ k, k / 0x100000 = 2 → (s.takeLaunch g).num k = ((s.passLaunches g 1).inc64 (Obj.LAUNCH_COUNT g) 1).num k := by
  have seen : ((s.passLaunches g 1).inc64 (Obj.LAUNCH_COUNT g) 1).Only offTide
      ((((s.passLaunches g 1).inc64 (Obj.LAUNCH_COUNT g) 1).markLaunch g).launchSeen g (s.num (Obj.NEXT_LAUNCH g)) true) :=
    launchSeen_only (markLaunch_only (.refl _) (.of_all (by decide +kernel))) (.of_all (by decide +kernel))
  simp only [takeLaunch]
  generalize launchSeen _ g _ true = u at seen ⊢
  have now_seen : u.tide.now = s.now := by rw [seen.tide_eq, inc64_tide, passLaunches_tide]; rfl
  split
  · have off := fun t => generatorOff_offTide t g
    exact ⟨(congrArg Tide.now (off _).tide_eq).trans now_seen, fun k hk => ((off _).num_eq hk).trans (seen.num_eq hk)⟩
  · exact ⟨now_seen, fun k hk => seen.num_eq hk⟩

end State

/-- Settles O15: a launch writes the generator's numbers by one step of the rule, and nothing that follows it in the command, the
settling of the jobs included, reaches those numbers or TIDE_NOW. -/
theorem launchAdvancesTheGenerator : Obligations.LaunchAdvancesTheGenerator := by
  intro g s hg hheld hen hpend hdue a d p
  obtain ⟨now_eq, num_eq⟩ := s.takeLaunch_keeps g
  have settled := (s.takeLaunch g).settle_offTide
  have number : ∀ k, k / 0x100000 = 2 →
      (s.takeLaunch g).settle.num k = ((s.passLaunches g 1).inc64 (Obj.LAUNCH_COUNT g) 1).num k :=
    fun k hk => (settled.num_eq hk).trans (num_eq k hk)
  have acc : (s.takeLaunch g).settle.num (Obj.ACCUMULATOR g) = (s.launchStep g).2 := by
    rw [number _ (generatorKey_div _ _ (by decide)), State.inc64_num_ne (generatorKey_ne_sub (by decide)),
      State.passLaunches_one_accumulator]
  have next : (s.takeLaunch g).settle.num (Obj.NEXT_LAUNCH g) = (s.launchStep g).1 % 2 ^ 64 := by
    rw [number _ (generatorKey_div _ _ (by decide)), State.inc64_num_ne (generatorKey_ne_sub (by decide)),
      State.passLaunches_one_nextLaunch]
  refine ⟨(s.takeLaunch g).settle, ?_, fun h => ?_, fun h => ?_, ?_, ?_⟩
  · exact act_live (by simpa using hg) hheld (by simp [hen, hpend, hdue])
  · rw [acc, next, State.launchStep_of_carry h]
    exact ⟨rfl, rfl⟩
  · rw [acc, next, State.launchStep_of_lt h]
    exact ⟨rfl, rfl⟩
  · rw [number _ (generatorKey_div _ _ (by decide))]
    exact State.num_inc64_congr rfl
      (s.passLaunches_num_ne (generatorKey_ne_sub (by decide)) (generatorKey_ne_sub (by decide)))
  · exact (congrArg Tide.now settled.tide_eq).trans now_eq

end Sys2Proof.Machine
end

section
/-!
SUPPORT. The tide's ordered sets as they are sent and received (spec/02: R62, R63, R70, Table 2-3).
-/

namespace Sys2Proof.Machine

namespace State

/-- Ordered sets sent on ports add to the outputs and to nothing that a later one holds. -/
theorem foldl_emit_sos (s : State) (kind : Nat) (l : List Nat) :
    l.foldl (fun t p => t.emit (.tide p (sosOctets (t.sos kind)))) s =
      { s with out := s.out ++ l.map fun p => .tide p (sosOctets (s.sos kind)) } := by
  induction l generalizing s with
  | nil => simp
  | cons p l ih =>
    rw [List.foldl_cons, ih]
    simp only [emit, List.map_cons, List.append_assoc, List.singleton_append]
    rfl

/-- The stamps kept once delay requests have left on ports: the time of sending in root cycles, plus 1. -/
def stampRequests (s : State) (l : List Nat) : Store Nat :=
  l.foldl (fun r p => Store.set (fun _ => 0) r p (s.now * 96 + s.txSub + 1)) s.tide.requestAt

theorem get_stampRequests (s : State) (l : List Nat) (p : Nat) :
    Store.get (fun _ => 0) (s.stampRequests l) p =
      if p ∈ l then s.now * 96 + s.txSub + 1 else Store.get (fun _ => 0) s.tide.requestAt p :=
  Store.get_foldl_set ..

/-- Delay requests sent on ports are kept with their stamp, which is the same on all of them. -/
theorem foldl_emit_delayRequest (s : State) (l : List Nat) :
    l.foldl (fun (t : State) p =>
      let m := t.sos 2
      { t.emit (.tide p (sosOctets m)) with tide := { t.tide with
          requestAt := Store.set (fun _ => 0) t.tide.requestAt p (m.tideAtTx * 96 + m.txSub + 1) } }) s =
      { s with
        out := s.out ++ l.map fun p => .tide p (sosOctets (s.sos 2))
        tide := { s.tide with requestAt := s.stampRequests l } } := by
  induction l generalizing s with
  | nil => simp [stampRequests]
  | cons p l ih =>
    rw [List.foldl_cons, ih]
    simp only [emit, List.map_cons, List.append_assoc, List.singleton_append]
    rfl

variable {s : State} {port kind : Nat} {m : OrderedSet}

/-- An ordered set with a reserved encoding is discarded and counted, whichever command brings it. -/
theorem sosIn_rejected (hheld : s.held = false) (hup : s.num (Obj.PORT_STATE port) = 2) (hbad : sosOk m = false)
    (t : State) : s.sosIn port kind m t = s.inc32 Obj.SOS_REJECTED 1 := by
  simp [sosIn, hbad, hup, live, hheld]

theorem sosIn_taken (hheld : s.held = false) (hup : s.num (Obj.PORT_STATE port) = 2) (hok : sosOk m = true)
    (hkind : m.kind = kind) (t : State) : s.sosIn port kind m t = t := by
  simp [sosIn, hok, hup, hkind, live, hheld]

end State

theorem exec_syncSend {s : State} (hheld : s.held = false) (hmaster : s.isMaster = true) (hdue : s.tide.nextSync ≤ s.now)
    (hslot : s.tideAt 0 4096 = true) :
    exec .syncSend s = .next { s with
      out := s.out ++ s.upPorts.map (fun p => .tide p (sosOctets (s.sos 1)))
      tide := { s.tide with nextSync := (s.now / 4096 + 1) * 4096, seqOut := (s.tide.seqOut + 1) % 65536 } } := by
  refine congrArg Host.Outcome.next ((State.live_true hheld (by simp [hmaster, hdue, hslot])).trans ?_)
  simp only [State.foldl_emit_sos]

theorem exec_delayRequestSend {s : State} (hheld : s.held = false) (hdue : s.tide.nextDelay ≤ s.now)
    (hslot : s.tideAt 0x800 4096 = true) :
    exec .delayRequestSend s = .next { s with
      out := s.out ++ s.upPorts.map (fun p => .tide p (sosOctets (s.sos 2)))
      tide := { s.tide with
        requestAt := s.stampRequests s.upPorts, nextDelay := s.now / 4096 * 4096 + 4096 + 0x800 } } := by
  refine congrArg Host.Outcome.next ((State.live_true hheld (by simp [hdue, hslot])).trans ?_)
  simp only [State.foldl_emit_delayRequest]

/-- A delay response gives half of a difference that is not negative as the delay of its port (R62). -/
theorem exec_delayResponse {s : State} {p sub sent d : Nat} {l : List Byte}
    (hunit : (decide (p < 8) && decide (sub < 96)) = true) (hheld : s.held = false)
    (hup : s.num (Obj.PORT_STATE p) = 2) (hok : State.sosOk (parseSos l) = true) (hkind : (parseSos l).kind = 3) (hsent : Store.get (fun _ => 0) s.tide.requestAt p = sent + 1)
    (hd : ((s.now * 96 + sub : Nat) - sent : Int) - (((parseSos l).tideAtTx * 96 + (parseSos l).txSub : Nat) -
      ((parseSos l).reqRxTide * 96 + (parseSos l).reqRxSub : Nat)) = d) :
    exec (.delayResponse p l sub) s = .next { s.setOcts Obj.PORT_DELAY (p * 4) (leBytes 4 (d / 2 % 2 ^ 32)) with
      tide := { s.tide with requestAt := Store.set (fun _ => 0) s.tide.requestAt p 0 } } := by
  have half : ((d : Int) / 2).toNat = d / 2 := by omega
  refine (act_true hunit _).trans (congrArg _ ((State.sosIn_taken hheld hup hok hkind _).trans ?_))
  simp only [hsent, Nat.add_sub_cancel, State.when]
  rw [hd, if_pos (by simp), if_neg (Int.natCast_nonneg d).not_gt, half]

/-- Settles O16: what is sent is a fold over the active ports, of which each step adds an output; what is received goes through
`sosIn`, which rejects a reserved encoding and else hands the set to its command. -/
theorem tideOrderedSetsAreExchanged : Obligations.TideOrderedSetsAreExchanged := by
  refine ⟨⟨fun s hheld hmaster hdue hslot => exec_syncSend hheld hmaster hdue hslot, ?_⟩, ?_, ?_⟩
  · intro s hheld hdue hslot
    exact ⟨s.stampRequests s.upPorts, exec_delayRequestSend hheld hdue hslot,
      fun p hp => (s.get_stampRequests _ p).trans (if_pos hp), fun p hp => (s.get_stampRequests _ p).trans (if_neg hp)⟩
  · intro s p sub l hheld hp hsub hup hbad
    have hunit : (decide (p < 8) && decide (sub < 96)) = true := by simp [hp, hsub]
    have rejected : ∀ kind t, act (decide (p < 8) && decide (sub < 96)) (s.sosIn p kind (parseSos l) t) =
        .next (s.inc32 Obj.SOS_REJECTED 1) :=
      fun kind t => (act_true hunit _).trans (congrArg _ (State.sosIn_rejected hheld hup hbad t))
    exact ⟨rejected .., rejected .., rejected ..⟩
  · intro s p sub l hheld hp hsub hup m hok
    have hunit : (decide (p < 8) && decide (sub < 96)) = true := by simp [hp, hsub]
    refine ⟨fun hkind => (act_true hunit _).trans (congrArg _ (State.sosIn_taken hheld hup hok hkind _)),
      fun hkind sent hsent d hd => ?_⟩
    have value := leBytes_length 4 (d / 2 % 2 ^ 32)
    refine ⟨_, _, exec_delayResponse hunit hheld hup hok hkind hsent hd, ?_, fun x hx => ?_, Store.get_set_eq,
      fun i hi => Store.get_set_ne hi.symm⟩
    · exact value ▸ Store.getMany_setMany
    · exact Store.get_setMany_out (by rwa [value])

end Sys2Proof.Machine
end

section
/-!
SUPPORT. An edge of TCLK, a correction, the entry of LOCKED and the restep, as far as the tide and its numbers go (spec/02: R43, R56
to R58, R81 to R83, Table 2-5).
-/

namespace Sys2Proof.Machine

namespace State

variable {s t : State}

/-! ### One edge of TCLK (R43, R56, R58) -/

/-- What one edge of TCLK adds to the offset of a chip: the drift of a LOCKED one (R58). -/
def driftStep (s : State) : Int :=
  if s.tide.rateDen = 0 ∨ s.num Obj.TIDE_STATE ≠ 2 then 0
  else (s.tide.rateRem + s.tide.rateNum) / (s.tide.rateDen : Int)

theorem drift_now (s : State) : s.drift.tide.now = s.tide.now := by
  simp only [drift]; split <;> rfl

theorem drift_clock (s : State) : s.drift.tide.clock = s.tide.clock := by
  simp only [drift]; split <;> rfl

theorem drift_offset (s : State) : s.drift.tide.offset = s.tide.offset + s.driftStep := by
  simp only [drift, driftStep]; split <;> simp

theorem drift_num (s : State) (k : Nat) : s.drift.num k = s.num k := by
  simp only [drift]; split <;> rfl

theorem drift_badObj (s : State) : s.drift.badObj = s.badObj := by
  simp only [drift]; split <;> rfl

theorem driftStep_congr (ht : t.tide.rateDen = s.tide.rateDen ∧ t.tide.rateNum = s.tide.rateNum ∧
    t.tide.rateRem = s.tide.rateRem) (hn : t.num Obj.TIDE_STATE = s.num Obj.TIDE_STATE) : t.driftStep = s.driftStep := by
  obtain ⟨hden, hnum, hrem⟩ := ht
  simp only [driftStep, hden, hnum, hrem, hn]

/-- `t` follows `s` by one edge of TCLK that advances the tide by `n`, as far as the tide and its numbers go. -/
structure Ticked (n : Nat) (s t : State) : Prop where
  now : t.now = (s.now + n) % 2 ^ 64
  clock : t.clock = s.clock + 1
  offset : t.tide.offset = s.tide.offset + s.driftStep
  badObj : t.badObj = s.badObj
  num : ∀ k, k / 0x100000 = 2 → t.num k = s.num k

theorem tclk_ticked (n : Nat) (hheld : s.held = false) : Ticked n s (s.tclk n) := by
  simp only [tclk, hheld, Bool.false_eq_true, if_false]
  generalize hu : ({ s with
      tide := { s.tide with now := (s.tide.now + n) % 2 ^ 64, double := n == 2, clock := s.tide.clock + 1 }
      shore := { s.shore with start := if s.tide.clock % 2 = 1 then s.obj else s.shore.start } } : State) = u
  have counted : u.Only offTide (u.tickCounts n) := tickCounts_only (.refl u) (.of_all (by decide +kernel))
  generalize u.tickCounts n = v at counted ⊢
  have rest : v.drift.Only offTide ((List.range 16).foldl pinTick v.drift).closeWindows.releaseHeld.tearDue :=
    tearDue_only (releaseHeld_only (closeWindows_only
      (.foldl (.refl _) fun _ _ h => pinTick_only h (.of_all (by decide +kernel)))
      (.of_all (by decide +kernel))) (.of_all (by decide +kernel))) (.of_all (by decide +kernel))
  have stepped : v.driftStep = s.driftStep := by
    refine driftStep_congr ?_ ((counted.num_eq (by decide)).trans ?_)
    · rw [counted.tide_eq, ← hu]; exact ⟨rfl, rfl, rfl⟩
    · rw [← hu]; rfl
  refine ⟨?_, ?_, ?_, ?_, fun k hk => ?_⟩
  · rw [now, rest.tide_eq, drift_now, counted.tide_eq, ← hu]; rfl
  · rw [clock, rest.tide_eq, drift_clock, counted.tide_eq, ← hu]; rfl
  · rw [rest.tide_eq, drift_offset, stepped, counted.tide_eq, ← hu]
  · rw [rest.badObj_eq, drift_badObj, counted.badObj_eq, ← hu]
  · rw [rest.num_eq hk, drift_num, counted.num_eq hk, ← hu]; rfl

/-! ### Corrections (R56, R57, R81) -/

/-- `t` follows `s` by one correction in the direction of the offset. -/
structure Corrected (s t : State) : Prop where
  clock : t.clock = s.clock + 1
  lastCorrection : t.tide.lastCorrection = some s.clock
  corrections : t.num Obj.CORRECTIONS = (s.inc32 Obj.CORRECTIONS 1).num Obj.CORRECTIONS
  tideState : t.num Obj.TIDE_STATE = s.num Obj.TIDE_STATE
  forward : 0 < s.tide.offset → t.now = (s.now + 2) % 2 ^ 64 ∧ t.tide.offset = s.tide.offset + s.driftStep - 96
  backward : s.tide.offset < 0 → t.now = s.now % 2 ^ 64 ∧ t.tide.offset = s.tide.offset + s.driftStep + 96

theorem correct_corrected (hheld : s.held = false) : Corrected s s.correct := by
  have ticked := s.tclk_ticked (if decide (0 < s.tide.offset) then 2 else 0) hheld
  simp only [correct]
  generalize s.tclk _ = u at ticked ⊢
  exact {
    clock := (congrArg Tide.clock (inc32_tide u _ _)).trans ticked.clock
    lastCorrection := rfl
    corrections := num_inc32_congr ticked.badObj (ticked.num _ (by decide))
    tideState := (inc32_num_ne (by decide)).trans (ticked.num _ (by decide))
    forward := fun h => by
      have hnow := ticked.now
      simp only [h, decide_true, if_true] at hnow ⊢
      exact ⟨(congrArg Tide.now (inc32_tide u _ _)).trans hnow, by rw [inc32_tide, ticked.offset]⟩
    backward := fun h => by
      have hnow := ticked.now
      simp only [not_lt_of_gt h, decide_false, Bool.false_eq_true, if_false, Nat.add_zero] at hnow ⊢
      exact ⟨(congrArg Tide.now (inc32_tide u _ _)).trans hnow, by rw [inc32_tide, ticked.offset]; omega⟩ }

/-- Only a LOCKED chip drifts. -/
theorem driftStep_eq_zero (h : s.num Obj.TIDE_STATE ≠ 2) : s.driftStep = 0 := if_pos (.inr h)

/-! ### The entry of LOCKED (Table 2-5) -/

/-- `t` is `s` LOCKED, with its tide as it stood. -/
structure Locks (s t : State) : Prop where
  now : t.now = s.now
  clock : t.clock = s.clock
  offset : t.tide.offset = s.tide.offset
  num : ∀ k, k / 0x100000 = 2 → t.num k = (s.setNum Obj.TIDE_STATE 2).num k

theorem enterTide_settle_locks (s : State) : Locks s (s.enterTide 2).settle := by
  generalize hu : ({ s.setNum Obj.TIDE_STATE 2 with tide := { s.tide with everAligned := true } } : State) = u
  have rest : u.Only offTide u.eventIfFree.settle :=
    settle_only (eventIfFree_only (.refl u) (.of_all (by decide +kernel))) (.of_all (by decide +kernel))
  have same : (s.enterTide 2).settle = u.eventIfFree.settle := by rw [← hu]; rfl
  rw [same]
  exact ⟨by rw [now, rest.tide_eq, ← hu]; rfl, by rw [clock, rest.tide_eq, ← hu]; rfl, by rw [rest.tide_eq, ← hu],
    fun k hk => by rw [rest.num_eq hk, ← hu]; rfl⟩

theorem Locks.tideState (h : Locks s t) : t.num Obj.TIDE_STATE = 2 := (h.num _ (by decide)).trans (num_setNum_self ..)

theorem Locks.num_ne (h : Locks s t) {k : Nat} (hk : k / 0x100000 = 2) (hne : Obj.TIDE_STATE ≠ k) : t.num k = s.num k :=
  (h.num k hk).trans (num_setNum_ne hne)

/-! ### The restep (R82, R83) -/

theorem skipLaunches_tide (s : State) (g n : Nat) : (s.skipLaunches g n).tide = s.tide :=
  (skipLaunches_only (l := fun p => p != .tide) (.refl s) (.of_all (by decide +kernel))).same .tide rfl

/-- Launches skipped touch the numbers of their own generator only. -/
theorem skipLaunches_num_generator (s : State) {g h n i : Nat} (hi : i < 256) (hne : g % 256 ≠ h % 256) :
    (s.skipLaunches g n).num ((0x2020 + h % 256) * 256 + i) = s.num ((0x2020 + h % 256) * 256 + i) := by
  have other : ∀ j, j < 256 → (0x2020 + g % 256) * 256 + j ≠ (0x2020 + h % 256) * 256 + i :=
    fun j hj => generatorKey_ne_generator hj hi hne
  simp only [skipLaunches]
  split
  · rfl
  · rw [(launchSeen_offTide _ _ _ _).num_eq (generatorKey_div _ _ hi), inc32_num_ne (other _ (by decide)),
      passLaunches_num_ne _ (other _ (by decide)).symm (other _ (by decide)).symm]

/-- The running generators of a list pass the launches below `n`. -/
def skipRunning (n : Nat) (l : List Nat) (s : State) : State :=
  l.foldl (fun t g => if t.num (Obj.ENABLE g) = 1 ∧ !t.startPending g then t.skipLaunches g n else t) s

theorem skipRunning_tide (n : Nat) (l : List Nat) (s : State) : (skipRunning n l s).tide = s.tide := by
  induction l generalizing s with
  | nil => rfl
  | cons g l ih =>
    rw [skipRunning, List.foldl_cons]
    refine (ih _).trans ?_
    split
    · exact skipLaunches_tide ..
    · rfl

/-- A generator that is off keeps its numbers while the others pass their launches. -/
theorem skipRunning_num_of_off (n : Nat) {l : List Nat} {h i : Nat} (hl : ∀ g ∈ l, g < 256) (hh : h < 256) (hi : i < 256)
    (hoff : s.num (Obj.ENABLE h) ≠ 1) :
    (skipRunning n l s).num ((0x2020 + h % 256) * 256 + i) = s.num ((0x2020 + h % 256) * 256 + i) := by
  induction l generalizing s with
  | nil => rfl
  | cons g l ih =>
    have hl' : ∀ g ∈ l, g < 256 := fun x hx => hl x (List.mem_cons_of_mem _ hx)
    rw [skipRunning, List.foldl_cons]
    split
    · rename_i hrun
      have hne : g % 256 ≠ h % 256 := by
        have hg := hl g List.mem_cons_self
        intro e
        have : g = h := by omega
        exact hoff (this ▸ hrun.1)
      have keeps : ∀ j, j < 256 → (s.skipLaunches g n).num ((0x2020 + h % 256) * 256 + j) =
          s.num ((0x2020 + h % 256) * 256 + j) := fun j hj => skipLaunches_num_generator s hj hne
      exact (ih hl' (by rw [Obj.ENABLE, keeps _ (by decide)]; exact hoff)).trans (keeps i hi)
    · exact ih hl' hoff

theorem num_update_tide (s : State) (T : Tide) (k : Nat) : ({ s with tide := T } : State).num k = s.num k := rfl

theorem windowsFrom_num (s : State) (k : Nat) : s.windowsFrom.num k = s.num k := rfl

/-- `t` is `s` with TIDE_NOW `n` and the offset `o`; the clock and the numbers of the tide stand. -/
structure TideSet (n : Nat) (o : Int) (s t : State) : Prop where
  now : t.now = n
  offset : t.tide.offset = o
  clock : t.clock = s.clock
  num : ∀ k, k / 0x100000 = 2 → t.num k = s.num k

/-- Around the tide that a restep sets, the banks' intervals and the log are brought up to it. -/
theorem restepLog_tideSet (s : State) {T : Tide} {n : Nat} {o : Int} (hnow : T.now = n) (hoff : T.offset = o)
    (hclock : T.clock = s.clock) (code source d0 d1 : Nat) :
    TideSet n o s
      (({ s.scrubAccounts with tide := T } : State).windowsFrom.scrubRestart.eventNote code source d0 d1) := by
  have scrubbed : s.Only offTide s.scrubAccounts := scrubAccounts_only (.refl s) (.of_all (by decide +kernel))
  have noted := fun u : State => eventNote_only (code := code) (source := source) (d0 := d0) (d1 := d1)
    (scrubRestart_only (.refl u) (l := offTide) (.of_all (by decide +kernel))) (.of_all (by decide +kernel))
  exact {
    now := by rw [now, (noted _).tide_eq]; exact hnow
    offset := by rw [(noted _).tide_eq]; exact hoff
    clock := by rw [clock, (noted _).tide_eq]; exact hclock
    num := fun k hk => by rw [(noted _).num_eq hk, windowsFrom_num, num_update_tide, scrubbed.num_eq hk] }

end State

theorem exec_tideCorrection {s : State} (hheld : s.held = false)
    (hstate : s.num Obj.TIDE_STATE = 2 ∨ (s.isMaster = true ∧ s.ppsLock = true)) (hoff : 96 ≤ s.tide.offset.natAbs)
    (hgap : s.correctionFree 1024 = true) :
    exec .tideCorrection s = .next s.correct := by
  refine congrArg Host.Outcome.next (State.live_true hheld ?_)
  rcases hstate with h | ⟨hm, hp⟩
  · simp [h, hoff, hgap]
  · simp [hm, hp, hoff, hgap]

theorem exec_slewStep_within {s : State} (hheld : s.held = false) (hstate : s.num Obj.TIDE_STATE = 3)
    (hgap : s.correctionFree 64 = true) (hoff : s.tide.offset.natAbs ≤ 96) :
    exec .slewStep s = .next (s.enterTide 2).settle := by
  refine congrArg Host.Outcome.next ((State.live_true hheld (by simp [hstate, hgap])).trans ?_)
  simp [Nat.not_lt.2 hoff, hoff]

theorem exec_slewStep_beyond {s : State} (hheld : s.held = false) (hstate : s.num Obj.TIDE_STATE = 3)
    (hgap : s.correctionFree 64 = true) (hoff : 96 < s.tide.offset.natAbs) :
    exec .slewStep s = .next (if s.correct.tide.offset.natAbs ≤ 96 then (s.correct.enterTide 2).settle else s.correct) := by
  refine congrArg Host.Outcome.next ((State.live_true hheld (by simp [hstate, hgap])).trans ?_)
  simp only [hoff, if_true]

/-- A restep sets the tide to the master's value, and then lets the running generators pass what it went over. -/
theorem exec_restep {s : State} (hheld : s.held = false) (hstep : s.num Obj.TIDE_STATE = 5) (hfree : s.chipFree = true) :
    let target : Int := (s.now : Int) * 96 + s.tide.offset
    let n := (target / 96).toNat % 2 ^ 64
    ∃ v, exec .restep s = .next ((State.skipRunning n (List.range 16) v).enterTide 2).settle ∧
      State.TideSet n (target % 96) s v :=
  ⟨_, congrArg Host.Outcome.next (State.live_true hheld (by simp [hstep, hfree])),
    State.restepLog_tideSet s (by rfl) (by rfl) (by rfl) _ _ _ _⟩

/-- Settles O19: a correction is an edge of TCLK that holds or doubles the tide, less the 96 root cycles; a slewing chip does not
drift; a restep sets the tide before it passes the launches of the running generators, which leaves those that are off alone. -/
theorem correctionsAndRestepMoveTheTide : Obligations.CorrectionsAndRestepMoveTheTide := by
  refine ⟨⟨?_, ?_⟩, ?_⟩
  · intro s hheld hstate hoff hgap drift
    have moved := State.correct_corrected hheld
    exact ⟨_, exec_tideCorrection hheld hstate hoff hgap, moved.clock, moved.lastCorrection, moved.corrections,
      moved.forward, moved.backward⟩
  · intro s hheld hstate hgap
    have still : s.driftStep = 0 := State.driftStep_eq_zero (by omega)
    refine ⟨fun hoff => ?_, fun hoff => ?_⟩
    · have locks := s.enterTide_settle_locks
      exact ⟨_, exec_slewStep_within hheld hstate hgap hoff, locks.tideState, locks.now, locks.offset⟩
    · refine ⟨_, exec_slewStep_beyond hheld hstate hgap hoff, ?_⟩
      have moved := State.correct_corrected hheld
      generalize s.correct = u at moved ⊢
      obtain ⟨hclock, -, hcorr, hts, hfwd, hback⟩ := moved
      rw [still, add_zero] at hfwd hback
      split
      · rename_i hin
        have locks := u.enterTide_settle_locks
        generalize (u.enterTide 2).settle = t at locks ⊢
        refine ⟨locks.clock.trans hclock, (locks.num_ne (by decide) (by decide)).trans hcorr, ?_, ?_, ?_⟩
        · rw [locks.offset, if_pos hin, locks.tideState]
        · rwa [locks.now, locks.offset]
        · rwa [locks.now, locks.offset]
      · rename_i hout
        exact ⟨hclock, hcorr, hts.trans hstate, hfwd, hback⟩
  · intro s hheld hstate hfree
    obtain ⟨v, hexec, stepped⟩ := exec_restep hheld hstate hfree
    have skipped := fun n => State.skipRunning_tide n (List.range 16) v
    have locks := (State.skipRunning ((((s.now : Int) * 96 + s.tide.offset) / 96).toNat % 2 ^ 64) (List.range 16)
      v).enterTide_settle_locks
    refine ⟨_, hexec, ?_, ?_, locks.tideState, ?_, fun g hg hoffg => ?_⟩
    · rw [locks.now, State.now, skipped]; exact stepped.now
    · rw [locks.offset, skipped]; exact stepped.offset
    · rw [locks.clock, State.clock, skipped]; exact stepped.clock
    · have off : v.num (Obj.ENABLE g) ≠ 1 := (stepped.num _ (generatorKey_div _ _ (by decide))).trans_ne hoffg
      rw [locks.num_ne (generatorKey_div _ _ (by decide)) (by show 0x203001 ≠ _; omega),
        State.skipRunning_num_of_off _ (fun x hx => (List.mem_range.1 hx).trans (by decide)) (by omega) (by decide) off]
      exact stepped.num _ (generatorKey_div _ _ (by decide))

end Sys2Proof.Machine
end

section
/-!
SUPPORT. How a write to a command object is served (spec/18: R836, Table 18-9a): which object each row of the command table
writes, the state in which an accepted command takes effect, and the answer.
-/

namespace Sys2Proof.Machine

/-- The command object whose write a row of the command table is; none for the other rows. -/
def Row.commandObject : Row → Option Nat
  | .retireCourse => some Obj.RETIRE_COURSE
  | .tablesApply => some Obj.TABLES_APPLY
  | .retireBlock => some Obj.RETIRE_BLOCK
  | .regionsApply => some Obj.REGIONS_APPLY
  | .embApply => some Obj.EMB_APPLY
  | .startRelease => some Obj.START_RELEASE
  | .nvCommit => some Obj.NV_COMMIT
  | .warmReset => some Obj.WARM_RESET
  | .eraseImages | .restoreFactoryLive => some Obj.RESTORE_FACTORY
  | .powerActive | .powerLull | .powerHold => some Obj.POWER_REQUEST
  | .router | .brickLogic | .brickSram | .selection | .csaBank | .sensors => some Obj.SELFTEST_REQUEST
  | _ => none

theorem powerRow_commandObject {n k : Nat} (h : (powerRow n).commandObject = some k) : Obj.POWER_REQUEST = k := by
  unfold powerRow at h
  split at h <;> simp_all [Row.commandObject]

theorem testRow_commandObject {n k : Nat} (h : (testRow n).commandObject = some k) : Obj.SELFTEST_REQUEST = k := by
  unfold testRow at h
  split at h <;> simp_all [Row.commandObject]

theorem commandObject_ite {a b : Row} {c p : Prop} [Decidable c] {k : Nat} (h : (if c then a else b).commandObject = some k)
    (ha : c → a.commandObject = some k → p) (hb : b.commandObject = some k → p) : p := by
  by_cases hc : c
  · exact ha hc (by rwa [if_pos hc] at h)
  · exact hb (by rwa [if_neg hc] at h)

/-- A write with GO set that belongs to a command's row names that command's object. -/
theorem cmdRow_commandObject {j v k : Nat} (h : (cmdRow j v).commandObject = some k) : j = k := by
  unfold cmdRow at h
  iterate 8 refine commandObject_ite h (fun hj hrow => hj.trans (Option.some.inj hrow)) fun h => ?_
  refine commandObject_ite h (fun hj hrow => hj.trans ?restore) fun h => ?_
  case restore =>
    refine commandObject_ite hrow (fun _ => Option.some.inj) fun hrow => ?_
    exact commandObject_ite hrow (fun _ => Option.some.inj) fun hrow => absurd hrow nofun
  refine commandObject_ite h (fun hj hrow => hj.trans (powerRow_commandObject hrow)) fun h => ?_
  exact commandObject_ite h (fun hj hrow => hj.trans (testRow_commandObject hrow)) fun hrow => absurd hrow nofun

/-- A request of a command's row is a write with GO set to a command object. -/
theorem rowOfRequest_command {q : Request} {k : Nat} (h : (rowOfRequest q).commandObject = some k) :
    q.opcode = 2 ∧ rowOfRequest q = cmdRow (reqKey q) (reqValue q) ∧ bit (reqValue q) (goBit (reqKey q)) = true := by
  unfold rowOfRequest at h ⊢
  split at h
  case h_1 hop =>
    unfold writeRow at h ⊢
    extract_lets at h ⊢
    iterate 5
      split at h
      case isTrue => exact absurd h (by simp [Row.commandObject])
      rw [if_neg ‹_›]
    split at h
    case isFalse => exact absurd h (by simp [Row.commandObject])
    case isTrue hgo => exact ⟨hop, if_pos hgo, hgo⟩
  all_goals exact absurd h (by simp [Row.commandObject])

/-- It names the row's own object. -/
theorem reqKey_of_commandObject {q : Request} {k : Nat} (h : (rowOfRequest q).commandObject = some k) : reqKey q = k := by
  obtain ⟨-, hrow, -⟩ := rowOfRequest_command h
  exact cmdRow_commandObject (hrow ▸ h)

/-- A request of the ROUTER row asks for the self-test of that kind. -/
theorem kind_of_router {q : Request} (h : rowOfRequest q = .router) : bits (reqValue q) 11 8 = 1 := by
  have hobject : (rowOfRequest q).commandObject = some Obj.SELFTEST_REQUEST := by rw [h]; rfl
  obtain ⟨-, hrow, -⟩ := rowOfRequest_command hobject
  rw [h, reqKey_of_commandObject hobject] at hrow
  have htest : testRow (bits (reqValue q) 11 8) = .router := hrow.symm
  unfold testRow at htest
  split at htest
  case h_1 hkind => exact hkind
  all_goals cases htest

/-- The command objects. -/
def commandObjects : List Nat :=
  [Obj.RETIRE_COURSE, Obj.TABLES_APPLY, Obj.RETIRE_BLOCK, Obj.REGIONS_APPLY, Obj.EMB_APPLY, Obj.START_RELEASE, Obj.NV_COMMIT,
   Obj.WARM_RESET, Obj.RESTORE_FACTORY, Obj.POWER_REQUEST, Obj.SELFTEST_REQUEST]

theorem commandObject_mem {row : Row} {k : Nat} (h : row.commandObject = some k) : k ∈ commandObjects := by
  cases row <;> simp_all [Row.commandObject, commandObjects]

/-- Every command object is a CMD object that software writes. -/
theorem objectRow_commandObject {k : Nat} (hk : k ∈ commandObjects) :
    ∃ r, objectRow k = some r ∧ r.kind = .cmd ∧ r.access = .rw := by
  have hall : ∀ k ∈ commandObjects, ∃ r ∈ objectRow k, r.kind = .cmd ∧ r.access = .rw := by decide +kernel
  exact hall k hk

namespace State

/-- Taking a new request changes the management port's own state alone. -/
theorem heard_eq (s : State) (q : Request) : s.heard q = { s with shore := (s.heard q).shore } := by
  unfold heard dequeue
  cases q.src <;> rfl

/-- The object of an accepted command is all that it writes beside the port's own state before it acts. -/
theorem commanded_eq (s : State) (q : Request) : s.commanded q = { s with
    obj := Store.set Obj.default s.obj (reqKey q) (cmdStored (reqKey q) (reqValue q))
    badObj := s.badObj.filter (fun p => p.1 != reqKey q)
    shore := (s.heard q).shore } := by
  unfold commanded
  rw [heard_eq]
  rfl

section
variable (s : State) (q : Request)
@[simp] theorem commanded_tide : (s.commanded q).tide = s.tide := by rw [commanded_eq]
@[simp] theorem commanded_wall : (s.commanded q).wall = s.wall := by rw [commanded_eq]
@[simp] theorem commanded_tables : (s.commanded q).tables = s.tables := by rw [commanded_eq]
@[simp] theorem commanded_hbm : (s.commanded q).hbm = s.hbm := by rw [commanded_eq]
@[simp] theorem commanded_egs : (s.commanded q).egs = s.egs := by rw [commanded_eq]
@[simp] theorem commanded_sched : (s.commanded q).sched = s.sched := by rw [commanded_eq]
@[simp] theorem commanded_nv : (s.commanded q).nv = s.nv := by rw [commanded_eq]
@[simp] theorem commanded_power : (s.commanded q).power = s.power := by rw [commanded_eq]
@[simp] theorem commanded_clock : (s.commanded q).clock = s.clock := congrArg Tide.clock (s.commanded_tide q)
@[simp] theorem commanded_lclk : (s.commanded q).lclk = s.lclk := congrArg (· / 2) (s.commanded_clock q)
@[simp] theorem commanded_now : (s.commanded q).now = s.now := congrArg Tide.now (s.commanded_tide q)
@[simp] theorem commanded_courseState (c : Nat) : (s.commanded q).courseState c = s.courseState c := by
  rw [courseState, commanded_wall]; rfl
end

theorem commanded_num_ne {s : State} {q : Request} {k : Nat} (h : reqKey q ≠ k) : (s.commanded q).num k = s.num k := by
  rw [commanded_eq]
  exact num_setNum_ne h

theorem commanded_num_of_row {s : State} {q : Request} {row : Row} {k j : Nat} (hrow : rowOfRequest q = row)
    (hk : row.commandObject = some k) (hne : k ≠ j) : (s.commanded q).num j = s.num j :=
  commanded_num_ne (reqKey_of_commandObject (hrow ▸ hk) ▸ hne)

/-- A request taken as a new one is judged once it is heard, and its answer goes out. -/
theorem serve_of_takes {s : State} {q : Request} (h : s.takes q) (cmd : State → State) :
    s.serve q cmd = ((s.heard q).judge q cmd).2.replies q ((s.heard q).judge q cmd).1 := by
  obtain ⟨-, -, hsource⟩ := h
  unfold serve heard
  cases hq : q.src with
  | mailbox => rfl
  | port mac =>
    rw [hq] at hsource
    obtain ⟨hotp, hnew⟩ := hsource
    have hotp' : (s.dequeue q).nv.otp.bad = false := by rw [← hotp]; unfold dequeue; rw [hq]
    have hnew' : (s.dequeue q).isDuplicate mac q.seq = false := by rw [← hnew]; unfold dequeue; rw [hq]; rfl
    simp [hotp', hnew', replies]

/-- The command of the row that a request belongs to, the request taken as a new one. -/
theorem answer_of_takes {s : State} {q : Request} {row : Row} (h : s.takes q) (hrow : rowOfRequest q = row)
    (cmd : State → State) : s.answer row q cmd =
      .next (((s.heard q).judge q cmd).2.replies q ((s.heard q).judge q cmd).1) := by
  obtain ⟨hheld, hwaits, -⟩ := id h
  rw [answer, live_true hheld (by simp [hwaits, hrow]), serve_of_takes h]

/-- A write that passes orders 1 to 9 of Table 18-9a. -/
theorem judge_write {s : State} {q : Request} {r : ObjRow} (h : s.reaches q r) (hop : q.opcode = 2) (cmd : State → State) :
    (s.heard q).judge q cmd = (s.heard q).writeObject (reqKey q) r q.body cmd := by
  obtain ⟨⟨-, hheader, hhold⟩, hrow, hcode⟩ := h
  have hhold' : (s.heard q).holdRefuses q = false := by
    rw [← hhold, holdRefuses, holdRefuses, heard_eq]
    simp [hop, powerState]
    rfl
  have hnames : namesObject 2 = true := by decide
  simp [judge, hheader, hhold', hnames, hcode, hrow, objectRequest, hop]

/-- A write with GO set to a command object is judged by the command's own code. -/
theorem writeObject_command {s : State} {k : Nat} {r : ObjRow} {l : List Byte} (hkind : r.kind = .cmd) (hrw : r.access = .rw)
    (hlen : l.length = r.size) (hgo : bit (ofBe l) (goBit k) = true) (cmd : State → State) :
    s.writeObject k r l cmd = if s.cmdCode k (ofBe l) ≠ 0 then (.aborted (s.cmdCode k (ofBe l)), s) else
      (.done [], cmd { s.setNum k (cmdStored k (ofBe l)) with badObj := s.badObj.filter (fun p => p.1 != k) }) := by
  simp [writeObject, hkind, hrw, hlen, hgo]

/-- A write with GO set to a command object that passes orders 1 to 9. -/
theorem judge_command {s : State} {q : Request} {r : ObjRow} {k : Nat} (h : s.reaches q r) (hlen : q.body.length = r.size)
    (hrow : (rowOfRequest q).commandObject = some k) (cmd : State → State) : (s.heard q).judge q cmd =
      let code := (s.heard q).cmdCode (reqKey q) (reqValue q)
      if code ≠ 0 then (.aborted code, s.heard q) else (.done [], cmd (s.commanded q)) := by
  obtain ⟨hop, -, hgo⟩ := rowOfRequest_command hrow
  obtain rfl := reqKey_of_commandObject hrow
  obtain ⟨r', hr', hkind, hrw⟩ := objectRow_commandObject (commandObject_mem hrow)
  obtain ⟨-, hr, -⟩ := id h
  obtain rfl : r' = r := Option.some.inj (hr'.symm.trans hr)
  rw [judge_write h hop, writeObject_command hkind hrw hlen hgo]
  rfl

/-- An accepted command is answered DONE, and takes effect on the state in which its object holds what was written. -/
theorem answer_accepted {s : State} {q : Request} {row : Row} {k : Nat} (h : s.accepts q) (hrow : rowOfRequest q = row)
    (hk : row.commandObject = some k) (cmd : State → State) :
    s.answer row q cmd = .next ((cmd (s.commanded q)).replies q (.done [])) := by
  obtain ⟨⟨r, hreach, hlen⟩, hcode⟩ := h
  have htakes : s.takes q := hreach.1.1
  rw [answer_of_takes htakes hrow, judge_command hreach hlen (hrow ▸ hk), hcode]
  rfl

end State

end Sys2Proof.Machine
end

section
/-!
SUPPORT. What the commands of the courses, of external memory and of the image do (spec/03: R137, R146; spec/11: R477; spec/19:
R889, R890, R896).
-/

namespace Sys2Proof.Machine

namespace State

/-! ### Courses -/

theorem courseState_congr {s t : State} (h : t.wall = s.wall) (c : Nat) : t.courseState c = s.courseState c := by
  rw [courseState, courseState, h]

/-- A course's change of state is its own alone. -/
theorem courseState_setCourse (s : State) (c v d : Nat) :
    (s.setCourse c v).courseState d = if c = d then v else s.courseState d := by
  unfold setCourse
  extract_lets old wall s1
  split
  · rename_i hold
    split
    · rename_i hcd; exact hcd ▸ hold
    · rfl
  · have hwall : (s1.eventNote 0x0A30 0 (c + 256 * old + 65536 * v) 0).wall = s1.wall :=
      (eventNote_only (.refl s1) (.among _)).same .wall (by decide)
    rw [courseState_congr hwall]
    split
    · rename_i hcd; subst hcd; exact Store.get_set_eq
    · rename_i hcd; exact Store.get_set_ne hcd

/-- An ACTIVE or SPARE course is marked RETIRE_PENDING, and no other course changes. -/
theorem courseState_retirePending {s : State} {c : Nat} (h : s.courseState c = 0 ∨ s.courseState c = 1) (d : Nat) :
    (s.retirePending c).courseState d = if c = d then 3 else s.courseState d := by
  unfold retirePending
  rcases h with h | h <;> rw [h]
  · exact courseState_setCourse s c 3 d
  · exact courseState_setCourse s c 3 d

theorem retirePending_of_two_le {s : State} {c : Nat} (h : 2 ≤ s.courseState c) : s.retirePending c = s := by
  unfold retirePending
  split
  · omega
  · omega
  · rfl

/-! ### Blocks of external memory -/

theorem retireBlock_mem (s : State) (b : Nat) : (s.retireBlock b).hbm.mem = s.hbm.mem :=
  (retireBlock_only (.refl s) (.among _)).same .mem (by decide)

/-- With room in the list of retired blocks, a block retired joins those retired before. -/
theorem mem_retireBlock_retired {s : State} {b x : Nat} (h : s.hbm.retired.length < 4096) :
    x ∈ (s.retireBlock b).hbm.retired ↔ x = b ∨ x ∈ s.hbm.retired := by
  unfold retireBlock
  split
  · rename_i hin
    have hb : b ∈ s.hbm.retired := by simpa using hin
    exact ⟨.inr, fun hx => hx.elim (· ▸ hb) id⟩
  · rw [if_neg (by omega)]
    extract_lets l hbm s1
    have hhbm : ((s1.setSticky Obj.HBM_STICKY 2).event 0x0A51 4 b (pcOf (b * 2048))).hbm = s1.hbm :=
      (event_only (.refl _) (.among _)).same .hbm (by decide)
    have hsplit : x ∈ l ↔ x ∈ l.takeWhile (fun y => y < b) ∨ x ∈ l.dropWhile (fun y => y < b) := by
      rw [← List.mem_append, List.takeWhile_append_dropWhile]
    rw [hhbm, show s.hbm.retired = l from rfl, hsplit]
    show x ∈ l.takeWhile (fun y => y < b) ++ b :: l.dropWhile (fun y => y < b) ↔ _
    simp only [List.mem_append, List.mem_cons]
    tauto

/-! ### The image -/

@[simp] theorem setWork_work (s : State) (v : Nat) (w : Option FlashJob) : (s.setWork v w).nv.work = w := rfl
@[simp] theorem setWork_flash (s : State) (v : Nat) (w : Option FlashJob) : (s.setWork v w).nv.flash = s.nv.flash := rfl
@[simp] theorem setWork_nvState (s : State) (v : Nat) (w : Option FlashJob) : (s.setWork v w).num Obj.NV_STATE = v :=
  num_setNum_self ..

/-- A commit with nothing staged begins with the live values. -/
theorem nvCommit_live {s : State} {seq : Nat} (h : s.num Obj.STAGE_LENGTH = 0) :
    s.nvCommit seq = s.beginCommit (imageHeader seq s.liveBody ++ s.liveBody) seq := if_pos h

end State

end Sys2Proof.Machine
end

section
/-!
SUPPORT. What the requests for a power state and for a self-test do (spec/20: R914, R915, R934, R939, R940, Tables 20-2, 20-5).
-/

namespace Sys2Proof.Machine

namespace State

/-! ### ACTIVE -/

/-- Taking the stacks and ports out of HOLD leaves power and its numbers alone. -/
theorem trainPorts_scrubAccounts_keeps (s : State) (l : List Nat) :
    (s.scrubAccounts.trainPorts l).power = s.power ∧
      (s.scrubAccounts.trainPorts l).num Obj.LULL_HELD = s.num Obj.LULL_HELD := by
  have kept : s.Only (among [.num 1, .num 7, .num 9, .num 11, .faults, .csa, .coast, .shore])
      (s.scrubAccounts.trainPorts l) :=
    trainPorts_only (scrubAccounts_only (.refl s) (.of_all (by decide))) (.of_all (by decide))
  exact ⟨kept.same .power (by decide), kept.same (.num 10) (by decide) Obj.LULL_HELD (by decide)⟩

/-- No LULL is asked for, and the chip is in a power state. -/
structure AwakeIn (v : Nat) (s : State) : Prop where
  held : s.num Obj.LULL_HELD = 0
  due : s.power.lullDue = false
  state : s.powerState = v

theorem AwakeIn.withTide {v : Nat} {s : State} (h : AwakeIn v s) (x : Tide) : AwakeIn v { s with tide := x } :=
  ⟨h.held, h.due, h.state⟩

theorem enterWaking_awake {s : State} (hheld : s.num Obj.LULL_HELD = 0) (hdue : s.power.lullDue = false) :
    AwakeIn 2 s.enterWaking :=
  ⟨(num_setNum_ne (s := s) (j := Obj.POWER_STATE) (v := 2) (by decide)).trans hheld, hdue,
    num_setNum_self s Obj.POWER_STATE 2⟩

/-- A request for ACTIVE ends a LULL asked for, and wakes a chip that is in LULL or in HOLD. -/
theorem powerActive_awake (s : State) :
    AwakeIn (if s.powerState = 1 ∨ s.powerState = 4 then 2 else s.powerState) s.powerActive := by
  unfold powerActive
  extract_lets cleared power s1 s2 tide
  have held : s1.num Obj.LULL_HELD = 0 := num_setNum_self s Obj.LULL_HELD 0
  by_cases hlull : s.powerState = 1
  · rw [if_pos (.inl hlull), if_pos hlull]
    exact enterWaking_awake held rfl
  by_cases hhold : s.powerState = 4
  · rw [if_pos (.inr hhold), if_neg hlull, if_pos hhold]
    obtain ⟨hpower, hheld⟩ := s1.trainPorts_scrubAccounts_keeps (List.range 8)
    have awake : AwakeIn 2 s2 := enterWaking_awake (hheld.trans held) (by rw [hpower])
    exact awake.withTide _
  · rw [if_neg (by tauto), if_neg hlull, if_neg hhold]
    exact ⟨held, rfl, num_setNum_ne (s := s) (j := Obj.LULL_HELD) (v := 0) (by decide)⟩

/-! ### LULL -/

theorem lullFollows_of_run {s : State} {r : Run} (h : s.sched.run = some r) : s.lullFollows = s := by
  simp [lullFollows, h]

theorem lullFollows_of_drain {s : State} {d : Drain} (hrun : s.sched.run = none) (hhold : s.sched.hold = none)
    (h : s.power.drain = some d) : s.lullFollows = s.drainJobs := by
  simp [lullFollows, hrun, hhold, h]

theorem lullFollows_of_free {s : State} (hrun : s.sched.run = none) (hhold : s.sched.hold = none)
    (hdrain : s.power.drain = none) (hdue : s.power.lullDue = true) (hactive : s.powerState = 0) : s.lullFollows =
      { s.setNum Obj.POWER_STATE 1 with power := { s.power with lullDue := false, automatic := false } } := by
  simp [lullFollows, hrun, hhold, hdrain, hdue, hactive]

/-- A free chip that is ACTIVE or in LULL is in the LULL asked for at once. -/
theorem powerLull_of_free {s : State} (hrun : s.sched.run = none) (hhold : s.sched.hold = none)
    (hdrain : s.power.drain = none) (hstate : s.powerState ≤ 1) :
    s.powerLull.powerState = 1 ∧ s.powerLull.num Obj.LULL_HELD = 1 ∧ s.powerLull.power.automatic = false := by
  unfold powerLull
  extract_lets s1 power
  have held : s1.num Obj.LULL_HELD = 1 := num_setNum_self ..
  have same : s1.powerState = s.powerState := num_setNum_ne (by decide)
  split
  · rename_i hlull
    exact ⟨same.trans hlull, held, rfl⟩
  · rw [lullFollows_of_free (s := { s1 with power := { power with lullDue := true } }) hrun hhold hdrain rfl
      (same.trans (by omega))]
    exact ⟨num_setNum_self s1 Obj.POWER_STATE 1,
      (num_setNum_ne (s := s1) (j := Obj.POWER_STATE) (v := 1) (by decide)).trans held, rfl⟩

/-- While a job runs, the LULL asked for is due after it. -/
theorem powerLull_of_run {s : State} {r : Run} (hrun : s.sched.run = some r) (hstate : s.powerState ≠ 1) :
    s.powerLull.powerState = s.powerState ∧ s.powerLull.power.lullDue = true := by
  unfold powerLull
  extract_lets s1 power
  rw [if_neg hstate, lullFollows_of_run (s := { s1 with power := { power with lullDue := true } }) hrun]
  exact ⟨num_setNum_ne (s := s) (j := Obj.LULL_HELD) (v := 1) (by decide), rfl⟩

/-! ### HOLD: the drain of the jobs that wait -/

/-- What a drain of the waiting jobs keeps on a chip that is not in LULL: its power state, its drain, and the fetches. -/
structure KeepsDrain (s t : State) : Prop where
  state : t.powerState = s.powerState
  power : t.power = s.power
  fetch : t.sched.fetch = s.sched.fetch

theorem KeepsDrain.trans {s t u : State} (h : s.KeepsDrain t) (h' : t.KeepsDrain u) : s.KeepsDrain u :=
  ⟨h'.state.trans h.state, h'.power.trans h.power, h'.fetch.trans h.fetch⟩

theorem eventIfFree_keepsDrain {s : State} (h : s.powerState ≠ 1) : s.KeepsDrain s.eventIfFree := by
  unfold eventIfFree
  split
  · rw [selectionEvent, if_neg (by simp [powerState] at h ⊢; tauto)]
    exact ⟨rfl, rfl, rfl⟩
  · exact ⟨rfl, rfl, rfl⟩

@[simp] theorem eventIfFree_slots (s : State) : s.eventIfFree.sched.slots = s.sched.slots := by
  unfold eventIfFree selectionEvent
  split
  · split <;> rfl
  · rfl

/-- A job named by its client and its place in the ring. -/
def sameJob (j k : Job) : Bool := k.client == j.client && k.pos == j.pos

theorem retireJob_abandoned (s : State) (j : Job) : s.retireJob j 4 =
    (if j.maint.isSome then s.dropJob j else (s.dropJob j).addEntry (s.entryOf j 4 0)).eventIfFree := rfl

/-- A job retired ABANDONED leaves its slot. -/
theorem retireJob_slots (s : State) (j : Job) :
    (s.retireJob j 4).sched.slots = s.sched.slots.filter (fun k => !sameJob j k) := by
  rw [retireJob_abandoned, eventIfFree_slots]
  split <;> rfl

theorem retireJob_keepsDrain {s : State} (j : Job) (h : s.powerState ≠ 1) : s.KeepsDrain (s.retireJob j 4) := by
  rw [retireJob_abandoned]
  have dropped : s.KeepsDrain (if j.maint.isSome then s.dropJob j else (s.dropJob j).addEntry (s.entryOf j 4 0)) := by
    split <;> exact ⟨rfl, rfl, rfl⟩
  exact dropped.trans (eventIfFree_keepsDrain (dropped.state.trans_ne h))

theorem foldl_retireJob_slots (l : List Job) (s : State) :
    (l.foldl (fun t j => t.retireJob j 4) s).sched.slots = s.sched.slots.filter (fun k => l.all (fun j => !sameJob j k)) := by
  induction l generalizing s with
  | nil => simp
  | cons j l ih => rw [List.foldl_cons, ih, retireJob_slots, List.filter_filter]; simp [Bool.and_comm]

theorem foldl_retireJob_keepsDrain (l : List Job) {s : State} (h : s.powerState ≠ 1) :
    s.KeepsDrain (l.foldl (fun t j => t.retireJob j 4) s) := by
  induction l generalizing s with
  | nil => exact ⟨rfl, rfl, rfl⟩
  | cons j l ih =>
    have first := retireJob_keepsDrain j h
    exact first.trans (ih (first.state.trans_ne h))

/-- No job and no fetch is left after the drain of the waiting jobs, which leaves power alone on a chip that is not in LULL. -/
theorem drainJobs_empties {s : State} (h : s.powerState ≠ 1) : s.drainJobs.powerState = s.powerState ∧
    s.drainJobs.power = s.power ∧ s.drainJobs.sched.slots = [] ∧ s.drainJobs.sched.fetch = [] := by
  unfold drainJobs
  extract_lets l sched s1
  have kept : s1.KeepsDrain (l.foldl (fun t j => t.retireJob j 4) s1) := foldl_retireJob_keepsDrain l h
  have slots := foldl_retireJob_slots l s1
  have state := (num_setNum_ne (j := Obj.SCHED_STATE) (v := 0) (by decide)).trans kept.state
  refine ⟨state, kept.power, slots.trans ?_, kept.fetch⟩
  refine List.filter_eq_nil_iff.2 fun k hk => ?_
  simp only [List.all_eq_true, not_forall]
  exact ⟨k, hk, by simp [sameJob]⟩

/-! ### HOLD: the running job torn down -/

/-- A teardown that begins is to end 20 ticks later. -/
theorem tearStart_tear {s : State} (r : Run) (outcome code : Nat) (owed : Bool) (h : s.sched.tear = none) :
    (s.tearStart r outcome code owed).sched.tear =
      some { at_ := s.clock + 20, outcome := outcome, code := code, owed := owed } := by
  unfold tearStart
  rw [h]
  dsimp only
  have stopped : ∀ t : State, t.clock = s.clock → (t.edgeAbandon.setSched 4).clock = s.clock := fun t ht =>
    (congrArg Tide.clock ((setSched_only (edgeAbandon_only (.refl t) (.of_all (by decide))) (.of_all (by decide))
      : t.Only (among [.num 1, .num 3, .num 5, .num 11, .faults, .sel, .csa, .hbm, .egs, .sched, .shore, .mem]) _).same .tide
        (by decide))).trans ht
  have abandoned : ∀ k b, (s.maintAbandoned k b).clock = s.clock := fun k b =>
    congrArg Tide.clock ((maintAbandoned_only (.refl s) (.among _)).same .tide (by decide))
  rw [if_neg (by simp)]
  split
  · rw [stopped _ (abandoned _ _)]
  · rw [stopped _ rfl]

theorem tearStart_tear_isSome (s : State) (r : Run) (outcome code : Nat) (owed : Bool) :
    (s.tearStart r outcome code owed).sched.tear.isSome = true := by
  cases h : s.sched.tear with
  | none => rw [tearStart_tear r outcome code owed h]; rfl
  | some t => rw [tearStart, if_pos (by simp [h]), h]; rfl

/-- A teardown that begins leaves the power state, the drain and the run of its job standing. -/
theorem tearStart_keeps (s : State) (r : Run) (outcome code : Nat) (owed : Bool) :
    (s.tearStart r outcome code owed).powerState = s.powerState ∧ (s.tearStart r outcome code owed).power = s.power ∧
      (s.tearStart r outcome code owed).sched.run = s.sched.run := by
  have kept := (tearStart_only (r := r) (outcome := outcome) (code := code) (owed := owed) (.refl s) (.among _)).same
  exact ⟨kept (.num 10) (by decide) Obj.POWER_STATE (by decide), kept .power (by decide), kept .run (by decide)⟩

/-! ### HOLD -/

/-- The state in which a drain has been asked for and nothing is drained yet. -/
def drainAsked (s : State) (abandon : Bool) : State :=
  { s.setNum Obj.POWER_STATE 3 with
    power := { s.power with drain := some { abandon := abandon, at_ := s.clock }, lullDue := false, automatic := false } }

@[simp] theorem drainAsked_powerState (s : State) (a : Bool) : (s.drainAsked a).powerState = 3 :=
  num_setNum_self s Obj.POWER_STATE 3
@[simp] theorem drainAsked_drain (s : State) (a : Bool) :
    (s.drainAsked a).power.drain = some { abandon := a, at_ := s.clock } := rfl
@[simp] theorem drainAsked_sched (s : State) (a : Bool) : (s.drainAsked a).sched = s.sched := rfl
@[simp] theorem drainAsked_clock (s : State) (a : Bool) : (s.drainAsked a).clock = s.clock := rfl

theorem powerHold_of_run {s : State} {r : Run} (h : s.sched.run = some r) (a : Bool) :
    s.powerHold a = if a then (s.drainAsked a).tearStart r 4 0 false else s.drainAsked a := by
  unfold powerHold
  dsimp only
  rw [setNum_sched, h]
  rfl

theorem powerHold_of_none {s : State} (h : s.sched.run = none) (a : Bool) : s.powerHold a = (s.drainAsked a).lullFollows := by
  unfold powerHold
  dsimp only
  rw [setNum_sched, h]
  rfl

/-- A request for HOLD begins a drain. -/
theorem powerHold_drains (s : State) (a : Bool) :
    (s.powerHold a).powerState = 3 ∧ (s.powerHold a).power.drain = some { abandon := a, at_ := s.clock } := by
  cases hrun : s.sched.run with
  | some r =>
    rw [powerHold_of_run hrun]
    split
    · obtain ⟨hstate, hpower, -⟩ := (s.drainAsked a).tearStart_keeps r 4 0 false
      rw [hstate, hpower]
      exact ⟨drainAsked_powerState s a, rfl⟩
    · exact ⟨drainAsked_powerState s a, rfl⟩
  | none =>
    rw [powerHold_of_none hrun]
    cases hhold : s.sched.hold with
    | some h =>
      rw [lullFollows, if_pos (by simp [hhold])]
      exact ⟨drainAsked_powerState s a, rfl⟩
    | none =>
      obtain ⟨hstate, hpower, -⟩ := drainJobs_empties (s := s.drainAsked a) (by simp)
      rw [lullFollows_of_drain (s := s.drainAsked a) hrun hhold (drainAsked_drain s a), hstate, hpower]
      exact ⟨drainAsked_powerState s a, rfl⟩

/-- On a free chip the waiting jobs and the fetches are gone at once. -/
theorem powerHold_of_free {s : State} (hrun : s.sched.run = none) (hhold : s.sched.hold = none) (a : Bool) :
    (s.powerHold a).sched.slots = [] ∧ (s.powerHold a).sched.fetch = [] := by
  obtain ⟨-, -, hslots, hfetch⟩ := drainJobs_empties (s := s.drainAsked a) (by simp)
  rw [powerHold_of_none hrun, lullFollows_of_drain (s := s.drainAsked a) hrun hhold (drainAsked_drain s a)]
  exact ⟨hslots, hfetch⟩

/-- The running job is torn down where ABANDON is set, and runs on where it is not. -/
theorem powerHold_tears {s : State} {r : Run} (h : s.sched.run = some r) (a : Bool) : (s.powerHold a).sched.run = some r ∧
    (s.sched.tear = none → (s.powerHold a).sched.tear =
      if a then some { at_ := s.clock + 20, outcome := 4, code := 0, owed := false } else none) := by
  rw [powerHold_of_run h]
  cases a with
  | false => exact ⟨h, id⟩
  | true =>
    obtain ⟨-, -, hrun⟩ := (s.drainAsked true).tearStart_keeps r 4 0 false
    exact ⟨hrun.trans h, fun ht => tearStart_tear r 4 0 false ht⟩

/-! ### Self-tests -/

/-- The maintenance job of a self-test accepted: eligible at once. -/
def testJob (s : State) (kind bank : Nat) : Job :=
  { client := 0, pos := s.sched.maintNext, desc := {}, maint := some (kind, bank), candAt := some s.now, elig := some s.now,
    displaced := 0, aborts := 0, bad := false }

/-- A self-test accepted is the last of the jobs that wait. -/
def testQueued (s : State) (kind bank : Nat) : State :=
  { s with sched := { s.sched with
      maintNext := s.sched.maintNext + 1, slots := s.sched.slots ++ [s.testJob kind bank] } }

theorem testRequest_of_ne {kind : Nat} (h : kind ≠ 6) (s : State) (bank : Nat) :
    s.testRequest kind bank = (s.testQueued kind bank).eventIfFree.settle := if_neg h

end State

end Sys2Proof.Machine
end

section
/-!
SUPPORT. What the acceptance of a warm reset leaves of the jobs (spec/19: R898; spec/15: R698).
-/

namespace Sys2Proof.Machine

namespace State

/-! ### What follows a change of jobs by itself -/

/-- `t` has the scheduler of `s`, but for entries that wait or are written and for fetches. -/
def SameJobs (s t : State) : Prop :=
  ∃ entries written fetch, t.sched = { s.sched with entries := entries, written := written, fetch := fetch }

theorem SameJobs.of_eq {s t : State} (h : t.sched = s.sched) : s.SameJobs t := ⟨_, _, _, h⟩

theorem SameJobs.trans {s t u : State} (h : s.SameJobs t) (h' : t.SameJobs u) : s.SameJobs u := by
  obtain ⟨e, w, f, ht⟩ := h
  obtain ⟨e', w', f', hu⟩ := h'
  exact ⟨e', w', f', by rw [hu, ht]⟩

theorem writeEntry_sameJobs (s : State) (e : Entry) : s.SameJobs (s.writeEntry e) := by
  unfold writeEntry
  extract_lets c n s1 s2 sched s3
  have written : s.SameJobs s3 := ⟨_, _, _, rfl⟩
  split
  · refine written.trans (.of_eq ?_)
    unfold raiseVector
    split <;> rfl
  · exact written

theorem flushEntries_sameJobs (l : List Entry) (s : State) (kept : List Entry) : s.SameJobs (flushEntries s kept l) := by
  induction l generalizing s kept with
  | nil => exact ⟨_, _, _, rfl⟩
  | cons e l ih =>
    unfold flushEntries
    extract_lets wait
    split
    · exact ih ..
    split
    · exact (SameJobs.of_eq rfl).trans (ih ..)
    · exact (writeEntry_sameJobs s e).trans (ih ..)

theorem tryFetch_sameJobs (s : State) (c : Nat) : s.SameJobs (s.tryFetch c) := by
  unfold tryFetch
  split
  · exact ⟨_, _, _, rfl⟩
  · exact .of_eq rfl

theorem tryStopped_sameJobs (s : State) (c : Nat) : s.SameJobs (s.tryStopped c) := by
  unfold tryStopped
  split <;> exact .of_eq rfl

theorem ringsFollow_sameJobs (s : State) : s.SameJobs s.ringsFollow := by
  have clients : ∀ (l : List Nat) (t : State), t.SameJobs (l.foldl (fun t c => (t.tryStopped c).tryFetch c) t) := by
    intro l
    induction l with
    | nil => exact fun t => .of_eq rfl
    | cons c l ih => exact fun t => ((t.tryStopped_sameJobs c).trans (tryFetch_sameJobs _ c)).trans (ih _)
  exact (flushEntries_sameJobs _ s []).trans (clients _ _)

/-! ### The end of the running job -/

/-- No job runs. -/
def Idle (s : State) : Prop := s.sched.run = none

theorem Idle.ite {a b : State} {c : Prop} [Decidable c] (ha : a.Idle) (hb : b.Idle) : (if c then a else b).Idle := by
  split <;> assumption

theorem Idle.congr {s t : State} (h : s.Idle) (hrun : t.sched.run = s.sched.run) : t.Idle := hrun.trans h

theorem Idle.owe {s : State} (h : s.Idle) (e : Option Entry) : Idle { s with sched := { s.sched with owed := e } } := h

@[simp] theorem selectionEvent_run (s : State) : s.selectionEvent.sched.run = s.sched.run := by
  unfold selectionEvent
  split <;> rfl

theorem endRun_idle (s : State) (r : Run) (e : Option Entry) : (s.endRun r e).Idle := by
  unfold endRun
  refine Idle.congr ?_ (selectionEvent_run _)
  cases e with
  | none => exact rfl
  | some x => dsimp only; split <;> exact rfl

/-- The end of a teardown leaves no job running. -/
theorem tearEnd_idle (s : State) (r : Run) (t : Teardown) (d : Nat) : (s.tearEnd r t d).Idle := by
  unfold tearEnd
  extract_lets s1 e counted sched s2 last lastSched s3
  clear_value s1 s2
  have stopped : ∀ x, (s2.endRun r x).Idle := endRun_idle s2 r
  have ended : s3.Idle := .ite (stopped none) (.ite ((stopped none).owe _) (stopped _))
  clear_value s3
  have kept : s3.Only (among [.num 1, .num 3, .num 4, .num 10, .num 11, .reg, .faults, .mortar, .sched, .host, .shore, .power,
      .device]) s3.unbalanced.lullFollows :=
    lullFollows_only (unbalanced_only (.refl s3) (.of_all (by decide))) (.of_all (by decide))
  exact ended.congr (kept.same .run (by decide))

/-- The running job torn down and ended in one step. -/
theorem tearNow_idle (s : State) (r : Run) : (s.tearNow r).Idle := by
  obtain ⟨t, ht⟩ := Option.isSome_iff_exists.1 (tearStart_tear_isSome s r 4 0 false)
  have hnow : s.tearNow r = (s.tearStart r 4 0 false).tearEnd r t (t.at_ - (s.tearStart r 4 0 false).clock) := by
    show (match (s.tearStart r 4 0 false).sched.tear with
      | some t => (s.tearStart r 4 0 false).tearEnd r t (t.at_ - (s.tearStart r 4 0 false).clock)
      | none => s.tearStart r 4 0 false) = _
    rw [ht]
  exact hnow ▸ tearEnd_idle ..

/-! ### The acceptance of a warm reset -/

theorem shadowEmpty_run (s : State) : s.shadowEmpty.sched.run = s.sched.run := rfl

/-- The parts that the teardown of the running job may change. -/
def tornParts : List Part :=
  [.num 1, .num 3, .num 4, .num 5, .num 10, .num 11, .num 13, .reg, .faults, .wall, .mortar, .sel, .csa, .hbm, .egs, .sched,
   .host, .shore, .power, .device, .run, .mem, .slots]

/-- The parts that a warm reset may change once the running job is torn down. -/
def discardParts : List Part := [.num 3, .num 4, .num 7, .reg, .wall, .csa, .sched, .host, .out]

/-- A warm reset accepted is in progress, the device is not ready, and no job runs, waits or is held. -/
theorem warmStart_discards (s : State) : s.warmStart.nv.warm = true ∧ s.warmStart.nv.ready = false ∧
    s.warmStart.num Obj.WARM_RESET = s.num Obj.WARM_RESET ∧ s.warmStart.sched.run = none ∧ s.warmStart.sched.slots = [] ∧
    s.warmStart.sched.hold = none := by
  unfold warmStart
  extract_lets nv s1 s2 c3 s3 heads bank w c4 s4
  have begun : s1.nv.warm = true ∧ s1.nv.ready = false := ⟨rfl, rfl⟩
  have num1 : s1.num Obj.WARM_RESET = s.num Obj.WARM_RESET := rfl
  clear_value s1
  have torn : s1.Only (among tornParts) s2 := by
    show s1.Only (among tornParts) (match s1.sched.run with | some r => s1.tearNow r | none => s1)
    split
    · exact tearNow_only (.refl s1) (.among _)
    · exact .refl s1
  have idle : s2.Idle := by
    show (match s1.sched.run with | some r => s1.tearNow r | none => s1).Idle
    split
    · exact tearNow_idle s1 _
    · assumption
  clear_value s2
  have owed : s2.Only (among discardParts) s3 := by
    show s2.Only (among discardParts) (match s2.sched.owed with
      | some e => ({ s2 with sched := { s2.sched with owed := none } }).addEntry e | none => s2)
    split
    · exact addEntry_only (.upd_sched (.refl s2) (t_sched := by decide)) (.of_all (by decide))
    · exact .refl s2
  clear_value s3
  have heads' : s2.Only (among discardParts) heads := .foldl owed fun t c ht => by
    split
    · exact .ite ht (setCReg_only ht (.of_all (by decide)))
    · exact ht
  clear_value heads
  have banks : s2.Only (among discardParts) ((List.range 64).foldl bank heads) := .foldl heads' fun t b ht =>
    have scrubbed := scrubAccount_only ht (.of_all (by decide))
    .ite scrubbed (setCsaBank_only scrubbed (.of_all (by decide)))
  have emptied : s2.Only (among discardParts) w := shadowEmpty_only banks (.of_all (by decide))
  have runs : c4.run = w.sched.run :=
    (shadowEmpty_run heads).trans ((heads'.same .run (by decide)).trans (emptied.same .run (by decide)).symm)
  clear_value w c4
  have gone : s2.Only (among discardParts) s4 := .upd_sched emptied (fun _ => runs) (by decide)
  have final : s2.Only (among discardParts) (s4.setSched 0).ringsFollow :=
    ringsFollow_only (setSched_only gone (.of_all (by decide))) (.of_all (by decide))
  have nvKept := (final.same .nv (by decide)).trans (torn.same .nv (by decide))
  obtain ⟨_, _, _, hjobs⟩ := ringsFollow_sameJobs (s4.setSched 0)
  have run := (final.same .run (by decide)).trans idle
  refine ⟨?_, ?_, ?_, run, ?_, ?_⟩
  · rw [nvKept]; exact begun.1
  · rw [nvKept]; exact begun.2
  · exact (final.same (.num 12) (by decide) Obj.WARM_RESET (by decide)).trans
      ((torn.same (.num 12) (by decide) Obj.WARM_RESET (by decide)).trans num1)
  · rw [hjobs]; rfl
  · rw [hjobs]; rfl

end State

end Sys2Proof.Machine
end

section
/-!
SUPPORT. What the restoration of a live factory default leaves in its object (spec/19: R896).
-/

namespace Sys2Proof.Machine

/-- The keys cleared read as their default. -/
theorem Store.get_clear {α : Type} {d : Nat → α} {l : Store α} {a b k : Nat} (ha : a ≤ k) (hb : k < b) :
    Store.get d (Store.clear l a b) k = d k := by
  unfold Store.clear
  exact Store.get_filter_none fun v => by simp; omega

namespace State

/-! ### Numbers that an operation leaves alone -/

theorem setSticky_num_ne {s : State} {j i k : Nat} (h : j ≠ k) : (s.setSticky j i).num k = s.num k := num_setNum_ne h

theorem scrubAccount_num {k : Nat} (h7 : Obj.STEPS_DEFERRED ≠ k) (ha : Obj.SCRUB_STICKY ≠ k) (s : State) (b : Nat) :
    (s.scrubAccount b).num k = s.num k := by
  unfold scrubAccount
  extract_lets m q p n s1
  split
  · rfl
  split
  · rfl
  · exact (setSticky_num_ne ha).trans (inc64_num_ne h7)

/-- Numbers lie in none of the parts of a list that names no section of numbers. -/
theorem Only.num_of_parts {s t : State} {ps : List Part} (h : s.Only (among ps) t)
    (hps : ps.all (fun p => !p.isNum) = true) (k : Nat) : t.num k = s.num k := by
  refine h.same (.num (k / 0x100000)) ?_ k rfl
  simp only [among, List.any_eq_false]
  intro p hp hcode
  have hnot := List.all_eq_true.1 hps p hp
  simp only [Part.isNum, Bool.not_eq_true', decide_eq_false_iff_not] at hnot
  exact hnot (by rw [eq_of_beq hcode]; simp [Part.code])

theorem startClearing_num {k : Nat} (h7 : Obj.STEPS_DEFERRED ≠ k) (ha : Obj.SCRUB_STICKY ≠ k) (s : State) (b : Nat) :
    (s.startClearing b).num k = s.num k := by
  unfold startClearing
  extract_lets s0 m s1
  have kept : s0.Only (among [.csa, .hbm]) (if s.calPause then s1 else s1.clearNow b) :=
    have marked := setCsaBank_only (.refl s0) (.of_all (by decide))
    .ite marked (clearNow_only marked (.of_all (by decide)))
  exact (kept.num_of_parts (by decide) k).trans (scrubAccount_num h7 ha s b)

@[simp] theorem num_updateCsa (s : State) (x : Csa) (k : Nat) : ({ s with csa := x } : State).num k = s.num k := rfl
@[simp] theorem num_updatePower (s : State) (x : Power) (k : Nat) : ({ s with power := x } : State).num k = s.num k := rfl

/-- A throttle-disable writes the two levels and no other number. -/
theorem disableHolds_num {s : State} {csa : Bool} {k : Nat} (hr : Obj.RATE_NOW ≠ k) (hd : Obj.DISPATCH_LEVEL ≠ k) :
    (s.disableHolds csa).num k = s.num k := by
  unfold disableHolds
  split <;> split
  · exact num_setNum_ne (s := s) (v := 64) hr
  · rfl
  · exact num_setNum_ne (s := s) (v := 64) hd
  · rfl

theorem ite_num {a b : State} {c : Prop} [Decidable c] {k n : Nat} (ha : c → a.num k = n) (hb : ¬c → b.num k = n) :
    (if c then a else b).num k = n := by
  split
  · exact ha ‹_›
  · exact hb ‹_›

/-! The temperatures and what follows from them leave ALERT_TEMP alone. -/

theorem csaForcing_alertTemp (s : State) (on : Bool) : (s.csaForcing on).num Obj.ALERT_TEMP = s.num Obj.ALERT_TEMP := by
  unfold csaForcing
  split
  · rfl
  dsimp only
  split <;> simp [disableHolds_num, setSticky_num_ne, inc32_num_ne, num_setNum_ne]

theorem dispatchForcing_alertTemp (s : State) (on : Bool) :
    (s.dispatchForcing on).num Obj.ALERT_TEMP = s.num Obj.ALERT_TEMP := by
  unfold dispatchForcing
  split
  · rfl
  dsimp only
  split <;> simp [disableHolds_num, setSticky_num_ne, inc32_num_ne, num_setNum_ne]

theorem alertTemp_alertTemp (s : State) (j : Option Int) : (s.alertTemp j).num Obj.ALERT_TEMP = s.num Obj.ALERT_TEMP := by
  unfold alertTemp
  extract_lets a hot power s1
  split
  · exact setSticky_num_ne (s := s1) (by decide)
  · rfl

theorem temperatures_alertTemp (s : State) : s.temperatures.num Obj.ALERT_TEMP = s.num Obj.ALERT_TEMP := by
  unfold temperatures
  extract_lets j w c s1 s2 high
  clear_value j w c
  have junction : s1.num Obj.ALERT_TEMP = s.num Obj.ALERT_TEMP := by
    cases j with
    | none => rfl
    | some t =>
      exact ite_num (fun _ => (num_setNum_ne (s := s.setNum _ _) (by decide)).trans (num_setNum_ne (by decide)))
        (fun _ => num_setNum_ne (by decide))
  have wall : s2.num Obj.ALERT_TEMP = s1.num Obj.ALERT_TEMP := by
    cases w with
    | none => rfl
    | some t => exact num_setNum_ne (by decide)
  rw [alertTemp_alertTemp, dispatchForcing_alertTemp, csaForcing_alertTemp, wall, junction]

/-! ### The commit of a CTRL number -/

/-- The key of a family's object, found again from its index and subindex. -/
theorem familyKey {k lo j : Nat} (h : lo ≤ keyIndex k ∧ keyIndex k ≤ lo + 255) (hj : keySub k = j) :
    (lo + (keyIndex k - lo) % 256) * 256 + j = k := by
  unfold keyIndex keySub at *
  omega

theorem objectKey_ne_sub {a i j : Nat} (h : i ≠ j) : a * 256 + i ≠ a * 256 + j := by omega

theorem bankConfig_num {s : State} {k b v : Nat} (h7 : Obj.STEPS_DEFERRED ≠ k) (ha : Obj.SCRUB_STICKY ≠ k) :
    (s.bankConfig k b v).num k = v := by
  unfold bankConfig
  split
  · assumption
  · exact (startClearing_num h7 ha ..).trans (num_setNum_self ..)

theorem holeWritten_num (s : State) (b v : Nat) : (s.holeWritten b v).num (Obj.HOLE_INTERVAL b) = v :=
  num_setNum_self ..

theorem fieldCountWritten_num (s : State) (t v : Nat) : (s.fieldCountWritten t v).num (Obj.FIELD_COUNT t) = v :=
  num_setNum_self ..

theorem changeFunction_num {s : State} {n f k : Nat} (hn : Obj.FUNCTION_NOW n ≠ k) (hs : Obj.SWITCH_STATE n ≠ k) :
    (s.changeFunction n f).num k = s.num k :=
  (num_setNum_ne (s := s.setNum _ _) hs).trans (num_setNum_ne hn)

theorem functionWritten_num (s : State) (n v : Nat) : (s.functionWritten n v).num (Obj.FUNCTION n) = v := by
  unfold functionWritten
  extract_lets s1
  split
  · exact num_setNum_self ..
  · exact (changeFunction_num (objectKey_ne_sub (by decide)) (objectKey_ne_sub (by decide))).trans (num_setNum_self ..)

theorem countEdge_num {s : State} {n k : Nat} (he : Obj.EDGES n ≠ k) (ht : Obj.TACH_PERIOD n ≠ k) :
    (s.countEdge n).num k = s.num k := by
  unfold countEdge
  extract_lets s1 p s2
  have edges : s1.num k = s.num k := inc64_num_ne he
  split
  · refine Eq.trans ?_ edges
    show s2.num k = s1.num k
    dsimp only [s2]
    split
    · exact num_setNum_ne ht
    · rfl
  · exact edges

theorem polarityChanged_num (s : State) (n : Nat) (old : Bool) :
    (s.polarityChanged n old).num (Obj.POLARITY n) = s.num (Obj.POLARITY n) := by
  unfold polarityChanged
  extract_lets p
  split
  · split
    · exact countEdge_num (objectKey_ne_sub (by decide)) (objectKey_ne_sub (by decide))
    · rfl
  · rfl

theorem unitsWritten_num (s : State) (v : Nat) : (s.unitsWritten v).num Obj.UNITS_PER_WINDOW = v := by
  rw [unitsWritten]
  cases s.scrubAccounts.scrubWindow with
  | none => exact num_setNum_self ..
  | some w => exact (num_updateCsa (s.scrubAccounts.setNum _ v) _ _).trans (num_setNum_self ..)

theorem not_between {x lo hi : Nat} (h : x < lo ∨ hi < x) : ¬(lo ≤ x ∧ x ≤ hi) := by omega

/-- A CTRL number committed is the value written, beside what its object does at that; the cadence generators and the clients,
whose writes are not simple stores, are left out. -/
theorem ctrlWritten_num {s : State} {k v : Nat} (hg : keyIndex k < 0x2020 ∨ 0x202F < keyIndex k)
    (hc : keyIndex k < 0x3100 ∨ 0x313F < keyIndex k) : (s.ctrlWritten k v).num k = v := by
  unfold ctrlWritten
  extract_lets i j t
  have stored : t.num k = v := num_setNum_self ..
  refine ite_num (fun h => absurd ⟨h.1, h.2.1⟩ (not_between hg)) fun _ => ?_
  refine ite_num (fun h => absurd ⟨h.1, h.2.1⟩ (not_between hc)) fun _ => ?_
  refine ite_num (fun h => absurd ⟨h.1, h.2.1⟩ (not_between hc)) fun _ => ?_
  refine ite_num (fun h => absurd ⟨h.1, h.2.1⟩ (not_between hc)) fun _ => ?_
  refine ite_num (fun h => ?bank) fun _ => ?_
  case bank =>
    exact bankConfig_num (by rintro rfl; revert h; decide) (by rintro rfl; revert h; decide)
  refine ite_num (fun h => ?hole) fun _ => ?_
  case hole =>
    have hk : Obj.HOLE_INTERVAL (i - 0x7000) = k := familyKey ⟨h.1, h.2.1.trans (by decide)⟩ h.2.2
    exact hk ▸ holeWritten_num ..
  refine ite_num (fun h => ?curve) fun _ => ?_
  case curve =>
    have hk : Obj.INV_STEP (i - 0x8200) ≠ k := by
      rw [← familyKey (k := k) (lo := 0x8200) ⟨h.1, h.2.1.trans (by decide)⟩ rfl]
      exact objectKey_ne_sub (Nat.ne_of_gt (Nat.lt_of_le_of_lt h.2.2 (by decide)))
    exact (num_setNum_ne hk).trans stored
  refine ite_num (fun h => ?fields) fun _ => ?_
  case fields =>
    have hk : Obj.FIELD_COUNT (i - 0x8400) = k := familyKey ⟨h.1, h.2.1.trans (by decide)⟩ h.2.2
    exact hk ▸ fieldCountWritten_num ..
  refine ite_num (fun h => ?function) fun _ => ?_
  case function =>
    have hk : Obj.FUNCTION (i - 0xE000) = k := familyKey ⟨h.1, h.2.1.trans (by decide)⟩ h.2.2
    exact hk ▸ functionWritten_num ..
  refine ite_num (fun h => ?polarity) fun _ => ?_
  case polarity =>
    have hk : Obj.POLARITY (i - 0xE000) = k := familyKey ⟨h.1, h.2.1.trans (by decide)⟩ h.2.2
    have kept := t.polarityChanged_num (i - 0xE000) (s.pinPol (i - 0xE000))
    rw [hk] at kept
    exact kept.trans stored
  refine ite_num (fun _ => ite_num (fun _ => stored) fun _ => stored) fun _ => ?_
  refine ite_num (fun _ => (num_update_tide t _ k).trans stored) fun _ => ?_
  refine ite_num (fun h => absurd ⟨h.1, h.2.1⟩ (not_between hg)) fun _ => ?_
  refine ite_num (fun _ => stored) fun _ => ?_
  refine ite_num (fun h => h ▸ unitsWritten_num s v) fun _ => ?_
  refine ite_num (fun _ => num_setNum_self ..) fun _ => ?_
  refine ite_num (fun h => ?alert) fun _ => stored
  case alert =>
    subst h
    exact (temperatures_alertTemp t).trans stored

/-! ### Restoring an object -/

/-- Octets restored read as their factory default. -/
theorem restoreObject_octs {s : State} {k : Nat} {r : ObjRow} (hr : rowOf k = some r) (hoct : octetType r.ty = true) {o : Nat}
    (ho : o < 65536) : Store.get Obj.octDefault (s.restoreObject k).oct (k * 65536 + o) = Obj.octDefault (k * 65536 + o) := by
  have cleared : (s.restoreObject k).oct = Store.clear s.oct (k * 65536) (k * 65536 + 65536) := by
    simp only [restoreObject, hr, hoct, if_true]
    split <;> rfl
  rw [cleared, Store.get_clear (by omega) (by omega)]

/-- A CTRL number restored is its factory default. -/
theorem restoreObject_num {s : State} {k : Nat} {r : ObjRow} (hr : rowOf k = some r) (hoct : octetType r.ty = false)
    (hkind : r.kind = .ctrl) (hc : keyIndex k < 0x3100 ∨ 0x313F < keyIndex k)
    (hg : keyIndex k < 0x2020 ∨ 0x202F < keyIndex k) : (s.restoreObject k).num k = s.factoryNum k := by
  have commits : s.restoreObject k = s.commitNum k r (s.factoryNum k) := by simp [restoreObject, hr, hoct]
  rw [commits, commitNum, hkind]
  exact ctrlWritten_num hg hc

/-- With one object changed, a restoration of the live values is that of the object. -/
theorem restoreLive_of_one {s : State} {k : Nat} (h : s.changedKeys = [k]) : s.restoreLive = s.restoreObject k := by
  rw [restoreLive, h]
  rfl

end State

end Sys2Proof.Machine
end

section
/-!
The commands of the dictionary (spec/18: R836; spec/03: R146; spec/06: R247; spec/11: R447, R477; spec/12: R489; spec/19: R885,
R889, R896, R898; spec/20: R914, R915, R934, R939, R940).
-/

namespace Sys2Proof.Machine

namespace State

/-- A router self-test that passes orders 1 to 9 has a reserved encoding nowhere and is refused by the state check (R939). -/
theorem cmdCode_router {s : State} {v : Nat} (hkind : bits v 11 8 = 1) (htarget : v % 64 = 0) :
    s.cmdCode Obj.SELFTEST_REQUEST v = 0x8303 := by
  have hvalue : s.cmdValueCode Obj.SELFTEST_REQUEST v = 0 := by
    simp [cmdValueCode, hkind, htarget]
  rw [cmdCode, if_pos hvalue, cmdStateCode]
  split
  · contradiction
  split
  · rfl
  · simp [hkind]

end State

/-- Settles O60: an accepted command is answered DONE, and what it does to the state in which its object holds what
was written is what the lemma about its operation says; a ROUTER self-test meets the code that refuses it. -/
theorem commandObjectsHaveTheirEffect : Obligations.CommandObjectsHaveTheirEffect := by
  intro s q
  refine ⟨fun h => ?_, fun r hreach hlen hrow htarget => ?router⟩
  intro u v done
  refine ⟨?retireCourse, ?tablesApply, ?regionsApply, ?embApply, ?retireBlock, ?startRelease, ?nvCommit, ?eraseImages,
    ?restoreFactoryLive, ?warmReset, ?powerActive, ?lullFree, ?lullRunning, ?powerHold, ?tests, ?sensors⟩
  case retireCourse =>
    intro hrow
    have same : ∀ c, u.courseState c = s.courseState c := s.commanded_courseState q
    refine ⟨_, State.answer_accepted h hrow rfl _, fun hin => ?_, fun hout => ?_, fun c hc => ?_⟩
    · rw [State.courseState_retirePending (by rwa [same]), if_pos rfl]
    · exact State.retirePending_of_two_le (by rwa [same])
    · by_cases hout : 2 ≤ s.courseState (v % 128)
      · rw [State.retirePending_of_two_le (by rwa [same]), same]
      · have hin : s.courseState (v % 128) = 0 ∨ s.courseState (v % 128) = 1 := by omega
        rw [State.courseState_retirePending (by rwa [same]), if_neg (Ne.symm hc), same]
  case tablesApply =>
    intro hrow
    refine (State.answer_accepted h hrow rfl _).trans ?_
    simp [State.askedAt, u]
  case regionsApply =>
    intro hrow
    refine (State.answer_accepted h hrow rfl _).trans ?_
    simp [State.askedAt, u]
  case embApply =>
    intro hrow
    refine (State.answer_accepted h hrow rfl _).trans ?_
    simp [State.askedAt, u]
  case retireBlock =>
    intro hrow
    have same : u.hbm = s.hbm := s.commanded_hbm q
    refine ⟨_, State.answer_accepted h hrow rfl _, (u.retireBlock_mem _).trans (by rw [same]), fun hroom => ?_⟩
    have retired := fun x => State.mem_retireBlock_retired (s := u) (b := v % 2 ^ 27) (x := x) (by rwa [same])
    exact ⟨(retired _).2 (.inl rfl), fun b hb => (retired b).2 (.inr (by rwa [same]))⟩
  case startRelease =>
    intro hrow
    have same : u.nv = s.nv := s.commanded_nv q
    refine ⟨_, State.answer_accepted h hrow rfl _, fun hhold => ?_, fun hhold => ?_⟩
    · rw [same, if_pos hhold]
    · rw [same, if_neg (by simp [hhold])]
  case nvCommit =>
    intro hrow hstage
    have nothing : u.num Obj.STAGE_LENGTH = 0 := (State.commanded_num_of_row hrow rfl (by decide)).trans hstage
    have begun := State.nvCommit_live (seq := v % 2 ^ 32) nothing
    refine ⟨_, State.answer_accepted h hrow rfl _, ?_, ?_, ?_⟩
    · rw [begun]; exact State.setWork_nvState ..
    · rw [begun, State.beginCommit, State.setWork_work, State.commanded_num_of_row hrow rfl (by decide)]
    · rw [begun, State.beginCommit, State.setWork_flash, s.commanded_nv q]
  case eraseImages =>
    intro hrow
    exact ⟨_, State.answer_accepted h hrow rfl _, State.setWork_nvState .., rfl⟩
  case restoreFactoryLive =>
    intro hrow
    refine ⟨State.answer_accepted h hrow rfl _, fun k r hone hr hoct _ o ho => ?_,
      fun k r hone hr hoct hkind hc hg => ?_, fun _ => ?_⟩
    · rw [State.restoreLive_of_one hone, State.restoreObject_octs hr hoct ho]
    · rw [State.restoreLive_of_one hone, State.restoreObject_num hr hoct hkind hc hg]
    · exact ⟨State.setWork_nvState .., rfl⟩
  case warmReset =>
    intro hrow
    have discards := ((s.commanded q).setNum Obj.WARM_RESET 0x8000).warmStart_discards
    obtain ⟨hwarm, hready, hgo, hrun, hslots, hhold⟩ := discards
    exact ⟨((s.commanded q).setNum Obj.WARM_RESET 0x8000).warmStart, State.answer_accepted h hrow rfl _, hwarm, hready,
      hgo.trans (State.num_setNum_self ..), hrun, hslots, hhold⟩
  case powerActive =>
    intro hrow
    have state : u.powerState = s.powerState := State.commanded_num_of_row hrow rfl (by decide)
    have awake := u.powerActive_awake
    exact ⟨_, State.answer_accepted h hrow rfl _, awake.held, awake.due, awake.state.trans (by rw [state])⟩
  case lullFree =>
    intro hrow hrun hhold hdrain hstate
    have state : u.powerState = s.powerState := State.commanded_num_of_row hrow rfl (by decide)
    exact ⟨_, State.answer_accepted h hrow rfl _, State.powerLull_of_free (by rwa [s.commanded_sched q])
      (by rwa [s.commanded_sched q]) (by rwa [s.commanded_power q]) (by rwa [state])⟩
  case lullRunning =>
    intro hrow hstate r hrun
    have state : u.powerState = s.powerState := State.commanded_num_of_row hrow rfl (by decide)
    obtain ⟨hkept, hdue⟩ := State.powerLull_of_run (s := u) (by rwa [s.commanded_sched q]) (by rwa [state])
    exact ⟨_, State.answer_accepted h hrow rfl _, hkept.trans state, hdue⟩
  case powerHold =>
    intro hrow
    have sched : u.sched = s.sched := s.commanded_sched q
    have clock : u.clock = s.clock := s.commanded_clock q
    obtain ⟨hstate, hdrain⟩ := u.powerHold_drains (bit v 6)
    refine ⟨_, State.answer_accepted h hrow rfl _, hstate, by rw [← clock]; exact hdrain, fun hrun hhold => ?_,
      fun r hrun => ?_⟩
    · exact State.powerHold_of_free (by rwa [sched]) (by rwa [sched]) _
    · have torn := State.powerHold_tears (s := u) (by rwa [sched]) (bit v 6)
      rwa [clock, sched] at torn
  case tests =>
    intro queued
    have joins : ∀ {c : Instr} {kind bank : Nat}, kind ≠ 6 →
        exec c s = .next ((u.testRequest kind bank).replies q (.done [])) → queued c kind bank := by
      intro c kind bank hkind hexec
      rw [State.testRequest_of_ne hkind] at hexec
      refine ⟨_, hexec, ?_⟩
      rw [State.eventIfFree_slots, State.testQueued, State.testJob, s.commanded_sched q, s.commanded_now q]
    exact ⟨fun hrow => joins (by decide) (State.answer_accepted h hrow rfl _),
      fun hrow => joins (by decide) (State.answer_accepted h hrow rfl _),
      fun hrow => joins (by decide) (State.answer_accepted h hrow rfl _),
      fun hrow => joins (by decide) (State.answer_accepted h hrow rfl _)⟩
  case sensors =>
    intro hrow
    refine ⟨_, State.answer_accepted h hrow rfl _, s.commanded_sched q, ?_⟩
    show u.power.tests ++ [nextAt 0x200 1024 (u.now + 1)] = _
    rw [s.commanded_power q, s.commanded_now q]
  case router =>
    have hobject : (rowOfRequest q).commandObject = some Obj.SELFTEST_REQUEST := by rw [hrow]; rfl
    have hcode : (s.heard q).cmdCode (reqKey q) (reqValue q) = 0x8303 := by
      rw [reqKey_of_commandObject hobject, State.cmdCode_router (kind_of_router hrow) htarget]
    refine (State.answer_of_takes hreach.1.1 hrow id).trans ?_
    rw [State.judge_command hreach hlen hobject, hcode]
    rfl

end Sys2Proof.Machine
end

section
/-!
SUPPORT. What the reads of op slots and bricks give after the updates of the wall, and what the reads of a dispatch leave of it
(spec/04: Table 4-1; spec/03: R134).
-/

namespace Sys2Proof.Machine

namespace State

variable {s t : State}

@[simp] theorem slotAt_setSlot_self (s : State) (k : Nat) (x : Slot) : (s.setSlot k x).slotAt k = x := Store.get_set_eq

theorem slotAt_setSlot_ne {j k : Nat} {x : Slot} (h : j ≠ k) : (s.setSlot j x).slotAt k = s.slotAt k := Store.get_set_ne h

theorem slotAt_congr (h : t.wall.slots = s.wall.slots) (k : Nat) : t.slotAt k = s.slotAt k := by rw [slotAt, slotAt, h]

@[simp] theorem brickAt_setBrick_self (s : State) (b : Nat) (x : Brick) : (s.setBrick b x).brickAt b = x := Store.get_set_eq

theorem brickAt_congr (h : t.wall.bricks = s.wall.bricks) (b : Nat) : t.brickAt b = s.brickAt b := by rw [brickAt, brickAt, h]

/-- `t` comes from `s` by setting the slot `k` to `x`: no other slot, no message, no fault and no bc changes. -/
structure SetsSlot (s : State) (k : Nat) (x : Slot) (t : State) : Prop where
  self : t.slotAt k = x
  other : ∀ j, j ≠ k → t.slotAt j = s.slotAt j
  mortar : t.mortar = s.mortar
  faults : t.faults = s.faults
  bc : t.wall.bc = s.wall.bc

theorem setSlot_setsSlot (s : State) (k : Nat) (x : Slot) : s.SetsSlot k x (s.setSlot k x) where
  self := s.slotAt_setSlot_self k x
  other _ h := slotAt_setSlot_ne h.symm
  mortar := rfl
  faults := rfl
  bc := rfl

theorem SetsSlot.trans {k : Nat} {x y : Slot} {u : State} (h : s.SetsSlot k x t) (h' : t.SetsSlot k y u) : s.SetsSlot k y u where
  self := h'.self
  other j hj := (h'.other j hj).trans (h.other j hj)
  mortar := h'.mortar.trans h.mortar
  faults := h'.faults.trans h.faults
  bc := h'.bc.trans h.bc

/-- The course map rests on the states of the courses alone. -/
theorem courseMap_congr (hstate : t.wall.courseState = s.wall.courseState) (hspare : t.wall.wasSpare = s.wall.wasSpare) :
    t.courseMap = s.courseMap := by
  have serves : t.inService = s.inService := funext fun c => by
    simp only [inService, courseState, hstate, hspare]
  rw [courseMap, courseMap, serves]

theorem configTouch_wall (s : State) (b n : Nat) : ∃ l, (s.configTouch b n).2.wall = { s.wall with activeCe := l } := by
  unfold configTouch bankRead
  extract_lets e p count s1
  have wall : s1.wall = s.wall := (inc32_only (l := among [.num 4]) (.refl s) (by decide)).same .wall (by decide)
  let kept := s1.wall.activeCe.filter fun w => !p w
  show ∃ l, (if count = 0 then s else _).wall = _
  split
  · exact ⟨_, rfl⟩
  · exact ⟨kept, congrArg (fun w : Wall => { w with activeCe := kept }) wall⟩

@[simp] theorem configTouch_slotAt (s : State) (b n k : Nat) : (s.configTouch b n).2.slotAt k = s.slotAt k := by
  obtain ⟨l, h⟩ := s.configTouch_wall b n
  rw [slotAt, h]; rfl

@[simp] theorem configTouch_opEntry (s : State) (b n c m : Nat) : (s.configTouch b n).2.opEntry c m = s.opEntry c m := by
  obtain ⟨l, h⟩ := s.configTouch_wall b n
  rw [opEntry, h]; rfl

@[simp] theorem configTouch_courseMap (s : State) (b n : Nat) : (s.configTouch b n).2.courseMap = s.courseMap := by
  obtain ⟨l, h⟩ := s.configTouch_wall b n
  exact courseMap_congr (by rw [h]) (by rw [h])

@[simp] theorem configTouch_mortar (s : State) (b n : Nat) : (s.configTouch b n).2.mortar = s.mortar :=
  (configTouch_only (.refl s) (.among _)).same .mortar (by decide)

end State

end Sys2Proof.Machine
end

section
/-!
SUPPORT. A token at its slot (spec/04: R153, R154, R163; spec/05: R210).
-/

namespace Sys2Proof.Machine

/-- A slot after the count of a token in a bc (R153, R154). -/
def Slot.counted (x : Slot) (bc : Nat) : Slot :=
  if 0 < x.counter then { x with counter := x.counter - 1, ready := if x.counter = 1 then some bc else x.ready }
  else { x with early := x.early + 1 }

/-- A slot after the delivery of a handle to the input register that HANDLE_IN names (R163). -/
def Slot.delivered (x : Slot) (handleIn handle fill : Nat) : Slot :=
  { x with
    in0 := if handleIn = 1 then { status := .pending, handle := handle, fill := fill } else x.in0
    in1 := if handleIn = 2 then { status := .pending, handle := handle, fill := fill } else x.in1 }

@[simp] theorem Slot.counted_in0 (x : Slot) (bc : Nat) : (x.counted bc).in0 = x.in0 := by unfold counted; split <;> rfl
@[simp] theorem Slot.counted_in1 (x : Slot) (bc : Nat) : (x.counted bc).in1 = x.in1 := by unfold counted; split <;> rfl
@[simp] theorem Slot.counted_firingsLeft (x : Slot) (bc : Nat) : (x.counted bc).firingsLeft = x.firingsLeft := by
  unfold counted; split <;> rfl

theorem Slot.counted_of_pos {x : Slot} (h : 0 < x.counter) (bc : Nat) :
    x.counted bc = { x with counter := x.counter - 1, ready := if x.counter = 1 then some bc else x.ready } := if_pos h

theorem Slot.counted_of_zero {x : Slot} (h : x.counter = 0) (bc : Nat) : x.counted bc = { x with early := x.early + 1 } :=
  if_neg (by omega)

theorem Slot.delivered_of_ne {x : Slot} {handleIn : Nat} (h1 : handleIn ≠ 1) (h2 : handleIn ≠ 2) (handle fill : Nat) :
    x.delivered handleIn handle fill = x := by
  rw [delivered, if_neg h1, if_neg h2]

namespace State

variable {s : State}

theorem deliverReg_of_ne_pending {r : InReg} (h : r.status ≠ .pending) (handle fill : Nat) :
    deliverReg r handle fill = some { status := .pending, handle := handle, fill := fill } := if_neg h

/-- A message that comes out of the mortar unhurt is handed over as it is. -/
theorem arrive_of_delivers {m : Msg} (h : s.delivers m) (k : State → Bool → State) : s.arrive m k = k (s.ejected m) false := by
  obtain ⟨-, hopen, hnext, hlegal, hupset⟩ := h
  have legal : (s.ejected m).msgLegal m = true := hlegal
  simp [arrive, landed, hopen, hnext, legal, hupset]

/-- A token that no rule refuses counts at its slot and delivers its handle. -/
theorem applyToken_setsSlot {b bc n hin handle fill : Nat} {x : Slot} (hx : s.slotAt (b * 256 + n) = x)
    (hparity : x.parityBad = false) (hleft : x.firingsLeft ≠ 0) (hearly : x.counter = 0 → x.early < 255)
    (hin0 : hin = 1 → x.in0.status ≠ .pending) (hin1 : hin = 2 → x.in1.status ≠ .pending) :
    s.SetsSlot (b * 256 + n) ((x.counted bc).delivered hin handle fill) (s.applyToken b bc n hin handle fill) := by
  subst hx
  have room : ¬((s.slotAt (b * 256 + n)).counter = 0 ∧ 255 ≤ (s.slotAt (b * 256 + n)).early) :=
    fun h => absurd (hearly h.1) (by omega)
  have counts := s.setSlot_setsSlot (b * 256 + n) ((s.slotAt (b * 256 + n)).counted bc)
  unfold applyToken
  extract_lets k x y early s1 z
  rw [if_neg (by simp [x, k, hparity]), if_neg hleft]
  have hs1 : s1 = s.setSlot k (x.counted bc) := if_neg room
  have hz : z = x.counted bc := by rw [← s.slotAt_setSlot_self k (x.counted bc), ← hs1]
  rw [hz, hs1]
  clear_value z s1
  split
  case h_1 =>
    rw [Slot.counted_in0, deliverReg_of_ne_pending (hin0 rfl)]
    exact counts.trans (setSlot_setsSlot ..)
  case h_2 =>
    rw [Slot.counted_in1, deliverReg_of_ne_pending (hin1 rfl)]
    exact counts.trans (setSlot_setsSlot ..)
  case h_3 hne1 hne2 =>
    rw [Slot.delivered_of_ne hne1 hne2]
    exact counts

/-- The wall at a token that a brick applies in a bc, with the brick's count of its tokens in that bc (R180). -/
def tokenTaken (s : State) (bc b : Nat) : State :=
  (s.atBc bc).setBrick b { s.brickAt b with
    tokenBc := bc, tokens := if (s.brickAt b).tokenBc = bc then (s.brickAt b).tokens + 1 else 1 }

theorem exec_token {bc b n hin handle fill : Nat} {m : Msg} (hdelivers : s.delivers m) (hdst : m.dst = .brick b)
    (hbody : m.body = .token n hin handle fill) (hmay : s.mayApply b bc m = true) :
    exec (.token bc m) s = .next (((s.ejected m).tokenTaken bc b).applyToken b bc n hin handle fill) := by
  show execToken bc m s = _
  simp only [execToken, hdst, hbody]
  rw [State.live_true hdelivers.1 hmay, State.arrive_of_delivers hdelivers]
  rfl

end State

/-- Settles O23: the token comes out of the mortar unhurt, and no rule refuses it at its slot, so that it only sets the slot to
what the count and the delivery make of it. -/
theorem tokensLowerTheCounter : Obligations.TokensLowerTheCounter := by
  intro s bc b n hin h fill m hdelivers hdst hbody hmay x hparity hleft hearly hin0 hin1
  have sets := State.applyToken_setsSlot (s := (s.ejected m).tokenTaken bc b) (bc := bc) (handle := h) (fill := fill)
    (x := x) rfl hparity hleft hearly hin0 hin1
  refine ⟨_, State.exec_token hdelivers hdst hbody hmay, sets.mortar, sets.faults, sets.bc, ?_⟩
  rw [sets.self]
  refine ⟨fun hpos => ?_, fun hzero => ?_, ?_, ?_, x.counted_firingsLeft bc, sets.other⟩
  · rw [Slot.counted_of_pos hpos]
    exact ⟨rfl, rfl, fun hone => if_pos hone, fun hne => if_neg hne⟩
  · rw [Slot.counted_of_zero hzero]
    exact ⟨hzero, rfl, rfl⟩
  · simp [Slot.delivered]
  · simp [Slot.delivered]

end Sys2Proof.Machine
end

section
/-!
SUPPORT. What a dispatch does to its slot and its brick, and the tokens that an op sends (spec/04: R151, R155, R156, R158, R161,
R163; spec/05: Table 5-4).
-/

namespace Sys2Proof.Machine

/-- What a dispatch leaves of the counts and inputs of its slot (R155, R163). -/
def Slot.Fired (e : OpEntry) (u v : Slot) : Prop :=
  v.firingsLeft = u.firingsLeft - 1 ∧ v.fired = u.fired + 1 ∧
    (1 < u.firingsLeft → v.counter = e.reload - u.early ∧ v.early = 0) ∧
    (u.firingsLeft ≤ 1 → v.counter = u.counter ∧ v.early = u.early) ∧
    (u.in0.status = .pending → v.in0 = { u.in0 with status := .captured }) ∧
    (u.in1.status = .pending → v.in1 = { u.in1 with status := .captured })

theorem Slot.fired_dispatched (u : Slot) (e : OpEntry) (x : Bool) : Slot.Fired e u (State.dispatched u e x) := by
  refine ⟨rfl, rfl, fun h => ?_, fun h => ?_, fun h => if_pos h, fun h => if_pos h⟩
  · have left : 0 < u.firingsLeft - 1 := by omega
    exact ⟨if_pos left, if_pos left⟩
  · have left : ¬0 < u.firingsLeft - 1 := by omega
    exact ⟨if_neg left, if_neg left⟩

namespace State

variable {s t : State}

/-! ### The slot and the brick of a dispatch -/

/-- A dispatch sets its slot and marks its brick; an EARLY beyond RELOAD adds no more than a report. -/
theorem dispatchSlot_eq (s : State) (b bc n : Nat) (x : Bool) : ∃ reports, s.dispatchSlot b bc n x =
    { ((s.atBc bc).setSlot (b * 256 + n) (dispatched (s.slotAt (b * 256 + n)) (s.opEntry b n) x)).setBrick b
        { s.brickAt b with lastDispatch := some bc } with faults := { s.faults with reports := reports } } := by
  unfold dispatchSlot
  extract_lets k u e s1 s2
  split
  · exact ⟨_, rfl⟩
  · exact ⟨_, rfl⟩

@[simp] theorem dispatchSlot_slotAt_self (s : State) (b bc n : Nat) (x : Bool) :
    (s.dispatchSlot b bc n x).slotAt (b * 256 + n) = dispatched (s.slotAt (b * 256 + n)) (s.opEntry b n) x := by
  obtain ⟨reports, h⟩ := s.dispatchSlot_eq b bc n x
  rw [h]
  exact slotAt_setSlot_self ..

theorem dispatchSlot_slotAt_ne {b bc n k : Nat} {x : Bool} (h : k ≠ b * 256 + n) :
    (s.dispatchSlot b bc n x).slotAt k = s.slotAt k := by
  obtain ⟨reports, eq⟩ := s.dispatchSlot_eq b bc n x
  rw [eq]
  exact slotAt_setSlot_ne h.symm

@[simp] theorem dispatchSlot_lastDispatch (s : State) (b bc n : Nat) (x : Bool) :
    ((s.dispatchSlot b bc n x).brickAt b).lastDispatch = some bc := by
  obtain ⟨reports, h⟩ := s.dispatchSlot_eq b bc n x
  rw [h]
  exact congrArg Brick.lastDispatch (brickAt_setBrick_self ..)

@[simp] theorem dispatchSlot_mortar (s : State) (b bc n : Nat) (x : Bool) : (s.dispatchSlot b bc n x).mortar = s.mortar := by
  obtain ⟨reports, h⟩ := s.dispatchSlot_eq b bc n x
  rw [h]; rfl

@[simp] theorem dispatchSlot_courseMap (s : State) (b bc n : Nat) (x : Bool) :
    (s.dispatchSlot b bc n x).courseMap = s.courseMap := by
  obtain ⟨reports, h⟩ := s.dispatchSlot_eq b bc n x
  rw [h]; rfl

/-- A brick that has dispatched in a bc dispatches no more in it (R158). -/
theorem mayDispatch_of_lastDispatch {b bc : Nat} (h : (s.brickAt b).lastDispatch = some bc) : s.mayDispatch b bc = false := by
  simp [mayDispatch, h]

/-- The data path of a firing leaves every slot as the dispatch has set it. -/
theorem dispatchTemplate_slotAt (s : State) (b bc n k : Nat) :
    (s.dispatchTemplate b bc n).slotAt k = (s.dispatchSlot b bc n true).slotAt k := by
  unfold dispatchTemplate
  extract_lets e fired s1 x h f
  have starts : s1.Only (among [.num 1, .num 4, .num 8, .num 9, .num 11, .faults, .wall, .mortar, .tables, .sel, .csa, .egs,
      .coast, .shore, .out, .sram]) ((h.2.setFiring b f).startFiring b f) :=
    startFiring_only (setFiring_only (acquire_only (.refl s1) (.of_all (by decide))) (.of_all (by decide))) (.among _)
  exact slotAt_congr (starts.same .slots (by decide)) k

/-- A RELAY op is over in the bc after its dispatch (R156, R161). -/
theorem relayOver_slotAt_self (s : State) (k bc : Nat) : (s.relayOver k bc).slotAt k =
    { s.slotAt k with executing := false, ready := ((s.rearm k (bc + 1)).slotAt k).ready, busyTo := bc + 2 } := by
  rw [relayOver, slotAt_setSlot_self, rearm, slotAt_setSlot_self]

theorem relayOver_courseMap (s : State) (k bc : Nat) : (s.relayOver k bc).courseMap = s.courseMap :=
  courseMap_congr (s := s) rfl rfl

theorem relayOver_mortar (s : State) (k bc : Nat) : (s.relayOver k bc).mortar = s.mortar := rfl

theorem relayOver_brickAt (s : State) (k bc b : Nat) : (s.relayOver k bc).brickAt b = s.brickAt b := rfl

/-! ### Tokens to successors -/

/-- The physical brick of a successor of an op of the brick `b`. -/
def succBrick (s : State) (b : Nat) (x : Succ) : Nat :=
  match x.far with
  | some (c, p) => (s.physBrick c p).getD b
  | none => b

/-- The token of an op of the brick `b` to a successor, due in the bc `due` or later, when `l` is in flight. -/
def succToken (s : State) (b handle fill due : Nat) (l : List Msg) (x : Succ) : Msg :=
  { cls := .tok, src := .brick b, dst := .brick (s.succBrick b x), tag := 0, parity := s.mortar.parity
    body := .token x.slot x.handleIn (if x.handleIn = 0 then 0 else handle) (if x.handleIn = 0 then 0 else fill)
    due := if b = s.succBrick b x then tokenSlot l b l.length due else due }

theorem succToken_congr (hmap : t.courseMap = s.courseMap) (hparity : t.mortar.parity = s.mortar.parity)
    (b handle fill due : Nat) : t.succToken b handle fill due = s.succToken b handle fill due := by
  have dest : t.succBrick b = s.succBrick b := by
    funext x; simp only [succBrick, physBrick, hmap]
  funext l x
  simp only [succToken, dest, hparity]

theorem sendToken_mortar (s : State) (src dst slot handleIn handle fill due : Nat) :
    (s.sendToken src dst slot handleIn handle fill due).mortar = { s.mortar with flight := s.mortar.flight ++
      [{ cls := .tok, src := .brick src, dst := .brick dst, tag := 0, parity := s.mortar.parity
         body := .token slot handleIn handle fill
         due := if src = dst then tokenSlot s.mortar.flight src s.mortar.flight.length due else due }] } := by
  unfold sendToken
  extract_lets m
  rw [apply_ite State.mortar]
  exact ite_self _

theorem sendToken_wall (s : State) (src dst slot handleIn handle fill due : Nat) :
    (s.sendToken src dst slot handleIn handle fill due).wall = s.wall :=
  (sendToken_only (.refl s) (.among _)).same .wall (by decide)

theorem sendTokens_wall (s : State) (b : Nat) (e : OpEntry) (handle fill due : Nat) :
    (s.sendTokens b e handle fill due).wall = s.wall :=
  (sendTokens_only (.refl s) (.among _)).same .wall (by decide)

/-- An op sends its tokens in the order of its successors, each behind those in flight. -/
theorem sendTokens_flight (s : State) (b : Nat) (e : OpEntry) (handle fill due : Nat) :
    (s.sendTokens b e handle fill due).mortar.flight =
      e.succs.foldl (fun l x => l ++ [s.succToken b handle fill due l x]) s.mortar.flight := by
  unfold sendTokens
  induction e.succs generalizing s with
  | nil => rfl
  | cons x xs ih =>
    let t := s.sendToken b (s.succBrick b x) x.slot x.handleIn (if x.handleIn = 0 then 0 else handle)
      (if x.handleIn = 0 then 0 else fill) due
    have mortar : t.mortar = { s.mortar with flight := s.mortar.flight ++ [s.succToken b handle fill due s.mortar.flight x] } :=
      sendToken_mortar ..
    have wall : t.wall = s.wall := sendToken_wall ..
    have later : t.succToken b handle fill due = s.succToken b handle fill due :=
      succToken_congr (courseMap_congr (by rw [wall]) (by rw [wall])) (by rw [mortar]) ..
    refine (ih t).trans ?_
    rw [later, mortar, List.foldl_cons]

/-! ### The commands -/

/-- The brick `b` dispatches its slot `n` in a bc, and the slot's kind, state and words are those of a good op. -/
structure Dispatches (s : State) (bc b n kind : Nat) : Prop where
  unit : brickOk b = true
  held : s.held = false
  choice : s.dispatchChoice b bc = some n
  may : s.mayDispatch b bc = true
  parity : (s.slotAt (b * 256 + n)).parityBad = false
  words : (s.configTouch b n).1 = false
  kind : (s.opEntry b n).kind = kind

variable {bc b n kind : Nat}

theorem Dispatches.act_dispatchKind (h : s.Dispatches bc b n kind) (run : State → Nat → State) :
    act (brickOk b) (s.live true (s.dispatchKind b bc kind run)) = .next (run (s.configTouch b n).2 n) := by
  have runs : s.dispatchKind b bc kind run = run (s.configTouch b n).2 n := by
    simp [dispatchKind, h.choice, h.may, h.kind, h.parity, h.words]
  rw [act_live h.unit h.held rfl, runs]

/-- The state in which the slot `n` of the brick `b` has been read and dispatched in a bc. -/
def slotRun (s : State) (bc b n : Nat) (executing : Bool) : State :=
  (s.configTouch b n).2.dispatchSlot b bc n executing

theorem slotRun_slotAt_self (s : State) (bc b n : Nat) (x : Bool) :
    (s.slotRun bc b n x).slotAt (b * 256 + n) = dispatched (s.slotAt (b * 256 + n)) (s.opEntry b n) x := by
  simp [slotRun]

theorem slotRun_lastDispatch (s : State) (bc b n : Nat) (x : Bool) :
    ((s.slotRun bc b n x).brickAt b).lastDispatch = some bc := dispatchSlot_lastDispatch ..

theorem slotRun_mortar (s : State) (bc b n : Nat) (x : Bool) : (s.slotRun bc b n x).mortar = s.mortar := by simp [slotRun]

theorem slotRun_courseMap (s : State) (bc b n : Nat) (x : Bool) : (s.slotRun bc b n x).courseMap = s.courseMap := by
  simp [slotRun]

/-- A TEMPLATE op executes from its dispatch on, and no other slot changes. -/
theorem Dispatches.exec_opDispatch (h : s.Dispatches bc b n 0) :
    ∃ t, exec (.opDispatch bc b) s = .next t ∧
      t.slotAt (b * 256 + n) = dispatched (s.slotAt (b * 256 + n)) (s.opEntry b n) true ∧
      ∀ k, k ≠ b * 256 + n → t.slotAt k = s.slotAt k := by
  refine ⟨_, h.act_dispatchKind _, ?_, fun k hk => ?_⟩
  · exact (dispatchTemplate_slotAt ..).trans (s.slotRun_slotAt_self bc b n true)
  · rw [dispatchTemplate_slotAt, dispatchSlot_slotAt_ne hk, configTouch_slotAt]

/-- The state after the chosen slot has dispatched as a RELAY op: the op is over and its tokens are sent. -/
def relayed (s : State) (bc b n : Nat) : State :=
  ((s.slotRun bc b n false).relayOver (b * 256 + n) bc).sendTokens b (s.opEntry b n) 0 0 (bc + 2)

theorem relayed_wall (s : State) (bc b n : Nat) :
    (s.relayed bc b n).wall = ((s.slotRun bc b n false).relayOver (b * 256 + n) bc).wall := sendTokens_wall ..

theorem relayed_slotAt_self (s : State) (bc b n : Nat) : ∃ ready, (s.relayed bc b n).slotAt (b * 256 + n) =
    { dispatched (s.slotAt (b * 256 + n)) (s.opEntry b n) false with ready := ready, busyTo := bc + 2 } :=
  ⟨_, by rw [slotAt_congr (congrArg Wall.slots (s.relayed_wall bc b n)), relayOver_slotAt_self, slotRun_slotAt_self]; rfl⟩

theorem relayed_lastDispatch (s : State) (bc b n : Nat) : ((s.relayed bc b n).brickAt b).lastDispatch = some bc := by
  rw [brickAt_congr (congrArg Wall.bricks (s.relayed_wall bc b n)), relayOver_brickAt, slotRun_lastDispatch]

/-- A RELAY sends its tokens from its own brick, after those in flight at its dispatch. -/
theorem relayed_flight (s : State) (bc b n : Nat) : (s.relayed bc b n).mortar.flight =
    (s.opEntry b n).succs.foldl (fun l x => l ++ [s.succToken b 0 0 (bc + 2) l x]) s.mortar.flight := by
  have mortar : ((s.slotRun bc b n false).relayOver (b * 256 + n) bc).mortar = s.mortar := by
    rw [relayOver_mortar, slotRun_mortar]
  have courses : ((s.slotRun bc b n false).relayOver (b * 256 + n) bc).courseMap = s.courseMap := by
    rw [relayOver_courseMap, slotRun_courseMap]
  rw [relayed, sendTokens_flight, succToken_congr courses (by rw [mortar]), mortar]

theorem Dispatches.exec_relay (h : s.Dispatches bc b n 1) : exec (.relay bc b) s = .next (s.relayed bc b n) :=
  h.act_dispatchKind _

theorem Dispatches.exec_endOp (h : s.Dispatches bc b n 2) :
    exec (.endOp bc b) s = .next
      { s.slotRun bc b n false with wall := { (s.slotRun bc b n false).wall with ended := true } } :=
  h.act_dispatchKind _

end State

/-- Settles O21: each command hands the chosen slot to `dispatchSlot`, and no later step of the dispatch changes what that makes of
the slot, but for what a RELAY adds; the tokens of a RELAY are a fold over its successors, of which none moves a course. -/
theorem dispatchRunsTheChosenSlot : Obligations.DispatchRunsTheChosenSlot := by
  refine ⟨?_, fun s bc b n x => ⟨s.dispatchSlot_lastDispatch b bc n x, s.dispatchSlot_slotAt_self b bc n x⟩⟩
  intro s bc b n hb hheld hchoice hmay hparity hwords e u counted
  have dispatches : ∀ kind, e.kind = kind → s.Dispatches bc b n kind :=
    fun kind hkind => ⟨decide_eq_true hb, hheld, hchoice, hmay, hparity, hwords, hkind⟩
  have fired : ∀ x, counted (State.dispatched u e x) := u.fired_dispatched e
  refine ⟨fun hkind => ?_, fun hkind => ?_, fun hkind => ?_⟩
  · obtain ⟨t, hexec, self, other⟩ := (dispatches 0 hkind).exec_opDispatch
    exact ⟨t, hexec, self ▸ fired true, self ▸ rfl, self ▸ rfl, other⟩
  · obtain ⟨ready, slot⟩ := s.relayed_slotAt_self bc b n
    refine ⟨_, (dispatches 1 hkind).exec_relay, slot ▸ fired false, slot ▸ rfl, slot ▸ rfl,
      State.mayDispatch_of_lastDispatch (s.relayed_lastDispatch bc b n), (s.relayed_flight bc b n).trans ?_⟩
    simp only [State.succToken, ite_self]
    rfl
  · exact ⟨_, (dispatches 2 hkind).exec_endOp, s.slotRun_slotAt_self bc b n false ▸ fired false, rfl,
      congrArg Mortar.flight (s.slotRun_mortar bc b n false),
      State.mayDispatch_of_lastDispatch (s.slotRun_lastDispatch bc b n false)⟩

end Sys2Proof.Machine
end

section
/-!
SUPPORT. What a device-level fault leaves: the mark of the fault, and the running job in its teardown (spec/17: R770, R780, R795).
-/

namespace Sys2Proof.Machine

namespace State

variable {s : State}

/-- A teardown that begins closes the wall and is shown in SCHED_STATE. -/
theorem tearStart_closes (r : Run) (outcome code : Nat) (owed : Bool) (h : s.sched.tear = none) :
    (s.tearStart r outcome code owed).wall.closed = true ∧ (s.tearStart r outcome code owed).schedState = 4 := by
  rw [tearStart, if_neg (by simp [h])]
  exact ⟨rfl, num_setNum_self _ Obj.SCHED_STATE 4⟩

theorem raiseGlobal_logNote_device (s : State) (i : Nat) (r : LogRec) :
    ((s.raiseGlobal i).logNote r).faults.device = s.faults.device :=
  (logNote_only (l := among [.num 1, .num 11, .faults, .host, .shore])
    (raiseGlobal_only (.refl s) (.of_all (by decide))) (.of_all (by decide))).same .device (by decide)

theorem deviceFault_device (s : State) (code source d0 d1 : Nat) : (s.deviceFault code source d0 d1).faults.device = true := by
  rw [deviceFault, raiseGlobal_logNote_device]
  rfl

theorem deviceFault_sched (s : State) (code source d0 d1 : Nat) : (s.deviceFault code source d0 d1).sched = s.sched :=
  (deviceFault_only (.refl s) (.among _)).same .sched (by decide)

theorem deviceStop_mortar (s : State) (code source d0 d1 : Nat) : (s.deviceStop code source d0 d1).mortar = s.mortar :=
  (deviceStop_only (.refl s) (.among _)).same .mortar (by decide)

/-- The job that runs at a device-level fault is torn down, ABANDONED. -/
theorem deviceStop_of_run {r : Run} (code source d0 d1 : Nat) (hrun : s.sched.run = some r) (htear : s.sched.tear = none) :
    ∃ (t : State) (owed : Bool), t.sched = s.sched ∧ s.deviceStop code source d0 d1 = t.tearStart r 4 0 owed := by
  have sched := s.deviceFault_sched code source d0 d1
  unfold deviceStop
  dsimp only
  generalize s.deviceFault code source d0 d1 = t at sched ⊢
  rw [sched, hrun, htear]
  refine ⟨_, _, ?_, rfl⟩
  split
  · exact ((sendTeardown_only (.refl t) (.among _)).same .sched (by decide)).trans sched
  · exact sched

theorem sendTeardown_tearStart_device (s : State) (r : Run) (code : Nat) (owed : Bool) :
    ((if r.job.desc.reach then s.sendTeardown r.job.desc.reachJob code else s).tearStart r 4 0 owed).faults.device =
      s.faults.device :=
  (tearStart_only (l := among [.num 1, .num 3, .num 4, .num 5, .num 9, .num 11, .num 13, .faults, .wall, .sel, .csa, .hbm,
    .egs, .coast, .sched, .shore, .out, .mem])
    (.ite (sendTeardown_only (.refl s) (.of_all (by decide))) (.refl s)) (.of_all (by decide))).same .device (by decide)

theorem deviceStop_device (s : State) (code source d0 d1 : Nat) : (s.deviceStop code source d0 d1).faults.device = true := by
  have device := s.deviceFault_device code source d0 d1
  unfold deviceStop
  dsimp only
  generalize s.deviceFault code source d0 d1 = t at device ⊢
  split
  · exact device
  split
  · exact device
  · rw [sendTeardown_tearStart_device, device]

/-- A device-level fault tears the running job down. -/
theorem deviceStop_tears (code source d0 d1 : Nat) (hrun : s.sched.run.isSome = true) (htear : s.sched.tear = none) :
    (s.deviceStop code source d0 d1).wall.closed = true ∧ (s.deviceStop code source d0 d1).schedState = 4 ∧
      (s.deviceStop code source d0 d1).sched.tear.isSome = true := by
  obtain ⟨r, hr⟩ := Option.isSome_iff_exists.1 hrun
  obtain ⟨t, owed, sched, stopped⟩ := deviceStop_of_run code source d0 d1 hr htear
  obtain ⟨closed, state⟩ := tearStart_closes (s := t) r 4 0 owed (by rw [sched, htear])
  rw [stopped]
  exact ⟨closed, state, t.tearStart_tear_isSome r 4 0 owed⟩

end State

end Sys2Proof.Machine
end

section
/-!
SUPPORT. How a message comes out of the mortar, whole or hurt on its way (spec/05: R229, R236 to R239, Table 5-9).
-/

namespace Sys2Proof.Machine

namespace State

variable {s : State} {m : Msg} {k : State → Bool → State}

/-- The next message of a wall that is open leaves the mortar and is judged. -/
theorem arrive_of_open (hnext : s.nextInFlight m = true) (hopen : s.wall.closed = false) :
    s.arrive m k = (s.ejected m).landed m k := by
  simp [arrive, hnext, hopen]

/-! A message whose header is legal and reached its end: what its upset adds to the state that takes it. -/

theorem landed_unhurt (hlegal : s.msgLegal m = true) (h : m.upset = {}) : s.landed m k = k s false := by
  simp [landed, hlegal, h]

theorem landed_headers {n : Nat} (hn : 0 < n) (hlegal : s.msgLegal m = true) (h : m.upset = { headers := n }) :
    s.landed m k = k (s.inc32 Obj.HEADER_CORRECTED n) false := by
  simp [landed, hlegal, h, hn.ne']

theorem landed_words {n : Nat} (hn : 0 < n) (hlegal : s.msgLegal m = true) (h : m.upset = { words := n }) :
    s.landed m k = k ((s.inc32 Obj.FLIT_CORRECTED n).setSticky Obj.MORTAR_STICKY 0) false := by
  simp [landed, hlegal, h, hn.ne']

theorem landed_poisoned (hlegal : s.msgLegal m = true) (h : m.upset = { poisoned := true }) :
    s.landed m k = k ((s.inc32 Obj.FLIT_UNCORRECTED 1).mortarError (routerAt m.dst m.src) 1) true := by
  simp [landed, hlegal, h]

/-- A header beyond repair or with a reserved encoding is a header error, its corrections up to there counted. -/
theorem landed_of_headerError (h : m.upset.lost.isSome = true ∨ s.msgLegal m = false) :
    ∃ t r, s.Only (among [.num 4]) t ∧ s.landed m k = t.headerFault r := by
  unfold landed
  extract_lets last s1
  have counted : s.Only (among [.num 4]) s1 := .ite (.refl s) (inc32_only (.refl s) (by decide))
  clear_value s1
  split
  next => exact ⟨s1, _, counted, rfl⟩
  next hlost =>
    have illegal : s.msgLegal m = false := h.resolve_left (by simp [hlost])
    exact ⟨s1, last, counted, if_pos (by simp [illegal])⟩

/-- A header error marks the mortar and is a device-level fault (R239). -/
theorem headerFault_eq (s : State) (r : Nat × Nat) : ∃ t : State, t.sched = s.sched ∧ t.mortar.headerFault = true ∧
    s.headerFault r = t.deviceStop 0x0A41 1 0 0 :=
  ⟨{ s.mortarError r 2 with mortar := { s.mortar with headerFault := true } }, rfl, rfl, rfl⟩

theorem headerFault_marks (s : State) (r : Nat × Nat) :
    (s.headerFault r).faults.device = true ∧ (s.headerFault r).mortar.headerFault = true := by
  obtain ⟨t, -, marked, stopped⟩ := s.headerFault_eq r
  rw [stopped, t.deviceStop_mortar]
  exact ⟨t.deviceStop_device .., marked⟩

theorem headerFault_tears (r : Nat × Nat) (hrun : s.sched.run.isSome = true) (htear : s.sched.tear = none) :
    (s.headerFault r).wall.closed = true ∧ (s.headerFault r).schedState = 4 ∧ (s.headerFault r).sched.tear.isSome = true := by
  obtain ⟨t, sched, -, stopped⟩ := s.headerFault_eq r
  rw [← sched] at hrun htear
  rw [stopped]
  exact deviceStop_tears 0x0A41 1 0 0 hrun htear

end State

/-- Settles O27: the message leaves the mortar and is judged by its upset; a header error is a device-level fault, and that
tears the running job down. -/
theorem upsetFlitsHaveTheirOutcome : Obligations.UpsetFlitsHaveTheirOutcome := by
  intro s m k hnext hopen e
  rw [State.arrive_of_open hnext hopen]
  refine ⟨State.landed_unhurt, fun _ => State.landed_headers, fun _ => State.landed_words, State.landed_poisoned,
    fun hurt => ?_⟩
  obtain ⟨t, r, counted, landed⟩ := State.landed_of_headerError (s := e) (k := k) hurt
  have sched : s.sched = t.sched := (counted.same .sched (by decide)).symm
  obtain ⟨device, marked⟩ := t.headerFault_marks r
  rw [landed, sched]
  exact ⟨device, marked, State.headerFault_tears r⟩

end Sys2Proof.Machine
end

section
/-!
SUPPORT. Brick SRAM as its ECC shows it: what a read of words corrects and meets, and what a write leaves (spec/03: R95 to
R98, R134, R135).
-/

namespace Sys2Proof.Machine

namespace State

variable {s : State}

/-- A correction rewrites its word and nothing else of the wall. -/
theorem sramCe_wall (s : State) (w : Nat) : ∃ l, (s.sramCe w).wall = { s.wall with sramCe := l } := by
  have counted : ((s.inc32 Obj.SRAM_CORRECTED 1).setSticky Obj.WALL_STICKY 0).wall = s.wall :=
    (setSticky_only (l := among [.num 4]) (inc32_only (.refl s) (by decide)) (by decide)).same .wall (by decide)
  exact ⟨_, congrArg (fun x : Wall => { x with sramCe := x.sramCe.filter (fun v => v != w) }) counted⟩

theorem foldl_sramCe_wall (ws : List Nat) (s : State) : ∃ l, (ws.foldl sramCe s).wall = { s.wall with sramCe := l } := by
  induction ws generalizing s with
  | nil => exact ⟨_, rfl⟩
  | cons w ws ih =>
    obtain ⟨l, first⟩ := s.sramCe_wall w
    obtain ⟨l', rest⟩ := ih (s.sramCe w)
    exact ⟨l', by rw [List.foldl_cons, rest, first]⟩

/-- Words of which none is uncorrectable: their single-bit errors are corrected. -/
theorem sramTouch_of_correctable {ws : List Nat} (h : ∀ w ∈ ws, w ∉ s.wall.sramUe) :
    s.sramTouch ws = (none, (s.wall.sramCe.filter (fun w => ws.contains w)).foldl sramCe s) := by
  have ue : ws.filter (fun w => s.wall.sramUe.contains w) = [] :=
    List.filter_eq_nil_iff.2 fun w hw => by simpa using h w hw
  rw [sramTouch, ue]
  rfl

theorem sramTouch_of_good {ws : List Nat} (h : ∀ w ∈ ws, w ∉ s.wall.sramUe ∧ w ∉ s.wall.sramCe) :
    s.sramTouch ws = (none, s) := by
  have ce : s.wall.sramCe.filter (fun w => ws.contains w) = [] :=
    List.filter_eq_nil_iff.2 fun w hce => by simpa using fun hw => (h w hw).2 hce
  rw [sramTouch_of_correctable fun w hw => (h w hw).1, ce]
  rfl

theorem sramTouch_isSome_of_ue {ws : List Nat} (h : ∃ w ∈ ws, w ∈ s.wall.sramUe) : (s.sramTouch ws).1.isSome = true := by
  obtain ⟨w, hw, hue⟩ := h
  have met : ws.filter (fun w => s.wall.sramUe.contains w) ≠ [] :=
    List.ne_nil_of_mem (List.mem_filter.2 ⟨hw, by simpa using hue⟩)
  simpa [sramTouch] using met

/-- `t` holds the octets `l` in the SRAM of a brick from an offset on: every other octet of the wall is as in `s`, and the words
written are good. -/
structure SramWritten (s : State) (brick off : Nat) (l : List Byte) (t : State) : Prop where
  stored : Store.getMany t.wall.sramDefault t.wall.sram (brick * 2 ^ 18 + off) l.length = l
  other : ∀ a, a < brick * 2 ^ 18 + off ∨ brick * 2 ^ 18 + off + l.length ≤ a →
    Store.get t.wall.sramDefault t.wall.sram a = Store.get s.wall.sramDefault s.wall.sram a
  good : ∀ w ∈ sramWords brick off l.length, w ∉ t.wall.sramUe ∧ w ∉ t.wall.sramCe

/-- A write is carried out where no word that it covers in part is uncorrectable. -/
theorem sramWrite_of_correctable {brick off : Nat} {l : List Byte}
    (h : ∀ w ∈ partialWords brick off l.length, w ∉ s.wall.sramUe) :
    (s.sramWrite brick off l).1 = none ∧ s.SramWritten brick off l (s.sramWrite brick off l).2 := by
  unfold sramWrite
  rw [sramTouch_of_correctable h]
  dsimp only
  obtain ⟨ce, touched⟩ := foldl_sramCe_wall (s.wall.sramCe.filter fun w => (partialWords brick off l.length).contains w) s
  rw [touched]
  refine ⟨rfl, Store.getMany_setMany, fun a ha => Store.get_setMany_out ha, fun w hw => ?_⟩
  simp [hw]

end State

end Sys2Proof.Machine
end

section
/-!
SUPPORT. Remote accesses at the far brick (spec/03: R95 to R98; spec/05: R214 to R216).
-/

namespace Sys2Proof.Machine

namespace State

variable {s : State} {m : Msg} {b off : Nat}

/-- A message sent is the last in flight, with the parity of the running job. -/
theorem send_flight (s : State) (cls : MsgClass) (src dst : Node) (tag : Nat) (body : MsgBody) :
    (s.send cls src dst tag body).mortar.flight = s.mortar.flight ++
      [{ cls := cls, src := src, dst := dst, tag := tag, parity := s.mortar.parity, body := body }] := rfl

@[simp] theorem send_wall (s : State) (cls : MsgClass) (src dst : Node) (tag : Nat) (body : MsgBody) :
    (s.send cls src dst tag body).wall = s.wall := (send_only (.refl s) (.among _)).same .wall (by decide)
@[simp] theorem send_hbm (s : State) (cls : MsgClass) (src dst : Node) (tag : Nat) (body : MsgBody) :
    (s.send cls src dst tag body).hbm = s.hbm := (send_only (.refl s) (.among _)).same .hbm (by decide)
@[simp] theorem send_sched (s : State) (cls : MsgClass) (src dst : Node) (tag : Nat) (body : MsgBody) :
    (s.send cls src dst tag body).sched = s.sched := (send_only (.refl s) (.among _)).same .sched (by decide)

theorem exec_remoteRead {n : Nat} (hdelivers : s.delivers m) (hdst : m.dst = .brick b) (hbody : m.body = .readReq off n) :
    exec (.remoteRead m) s =
      let r := (s.ejected m).sramRead b off n
      .next (r.2.2.send .rsp m.dst m.src m.tag (if r.1.isSome then .readFailed 1 else readAnswer m.src r.2.1)) := by
  show execRemoteRead m s = _
  simp only [execRemoteRead, hdst, hbody]
  rw [live_true hdelivers.1 rfl, arrive_of_delivers hdelivers, if_neg Bool.false_ne_true]
  split
  next hue => rw [hue]; rfl
  next hgood => rw [hgood]; rfl

theorem exec_remoteWrite {d : List Byte} (hdelivers : s.delivers m) (hdst : m.dst = .brick b)
    (hbody : m.body = .writeReq off d) :
    exec (.remoteWrite m) s =
      let r := (s.ejected m).sramWrite b off d
      .next (r.2.send .rsp m.dst m.src m.tag (.writeAccepted (if r.1.isSome then 1 else 0))) := by
  show execRemoteWrite m s = _
  simp only [execRemoteWrite, hdst, hbody]
  rw [live_true hdelivers.1 rfl, arrive_of_delivers hdelivers]
  rfl

end State

/-- Settles O25: each request comes out of the mortar unhurt; a read answers by what its words hold, a write leaves its octets and
good words, and neither changes any other octet of the wall. -/
theorem remoteAccessesReachTheSram : Obligations.RemoteAccessesReachTheSram := by
  refine ⟨fun s m b off n hdelivers hdst hbody => ?read, fun s m b off d hdelivers hdst hbody hpartial => ?write⟩
  case read =>
    rw [State.exec_remoteRead hdelivers hdst hbody]
    refine ⟨fun hgood => ?_, fun hue => ?_⟩
    · have touched : (s.ejected m).sramTouch (State.sramWords b off n) = (none, s.ejected m) := State.sramTouch_of_good hgood
      simp only [State.sramRead, touched]
      rfl
    · have failed : ((s.ejected m).sramRead b off n).1.isSome = true := State.sramTouch_isSome_of_ue (s := s.ejected m) hue
      have touched := (State.sramRead_only (brick := b) (off := off) (n := n) (.refl (s.ejected m)) (.among _)).same
      refine ⟨_, rfl, ?_, ?_⟩
      · rw [State.send_wall, touched .sram (by decide)]; rfl
      · rw [State.send_flight, touched .mortar (by decide), failed]; rfl
  case write =>
    obtain ⟨accepted, written⟩ := State.sramWrite_of_correctable (s := s.ejected m) hpartial
    have touched := (State.sramWrite_only (brick := b) (off := off) (l_ := d) (.refl (s.ejected m)) (.among _)).same
    refine ⟨_, State.exec_remoteWrite hdelivers hdst hbody, ?_⟩
    rw [accepted, State.send_wall, State.send_hbm, State.send_sched, State.send_flight, touched .mortar (by decide),
      touched .hbm (by decide), touched .sched (by decide)]
    exact ⟨written.stored, written.other, written.good, rfl, rfl, rfl⟩

end Sys2Proof.Machine
end

section
/-!
SUPPORT. The conversion rule on values that the target represents: what a pattern spells, and that rounding is exact there
(spec/06: R255, R266).
-/

namespace Sys2Proof.Machine

/-- `m` × 2^e and `n` × 2^d are one magnitude. -/
def SameMagnitude (m : Nat) (e : Int) (n : Nat) (d : Int) : Prop :=
  m * 2 ^ (e - min e d).toNat = n * 2 ^ (d - min e d).toNat

/-- A stochastic draw has 16 bits (R275). -/
def Round.DrawFits (mode : Round) : Prop := ∀ r, mode = .stochastic r → r < 65536

theorem SameMagnitude.cases {m n : Nat} {e d : Int} (h : SameMagnitude m e n d) :
    d ≤ e ∧ m * 2 ^ (e - d).toNat = n ∨ e < d ∧ m = n * 2 ^ (d - e).toNat := by
  unfold SameMagnitude at h
  obtain hde | hed := le_or_gt d e
  · rw [min_eq_right hde] at h
    exact .inl ⟨hde, by simpa using h⟩
  · rw [min_eq_left hed.le] at h
    exact .inr ⟨hed, by simpa using h⟩

theorem SameMagnitude.eq_zero_iff {m n : Nat} {e d : Int} (h : SameMagnitude m e n d) : m = 0 ↔ n = 0 := by
  obtain ⟨-, rfl⟩ | ⟨-, rfl⟩ := h.cases <;> simp

theorem log2_mul_two_pow {n : Nat} (hn : n ≠ 0) (k : Nat) : Nat.log2 (n * 2 ^ k) = Nat.log2 n + k := by
  obtain ⟨low, high⟩ := (Nat.log2_eq_iff hn).1 rfl
  refine (Nat.log2_eq_iff (by simp [hn])).2 ⟨?_, ?_⟩
  · rw [pow_add]
    exact Nat.mul_le_mul_right _ low
  · rw [Nat.add_right_comm, pow_add]
    exact Nat.mul_lt_mul_of_pos_right high (Nat.two_pow_pos k)

/-- The place of the leading bit belongs to the value and not to the form that carries it. -/
theorem SameMagnitude.lead {m n : Nat} {e d : Int} (h : SameMagnitude m e n d) (hm : m ≠ 0) :
    (Nat.log2 m : Int) + e = Nat.log2 n + d := by
  have hn : n ≠ 0 := fun hn => hm (h.eq_zero_iff.2 hn)
  obtain ⟨hde, rfl⟩ | ⟨hed, rfl⟩ := h.cases
  · rw [log2_mul_two_pow hm]; omega
  · rw [log2_mul_two_pow hn]; omega

/-- No rounding mode moves a multiple of the unit. -/
theorem roundShift_mul_two_pow {mode : Round} (hdraw : mode.DrawFits) (n k : Nat) : roundShift mode (n * 2 ^ k) k = n := by
  cases mode with
  | zero => simp [roundShift]
  | nearest => simp [roundShift]
  | stochastic r =>
    have hr : r < 65536 := hdraw r rfl
    simpa [roundShift] using hr

theorem roundTo_of_sameMagnitude {mode : Round} {m n : Nat} {e d : Int} (hdraw : mode.DrawFits)
    (h : SameMagnitude m e n d) : roundTo mode m e d = n := by
  obtain ⟨hde, hn⟩ | ⟨hed, rfl⟩ := h.cases
  · rw [roundTo, if_pos hde, hn]
  · rw [roundTo, if_neg (not_le.2 hed), roundShift_mul_two_pow hdraw]

/-! Integer and fixed-point formats. -/

section Integer

variable {f : Fmt} {y : Nat}

/-- The stored integer that a pattern of an integer or fixed-point format spells. -/
def Fmt.stored (f : Fmt) (y : Nat) : Int :=
  if f.signed then toSigned f.width y else ((y % 2 ^ f.width : Nat) : Int)

theorem decodeNum_of_not_isFloat (hf : f.isFloat = false) : decodeNum f y = .ofInt (f.stored y) (-(f.exp : Int)) := by
  simp [decodeNum, hf, Fmt.stored]

theorem Fmt.stored_mem (hw : 1 ≤ f.width) (y : Nat) : f.lo ≤ f.stored y ∧ f.stored y ≤ f.hi := by
  obtain ⟨w, hwidth⟩ := Nat.exists_eq_add_of_le' hw
  have below : y % 2 ^ (w + 1) < 2 ^ (w + 1) := Nat.mod_lt _ (Nat.two_pow_pos _)
  have twice : 2 ^ (w + 1) = 2 * 2 ^ w := Nat.pow_succ'
  simp only [Fmt.lo, Fmt.hi, Fmt.stored, toSigned, hwidth, Nat.add_sub_cancel]
  split
  · split <;> omega
  · omega

theorem ofSigned_stored (y : Nat) : ofSigned f.width (f.stored y) = y % 2 ^ f.width := by
  unfold ofSigned Fmt.stored toSigned
  split
  · dsimp only
    split
    · norm_cast
      simp
    · rw [Int.sub_emod_right]
      norm_cast
      simp
  · norm_cast
    simp

theorem clampConv_of_mem {v : Int} (hlo : f.lo ≤ v) (hhi : v ≤ f.hi) :
    clampConv f v = { bits := ofSigned f.width v, sat := false, nan := false } := by
  simp [clampConv, clampInt, not_lt.2 hlo, not_lt.2 hhi]

theorem convertNum_decoded_integer {mode : Round} {neg : Bool} {m n : Nat} {e d : Int} (saturate : Bool) (hf : f.isFloat = false)
    (hw : 1 ≤ f.width) (hy : y < 2 ^ f.width) (hdraw : mode.DrawFits) (hdecode : decodeNum f y = .fin neg n d)
    (hsame : SameMagnitude m e n d) :
    convertNum f mode saturate (.fin neg m e) = { bits := y, sat := false, nan := false } := by
  rw [decodeNum_of_not_isFloat hf, Num.ofInt] at hdecode
  obtain ⟨hneg, hn, rfl⟩ := Num.fin.inj hdecode
  have rounded : (if neg then -(n : Int) else n) = f.stored y := by
    subst hneg hn
    by_cases hsign : f.stored y < 0
    · rw [decide_eq_true hsign, if_pos rfl]; omega
    · rw [decide_eq_false hsign, if_neg Bool.false_ne_true]; omega
  obtain ⟨hlo, hhi⟩ := Fmt.stored_mem hw y
  simp only [convertNum, hf, Bool.false_eq_true, if_false]
  rw [roundTo_of_sameMagnitude hdraw hsame, rounded, clampConv_of_mem hlo hhi, ofSigned_stored, Nat.mod_eq_of_lt hy]

end Integer

/-! Floating-point formats. -/

section Float

variable {f : Fmt} {y n : Nat} {neg : Bool} {d : Int}

/-- `n` × 2^d is how the format spells a finite magnitude of exponent field `ex`, counted from 1: a significand below 2 at
the fixed place of the exponent, with the leading 1 unless the exponent is the least. -/
structure Fmt.Spells (f : Fmt) (ex n : Nat) (d : Int) : Prop where
  one_le : 1 ≤ ex
  lt : n < 2 ^ (f.mant + 1)
  normal : ex = 1 ∨ 2 ^ f.mant ≤ n
  place : d = ex - f.bias - f.mant

/-- Such a magnitude, in whatever form it comes, gets its own pattern: its leading bit selects the place that it was spelt
at, and there it is whole. -/
theorem Fmt.Spells.floatMag_eq {ex m : Nat} {e : Int} {mode : Round} (h : f.Spells ex n d) (hdraw : mode.DrawFits)
    (hsame : SameMagnitude m e n d) : floatMag f mode m e = (ex - 1) * 2 ^ f.mant + n := by
  obtain ⟨one_le, lt, normal, place⟩ := h
  by_cases hm : m = 0
  · have hn : n = 0 := hsame.eq_zero_iff.1 hm
    have hex : ex = 1 := normal.resolve_right (by have := Nat.two_pow_pos f.mant; omega)
    simp [floatMag, hm, hn, hex]
  · have hn : n ≠ 0 := fun hn => hm (hsame.eq_zero_iff.2 hn)
    have high : n.log2 < f.mant + 1 := (Nat.log2_lt hn).2 lt
    have low : ex = 1 ∨ f.mant ≤ n.log2 := normal.imp_right (Nat.le_log2 hn).2
    have unit : max (n.log2 + d) (1 - f.bias) - f.mant = d := by omega
    have field : (d + f.mant + f.bias - 1).toNat = ex - 1 := by omega
    simp only [floatMag, if_neg hm, hsame.lead hm, unit, field, roundTo_of_sameMagnitude hdraw hsame]

theorem fields_eq_mod (f : Fmt) (y : Nat) :
    y / 2 ^ f.mant % 2 ^ f.exp * 2 ^ f.mant + y % 2 ^ f.mant = y % 2 ^ (f.exp + f.mant) := by
  rw [Nat.add_comm f.exp, pow_add, Nat.mod_mul, Nat.mul_comm, Nat.add_comm]

/-- A finite pattern: neither the fields of an infinity or NaN nor those of the all-ones NaN. -/
theorem decodeNum_float_fin (hf : f.isFloat = true) (h : decodeNum f y = .fin neg n d) :
    let ex := y / 2 ^ f.mant % 2 ^ f.exp
    let fr := y % 2 ^ f.mant
    neg = bit y (f.width - 1) ∧ (f.hasInf = true → ex ≠ 2 ^ f.exp - 1) ∧
      (f.nanAllOnes = true → ex = 2 ^ f.exp - 1 → fr ≠ 2 ^ f.mant - 1) ∧
      (ex = 0 ∧ n = fr ∧ d = 1 - f.bias - f.mant ∨ ex ≠ 0 ∧ n = 2 ^ f.mant + fr ∧ d = ex - f.bias - f.mant) := by
  simp only [decodeNum, hf, if_true] at h
  split at h
  · split at h <;> cases h
  next hinf =>
    split at h
    · cases h
    next hones =>
      simp only [Bool.and_eq_true, beq_iff_eq, not_and] at hinf hones
      split at h
      next hex =>
        obtain ⟨rfl, rfl, rfl⟩ := Num.fin.inj h
        exact ⟨rfl, hinf, fun ha he => hones ⟨ha, he⟩, .inl ⟨hex, rfl, rfl⟩⟩
      next hex =>
        obtain ⟨rfl, rfl, rfl⟩ := Num.fin.inj h
        exact ⟨rfl, hinf, fun ha he => hones ⟨ha, he⟩, .inr ⟨hex, rfl, rfl⟩⟩

theorem exists_spells_of_decodeNum (hf : f.isFloat = true) (h : decodeNum f y = .fin neg n d) :
    ∃ ex, f.Spells ex n d ∧ (ex - 1) * 2 ^ f.mant + n = y % 2 ^ (f.exp + f.mant) := by
  obtain ⟨-, -, -, value⟩ := decodeNum_float_fin hf h
  have hfr : y % 2 ^ f.mant < 2 ^ f.mant := Nat.mod_lt _ (Nat.two_pow_pos _)
  have twice : 2 ^ (f.mant + 1) = 2 * 2 ^ f.mant := Nat.pow_succ'
  have whole := fields_eq_mod f y
  obtain ⟨hex, rfl, rfl⟩ | ⟨hex, rfl, rfl⟩ := value
  · refine ⟨1, ⟨le_rfl, by omega, .inl rfl, by simp⟩, ?_⟩
    simpa [hex] using whole
  · obtain ⟨k, hk⟩ := Nat.exists_eq_succ_of_ne_zero hex
    rw [hk] at whole ⊢
    refine ⟨k + 1, ⟨by omega, by omega, .inr (by omega), rfl⟩, ?_⟩
    rw [Nat.add_sub_cancel, ← Nat.add_assoc, ← Nat.succ_mul, whole]

theorem decodeNum_fin_le_maxMag (hf : f.isFloat = true) (hw : f.width = 1 + f.exp + f.mant)
    (h : decodeNum f y = .fin neg n d) : y % 2 ^ (f.exp + f.mant) ≤ f.maxMag := by
  obtain ⟨-, hinf, hones, -⟩ := decodeNum_float_fin hf h
  have hwidth : f.width - 1 = f.exp + f.mant := by omega
  have whole := fields_eq_mod f y
  have below : y % 2 ^ (f.exp + f.mant) < 2 ^ (f.exp + f.mant) := Nat.mod_lt _ (Nat.two_pow_pos _)
  have hex : y / 2 ^ f.mant % 2 ^ f.exp < 2 ^ f.exp := Nat.mod_lt _ (Nat.two_pow_pos _)
  have hfr : y % 2 ^ f.mant < 2 ^ f.mant := Nat.mod_lt _ (Nat.two_pow_pos _)
  have top : (2 ^ f.exp - 1) * 2 ^ f.mant + 2 ^ f.mant = 2 ^ (f.exp + f.mant) := by
    rw [← Nat.succ_mul, Nat.succ_eq_add_one, Nat.sub_add_cancel Nat.one_le_two_pow, pow_add]
  have short (hne : y / 2 ^ f.mant % 2 ^ f.exp ≠ 2 ^ f.exp - 1) :
      y % 2 ^ (f.exp + f.mant) < (2 ^ f.exp - 1) * 2 ^ f.mant := by
    have next := Nat.mul_le_mul_right (2 ^ f.mant)
      (show y / 2 ^ f.mant % 2 ^ f.exp + 1 ≤ 2 ^ f.exp - 1 by omega)
    rw [Nat.succ_mul] at next
    omega
  rw [Fmt.maxMag, hwidth]
  split
  next ha => exact Nat.le_sub_one_of_lt (short (hinf ha))
  next =>
    split
    next ha =>
      by_cases he : y / 2 ^ f.mant % 2 ^ f.exp = 2 ^ f.exp - 1
      · have := hones ha he
        rw [he] at whole
        omega
      · have := short he
        omega
    next => omega

theorem signBit_add_mod (hw : 1 ≤ f.width) (hy : y < 2 ^ f.width) :
    signBit f (bit y (f.width - 1)) + y % 2 ^ (f.width - 1) = y := by
  obtain ⟨w, hwidth⟩ := Nat.exists_eq_add_of_le' hw
  rw [hwidth, Nat.pow_succ] at hy
  have top : y / 2 ^ w = 0 ∨ y / 2 ^ w = 1 := Nat.le_one_iff_eq_zero_or_eq_one.1 (Nat.lt_succ_iff.1 (Nat.div_lt_of_lt_mul hy))
  have parts := Nat.div_add_mod y (2 ^ w)
  simp only [signBit, bit, hwidth, Nat.add_sub_cancel]
  obtain h | h := top <;> simpa [h] using parts

theorem convertNum_decoded_float {mode : Round} {m : Nat} {e : Int} (saturate : Bool) (hf : f.isFloat = true)
    (hw : f.width = 1 + f.exp + f.mant) (hy : y < 2 ^ f.width) (hdraw : mode.DrawFits)
    (hdecode : decodeNum f y = .fin neg n d) (hsame : SameMagnitude m e n d) :
    convertNum f mode saturate (.fin neg m e) = { bits := y, sat := false, nan := false } := by
  obtain ⟨ex, spells, pattern⟩ := exists_spells_of_decodeNum hf hdecode
  obtain ⟨rfl, -⟩ := decodeNum_float_fin hf hdecode
  have hmag : f.exp + f.mant = f.width - 1 := by omega
  have magnitude : floatMag f mode m e = y % 2 ^ (f.exp + f.mant) := (spells.floatMag_eq hdraw hsame).trans pattern
  simp only [convertNum, hf, if_true, magnitude, decodeNum_fin_le_maxMag hf hw hdecode]
  rw [hmag, signBit_add_mod (by omega) hy]

end Float

/-- Settles O12: the pattern spells its value at the unit to which the conversion rounds, so that rounding is exact in every
mode, and the result lies within the format's limits. -/
theorem representableValuesConvertExactly : Obligations.RepresentableValuesConvertExactly := by
  intro f mode saturate neg y m n e d hformat hw hy hdraw hdecode hsame
  obtain ⟨hcls, hwidth, -⟩ | ⟨hcls, -⟩ | hcls := hformat
  · exact convertNum_decoded_float saturate (by simp [Fmt.isFloat, hcls]) hwidth hy hdraw hdecode hsame
  · exact convertNum_decoded_integer saturate (by simp [Fmt.isFloat, hcls]) hw hy hdraw hdecode hsame
  · exact convertNum_decoded_integer saturate (by simp [Fmt.isFloat, hcls]) hw hy hdraw hdecode hsame

end Sys2Proof.Machine
end

section
/-!
SUPPORT. Done of a command at its brick: the command leaves the outstanding ones, and its token is sent or its job faults
(spec/07: R316; spec/08: R368, R384; spec/12: R539).
-/

namespace Sys2Proof.Machine

namespace State

variable {s : State} {m : Msg} {b tag code : Nat} {o : Outstanding}

/-- The brick `b` has the command of a tag outstanding no more. -/
def endCommand (s : State) (b tag : Nat) : State :=
  s.setBrick b { s.brickAt b with out := (s.brickAt b).out.filter (fun x => x.tag != tag) }

/-- A brick without a firing passes on what done says of its command: the fault of the code, or the token. -/
def passDone (s : State) (b : Nat) (o : Outstanding) (code source : Nat) : State :=
  if code ≠ 0 then
    s.siteFault code (faultSource code source) b o.slot (if code < 0x0500 then 0 else o.block % 2 ^ 18)
      (if code < 0x0500 then 0 else o.unit)
  else if o.succEn then
    match s.physBrick o.succCourse (o.succPos % 64) with
    | some d => s.sendToken b d o.succSlot 0 0 0 (s.wall.bc + 2)
    | none => s.siteFault 0x0212 source b o.slot (o.succCourse * 2 ^ 24 + o.succPos % 64 * 2 ^ 32) 0
  else s

theorem siteFault_reports (s : State) (code source b slot d0 d1 : Nat) :
    ∃ f, (s.siteFault code source b slot d0 d1).faults.reports = s.faults.reports ++ [f] ∧ f.code = code ∧
      f.phys = b / 64 ∧ f.pos = b % 64 ∧ f.slot = slot := ⟨_, rfl, rfl, rfl, rfl, rfl⟩

theorem sendToken_faults (s : State) (src dst slot handleIn handle fill due : Nat) :
    (s.sendToken src dst slot handleIn handle fill due).faults = s.faults :=
  (sendToken_only (.refl s) (.among _)).same .faults (by decide)

theorem passDone_of_code (h : code ≠ 0) (s : State) (b : Nat) (o : Outstanding) (source : Nat) :
    ∃ d0 d1, s.passDone b o code source = s.siteFault code (faultSource code source) b o.slot d0 d1 := ⟨_, _, if_pos h⟩

theorem passDone_of_last (h : o.succEn = false) (s : State) (b source : Nat) : s.passDone b o 0 source = s := by
  simp [passDone, h]

theorem passDone_of_succ {d : Nat} (h : o.succEn = true) (hd : s.physBrick o.succCourse (o.succPos % 64) = some d)
    (b source : Nat) : s.passDone b o 0 source = s.sendToken b d o.succSlot 0 0 0 (s.wall.bc + 2) := by
  simp [passDone, h, hd]

theorem passDone_of_outside (h : o.succEn = true) (hd : s.physBrick o.succCourse (o.succPos % 64) = none) (b source : Nat) :
    ∃ d0, s.passDone b o 0 source = s.siteFault 0x0212 source b o.slot d0 0 :=
  ⟨o.succCourse * 2 ^ 24 + o.succPos % 64 * 2 ^ 32, by simp [passDone, h, hd]⟩

theorem passDone_wall (s : State) (b : Nat) (o : Outstanding) (code source : Nat) :
    (s.passDone b o code source).wall = s.wall := by
  unfold passDone
  split
  · rfl
  split
  · split
    · exact sendToken_wall ..
    · rfl
  · rfl

theorem endCommand_physBrick (s : State) (b tag c p : Nat) : (s.endCommand b tag).physBrick c p = s.physBrick c p := by
  rw [physBrick, physBrick, courseMap_congr (t := s.endCommand b tag) (s := s) rfl rfl]

theorem endCommand_passDone_brickAt (s : State) (b tag : Nat) (o : Outstanding) (code source : Nat) :
    ((s.endCommand b tag).passDone b o code source).brickAt b =
      { s.brickAt b with out := (s.brickAt b).out.filter (fun x => x.tag != tag) } :=
  (brickAt_congr (congrArg Wall.bricks (passDone_wall ..)) b).trans (brickAt_setBrick_self ..)

/-- No firing of the brick waits for the command, so that done does no more than end it and pass on what it says. -/
theorem doneAt_of_idle (hout : (s.brickAt b).out.find? (fun x => x.tag == tag) = some o)
    (hidle : (s.brickAt b).firing = none) (code source : Nat) :
    s.doneAt b tag code source = (s.endCommand b tag).passDone b o code source := by
  have ended := endCommand_passDone_brickAt s b tag o code source
  unfold doneAt
  extract_lets x s1
  rw [hout]
  dsimp -zeta only
  extract_lets s2
  have idle : (s2.brickAt b).firing = none := (congrArg Brick.firing ended).trans hidle
  rw [idle]
  rfl

/-! ### The commands -/

theorem exec_selDone (hdelivers : s.delivers m) (hdst : m.dst = .brick b) (hbody : m.body = .selDone code) :
    exec (.selDone m) s = .next ((s.ejected m).doneAt b 0x40 code 2) := by
  show execSelDone m s = _
  simp only [execSelDone, hdst, hbody]
  rw [live_true hdelivers.1 rfl, arrive_of_delivers hdelivers]
  rfl

theorem exec_csaDone {outcome moves gen : Nat} (hdelivers : s.delivers m) (hdst : m.dst = .brick b)
    (hbody : m.body = .csaDone code outcome moves gen) :
    exec (.csaDone m) s = .next ((s.ejected m).doneAt b 0x41 code 3) := by
  show execCsaDone m s = _
  simp only [execCsaDone, hdst, hbody]
  rw [live_true hdelivers.1 rfl, arrive_of_delivers hdelivers]
  rfl

theorem exec_egsDone {unique remote missing : Nat} (hdelivers : s.delivers m) (hdst : m.dst = .brick b)
    (hbody : m.body = .egsDone code unique remote missing) :
    exec (.egsDone m) s = .next ((s.ejected m).doneAt b m.tag code 5) := by
  show execEgsDone m s = _
  simp only [execEgsDone, hdst, hbody]
  rw [live_true hdelivers.1 rfl, arrive_of_delivers hdelivers]
  rfl

end State

/-- Settles O32: each done comes out of the mortar unhurt at a brick without a firing, so that it ends its command and then,
by its code and the command's successor, only sends the token or reports the fault. -/
theorem donesPassTheToken : Obligations.DonesPassTheToken := by
  intro s m b tag o hdelivers hdst hout hidle done
  have passes (c : Instr) (code source : Nat) (hexec : exec c s = .next ((s.ejected m).doneAt b tag code source)) :
      done c code := by
    have physical : ((s.ejected m).endCommand b tag).physBrick = s.physBrick :=
      funext₂ ((s.ejected m).endCommand_physBrick b tag)
    rw [State.doneAt_of_idle (s := s.ejected m) hout hidle] at hexec
    refine ⟨_, hexec, congrArg Brick.out (State.endCommand_passDone_brickAt ..), fun hcode => ?faulted,
      fun hcode hlast => ?last, fun hcode d hsucc hd => ?passed, fun hcode hsucc hd => ?outside⟩
    case faulted =>
      obtain ⟨d0, d1, faults⟩ := State.passDone_of_code hcode ((s.ejected m).endCommand b tag) b o source
      rw [faults]
      exact ⟨rfl, State.siteFault_reports ..⟩
    case last =>
      rw [hcode, State.passDone_of_last hlast]
      exact ⟨rfl, rfl⟩
    case passed =>
      rw [hcode, State.passDone_of_succ hsucc (physical ▸ hd), State.sendToken_faults, State.sendToken_mortar]
      exact ⟨rfl, rfl⟩
    case outside =>
      obtain ⟨d0, faults⟩ := State.passDone_of_outside (s := (s.ejected m).endCommand b tag) hsucc (physical ▸ hd) b source
      rw [hcode, faults]
      exact ⟨rfl, _, rfl, rfl, rfl⟩
  refine ⟨fun code htag hbody => ?_, fun code u v g htag hbody => ?_, fun code u v g htag hbody => ?_⟩
  · exact passes _ code 2 (htag ▸ State.exec_selDone hdelivers hdst hbody)
  · exact passes _ code 3 (htag ▸ State.exec_csaDone hdelivers hdst hbody)
  · exact passes _ code 5 (htag ▸ State.exec_egsDone hdelivers hdst hbody)

end Sys2Proof.Machine
end

section
/-!
SUPPORT. Octets that leave in result writes of at most 56 (spec/07: R314; spec/08: R354, Table 8-8).
-/

namespace Sys2Proof.Machine

/-- Any fuel that reaches the end of the list cuts it into the same pieces. -/
theorem chunked_of_length_le {α : Type} {n f : Nat} {l : List α} (hn : 0 < n) (hf : l.length ≤ f) :
    chunked f n l = chunked l.length n l := by
  induction f using Nat.strong_induction_on generalizing l with
  | _ f ih =>
    cases l with
    | nil => cases f <;> rfl
    | cons a l =>
      obtain ⟨f, rfl⟩ : ∃ g, f = g + 1 := ⟨f - 1, by simp at hf; omega⟩
      have hl : l.length ≤ f := by simpa using hf
      have hdrop : ((a :: l).drop n).length ≤ l.length := by simp; omega
      rw [List.length_cons, chunked, chunked, ih f (by omega) (hdrop.trans hl)]
      · rcases hl.eq_or_lt with rfl | hlt
        · rw [ih _ (by omega) hdrop]
        · rw [ih l.length (by omega) hdrop]
      · simp
      · simp

theorem numbered_succ {α : Type} (i : Nat) (l : List α) :
    numbered (i + 1) l = (numbered i l).map (fun p => (p.1 + 1, p.2)) := by
  induction l generalizing i with
  | nil => rfl
  | cons x l ih => rw [numbered, ih, numbered, List.map_cons]

theorem resultWrites_nil (off : Nat) : resultWrites off [] = [] := rfl

theorem resultWrites_of_ne_nil {l : List Byte} (h : l ≠ []) (off : Nat) :
    resultWrites off l = (off, l.take 56) :: resultWrites (off + 56) (l.drop 56) := by
  obtain ⟨a, l, rfl⟩ := List.exists_cons_of_ne_nil h
  have hrest : chunked l.length 56 ((a :: l).drop 56) = chunked ((a :: l).drop 56).length 56 ((a :: l).drop 56) :=
    chunked_of_length_le (by decide) (by simp)
  rw [resultWrites, resultWrites, ← hrest, List.length_cons, chunked, numbered, numbered_succ]
  · simp [Function.comp_def, Nat.mul_add, Nat.add_assoc, Nat.add_comm 56]
  · exact List.cons_ne_nil a l

end Sys2Proof.Machine
end

section
/-!
SUPPORT. The operations of a bank of the content search array: what each leaves of the bank's state, of its entries, of the
queue at its hub and of the messages in flight (spec/08: R335, R339, R354, R365; spec/09: R392, R393).
-/

namespace Sys2Proof.Machine

namespace State

variable {s t : State} {b : Nat}

@[simp] theorem csaBank_setCsaBank_self (s : State) (b : Nat) (k : CsaBank) :
    (s.setCsaBank b k).csaBank b = k := Store.get_set_eq

theorem csaBank_congr (h : t.csa = s.csa) (b : Nat) : t.csaBank b = s.csaBank b := by rw [csaBank, csaBank, h]

@[simp] theorem inc64_csa (s : State) (k n : Nat) : (s.inc64 k n).csa = s.csa := by
  unfold inc64; split <;> rfl

@[simp] theorem inc64_mortar (s : State) (k n : Nat) : (s.inc64 k n).mortar = s.mortar := by
  unfold inc64; split <;> rfl

@[simp] theorem send_csa (s : State) (cls : MsgClass) (src dst : Node) (tag : Nat) (body : MsgBody) :
    (s.send cls src dst tag body).csa = s.csa := (send_only (.refl s) (.among _)).same .csa (by decide)

@[simp] theorem send_parity (s : State) (cls : MsgClass) (src dst : Node) (tag : Nat) (body : MsgBody) :
    (s.send cls src dst tag body).mortar.parity = s.mortar.parity := rfl

/-- What a bank answers to a brick: its messages carry the tag of commands to the array and the parity of the job. -/
def bankAnswer (s : State) (b brick : Nat) (y : MsgBody) : Msg :=
  { cls := .rsp, src := .bank b, dst := .brick brick, tag := 0x41, parity := s.mortar.parity, body := y }

theorem bankAnswer_congr (h : t.mortar.parity = s.mortar.parity) (b brick : Nat) :
    t.bankAnswer b brick = s.bankAnswer b brick := by
  unfold bankAnswer; rw [h]

/-! ### The end of a command -/

/-- But for the counts of section 7, the end of a command is done, sent by a bank that runs nothing. -/
theorem csaEnd_counts (s : State) (b brick code outcome moves : Nat) :
    ((s.setCsaBank b { s.csaBank b with run := none }).send .rsp (.bank b) (.brick brick) 0x41
      (.csaDone code outcome moves (s.csaBank b).gen)).Only (among [.num 7]) (s.csaEnd b brick code outcome moves) :=
  .ite (inc64_only (.refl _) (by decide))
    (setSticky_only (setNum_only (inc32_only (.refl _) (by decide)) (by decide)) (by decide))

theorem csaEnd_csa (s : State) (b brick code outcome moves : Nat) :
    (s.csaEnd b brick code outcome moves).csa = (s.setCsaBank b { s.csaBank b with run := none }).csa :=
  ((csaEnd_counts ..).same .csa (by decide)).trans (send_csa ..)

theorem csaEnd_csaBank (s : State) (b brick code outcome moves : Nat) :
    (s.csaEnd b brick code outcome moves).csaBank b = { s.csaBank b with run := none } :=
  (csaBank_congr (csaEnd_csa ..) b).trans (csaBank_setCsaBank_self ..)

theorem csaEnd_flight (s : State) (b brick code outcome moves : Nat) :
    (s.csaEnd b brick code outcome moves).mortar.flight =
      s.mortar.flight ++ [s.bankAnswer b brick (.csaDone code outcome moves (s.csaBank b).gen)] :=
  congrArg Mortar.flight ((csaEnd_counts ..).same .mortar (by decide))

/-- A refused command counts once. -/
theorem csaEnd_refused {code : Nat} (h : code ≠ 0) (s : State) (b brick outcome moves : Nat) :
    (s.csaEnd b brick code outcome moves).num Obj.CSA_REFUSED = (s.inc32 Obj.CSA_REFUSED 1).num Obj.CSA_REFUSED := by
  have sent : s.Only (among [.num 4, .mortar, .csa]) ((s.setCsaBank b { s.csaBank b with run := none }).send .rsp (.bank b)
      (.brick brick) 0x41 (.csaDone code outcome moves (s.csaBank b).gen)) :=
    send_only (setCsaBank_only (.refl s) (.of_all (by decide))) (.of_all (by decide))
  unfold csaEnd
  rw [if_neg h, setSticky_num_ne (by decide), num_setNum_ne (by decide)]
  exact num_inc32_congr (sent.same .badObj (by decide)) (sent.same (.num 7) (by decide) _ (by decide))

/-! ### Result writes -/

theorem csaFlush_csa (n : Nat) (s : State) (b brick out sent : Nat) (l : List Byte) :
    (csaFlush n s b brick out l sent true).1.csa = s.csa :=
  (csaFlush_only (.refl s) (.among _)).same .csa (by decide)

/-- With fuel for every piece, all octets leave. -/
theorem csaFlush_all {n : Nat} {l : List Byte} (hn : l.length < n) (s : State) (b brick out sent : Nat) :
    (csaFlush n s b brick out l sent true).1.mortar.parity = s.mortar.parity ∧
      (csaFlush n s b brick out l sent true).1.mortar.flight = s.mortar.flight ++
        (resultWrites (out + sent) l).map (fun y => s.bankAnswer b brick (.csaResult y.1 y.2)) := by
  induction n generalizing s l sent with
  | zero => omega
  | succ n ih =>
    by_cases hl : l = []
    · subst hl
      simp [csaFlush, resultWrites_nil]
    · have hpos : 0 < l.length := List.length_pos_of_ne_nil hl
      have hrest : resultWrites (out + (sent + min 56 l.length)) (l.drop 56) = resultWrites (out + sent + 56) (l.drop 56) := by
        rcases Nat.le_total 56 l.length with h | h
        · rw [min_eq_left h, Nat.add_assoc]
        · rw [List.drop_eq_nil_of_le h, resultWrites_nil, resultWrites_nil]
      have hdrop : (l.drop 56).length < n := by simp; omega
      obtain ⟨parity, flight⟩ := ih hdrop (s.send .rsp (.bank b) (.brick brick) 0x41 (.csaResult (out + sent) (l.take 56)))
        (sent + min 56 l.length)
      rw [csaFlush, if_neg (by simp [hl])]
      refine ⟨parity, ?_⟩
      rw [flight, resultWrites_of_ne_nil hl, hrest, List.map_cons, List.append_cons]
      rfl

/-! ### Words read -/

/-- Words of a bank without marked words are read as they stand. -/
theorem readAll_of_good (hce : (s.csaBank b).ce = []) (hue : (s.csaBank b).ue = []) (ws : List Nat) :
    s.readAll b ws = (false, s) := by
  induction ws with
  | nil => rfl
  | cons w ws ih =>
    have first : s.readWord b w = (false, s) := by simp [readWord, hce, hue]
    rw [readAll, first]
    exact ih

/-! ### Entries and the header written -/

/-- `t` is `s` but for what the bank holds: its queue, its BANK_GEN and the mortar stand. -/
structure RewritesBank (s : State) (b : Nat) (t : State) : Prop where
  queue : t.csa.queue = s.csa.queue
  gen : (t.csaBank b).gen = (s.csaBank b).gen
  mortar : t.mortar = s.mortar

theorem RewritesBank.trans {u : State} (h : s.RewritesBank b t) (h' : t.RewritesBank b u) : s.RewritesBank b u :=
  ⟨h'.queue.trans h.queue, h'.gen.trans h.gen, h'.mortar.trans h.mortar⟩

/-- The entries of the array with one of a bank written. -/
def withEntry (b : Nat) (l : Store CsaEntry) (i : Nat) (e : CsaEntry) : Store CsaEntry :=
  Store.set (fun _ => ({} : CsaEntry)) l (b * 8192 + i) (normEntry e)

theorem putEntry_entries (s : State) (b i : Nat) (e : CsaEntry) :
    (s.putEntry b i e).csa.entries = withEntry b s.csa.entries i e := rfl

theorem putEntry_csaBank (s : State) (b i : Nat) (e : CsaEntry) :
    ∃ ce ue, (s.putEntry b i e).csaBank b = { s.csaBank b with ce := ce, ue := ue } := ⟨_, _, csaBank_setCsaBank_self ..⟩

theorem putEntry_rewrites (s : State) (b i : Nat) (e : CsaEntry) : s.RewritesBank b (s.putEntry b i e) := by
  obtain ⟨ce, ue, bank⟩ := s.putEntry_csaBank b i e
  exact ⟨rfl, by rw [bank], rfl⟩

theorem foldl_putEntry_entries {α : Type} (at_ : α → Nat) (e : α → CsaEntry) (l : List α) (s : State) :
    (l.foldl (fun t p => t.putEntry b (at_ p) (e p)) s).csa.entries =
      l.foldl (fun r p => withEntry b r (at_ p) (e p)) s.csa.entries := by
  induction l generalizing s with
  | nil => rfl
  | cons p l ih =>
    rw [List.foldl_cons]
    exact ih (s.putEntry b (at_ p) (e p))

theorem foldl_putEntry_rewrites {α : Type} (at_ : α → Nat) (e : α → CsaEntry) (l : List α) (s : State) :
    s.RewritesBank b (l.foldl (fun t p => t.putEntry b (at_ p) (e p)) s) := by
  induction l generalizing s with
  | nil => exact ⟨rfl, rfl, rfl⟩
  | cons p l ih => exact (putEntry_rewrites ..).trans (ih (s.putEntry b (at_ p) (e p)))

theorem putHeader_csaBank (s : State) (b epoch : Nat) :
    ∃ h, (s.putHeader b epoch).csaBank b = { s.csaBank b with header := h } :=
  ⟨_, csaBank_setCsaBank_self ..⟩

theorem genUp_gen (s : State) (b : Nat) : ((s.genUp b).csaBank b).gen = ((s.csaBank b).gen + 1) % 65536 := by
  unfold genUp
  extract_lets k
  obtain ⟨h, header⟩ := (s.setCsaBank b { k with gen := (k.gen + 1) % 65536 }).putHeader_csaBank b k.header.epoch
  rw [header, csaBank_setCsaBank_self]

/-! ### Clearing -/

/-- `t` is `s` with the bank CLEARING and every entry of it a hole. -/
structure Cleared (s : State) (b : Nat) (t : State) : Prop where
  queue : t.csa.queue = s.csa.queue
  mortar : t.mortar = s.mortar
  state : (t.csaBank b).state = 1
  gen : (t.csaBank b).gen = ((s.csaBank b).gen + 1) % 65536
  entries : t.csa.entries = Store.clear s.csa.entries (b * 8192) (b * 8192 + 8192)

/-- Counting a bank's scrub steps moves only where the count stands. -/
theorem scrubAccount_csa (s : State) (b : Nat) : (s.scrubAccount b).csa = s.csa ∨
    ∃ w n, (s.scrubAccount b).csa = (s.setCsaBank b { s.csaBank b with stepWin := w, steps := n }).csa := by
  unfold scrubAccount
  extract_lets k q p n s1
  split
  · exact .inl rfl
  split
  · exact .inr ⟨q, p, rfl⟩
  · exact .inr ⟨q, p, inc64_csa ..⟩

theorem clearNow_cleared (hstate : (s.csaBank b).state = 1) : s.Cleared b (s.clearNow b) := by
  unfold clearNow
  extract_lets c s1 k
  obtain ⟨h, header⟩ := putHeader_csaBank
    (s1.setCsaBank b { k with gen := (k.gen + 1) % 65536, clearDue := false, ce := [], ue := [] }) b
    (if k.header.epoch = 65535 then 1 else k.header.epoch + 1)
  rw [csaBank_setCsaBank_self] at header
  exact ⟨rfl, rfl, by rw [header]; exact hstate, by rw [header]; rfl, rfl⟩

/-- Outside a calibration pause the work of a clearing is done at its start, in a bank that has not failed. -/
theorem startClearing_cleared (hpause : s.calPause = false) (hstate : (s.csaBank b).state ≠ 4) :
    s.Cleared b (s.startClearing b) := by
  have mortar : (s.scrubAccount b).mortar = s.mortar := (scrubAccount_only (.refl s) (.among _)).same .mortar (by decide)
  have kept : (s.scrubAccount b).csa.queue = s.csa.queue ∧ (s.scrubAccount b).csa.entries = s.csa.entries ∧
      ((s.scrubAccount b).csaBank b).gen = (s.csaBank b).gen ∧
      ((s.scrubAccount b).csaBank b).state = (s.csaBank b).state := by
    obtain same | ⟨w, n, moved⟩ := s.scrubAccount_csa b
    · rw [csaBank_congr same, same]
      exact ⟨rfl, rfl, rfl, rfl⟩
    · rw [csaBank_congr moved, csaBank_setCsaBank_self, moved]
      exact ⟨rfl, rfl, rfl, rfl⟩
  obtain ⟨queue, entries, gen, state⟩ := kept
  unfold startClearing
  extract_lets s0 k s1
  rw [if_neg (by simp [hpause])]
  have clearing : s1.csaBank b = { k with state := 1, clearDue := true } := by
    rw [csaBank_setCsaBank_self, if_neg (state ▸ hstate)]
  have cleared : s1.Cleared b (s1.clearNow b) := clearNow_cleared (by rw [clearing])
  refine ⟨cleared.queue.trans queue, cleared.mortar.trans mortar, cleared.state, ?_, ?_⟩
  · rw [cleared.gen, clearing, ← gen]
  · rw [cleared.entries, ← entries]; rfl

end State

end Sys2Proof.Machine
end

section
/-!
SUPPORT. An idle bank and the command at the head of its queue (spec/08: R339, R344, R347, R361, R364, R365, R371, R372).
-/

namespace Sys2Proof.Machine

namespace State

variable {s : State} {b : Nat} {x : HubCmd}

/-- The bank `b` is free to take the command `x`, which stands first in its queue. -/
structure TakesHead (s : State) (b : Nat) (x : HubCmd) : Prop where
  unit : bankOk b = true
  held : s.held = false
  openWall : s.wall.closed = false
  head : (s.csa.queue.find? (fun p => p.1 == b)).map Prod.snd = some x
  idle : (s.csaBank b).run = none
  notClearing : (s.csaBank b).state ≠ 1
  notReloading : (s.csaBank b).state ≠ 3
  pause : s.calPause = false
  legal : s.msgLegal (x.message (.bank b) {}) = true

/-- The command `x` leaves the queue of the bank. -/
def headTaken (s : State) (b : Nat) (x : HubCmd) : State := { s with csa := { s.csa with queue := s.csa.queue.erase (b, x) } }

/-- The row by which a bank takes a command of an OP; a reserved one by SEARCH. -/
def headInstr (b : Nat) : Nat → Instr
  | 0 => .search b {}
  | 1 => .insert b {}
  | 2 => .delete b {}
  | 3 => .updateData b {}
  | 4 => .csaRead b {}
  | 5 => .bulkLoad b {}
  | 6 => .respace b {}
  | 7 => .clear b {}
  | _ => .search b {}

/-- What a bank does with a command of an OP that passes its checks. -/
def headGo (op : Nat) : State → Nat → HubCmd → State :=
  if op = 4 then csaReadGo else if op = 6 then csaRespaceGo else if op = 7 then csaClearGo else csaGranted

/-- What becomes of the command at the head: refused with its code, or begun by `go`. -/
def headAnswered (s : State) (b : Nat) (x : HubCmd) (go : State → Nat → HubCmd → State) : State :=
  if s.csaCode b x ≠ 0 then (s.headTaken b x).csaEnd b x.brick (s.csaCode b x) 0 0 else go (s.headTaken b x) b x

theorem TakesHead.act_csaTake (h : s.TakesHead b x) {ops : Nat → Bool} (hops : ops (parseCsa x.block).op = true)
    (go : State → Nat → HubCmd → State) :
    act (bankOk b) (s.csaTake b ops {} (fun t c => go t b c)) = .next (s.headAnswered b x go) := by
  have legal : (s.headTaken b x).msgLegal (x.message (.bank b) {}) = true := h.legal
  have free : (!s.wall.closed && (s.csaBank b).run.isNone && (s.csaBank b).state != 1 && (s.csaBank b).state != 3 &&
      ops (parseCsa x.block).op) = true := by
    simp [h.openWall, h.idle, h.notClearing, h.notReloading, hops]
  simp only [csaTake, h.head]
  rw [act_live h.unit h.held free]
  exact congrArg _ (landed_unhurt legal rfl)

theorem TakesHead.exec (h : s.TakesHead b x) :
    Machine.exec (headInstr b (parseCsa x.block).op) s = .next (s.headAnswered b x (headGo (parseCsa x.block).op)) := by
  have unpaused (t : State) : s.when (!s.calPause) t = t := by simp [when, h.pause]
  match hop : (parseCsa x.block).op with
  | 0 => exact h.act_csaTake (by rw [hop]; rfl) csaGranted
  | 1 => exact h.act_csaTake (by rw [hop]; rfl) csaGranted
  | 2 => exact h.act_csaTake (by rw [hop]; rfl) csaGranted
  | 3 => exact h.act_csaTake (by rw [hop]; rfl) csaGranted
  | 4 => exact h.act_csaTake (by rw [hop]; rfl) csaReadGo
  | 5 => exact h.act_csaTake (by rw [hop]; rfl) csaGranted
  | 6 => exact (congrArg _ (unpaused _)).trans (h.act_csaTake (by rw [hop]; rfl) csaRespaceGo)
  | 7 => exact (congrArg _ (unpaused _)).trans (h.act_csaTake (by rw [hop]; rfl) csaClearGo)
  | n + 8 => exact h.act_csaTake (by rw [hop]; simp) csaGranted

theorem TakesHead.exec_refused (h : s.TakesHead b x) (hcode : s.csaCode b x ≠ 0) :
    Machine.exec (headInstr b (parseCsa x.block).op) s =
      .next ((s.headTaken b x).csaEnd b x.brick (s.csaCode b x) 0 0) := by
  rw [h.exec, headAnswered, if_pos hcode]

theorem TakesHead.exec_begun (h : s.TakesHead b x) (hcode : s.csaCode b x = 0) {go : State → Nat → HubCmd → State}
    (hgo : headGo (parseCsa x.block).op = go) :
    Machine.exec (headInstr b (parseCsa x.block).op) s = .next (go (s.headTaken b x) b x) := by
  rw [h.exec, headAnswered, if_neg (not_not.2 hcode), hgo]

theorem headGo_of_elements {op : Nat} (h : op < 6) (h4 : op ≠ 4) : headGo op = csaGranted := by
  rw [headGo, if_neg h4, if_neg (by omega), if_neg (by omega)]

/-- A command that passes the checks finds its bank not FAILED. -/
theorem state_ne_four_of_csaCode (h : s.csaCode b x = 0) : (s.csaBank b).state ≠ 4 := by
  intro failed
  simp only [csaCode, failed] at h
  split at h
  · cases h
  split at h <;> cases h

/-- The bank `b` of `s` gives the messages `l` to the brick of `x` and comes to run `run` at generation `gen`. -/
structure BankGives (s : State) (b : Nat) (x : HubCmd) (l : List MsgBody) (run : Option CsaRun) (gen : Nat)
    (t : State) : Prop where
  queue : t.csa.queue = s.csa.queue
  flight : t.mortar.flight = s.mortar.flight ++ l.map (s.bankAnswer b x.brick)
  run : (t.csaBank b).run = run
  gen : (t.csaBank b).gen = gen

theorem csaEnd_gives (s : State) (b : Nat) (x : HubCmd) (code outcome moves : Nat) :
    s.BankGives b x [.csaDone code outcome moves (s.csaBank b).gen] none (s.csaBank b).gen
      (s.csaEnd b x.brick code outcome moves) where
  queue := by rw [csaEnd_csa]; rfl
  flight := csaEnd_flight ..
  run := by rw [csaEnd_csaBank]
  gen := by rw [csaEnd_csaBank]

theorem csaEnd_entries (s : State) (b brick code outcome moves : Nat) :
    (s.csaEnd b brick code outcome moves).csa.entries = s.csa.entries := by rw [csaEnd_csa]; rfl

theorem csaGranted_entries (s : State) (b : Nat) (x : HubCmd) : (s.csaGranted b x).csa.entries = s.csa.entries := by
  unfold csaGranted
  dsimp only
  rw [send_csa]
  split <;> rfl

theorem csaGranted_gives (s : State) (b : Nat) (x : HubCmd) :
    s.BankGives b x [.csaGrant b] (some (csaRunOf x))
      (if (parseCsa x.block).op = 5 then ((s.csaBank b).gen + 1) % 65536 else (s.csaBank b).gen) (s.csaGranted b x) := by
  unfold csaGranted
  extract_lets u
  have bank : ((u.setCsaBank b { u.csaBank b with run := some (csaRunOf x) }).send .rsp (.bank b) (.brick x.brick) 0x41
      (.csaGrant b)).csaBank b = { u.csaBank b with run := some (csaRunOf x) } :=
    (csaBank_congr (send_csa ..) b).trans (csaBank_setCsaBank_self ..)
  have counted : u.csa.queue = s.csa.queue ∧ u.mortar = s.mortar ∧
      (u.csaBank b).gen = if (parseCsa x.block).op = 5 then ((s.csaBank b).gen + 1) % 65536 else (s.csaBank b).gen := by
    unfold u
    split
    · exact ⟨rfl, rfl, genUp_gen ..⟩
    · exact ⟨rfl, rfl, rfl⟩
  obtain ⟨queue, mortar, gen⟩ := counted
  exact
    { queue := (congrArg Csa.queue (send_csa ..)).trans queue
      flight := by rw [send_flight, setCsaBank_mortar, mortar]; rfl
      run := by rw [bank]
      gen := by rw [bank]; exact gen }

/-- The record that READ gives of an address: that of a hole has every field 0. -/
def readRecord (s : State) (b i : Nat) : List Byte :=
  csaRecord (s.csaW b) (if (s.csaEntry b i).valid then s.csaEntry b i else {})

/-- The addresses that READ names. -/
def readAddrs (c : CsaCmd) : List Nat := (List.range c.count).map (fun n => c.start + n)

/-- READ of words without errors: its records in result writes, then done. -/
theorem csaReadGo_gives (hce : (s.csaBank b).ce = []) (hue : (s.csaBank b).ue = []) :
    s.BankGives b x
      ((resultWrites (parseCsa x.block).out ((readAddrs (parseCsa x.block)).flatMap (s.readRecord b))).map
        (fun y => MsgBody.csaResult y.1 y.2) ++
        [.csaDone 0 ((readAddrs (parseCsa x.block)).filter (fun i => (s.csaEntry b i).valid)).length 0 (s.csaBank b).gen])
      none (s.csaBank b).gen (s.csaReadGo b x) ∧ (s.csaReadGo b x).csa.entries = s.csa.entries := by
  unfold csaReadGo
  extract_lets c addrs r l f
  have read : r = (false, s) := readAll_of_good hce hue _
  have flushed : f.1.csa = s.csa ∧ f.1.mortar.parity = s.mortar.parity ∧ f.1.mortar.flight = s.mortar.flight ++
      (resultWrites c.out l).map (fun y => s.bankAnswer b x.brick (.csaResult y.1 y.2)) := by
    unfold f
    rw [read]
    exact ⟨csaFlush_csa .., csaFlush_all (Nat.lt_succ_self l.length) s b x.brick c.out 0⟩
  obtain ⟨csa, parity, flight⟩ := flushed
  clear_value f
  rw [read, if_neg Bool.false_ne_true]
  obtain ⟨queue, sent, run, gen⟩ := csaEnd_gives f.1 b x 0 (addrs.filter (fun i => (s.csaEntry b i).valid)).length 0
  rw [csaBank_congr csa] at sent gen
  refine ⟨⟨queue.trans (congrArg Csa.queue csa), ?_, run, gen⟩, (csaEnd_entries ..).trans (congrArg Csa.entries csa)⟩
  rw [sent, flight, List.map_append, List.map_map, List.append_assoc, List.map_singleton, List.map_singleton,
    bankAnswer_congr parity]
  rfl

/-! RESPACE: where the entries go (R364). -/

/-- The address of the entry of rank order `j` when the bank's holes are laid out evenly. -/
def respacePlace (s : State) (b j : Nat) : Nat :=
  if (s.csaValid b).length ≤ s.csaCapacity b then j + j / (s.csaH b - 1) else j * s.csaE b / (s.csaValid b).length

/-- The entries that move, each with its rank order and its address. -/
def respaceMoves (s : State) (b : Nat) : List (Nat × Nat × CsaEntry) :=
  (numbered 0 (s.csaValid b)).filter (fun p => s.respacePlace b p.1 != p.2.1)

/-- RESPACE of words without errors: the entries that move are removed and then written where they go. -/
theorem csaRespaceGo_gives (hce : (s.csaBank b).ce = []) (hue : (s.csaBank b).ue = []) :
    s.BankGives b x [.csaDone 0 0 (s.respaceMoves b).length (((s.csaBank b).gen + 1) % 65536)] none
      (((s.csaBank b).gen + 1) % 65536) (s.csaRespaceGo b x) ∧
    (s.csaRespaceGo b x).csa.entries = (s.respaceMoves b).foldl (fun l p => withEntry b l (s.respacePlace b p.1) p.2.2)
      ((s.respaceMoves b).foldl (fun l p => withEntry b l p.2.1 {}) s.csa.entries) := by
  unfold csaRespaceGo
  extract_lets v n place mv r s1 s2 s3
  have read : r = (false, s) := readAll_of_good hce hue _
  have removed : s.RewritesBank b s1 := by
    unfold s1; rw [read]; exact foldl_putEntry_rewrites ..
  have written : s.RewritesBank b s2 := removed.trans (foldl_putEntry_rewrites ..)
  have entries : s2.csa.entries = mv.foldl (fun l p => withEntry b l (place p.1) p.2.2)
      (mv.foldl (fun l p => withEntry b l p.2.1 {}) s.csa.entries) := by
    unfold s2 s1
    rw [foldl_putEntry_entries, foldl_putEntry_entries, read]
  have counted : s3.csa = s2.csa ∧ s3.mortar = s2.mortar := by
    unfold s3; split
    · exact ⟨rfl, rfl⟩
    · exact ⟨inc64_csa .., inc64_mortar ..⟩
  obtain ⟨csa, mortar⟩ := counted
  clear_value s1 s2 s3
  rw [read, if_neg Bool.false_ne_true]
  have gen : ((s3.genUp b).csaBank b).gen = ((s.csaBank b).gen + 1) % 65536 := by
    rw [genUp_gen, csaBank_congr csa, written.gen]
  have given := csaEnd_gives (s3.genUp b) b x 0 0 mv.length
  rw [gen] at given
  refine ⟨⟨given.queue.trans ((congrArg Csa.queue csa).trans written.queue), ?_, given.run, given.gen⟩,
    (csaEnd_entries ..).trans ((congrArg Csa.entries csa).trans entries)⟩
  have same : (s3.genUp b).mortar = s.mortar := mortar.trans written.mortar
  rw [given.flight, same, bankAnswer_congr (congrArg Mortar.parity same)]
  rfl

/-- CLEAR: the bank runs the command while it is CLEARING. -/
theorem csaClearGo_gives (hpause : s.calPause = false) (hstate : (s.csaBank b).state ≠ 4) :
    s.BankGives b x [] (some (csaRunOf x)) (((s.csaBank b).gen + 1) % 65536) (s.csaClearGo b x) ∧
      ((s.csaClearGo b x).csaBank b).state = 1 ∧ ∀ i, i < 8192 → (s.csaClearGo b x).csaEntry b i = {} := by
  have cleared := startClearing_cleared hpause hstate
  unfold csaClearGo
  extract_lets s1
  refine ⟨⟨cleared.queue, ?_, ?_, ?_⟩, ?_, fun i hi => ?_⟩
  · rw [setCsaBank_mortar, cleared.mortar]; simp
  · rw [csaBank_setCsaBank_self]
  · rw [csaBank_setCsaBank_self]; exact cleared.gen
  · rw [csaBank_setCsaBank_self]; exact cleared.state
  · exact (congrArg (Store.get _ · _) cleared.entries).trans (Store.get_clear (by omega) (by omega))

end State

/-- Settles O33: the command comes to its bank unhurt and leaves the queue; the row of its OP answers it with the code of its
checks, or begins it, and each way of beginning gives the brick its messages and leaves the bank and its entries as stated. -/
theorem bankTakesItsHead : Obligations.BankTakesItsHead := by
  intro s b x hb hheld hopen hhead hidle hclearing hreloading hpause hlegal q c code sent gen good
  have head : s.TakesHead b x :=
    ⟨decide_eq_true hb, hheld, hopen, hhead, hidle, hclearing, hreloading, hpause, hlegal⟩
  refine ⟨fun hcode => ?refused, fun hcode hop h4 => ?granted, fun hcode hop ⟨hce, hue⟩ => ?read,
    fun hcode hop ⟨hce, hue⟩ => ?respace, fun hcode hop => ?clear⟩
  case refused =>
    have given := (s.headTaken b x).csaEnd_gives b x code 0 0
    exact ⟨_, head.exec_refused hcode, ⟨given.queue, given.flight⟩, given.run, State.csaEnd_entries ..,
      (State.csaEnd_refused hcode ..).trans (State.num_inc32_congr rfl rfl)⟩
  case granted =>
    have given := (s.headTaken b x).csaGranted_gives b x
    exact ⟨_, head.exec_begun hcode (State.headGo_of_elements hop h4), ⟨given.queue, given.flight⟩, given.run,
      State.csaGranted_entries .., given.gen⟩
  case read =>
    obtain ⟨given, entries⟩ := State.csaReadGo_gives (s := s.headTaken b x) (x := x) hce hue
    exact ⟨_, head.exec_begun hcode (congrArg State.headGo hop), entries, given.run, given.queue, given.flight⟩
  case respace =>
    obtain ⟨given, entries⟩ := State.csaRespaceGo_gives (s := s.headTaken b x) (x := x) hce hue
    exact ⟨_, head.exec_begun hcode (congrArg State.headGo hop), given.run, given.gen, entries, given.queue, given.flight⟩
  case clear =>
    obtain ⟨given, state, holes⟩ := State.csaClearGo_gives (s := s.headTaken b x) (x := x) hpause
      (State.state_ne_four_of_csaCode hcode)
    exact ⟨_, head.exec_begun hcode (congrArg State.headGo hop), ⟨given.queue, given.flight⟩, state, given.run, given.gen,
      holes⟩

end Sys2Proof.Machine
end

section
/-!
SUPPORT. What a cold reset leaves: the values that a device in reset has, and that every step of the start-up of Table 19-6 keeps
(spec/13: R597; spec/02: R86; spec/15: R697; spec/18: R802, R864; spec/20: R955).
-/

namespace Sys2Proof.Machine

/-- The objects that stand at 0 after a cold reset. No image holds one of them, and no step of the start-up writes one. -/
def coldZeros : List Nat := [Obj.TIDE_STATE, Obj.LOG_WRITTEN, Obj.LOG_READ, Obj.POWER_STATE, Obj.LULL_HELD]

/-- Every part of the state but those that a cold reset leaves at stated values. -/
def offCold (p : Part) : Bool := p ∉ [Part.num 2, .num 10, .num 11, .faults, .egs, .sched, .shore, .power]

namespace State

/-- The state holds what a cold reset leaves; of the management port the start-up may set the held notifications and the PLCA
settings alone. -/
structure ColdValues (s : State) : Prop where
  zeros : ∀ k ∈ coldZeros, s.num k = 0
  egs : s.egs = {}
  slots : s.sched.slots = []
  entries : s.sched.entries = []
  ring : s.faults.ring = []
  shore : s.shore = { notes := s.shore.notes, plca := s.shore.plca }
  tests : s.power.tests = []

variable {s t : State}

namespace ColdValues

/-! ### The updates of the state -/

theorem of_only (h : s.ColdValues) (only : s.Only offCold t) : t.ColdValues where
  zeros k hk := by
    have stands : offCold (.num (k / 0x100000)) = false :=
      (by decide : ∀ k ∈ coldZeros, offCold (.num (k / 0x100000)) = false) k hk
    exact (only.same _ stands k rfl).trans (h.zeros k hk)
  egs := (only.same .egs rfl).trans h.egs
  slots := (congrArg Sched.slots (only.same .sched rfl)).trans h.slots
  entries := (congrArg Sched.entries (only.same .sched rfl)).trans h.entries
  ring := (congrArg Faults.ring (only.same .faults rfl)).trans h.ring
  shore := by rw [show t.shore = s.shore from only.same .shore rfl]; exact h.shore
  tests := (congrArg Power.tests (only.same .power rfl)).trans h.tests

theorem ite {c : Prop} [Decidable c] (hs : s.ColdValues) (ht : t.ColdValues) : (if c then s else t).ColdValues := by
  split
  · exact hs
  · exact ht

theorem setNum (h : s.ColdValues) {k v : Nat} (hk : k ∉ coldZeros) : (s.setNum k v).ColdValues :=
  { h with zeros := fun j hj => (num_setNum_ne fun e : k = j => hk (e ▸ hj)).trans (h.zeros j hj) }

theorem inc32 (h : s.ColdValues) {k n : Nat} (hk : k ∉ coldZeros) : (s.inc32 k n).ColdValues := by
  unfold State.inc32
  exact h.ite (h.setNum hk)

theorem inc64 (h : s.ColdValues) {k n : Nat} (hk : k ∉ coldZeros) : (s.inc64 k n).ColdValues := by
  unfold State.inc64
  exact h.ite (h.setNum hk)

theorem setSticky (h : s.ColdValues) {k i : Nat} (hk : k ∉ coldZeros) : (s.setSticky k i).ColdValues := h.setNum hk

theorem withFaults (h : s.ColdValues) {f : Faults} (hf : f.ring = []) : { s with faults := f }.ColdValues :=
  { h with ring := hf }

theorem withSched (h : s.ColdValues) {x : Sched} (hslots : x.slots = []) (hentries : x.entries = []) :
    { s with sched := x }.ColdValues :=
  { h with slots := hslots, entries := hentries }

theorem withShore (h : s.ColdValues) {x : Shore} (hx : x = { notes := x.notes, plca := x.plca }) :
    { s with shore := x }.ColdValues :=
  { h with shore := hx }

theorem withPower (h : s.ColdValues) {p : Power} (hp : p.tests = []) : { s with power := p }.ColdValues :=
  { h with tests := hp }

theorem withCsa (h : s.ColdValues) (x : Csa) : { s with csa := x }.ColdValues := { h with }

/-! ### Records and notifications (R788, R846) -/

theorem log (h : s.ColdValues) (r : LogRec) : (s.log r).ColdValues := by
  unfold State.log
  split
  · exact h.withFaults h.ring
  · exact (h.inc64 (by decide)).setSticky (by decide)

theorem notify (h : s.ColdValues) (event logSeq detail : Nat) : (s.notify event logSeq detail).ColdValues := by
  unfold State.notify
  split
  · exact h
  split
  · exact h.withShore (by rw [h.shore])
  · exact h.inc32 (by decide)

theorem logNote (h : s.ColdValues) (r : LogRec) : (s.logNote r).ColdValues := (h.log r).notify ..

theorem eventNote (h : s.ColdValues) (code source d0 d1 : Nat) : (s.eventNote code source d0 d1).ColdValues := h.logNote _

theorem deviceFault (h : s.ColdValues) (code source d0 d1 : Nat) : (s.deviceFault code source d0 d1).ColdValues := by
  unfold State.deviceFault
  extract_lets faults s1 s2
  have marked : s1.ColdValues := h.withFaults h.ring
  have written : ((s1.regSet 0x0C code).regSet 0x08 (setBit (s1.regGet 0x08) 3 true)).ColdValues :=
    marked.of_only (regSet_only (regSet_only (.refl _) (.of_all (by decide))) (.of_all (by decide)))
  have raised : (s2.raiseGlobal 0).ColdValues :=
    (written.setSticky (by decide)).of_only (raiseGlobal_only (.refl _) (.of_all (by decide)))
  exact raised.logNote _

/-! ### Channels, courses, banks and ports that fail or are retired -/

theorem failChannel (h : s.ColdValues) (n : Nat) : (s.failChannel n).ColdValues := by
  unfold State.failChannel
  split
  · exact h
  · extract_lets hbm s1
    have marked : s1.ColdValues := { h with }
    exact (marked.setSticky (by decide)).eventNote ..

theorem setCourse (h : s.ColdValues) (c v : Nat) : (s.setCourse c v).ColdValues := by
  unfold State.setCourse
  extract_lets old wall s1
  split
  · exact h
  · have marked : s1.ColdValues := { h with }
    exact marked.eventNote ..

theorem retirePending (h : s.ColdValues) (c : Nat) : (s.retirePending c).ColdValues := by
  unfold State.retirePending
  split
  · exact h.setCourse ..
  · exact { h.setCourse c 3 with }
  · exact h

theorem replaceCourse (h : s.ColdValues) (c : Nat) : (s.replaceCourse c).ColdValues := by
  have failed : (s.setCourse c 2).ColdValues := h.setCourse ..
  unfold State.replaceCourse
  extract_lets s1 wall
  split
  · exact { failed with }
  split
  · exact failed.setCourse ..
  · exact failed

theorem coursesApplied (h : s.ColdValues) : s.coursesApplied.ColdValues :=
  List.foldlRecOn _ _ h fun _ ht c _ => ht.replaceCourse c

theorem unitFailed (h : s.ColdValues) (u : Nat) : (s.unitFailed 4 0 u).ColdValues := by
  unfold State.unitFailed
  rw [if_neg (by decide), if_pos rfl]
  split
  · exact h
  · extract_lets sel s1
    have marked : s1.ColdValues := { h with }
    exact marked.retirePending u

theorem csaFail (h : s.ColdValues) (b : Nat) : (s.csaFail b).ColdValues := by
  unfold State.csaFail
  extract_lets s0 k s1
  have failed : s1.ColdValues :=
    h.of_only (setCsaBank_only (scrubAccount_only (.refl s) (.of_all (by decide))) (.of_all (by decide)))
  exact (failed.setSticky (by decide)).eventNote ..

theorem setPortNum (h : s.ColdValues) {p i v : Nat} (hi : i < 256) :
    (s.setNum ((0x9010 + p % 256) * 256 + i) v).ColdValues := by
  refine h.setNum fun hz => ?_
  have below : (0x9010 + p % 256) * 256 + i ≤ 0x203001 ∨ 0xA00001 ≤ (0x9010 + p % 256) * 256 + i :=
    (by decide : ∀ k ∈ coldZeros, k ≤ 0x203001 ∨ 0xA00001 ≤ k) _ hz
  omega

theorem miswire (h : s.ColdValues) (p : Nat) : (s.miswire p).ColdValues := by
  have marked : ((((s.setNum (Obj.PORT_STATE p) 5).setNum (Obj.WIDTH p) 0).setNum (Obj.LANE_MASK p) 0).setSticky
      (Obj.PORT_STICKY p) 3).ColdValues :=
    (((h.setPortNum (by decide)).setPortNum (by decide)).setPortNum (by decide)).setPortNum (by decide)
  exact marked.eventNote ..

theorem trainPorts (h : s.ColdValues) (ps : List Nat) : (s.trainPorts ps).ColdValues := by
  refine List.foldlRecOn _ _ h fun t ht p _ => ?_
  have trains : (t.trainPort p).ColdValues := ht.of_only (trainPort_only (.refl t) (.of_all (by decide)))
  exact (ht.setPortNum (by decide)).ite (trains.ite (ht.miswire p))

/-! ### Sensors and levels (R410, R922, R929, R931) -/

theorem sensorFails (h : s.ColdValues) (k : Nat) : (s.sensorFails k).ColdValues := by
  have marked : ((s.setNum Obj.SENSOR_FAULTY (setBit (s.num Obj.SENSOR_FAULTY) k true)).setSticky
      Obj.SENSOR_STICKY 0).ColdValues := (h.setNum (by decide)).setSticky (by decide)
  unfold State.sensorFails
  exact h.ite ((marked.eventNote ..).ite marked)

theorem disableHolds (h : s.ColdValues) (csa : Bool) : (s.disableHolds csa).ColdValues := by
  unfold State.disableHolds
  have rate : (s.setNum Obj.RATE_NOW 64).ColdValues := h.setNum (by decide)
  have level : (s.setNum Obj.DISPATCH_LEVEL 64).ColdValues := h.setNum (by decide)
  split
  · exact (rate.withCsa _).ite h
  · split
    · exact level.withPower h.tests
    · exact h

theorem csaForcing (h : s.ColdValues) (on : Bool) : (s.csaForcing on).ColdValues := by
  unfold State.csaForcing
  split
  · exact h
  extract_lets csa s1
  have forced : s1.ColdValues := (h.withCsa { csa with forced := on }).setNum (by decide)
  exact ((forced.inc32 (by decide)).setSticky (by decide)).ite (forced.disableHolds _)

theorem dispatchForcing (h : s.ColdValues) (on : Bool) : (s.dispatchForcing on).ColdValues := by
  unfold State.dispatchForcing
  split
  · exact h
  extract_lets power s1
  have changed : { s with power := { power with forced := on } }.ColdValues := h.withPower h.tests
  have forced : s1.ColdValues := changed.setNum (by decide)
  exact ((forced.inc32 (by decide)).setSticky (by decide)).ite (forced.disableHolds _)

theorem alertTemp (h : s.ColdValues) (j : Option Int) : (s.alertTemp j).ColdValues := by
  unfold State.alertTemp
  extract_lets a hot power s1
  have judged : s1.ColdValues := h.withPower h.tests
  exact (judged.setSticky (by decide)).ite judged

theorem resetLevels (h : s.ColdValues) : s.resetLevels.ColdValues := by
  unfold State.resetLevels
  extract_lets s1 csa power
  have levels : s1.ColdValues := (h.setNum (by decide)).setNum (by decide)
  clear_value s1
  exact (levels.withCsa { csa with candidates := [] }).withPower levels.tests

end ColdValues

end State

end Sys2Proof.Machine
end

section
/-!
SUPPORT. The start-up of Table 19-6 step by step, each of which keeps the values of a cold reset (spec/19: R869, R881, R883, R884;
spec/03: R141; spec/08: R388; spec/11: R481; spec/14: R651).
-/

namespace Sys2Proof.Machine

theorem Store.getMany_length {α : Type} (d : Nat → α) (m : Store α) (a n : Nat) : (Store.getMany d m a n).length = n := by
  induction n generalizing a with
  | zero => rfl
  | succ n ih => simp [Store.getMany, ih]

namespace State

variable {s : State}

/-! ### Steps 1 to 3: straps and factory defaults (R86, R869) -/

/-- The blocks that a cold reset empties hold nothing, as while every block is held in reset. -/
structure Bare (s : State) : Prop where
  egs : s.egs = {}
  sched : s.sched = {}
  faults : s.faults = {}
  shore : s.shore = {}
  power : s.power = {}

theorem atFactory_num {k : Nat} (hk : Obj.PLCA_NODE_ID ≠ k) : s.atFactory.num k = Obj.default k := num_setNum_ne hk

theorem Bare.atFactory (h : s.Bare) : s.atFactory.ColdValues where
  zeros k hk := by
    rw [atFactory_num fun e => (by decide : Obj.PLCA_NODE_ID ∉ coldZeros) (e ▸ hk)]
    exact (by decide +kernel : ∀ k ∈ coldZeros, Obj.default k = 0) k hk
  egs := h.egs
  slots := congrArg Sched.slots h.sched
  entries := congrArg Sched.entries h.sched
  ring := congrArg Faults.ring h.faults
  shore := h.shore.trans (by rw [show s.atFactory.shore = {} from h.shore])
  tests := congrArg Power.tests h.power

theorem Bare.coldDefaults (h : s.Bare) (c : ColdStart) : (s.coldDefaults c).ColdValues := by
  unfold State.coldDefaults
  extract_lets nv otp s1 s2 s3 s4
  have bare : s1.Bare := ⟨h.egs, h.sched, h.faults, h.shore, h.power⟩
  have straps : s2.ColdValues :=
    ((bare.atFactory.setNum (by decide)).setNum (by decide)).setNum (by decide)
  have identity : s3.ColdValues :=
    (straps.setNum (by decide)).of_only (setOcts_only (.refl _) (.of_all (by decide)))
  have flash : s4.ColdValues := (identity.setNum (by decide)).setNum (by decide)
  exact (flash.setSticky (by decide)).ite flash

/-! ### Step 4: the image (R881) -/

/-- No object that persists is one that a cold reset leaves at 0. -/
theorem not_mem_coldZeros_of_persist {k : Nat} {r : ObjRow} (hrow : rowOf k = some r) (hpersist : r.persist = true) :
    k ∉ coldZeros := by
  intro hk
  have fixed : ((rowOf k).all fun r => !r.persist) = true :=
    (by decide +kernel : ∀ k ∈ coldZeros, ((rowOf k).all fun r => !r.persist) = true) k hk
  simp [hrow, hpersist] at fixed

theorem ColdValues.recordApplied (h : s.ColdValues) {x : Nat × Nat × List Byte} (hx : recordNames x = true) :
    (s.recordApplied x).ColdValues := by
  unfold recordNames at hx
  unfold State.recordApplied
  cases hrow : rowOf x.1 with
  | none => exact h
  | some r =>
    simp only [hrow, Bool.and_eq_true] at hx
    have off : x.1 ∉ coldZeros := not_mem_coldZeros_of_persist hrow hx.1
    have octets : (s.setOcts x.1 0 (s.normIn x.1 x.2.2)).ColdValues :=
      h.of_only (setOcts_only (.refl s) (.of_all (by decide)))
    dsimp only
    exact ite ((octets.setNum off).ite octets) ((h.setNum off).ite (h.setNum off))

/-- The records that a slot holds. -/
def slotRecords (s : State) (slot : Nat) : List (Nat × Nat × List Byte) :=
  (parseRecords (le (s.slotBytes slot 0 64) 12 4) (s.slotBytes slot 64 (le (s.slotBytes slot 0 64) 12 4))).getD []

/-- Each record of a body that passes check 4 of Table 19-5 names a persistent object. -/
theorem recordNames_of_bodyOk {body : List Byte} (h : s.bodyOk body = true) :
    ∀ x ∈ (parseRecords body.length body).getD [], recordNames x = true := by
  unfold bodyOk at h
  cases hparse : parseRecords body.length body with
  | none => simp
  | some l =>
    simp only [hparse, Bool.and_eq_true, List.all_eq_true] at h
    exact h.1.2

theorem bodyOk_of_imageCode {rd : Nat → Nat → List Byte} {marker : Option (List Byte)} (h : s.imageCode rd marker = 0) :
    s.bodyOk (rd 64 (le (rd 0 64) 12 4)) = true := by
  unfold imageCode at h
  by_contra hbody
  rw [Bool.not_eq_true] at hbody
  dsimp only at h
  rw [hbody, Bool.not_false, if_pos rfl] at h
  split_ifs at h

theorem recordNames_of_slotCode {slot : Nat} (h : s.slotCode slot = 0) : ∀ x ∈ s.slotRecords slot, recordNames x = true := by
  unfold slotCode at h
  dsimp only at h
  split at h
  · have named := recordNames_of_bodyOk (bodyOk_of_imageCode h)
    rwa [slotBytes, flashBytes, Store.getMany_length] at named
  · cases h

theorem ColdValues.copyChosen (h : s.ColdValues) {slot : Nat} (hnames : ∀ x ∈ s.slotRecords slot, recordNames x = true) :
    (s.copyChosen slot).ColdValues := by
  have applied : ((s.slotRecords slot).foldl State.recordApplied s).ColdValues :=
    List.foldlRecOn _ _ h fun _ ht x hx => ht.recordApplied (hnames x hx)
  exact (((applied.setNum (by decide)).setNum (by decide)).setNum (by decide)).setNum (by decide)

theorem ColdValues.setReject (h : s.ColdValues) (slot code : Nat) : (s.setReject slot code).ColdValues := by
  unfold State.setReject
  split
  · exact h.setNum (by decide)
  · exact h.setNum (by decide)

theorem ColdValues.chooseCopy (h : s.ColdValues) : s.chooseCopy.ColdValues := by
  unfold State.chooseCopy
  split
  · exact h.setSticky (by decide)
  extract_lets a x y s1
  have rejected : s1.ColdValues := h.setReject ..
  split
  · rename_i hx
    exact h.copyChosen (recordNames_of_slotCode hx)
  split
  · rename_i hy
    have names := recordNames_of_slotCode hy
    split
    · exact (rejected.setSticky (by decide)).copyChosen names
    · exact rejected.copyChosen names
  · exact (rejected.setReject ..).setSticky (by decide)

theorem ColdValues.coldImage (h : s.ColdValues) : s.coldImage.ColdValues := by
  unfold State.coldImage
  exact h.ite h.chooseCopy

namespace ColdValues

/-! ### Steps 5 to 7: external memory, tables, courses, self-tests and pins -/

theorem coldHbm (h : s.ColdValues) (channels : List Nat) : (s.coldHbm channels).ColdValues := by
  unfold State.coldHbm
  extract_lets off hbm s1
  have mapped : (s1.regionsFrom s1).ColdValues := { h with }
  exact List.foldlRecOn _ _ mapped fun _ ht n _ => ht.failChannel n

theorem coldTables (h : s.ColdValues) : s.coldTables.ColdValues :=
  h.of_only (coldTables_only (.refl s) (.of_all (by decide)))

theorem putCourse (h : s.ColdValues) (c v : Nat) : (s.putCourse c v).ColdValues := { h with }

theorem coldCourses (h : s.ColdValues) : s.coldCourses.ColdValues := by
  unfold State.coldCourses
  extract_lets named s1 s2
  have failed : s1.ColdValues := List.foldlRecOn _ _ h fun _ ht c _ => ht.putCourse c 2
  have replaced : s2.ColdValues := List.foldlRecOn _ _ failed fun t ht c _ => by
    split
    · exact ht.putCourse ..
    · exact ht
  exact List.foldlRecOn _ _ replaced fun t ht c _ => ht.ite (ht.eventNote ..)

theorem coldBank (h : s.ColdValues) (b : Nat) : (s.coldBank b).ColdValues :=
  h.of_only (coldBank_only (.refl s) (.of_all (by decide)))

theorem coldBankFails (h : s.ColdValues) (b : Nat) : (s.coldBankFails b).ColdValues :=
  (h.csaFail b).of_only (putHeader_only (.refl _) (.of_all (by decide)))

theorem routersFail (h : s.ColdValues) : s.routersFail.ColdValues := by
  unfold State.routersFail
  have fault := h.deviceFault 0x0A42 1 0 0
  generalize s.deviceFault 0x0A42 1 0 0 = t at fault ⊢
  exact { fault with }

theorem coldTests (h : s.ColdValues) (c : ColdStart) : (s.coldTests c).ColdValues := by
  unfold State.coldTests
  extract_lets under s1 s2 s3 s4 s5 s6
  have courses : s1.ColdValues := List.foldlRecOn _ _ h fun _ ht x _ => ht.retirePending x
  have units : s2.ColdValues := List.foldlRecOn _ _ courses fun _ ht u _ => ht.unitFailed u
  have banks : s3.ColdValues := (List.foldlRecOn _ _ units fun _ ht b _ => ht.coldBankFails b).coursesApplied
  have sensors : s4.ColdValues := List.foldlRecOn _ _ banks fun _ ht k _ => ht.sensorFails k
  have forced : s5.ColdValues := sensors.ite (((sensors.csaForcing _).dispatchForcing _).alertTemp _)
  have routers : s6.ColdValues := forced.ite forced.routersFail
  exact routers.setNum (by decide)

theorem coldPin (h : s.ColdValues) (n : Nat) : (s.coldPin n).ColdValues :=
  h.of_only (coldPin_only (.refl s) (.of_all (by decide)))

theorem coldApply (h : s.ColdValues) (c : ColdStart) : (s.coldApply c).ColdValues := by
  unfold State.coldApply
  extract_lets s1 s2 s3 s4 shore
  have courses : s1.ColdValues := (h.coldHbm _).coldTables.coldCourses
  have levels : s2.ColdValues := (List.foldlRecOn _ _ courses fun _ ht b _ => ht.coldBank b).resetLevels
  have tested : s3.ColdValues :=
    (levels.coldTests c).of_only
      (windowsFrom_only (coldGenerators_only (.refl _) (.of_all (by decide))) (.of_all (by decide)))
  have pins : s4.ColdValues := List.foldlRecOn _ _ tested fun _ ht n _ => ht.coldPin n
  clear_value s4
  exact pins.withShore (by rw [show shore = _ from pins.shore])

end ColdValues

theorem predictAt_nil (s : State) (n p : Nat) : s.predictAt n [] p = none := by
  cases n with
  | zero => rfl
  | succ n => rfl

namespace ColdValues

/-! ### Steps 8 and 9, and what follows -/

theorem coldReady (h : s.ColdValues) (c : ColdStart) : (s.coldReady c).ColdValues := by
  unfold State.coldReady
  split
  · exact { h with }
  extract_lets s1 nv s2 nv2
  have trained : s1.ColdValues := h.trainPorts _
  clear_value s1
  split
  · exact { trained with }
  · exact { trained.setNum (k := Obj.START_US) (v := sat32 c.micros) (by decide) with }

theorem shadowEmpty (h : s.ColdValues) : s.shadowEmpty.ColdValues := by
  unfold State.shadowEmpty
  refine setNum (setNum ?_ (by decide)) (by decide)
  exact { h with }

theorem candidates_eq_nil (h : s.ColdValues) : s.candidates = [] := by rw [candidates, h.slots, List.filter_nil]

/-- With no job nothing is predicted, and a load left over is dropped. -/
theorem predict (h : s.ColdValues) (n : Nat) : (State.predict n s).ColdValues := by
  cases n with
  | zero => exact h
  | succ n =>
    unfold State.predict
    split
    · exact h
    extract_lets s0
    have unloaded : s0.ColdValues := by
      unfold s0
      split
      · split
        · exact h.shadowEmpty
        · exact h
      · exact h
    rw [unloaded.candidates_eq_nil, predictAt_nil]
    exact unloaded

theorem badSlots_eq (h : s.ColdValues) : s.badSlots = s := by
  rw [badSlots, h.slots, List.filter_nil, List.foldl_nil]

theorem tryFetch (h : s.ColdValues) (c : Nat) : (s.tryFetch c).ColdValues := by
  unfold State.tryFetch
  split
  · exact withSched (s := s.emit _) { h with } h.slots h.entries
  · exact h

theorem ringsFollow (h : s.ColdValues) : s.ringsFollow.ColdValues := by
  unfold State.ringsFollow
  rw [h.entries]
  have flushed : (flushEntries s [] []).ColdValues := h.withSched h.slots rfl
  refine List.foldlRecOn _ _ flushed fun t ht c _ => tryFetch ?_ c
  exact ht.of_only (tryStopped_only (.refl t) (.of_all (by decide)))

theorem settle (h : s.ColdValues) : s.settle.ColdValues := by
  unfold State.settle
  rw [h.badSlots_eq]
  exact (h.predict 64).ringsFollow

end ColdValues

/-- The power-on sequence leaves a device in reset with the values of a cold reset. -/
theorem Bare.coldStart (h : s.Bare) (c : ColdStart) : (s.coldStart c).ColdValues := by
  unfold State.coldStart
  extract_lets trip s1 s2
  have image : ((s.coldDefaults c).withTrip trip).coldImage.ColdValues := ((h.coldDefaults c).setNum (by decide)).coldImage
  have applied : s1.ColdValues := image.coldApply c
  have tripped : s2.ColdValues := (applied.deviceFault ..).ite applied
  exact (tripped.coldReady c).settle

end State

end Sys2Proof.Machine
end

section
/-!
SUPPORT. The cold reset as a whole: POR_N rises with the rails up (spec/19: R870, R883; spec/22: R1002; spec/13: R597).
-/

namespace Sys2Proof.Machine

namespace State

/-- The device as the power-on sequence finds it: every block in reset, and the thermal latch as it stood. -/
def released (s : State) : State :=
  (s.bare.setPins { s.bare.pins with off := false, por := false, pllLost := false, jtagHeld := jtagHolds s.pins.jtag }).withTrip
    (s.num Obj.TRIP_LATCHED)

theorem released_bare (s : State) : s.released.Bare := ⟨rfl, rfl, rfl, rfl, rfl⟩

end State

/-- A device in reset that no JTAG instruction holds runs the power-on sequence (R1002). -/
theorem exec_coldReset {s : State} {c : ColdStart} (haddr : c.addr < 64) (hboot : c.boot < 4)
    (hreset : s.pins.off = true ∨ s.pins.por = true) (hjtag : jtagHolds s.pins.jtag = false) :
    exec (.coldReset c) s = .next (s.released.coldStart c) := by
  have hok : (decide (c.addr < 64) && decide (c.boot < 4)) = true := by simp [haddr, hboot]
  have hwhen : (s.pins.off || s.pins.por) = true := by simpa using hreset
  show execColdReset c s = _
  unfold execColdReset
  extract_lets trip pins s0 t
  have free : ¬ s0.pins.jtagHeld = true := by
    rw [show s0.pins.jtagHeld = false from hjtag]
    decide
  have started : t = s.released.coldStart c := if_neg free
  rw [act_true hok, State.when, if_pos hwhen, started]

/-- Settles O10: the blocks in reset hold the stated values, and each step of the start-up keeps them. -/
theorem coldResetLeavesTheStatedState : Obligations.ColdResetLeavesTheStatedState := by
  intro s c haddr hboot hreset hjtag
  have values : (s.released.coldStart c).ColdValues := s.released_bare.coldStart c
  refine ⟨s.released.coldStart c, exec_coldReset haddr hboot hreset hjtag, ?_⟩
  generalize s.released.coldStart c = t at values
  have zero : ∀ k ∈ coldZeros, t.num k = 0 := values.zeros
  refine ⟨by rw [values.egs], fun e => ?_, by rw [values.egs], by rw [values.egs], by rw [values.egs],
    zero _ (by decide), values.slots, values.entries, zero _ (by decide), zero _ (by decide), values.ring,
    by rw [values.shore], by rw [values.shore], by rw [values.shore], by rw [values.shore], by rw [values.shore],
    by rw [values.shore], zero _ (by decide), zero _ (by decide), values.tests⟩
  rw [State.retireHead, State.retireTail, values.egs]
  exact ⟨rfl, rfl⟩

end Sys2Proof.Machine
end

section
/-!
SUPPORT. The operations of the Coastline links: what a message that leaves its input buffer, a message posted and a flit sent
leave of the ports, of the members and of the input buffers (spec/14: R603 to R606, R610, R621, R625, R643).
-/

namespace Sys2Proof.Machine

theorem le_one_lt (l : List Byte) (o : Nat) : le l o 1 < 256 := by
  unfold le
  cases l.drop o with
  | nil => decide
  | cons b r => simpa [ofLe] using b.isLt

theorem le_leBytes_one_append {x : Nat} (h : x < 256) (l : List Byte) : le (leBytes 1 x ++ l) 0 1 = x := by
  simp [le, leBytes, ofLe, Nat.mod_eq_of_lt h]

/-- A message of at most 56 octets is one payload (R621). -/
theorem payloadsOf_of_length_le {l : List Byte} (hne : l ≠ []) (hlen : l.length ≤ 56) :
    payloadsOf l = [l ++ List.replicate (56 - l.length) 0] := by
  obtain ⟨a, r, rfl⟩ := List.exists_cons_of_ne_nil hne
  have whole : (a :: r).take 56 = a :: r := List.take_of_length_le hlen
  have rest : (a :: r).drop 56 = [] := List.drop_of_length_le hlen
  have nothing : chunked r.length 56 ([] : List Byte) = [] := by cases r.length <;> rfl
  have cut : chunked (a :: r).length 56 (a :: r) = [a :: r] := by
    rw [List.length_cons, chunked, whole, rest, nothing]
    exact List.cons_ne_nil a r
  rw [payloadsOf, cut, List.map_singleton]

/-- The numbers of a port stand in section 9. -/
theorem portKey_div (p : Nat) {i : Nat} (hi : i < 256) : ((0x9010 + p % 256) * 256 + i) / 0x100000 = 9 := by omega

/-- Every part but the numbers of section 9 and the reach address: routes stand where no other part changes. -/
def offRoutes (p : Part) : Bool := p ∉ [Part.num 9, .nv]

namespace State

variable {s t : State} {p : Nat} {m : CoastMsg}

/-! ### Routes and ports -/

theorem Only.num_nine (h : s.Only offRoutes t) {k : Nat} (hk : k / 0x100000 = 9) : t.num k = s.num k := h.same (.num 9) rfl k hk

theorem Only.addr_eq (h : s.Only offRoutes t) : t.addr = s.addr := congrArg Nv.addr (h.same .nv rfl)

theorem Only.routePort_eq (h : s.Only offRoutes t) (src dest : Nat) : t.routePort src dest = s.routePort src dest := by
  simp only [routePort, h.addr_eq, h.num_nine (k := Obj.DIM_X) (by decide), h.num_nine (k := Obj.DIM_Y) (by decide),
    h.num_nine (k := Obj.TOPOLOGY) (by decide)]

theorem Only.portUp_eq (h : s.Only offRoutes t) (p : Nat) : t.portUp p = s.portUp p := by
  simp only [portUp, h.num_nine (k := Obj.PORT_STATE p) (portKey_div p (by decide))]

theorem Only.outSet_eq (h : s.Only offRoutes t) (a b p : Nat) : t.outSet a b p = s.outSet a b p := by
  have wrap : t.wrapLink p = s.wrapLink p := by
    simp only [wrapLink, h.addr_eq, h.num_nine (k := Obj.DIM_X) (by decide), h.num_nine (k := Obj.DIM_Y) (by decide)]
  rw [outSet, outSet, wrap]

theorem Only.coastMsg_eq (h : s.Only offRoutes t) (dest typ status tag : Nat) (body : List Byte) :
    t.coastMsg dest typ status tag body = s.coastMsg dest typ status tag body := by
  simp only [coastMsg, h.addr_eq]

@[simp] theorem port_setPort_self (s : State) (p : Nat) (c : Port) : (s.setPort p c).port p = c := Store.get_set_eq

theorem port_congr (h : t.coast = s.coast) (p : Nat) : t.port p = s.port p := by rw [port, port, h]

theorem member_congr (h : t.coast.members = s.coast.members) (d : Nat) : t.member d = s.member d := by rw [member, member, h]

@[simp] theorem member_setMember_self (s : State) (d : Nat) (x : Member) : (s.setMember d x).member d = x := Store.get_set_eq

@[simp] theorem inc64_coast (s : State) (k n : Nat) : (s.inc64 k n).coast = s.coast := by
  unfold inc64; split <;> rfl

@[simp] theorem inc64_out (s : State) (k n : Nat) : (s.inc64 k n).out = s.out := by
  unfold inc64; split <;> rfl

/-! ### Input buffers -/

/-- A flit that leaves a buffer moves FREED of its port alone (R606). -/
theorem freedOne_eq (s : State) (p k n : Nat) : ∃ c, s.freedOne p k n = { s with coast := { s.coast with ports := c } } ∧
    ∀ o, ∃ f, (s.freedOne p k n).port o = { s.port o with freedOut := f } := by
  unfold freedOne
  split
  · exact ⟨_, rfl, fun o => ⟨_, rfl⟩⟩
  · refine ⟨_, rfl, fun o => ?_⟩
    by_cases ho : p = o
    · subst ho
      exact ⟨_, port_setPort_self ..⟩
    · exact ⟨_, Store.get_set_ne ho⟩

/-- A message that leaves its input buffer is gone from it, and FREED of its port moves; nothing else changes. -/
theorem unbuffer_eq (s : State) (m : CoastMsg) :
    ∃ c, s.unbuffer m = { s with coast := { s.coast with inbox := s.coast.inbox.erase m, ports := c } } := by
  obtain ⟨c, h, -⟩ := freedOne_eq { s with coast := { s.coast with inbox := s.coast.inbox.erase m } } m.port m.vcd
    (coastFlits m.bytes)
  exact ⟨c, h⟩

theorem unbuffer_port (s : State) (m : CoastMsg) (o : Nat) : ∃ f, (s.unbuffer m).port o = { s.port o with freedOut := f } := by
  obtain ⟨-, -, h⟩ := freedOne_eq { s with coast := { s.coast with inbox := s.coast.inbox.erase m } } m.port m.vcd
    (coastFlits m.bytes)
  exact h o

@[simp] theorem unbuffer_inbox (s : State) (m : CoastMsg) : (s.unbuffer m).coast.inbox = s.coast.inbox.erase m := by
  obtain ⟨c, h⟩ := s.unbuffer_eq m; rw [h]

@[simp] theorem unbuffer_queue (s : State) (m : CoastMsg) (o : Nat) : ((s.unbuffer m).port o).queue = (s.port o).queue := by
  obtain ⟨f, h⟩ := s.unbuffer_port m o; rw [h]

@[simp] theorem unbuffer_member (s : State) (m : CoastMsg) (d : Nat) : (s.unbuffer m).member d = s.member d := by
  obtain ⟨c, h⟩ := s.unbuffer_eq m; rw [h]; rfl

@[simp] theorem unbuffer_egs (s : State) (m : CoastMsg) : (s.unbuffer m).egs = s.egs := by
  obtain ⟨c, h⟩ := s.unbuffer_eq m; rw [h]

@[simp] theorem unbuffer_hbm (s : State) (m : CoastMsg) : (s.unbuffer m).hbm = s.hbm := by
  obtain ⟨c, h⟩ := s.unbuffer_eq m; rw [h]

@[simp] theorem unbuffer_mortar (s : State) (m : CoastMsg) : (s.unbuffer m).mortar = s.mortar := by
  obtain ⟨c, h⟩ := s.unbuffer_eq m; rw [h]

@[simp] theorem unbuffer_badObj (s : State) (m : CoastMsg) : (s.unbuffer m).badObj = s.badObj := by
  obtain ⟨c, h⟩ := s.unbuffer_eq m; rw [h]

@[simp] theorem unbuffer_addr (s : State) (m : CoastMsg) : (s.unbuffer m).addr = s.addr := by
  obtain ⟨c, h⟩ := s.unbuffer_eq m; rw [h]; rfl

@[simp] theorem unbuffer_num (s : State) (m : CoastMsg) (k : Nat) : (s.unbuffer m).num k = s.num k := by
  obtain ⟨c, h⟩ := s.unbuffer_eq m; rw [h]; rfl

theorem unbuffer_offRoutes (s : State) (m : CoastMsg) : s.Only offRoutes (s.unbuffer m) :=
  unbuffer_only (.refl s) (.of_all (by decide +kernel))

/-! ### The transmitter -/

/-- A flit in transit that has left its buffer counts; no port's SEQ moves and nothing goes out. -/
theorem freedTransit_keeps (s : State) (x : TxMsg) :
    let t := if x.src < 8 then (s.freedOne x.src x.held 1).inc64 Obj.TRANSIT_FLITS 1 else s
    (∃ c, t.coast = { s.coast with ports := c }) ∧ t.out = s.out ∧ ∀ p, (t.port p).txSeq = (s.port p).txSeq := by
  intro t
  unfold t
  split
  · obtain ⟨c, h, ports⟩ := s.freedOne_eq x.src x.held 1
    refine ⟨⟨c, by rw [inc64_coast, h]⟩, by rw [inc64_out, h], fun p => ?_⟩
    obtain ⟨f, hport⟩ := ports p
    rw [port_congr (inc64_coast ..), hport]
  · exact ⟨⟨_, rfl⟩, rfl, fun _ => rfl⟩

/-- A flit sent carries the first payload, and changes of the links the ports alone; SEQ of its port counts it (R603, R617). -/
theorem sendFlit_sends (s : State) (p : Nat) {x : TxMsg} {y : List Byte} {r : List (List Byte)} (hx : x.payloads = y :: r) :
    (∃ c, (s.sendFlit p x).coast = { s.coast with ports := c }) ∧
    (s.sendFlit p x).out = s.out ++ [.flit p (flitOctets {
      crcOk := true, vc := x.vc, dateline := x.dateline, seq := (s.port p).txSeq, last := r.isEmpty, ackSeq := ackSeq (s.port p)
      payload := y })] ∧
    ((s.sendFlit p x).port p).txSeq = ((s.port p).txSeq + 1) % 2048 := by
  unfold sendFlit
  split
  next hnil => rw [hx] at hnil; cases hnil
  next y' r' hcons =>
    obtain ⟨rfl, rfl⟩ := List.cons.inj (hx.symm.trans hcons)
    extract_lets c k f rest q s1 s2
    obtain ⟨⟨d, coast⟩, out, seq⟩ := s1.freedTransit_keeps x
    refine ⟨⟨d, ?_⟩, ?_, ?_⟩
    · rw [emit_coast, inc64_coast]
      exact coast
    · show ((s2.inc64 _ 1).out ++ _) = _
      rw [inc64_out]
      exact congrArg (· ++ _) out
    · rw [port_congr ((emit_coast ..).trans (inc64_coast ..))]
      exact (seq p).trans (congrArg Port.txSeq (port_setPort_self ..))

theorem sendFlit_coast (s : State) (p : Nat) (x : TxMsg) : ∃ c, (s.sendFlit p x).coast = { s.coast with ports := c } := by
  cases hx : x.payloads with
  | nil => exact ⟨_, by rw [sendFlit, hx]⟩
  | cons y r => exact (s.sendFlit_sends p hx).1

theorem transmitGo_coast (n : Nat) (s : State) (p : Nat) : ∃ c, (transmitGo n s p).coast = { s.coast with ports := c } := by
  induction n generalizing s with
  | zero => exact ⟨_, rfl⟩
  | succ n ih =>
    rw [transmitGo]
    split
    · split
      next x _ =>
        obtain ⟨c, sent⟩ := s.sendFlit_coast p x
        obtain ⟨d, rest⟩ := ih (s.sendFlit p x)
        exact ⟨d, by rw [rest, sent]⟩
      next => exact ⟨_, rfl⟩
    · exact ⟨_, rfl⟩

theorem transmit_of_down (h : s.portUp p = false) : s.transmit p = s := by
  unfold transmit
  cases ((s.port p).queue.map (fun t => t.payloads.length)).sum with
  | zero => rfl
  | succ n => rw [transmitGo, h, Bool.false_and, if_neg Bool.false_ne_true]

theorem enqueue_coast (s : State) (p src held vc dateline : Nat) (l : List Byte) :
    ∃ c, (s.enqueue p src held vc dateline l).coast = { s.coast with ports := c } := transmitGo_coast _ _ p

/-- At a port that is not UP a message waits behind those that wait there. -/
theorem enqueue_queue_of_down (h : s.portUp p = false) (src held vc dateline : Nat) (l : List Byte) :
    ((s.enqueue p src held vc dateline l).port p).queue = (s.port p).queue ++ [{
      src := src, held := held, vc := vc, dateline := dateline, payloads := payloadsOf l, begun := false }] := by
  unfold enqueue
  extract_lets c x
  rw [transmit_of_down (show (s.setPort p { c with queue := c.queue ++ [x] }).portUp p = false from h), port_setPort_self]

/-! ### Messages of this chip -/

theorem post_of_here {vc : Nat} {l : List Byte} (h : s.routePort s.addr (le l 0 1) = none) : s.post vc l =
    { s with coast := { s.coast with inbox := s.coast.inbox ++ [{ port := 8, vcd := vc * 2, bytes := l }] } } := by
  simp only [post, h]

theorem post_of_route {vc : Nat} {l : List Byte} (h : s.routePort s.addr (le l 0 1) = some p) :
    s.post vc l = s.enqueue p 8 0 vc (s.outSet 8 0 p) l := by
  simp only [post, h]

@[simp] theorem post_member (s : State) (vc : Nat) (l : List Byte) (d : Nat) : (s.post vc l).member d = s.member d := by
  cases h : s.routePort s.addr (le l 0 1) with
  | none => rw [post_of_here h]; rfl
  | some p =>
    obtain ⟨c, hc⟩ := s.enqueue_coast p 8 0 vc (s.outSet 8 0 p) l
    exact (congrArg (State.member · d) (post_of_route h)).trans (member_congr (by rw [hc]) d)

@[simp] theorem respond_member (s : State) (dest typ status tag : Nat) (body : List Byte) (d : Nat) :
    (s.respond dest typ status tag body).member d = s.member d := post_member ..

/-- The destination of a message stands in its first octet (Table 14-4). -/
theorem coastMsg_dest {dest : Nat} (h : dest < 256) (s : State) (typ status tag : Nat) (body : List Byte) :
    le (s.coastMsg dest typ status tag body) 0 1 = dest := by
  simp only [coastMsg, List.append_assoc, le_leBytes_one_append h]

/-- The answer to a message stands in this chip's own input buffer, or waits at the first port of its route where that is not
UP. -/
structure Answers (s : State) (m : CoastMsg) (typ status : Nat) (body : List Byte) (t : State) : Prop where
  here : s.routePort s.addr m.source = none →
    t.coast.inbox = s.coast.inbox.erase m ++
      [{ port := 8, vcd := 2, bytes := s.coastMsg m.source typ status m.tag body }]
  waits : ∀ o, s.routePort s.addr m.source = some o → s.portUp o = false → (t.port o).queue = (s.port o).queue ++ [{
    src := 8, held := 0, vc := 1, dateline := s.outSet 8 0 o
    payloads := payloadsOf (s.coastMsg m.source typ status m.tag body), begun := false }]

/-- A message is answered from any state that has its buffers and routes. -/
theorem respond_answers (hcoast : t.coast = (s.unbuffer m).coast) (hroutes : s.Only offRoutes t) (typ status : Nat)
    (body : List Byte) : s.Answers m typ status body (t.respond m.source typ status m.tag body) := by
  have dest := s.coastMsg_dest (le_one_lt m.bytes 1) typ status m.tag body
  have first (o : Option Nat) (h : s.routePort s.addr m.source = o) :
      t.routePort t.addr (le (s.coastMsg m.source typ status m.tag body) 0 1) = o := by
    rw [hroutes.addr_eq, hroutes.routePort_eq, ← h]; exact congrArg _ dest
  refine ⟨fun h => ?_, fun o h down => ?_⟩
  · rw [respond, hroutes.coastMsg_eq, post_of_here (first _ h), hcoast, unbuffer_inbox]
  · rw [respond, hroutes.coastMsg_eq, post_of_route (first _ h), enqueue_queue_of_down (by rwa [hroutes.portUp_eq]),
      port_congr hcoast, unbuffer_queue, hroutes.outSet_eq]

/-! ### Messages taken -/

/-- A message of a VC and type that stands unhurt in the buffers of a port is handed on, out of its buffer. -/
theorem act_withMsg {vc typ : Nat} {c : Bool} {k : State → CoastMsg → State} (hp : p ≤ 8) (hheld : s.held = false)
    (hc : c = true) (hm : s.inMessage p vc typ = some m) :
    act (sourceOk p) (s.live c (s.withMsg p vc typ 0 k)) = .next (k (s.unbuffer m) m) := by
  have source : sourceOk p = true := decide_eq_true hp
  rw [act_live source hheld hc, withMsg, hm]
  exact congrArg _ (if_pos (.inr rfl))

end State

end Sys2Proof.Machine
end

section
/-!
SUPPORT. A message that goes on to another chip: the choice of the transmitter where it stands alone, the flit that carries it,
and what becomes of it where no port of its route is UP (spec/14: R603, R605, R610, R617, R621, R627, R636, R643).
-/

namespace Sys2Proof.Machine

namespace State

variable {s : State} {p : Nat} {m : CoastMsg} {x : TxMsg}

/-! ### A message alone at a transmitter -/

/-- The rotation of the sources comes to each of them (R643). -/
theorem exists_rotation {src : Nat} (h : src < 9) (last : Nat) : ∃ i, i < 9 ∧ src = (last + 1 + i) % 9 :=
  ⟨(src + 8 - last % 9) % 9, by omega, by omega⟩

theorem nextOfVc_alone {c : Port} (hqueue : c.queue = [x]) (hsrc : x.src < 9)
    (hcredit : linkCredit c (x.vc * 2 + x.dateline) = true) (vc : Nat) :
    nextOfVc c vc = if x.vc = vc then some x else none := by
  obtain ⟨i, hi, turn⟩ := exists_rotation hsrc (Store.get (fun _ => 8) c.served vc)
  rw [nextOfVc, hqueue]
  split
  next heq =>
    have some_turn : (List.range 9).findSome? (fun i => [x].find? (fun t =>
        t.src == (Store.get (fun _ => 8) c.served vc + 1 + i) % 9 && t.vc == vc && linkCredit c (t.vc * 2 + t.dateline)))
        |>.isSome := List.findSome?_isSome_iff.2 ⟨i, by simpa using hi, by simp [← turn, heq, ← hcredit]⟩
    obtain ⟨y, hy⟩ := Option.isSome_iff_exists.1 some_turn
    obtain ⟨j, -, hj⟩ := List.exists_of_findSome?_eq_some hy
    rw [hy, List.mem_singleton.1 (List.mem_of_find?_eq_some hj)]
  next hne => simp [hne]

theorem txChoice_alone (hqueue : (s.port p).queue = [x]) (hbegun : x.begun = false) (hsrc : x.src < 9) (hvc : x.vc < 3)
    (hcredit : linkCredit (s.port p) (x.vc * 2 + x.dateline) = true) (hstart : s.mayStart p x.vc = true) :
    s.txChoice p = some x := by
  have idle (vc : Nat) : (s.port p).queue.find? (fun t => t.begun && t.vc == vc) = none := by simp [hqueue, hbegun]
  have new := nextOfVc_alone hqueue hsrc hcredit
  obtain h | h | h : x.vc = 0 ∨ x.vc = 1 ∨ x.vc = 2 := by omega
  all_goals
    rw [h] at hstart new
    simp [txChoice, idle, new, hstart]

/-- A message of one payload that finds the transmitter empty, credit and leave to start is sent in one flit. -/
theorem enqueue_alone {src held vc dateline : Nat} {l : List Byte} (hup : s.portUp p = true) (hqueue : (s.port p).queue = [])
    (hreplay : (s.port p).replay.length < 1024) (hne : l ≠ []) (hlen : l.length ≤ 56) (hsrc : src < 9) (hvc : vc < 3)
    (hcredit : linkCredit (s.port p) (vc * 2 + dateline) = true) (hstart : s.mayStart p vc = true) :
    let x : TxMsg := { src := src, held := held, vc := vc, dateline := dateline
                       payloads := [l ++ List.replicate (56 - l.length) 0], begun := false }
    s.enqueue p src held vc dateline l = (s.setPort p { s.port p with queue := [x] }).sendFlit p x := by
  intro x
  have port : (s.setPort p { s.port p with queue := [x] }).port p = { s.port p with queue := [x] } := port_setPort_self ..
  have choice : (s.setPort p { s.port p with queue := [x] }).txChoice p = some x := by
    refine txChoice_alone (by rw [port]) rfl hsrc hvc (by rw [port]; exact hcredit) ?_
    rw [mayStart, port]
    exact hstart
  have joined : s.enqueue p src held vc dateline l = (s.setPort p { s.port p with queue := [x] }).transmit p := by
    simp only [enqueue, hqueue, payloadsOf_of_length_le hne hlen, List.nil_append]
    rfl
  have go : ((s.setPort p { s.port p with queue := [x] }).portUp p &&
      decide (((s.setPort p { s.port p with queue := [x] }).port p).replay.length < 1024)) = true := by
    rw [port, Bool.and_eq_true, decide_eq_true_eq]
    exact ⟨hup, hreplay⟩
  rw [joined, transmit, port]
  show transmitGo 1 _ p = _
  rw [transmitGo, if_pos go, choice]
  rfl

/-! ### Forwarding -/

theorem transitMessage_port (h : s.transitMessage p = some m) : m.port = p := by
  have found := List.find?_some h
  rw [Bool.and_eq_true] at found
  exact eq_of_beq found.1

theorem exec_messageForward (hp : p < 8) (hheld : s.held = false) (hm : s.transitMessage p = some m) :
    exec (.messageForward p 0) s = .next (s.forward m) := by
  have port : portOk p = true := decide_eq_true hp
  show execMessageForward p 0 s = _
  unfold execMessageForward
  rw [hm]
  exact act_live port hheld rfl

theorem forward_of_up {o : Nat} (hroute : s.routePort m.source (le m.bytes 0 1) = some o) (hup : s.portUp o = true) :
    s.forward m = ({ s with coast := { s.coast with inbox := s.coast.inbox.erase m } }).enqueue o m.port m.vcd (m.vcd / 2)
      (s.outSet m.port (m.vcd % 2) o) m.bytes := by
  have next : (s.routePort m.source (le m.bytes 0 1)).filter (fun p => s.portUp p) = some o := by
    rw [hroute, Option.filter_some, if_pos hup]
  unfold forward
  extract_lets src dest
  rw [next]

/-- A request is answered with status 3, a response counted, a posted message told to its source (R627). -/
theorem forward_of_down (h : (s.routePort m.source (le m.bytes 0 1)).all (fun o => !s.portUp o) = true) :
    (m.vcd / 2 = 0 → s.forward m = (s.unbuffer m).respond m.source 2 3 m.tag []) ∧
    (m.vcd / 2 = 1 → s.forward m = (s.unbuffer m).inc32 Obj.RSP_DISCARDED 1) ∧
    (m.vcd / 2 = 2 → s.forward m = (s.unbuffer m).discardUpd m 1) := by
  have next : (s.routePort m.source (le m.bytes 0 1)).filter (fun p => s.portUp p) = none := by
    rw [Option.filter_eq_none_iff]
    intro o ho
    rw [ho] at h
    simpa using h
  refine ⟨fun hvc => ?_, fun hvc => ?_, fun hvc => ?_⟩
  all_goals simp only [forward, next, hvc]

/-- A message of one payload goes on in one flit where the transmitter is empty and may send. -/
theorem forward_alone {o : Nat} (hm : s.transitMessage p = some m) (hp : p < 8)
    (hroute : s.routePort m.source (le m.bytes 0 1) = some o) (hup : s.portUp o = true) (hqueue : (s.port o).queue = [])
    (hreplay : (s.port o).replay.length < 1024) (hne : m.bytes ≠ []) (hlen : m.bytes.length ≤ 56) (hvcd : m.vcd < 6)
    (hcredit : linkCredit (s.port o) (m.vcd / 2 * 2 + s.outSet m.port (m.vcd % 2) o) = true)
    (hstart : s.mayStart o (m.vcd / 2) = true) :
    (s.forward m).coast.inbox = s.coast.inbox.erase m ∧
    (s.forward m).out = s.out ++ [.flit o (flitOctets {
      crcOk := true, vc := m.vcd / 2, dateline := s.outSet m.port (m.vcd % 2) o, seq := (s.port o).txSeq, last := true
      ackSeq := ackSeq (s.port o), payload := m.bytes ++ List.replicate (56 - m.bytes.length) 0 })] ∧
    ((s.forward m).port o).txSeq = ((s.port o).txSeq + 1) % 2048 := by
  have src : m.port < 9 := by rw [transitMessage_port hm]; omega
  rw [forward_of_up hroute hup]
  generalize hu : ({ s with coast := { s.coast with inbox := s.coast.inbox.erase m } } : State) = u
  have port : u.port o = s.port o := by rw [← hu]; rfl
  refine ⟨?_, ?_⟩
  · obtain ⟨c, h⟩ := u.enqueue_coast o m.port m.vcd (m.vcd / 2) (s.outSet m.port (m.vcd % 2) o) m.bytes
    rw [h, ← hu]
  · rw [enqueue_alone (by rw [← hu]; exact hup) (by rwa [port]) (by rwa [port]) hne hlen src (by omega) (by rwa [port])
      (by rw [← hu]; exact hstart)]
    obtain ⟨-, out, seq⟩ := sendFlit_sends (u.setPort o { u.port o with queue := [{
      src := m.port, held := m.vcd, vc := m.vcd / 2, dateline := s.outSet m.port (m.vcd % 2) o
      payloads := [m.bytes ++ List.replicate (56 - m.bytes.length) 0], begun := false }] }) o
      (x := { src := m.port, held := m.vcd, vc := m.vcd / 2, dateline := s.outSet m.port (m.vcd % 2) o
              payloads := [m.bytes ++ List.replicate (56 - m.bytes.length) 0], begun := false }) rfl
    rw [port_setPort_self, port] at out seq
    rw [port]
    exact ⟨out.trans (by rw [← hu]; rfl), seq⟩

end State

end Sys2Proof.Machine
end

section
/-!
SUPPORT. The row service and its answers: what it reads for a peer, and the command that waits for a row (spec/12: R499, R514 to
R517, R523, R529; spec/14: R622, R646).
-/

namespace Sys2Proof.Machine

namespace State

variable {s : State} {m : CoastMsg} {p e n : Nat} {w : EgsCmd} {r : RowWork}

/-! ### Reads of table structures -/

theorem thenRead_of_good {α : Type} {a k : Nat} (h : (s.tableRead a k).1 = 0) (bad : Nat → State → α)
    (good : List Byte → State → α) :
    s.thenRead a k bad good = good (s.tableRead a k).2.1 (s.tableRead a k).2.2 := if_neg (not_not.2 h)

@[simp] theorem tableRead_addr (s : State) (a k : Nat) : (s.tableRead a k).2.2.addr = s.addr :=
  congrArg Nv.addr ((tableRead_only (.refl s) (.among _)).same .nv (by decide))

@[simp] theorem tableRead_egs (s : State) (a k : Nat) : (s.tableRead a k).2.2.egs = s.egs :=
  (tableRead_only (.refl s) (.among _)).same .egs (by decide)

@[simp] theorem tableRead_mem (s : State) (a k : Nat) : (s.tableRead a k).2.2.hbm.mem = s.hbm.mem :=
  (tableRead_only (.refl s) (.among _)).same .mem (by decide)

@[simp] theorem tableRead_heatEnable (s : State) (a k : Nat) :
    (s.tableRead a k).2.2.num Obj.HEAT_ENABLE = s.num Obj.HEAT_ENABLE :=
  (tableRead_only (.refl s) (.among _)).same (.num 6) (by decide) _ (by decide)

theorem heatCount_of_off (h : s.num Obj.HEAT_ENABLE ≠ 1) (table row tier slotAddr : Nat) :
    s.heatCount table row tier slotAddr = s := if_pos h

/-! ### The row service -/

theorem serveRow_of_invalid {desc : Option (List Byte)} {table : Nat}
    (h : (parseTable (desc.getD (s.tableImage table))).valid = false) (row chip : Nat) :
    s.serveRow desc table row chip = (4, [], s) := by
  unfold serveRow
  extract_lets d
  rw [if_pos (by rw [h]; rfl)]

/-- The words that the row service reads for a row of this chip are good and agree with each other: the shard map names this
chip, the directory entry is legal, present and of the row, and so is the slot (R514). -/
structure ServesRow (s : State) (d : TableDesc) (table row : Nat) (shard entry slot : Nat × List Byte × State) : Prop where
  valid : d.valid = true
  within : row ≤ d.rowsM1
  shardRead : shard = s.tableRead (d.shardAt row) 4
  shardGood : shard.1 = 0
  owner : shardOwner (ofLe shard.2.1) = s.addr
  entryRead : entry = shard.2.2.tableRead (d.entryAt (ofLe shard.2.1 % 65536) row) 16
  entryGood : entry.1 = 0
  legal : entLegal (ofLe entry.2.1) = true
  present : entPresent (ofLe entry.2.1) = true
  ofRow : entRow (ofLe entry.2.1) = row
  slotRead : slot = entry.2.2.tableRead (d.slotAt (entTier (ofLe entry.2.1)) (entSlot (ofLe entry.2.1)))
    (d.slotBytes (entTier (ofLe entry.2.1)))
  slotGood : slot.1 = 0
  header : slotHeaderOk table row (ofLe entry.2.1) slot.2.1 = true

/-- With the heat sketch off, a row that can be served is the octets of its slot. -/
theorem ServesRow.serveRow {desc : Option (List Byte)} {table row : Nat} {shard entry slot : Nat × List Byte × State}
    (h : s.ServesRow (parseTable (desc.getD (s.tableImage table))) table row shard entry slot)
    (hheat : s.num Obj.HEAT_ENABLE ≠ 1) (chip : Nat) : s.serveRow desc table row chip = (0, slot.2.1, slot.2.2) := by
  obtain ⟨valid, within, rfl, shardGood, owner, rfl, entryGood, legal, present, ofRow, rfl, slotGood, header⟩ := h
  unfold State.serveRow
  extract_lets d uncorrectable mismatch
  have known : ¬ (!d.valid || decide (d.rowsM1 < row)) = true := by
    rw [show d.valid = true from valid]
    simpa using within
  have off : ((s.tableRead (d.shardAt row) 4).2.2.tableRead
      (d.entryAt (ofLe (s.tableRead (d.shardAt row) 4).2.1 % 65536) row) 16).2.2.num Obj.HEAT_ENABLE ≠ 1 := by simpa using hheat
  rw [if_neg known, thenRead_of_good shardGood, if_neg (not_not.2 owner), thenRead_of_good entryGood]
  extract_lets x t a
  rw [if_neg (by rw [show entLegal x = true from legal]; decide), if_neg (by rw [show entPresent x = true from present]; decide),
    if_neg (not_not.2 ofRow), heatCount_of_off off, thenRead_of_good slotGood, if_neg (by rw [header]; decide)]

theorem ServesRow.mem {d : TableDesc} {table row : Nat} {shard entry slot : Nat × List Byte × State}
    (h : s.ServesRow d table row shard entry slot) : slot.2.2.hbm.mem = s.hbm.mem := by
  rw [h.slotRead, tableRead_mem, h.entryRead, tableRead_mem, h.shardRead, tableRead_mem]

/-- The service of a row leaves the links and the routes as they are. -/
theorem serveRow_coast (s : State) (desc : Option (List Byte)) (table row chip : Nat) :
    (s.serveRow desc table row chip).2.2.coast = s.coast := (serveRow_only (.refl s) (.among _)).same .coast (by decide)

/-- The state in which a row request is answered: out of its buffer, the row read and the service counted. -/
def rowRequested (s : State) (m : CoastMsg) : State :=
  ((s.unbuffer m).serveRow m.desc (le m.body 0 2 % 4096) (le m.body 4 4) m.source).2.2.inc64 Obj.SERVED_FOR_PEERS 1

theorem rowRequested_answers (s : State) (m : CoastMsg) (typ status : Nat) (body : List Byte) :
    s.Answers m typ status body ((s.rowRequested m).respond m.source typ status m.tag body) :=
  respond_answers ((inc64_coast ..).trans (serveRow_coast ..))
    (inc64_only (serveRow_only (s.unbuffer_offRoutes m) (.of_all (by decide +kernel))) (by decide)) ..

theorem exec_rowReq (hp : p ≤ 8) (hheld : s.held = false) (hpause : s.calPause = false) (hm : s.inMessage p 0 1 = some m) :
    let x := (s.unbuffer m).serveRow m.desc (le m.body 0 2 % 4096) (le m.body 4 4) m.source
    exec (.rowReq p 0) s = .next (if x.1 = 0 then (s.rowRequested m).respond m.source 1 0 m.tag x.2.1
      else (s.rowRequested m).respond m.source 2 x.1 m.tag []) :=
  act_withMsg hp hheld (by rw [hpause]; rfl) hm

/-! ### A command that waits for a row -/

theorem requestOf_congr {t : State} (h : t.egs = s.egs) (e n : Nat) : t.requestOf e n = s.requestOf e n := by
  rw [requestOf, requestOf, h]

/-- A request number names a command at work on its engine. -/
theorem requestOf_mem (h : s.requestOf e n = some (w, r)) : (e, w) ∈ s.egs.work := by
  obtain ⟨⟨e', w'⟩, hmem, hfound⟩ := List.exists_of_findSome?_eq_some h
  obtain ⟨hwork, hengine⟩ := List.mem_filter.1 hmem
  obtain ⟨r', -, heq⟩ := Option.map_eq_some_iff.1 hfound
  obtain ⟨rfl, rfl⟩ := Prod.mk.inj heq
  rwa [← eq_of_beq hengine]

theorem setEgsWork_mem {c : EgsCmd} (h : (e, w) ∈ s.egs.work) (htag : w.tag = c.tag) (hbrick : w.cmd.brick = c.cmd.brick) :
    (e, c) ∈ (s.setEgsWork e c).egs.work :=
  List.mem_map.2 ⟨(e, w), h, if_pos (by simp [htag, hbrick])⟩

/-- A command with a row that is in. -/
def withRow (w : EgsCmd) (r : RowWork) : EgsCmd :=
  { w with
    rows := w.rows.map (fun x => if x.row == r.row then { r with phase := .done } else x)
    remote := w.remote + b2n (r.via == 2)
    missing := w.missing + b2n r.absent }

/-- A command that waits for another row too goes on waiting, with this one in. -/
theorem rowServed_waits (hwork : (e, w) ∈ s.egs.work) (hwait : (w.rows.any fun x => x.row != r.row && x.phase != .done) = true) :
    (s.rowServed e w r).mortar = s.mortar ∧ (e, withRow w r) ∈ (s.rowServed e w r).egs.work := by
  have waits : ¬ (withRow w r).rows.all (fun x => x.phase == .done) = true := by
    obtain ⟨x, hx, hopen⟩ := List.any_eq_true.1 hwait
    rw [Bool.and_eq_true, bne_iff_ne, bne_iff_ne] at hopen
    intro hall
    have this := List.all_eq_true.1 hall _ (List.mem_map.2 ⟨x, hx, rfl⟩)
    rw [if_neg (by simpa using hopen.1), beq_iff_eq] at this
    exact hopen.2 this
  unfold rowServed
  extract_lets c1 s1 s2
  rw [if_neg (show ¬ c1.rows.all (fun x => x.phase == .done) = true from waits)]
  have counted : s.Only (among [.num 6]) (if r.absent then s1.inc64 Obj.MISSING_ROWS 1 else s1) := by
    have rows : s.Only (among [.num 6]) s1 :=
      inc64_only (inc64_only (.refl s) (by decide)) (by split_ifs <;> decide)
    exact .ite (inc64_only rows (by decide)) rows
  refine ⟨counted.same .mortar (by decide), setEgsWork_mem (w := w) ?_ rfl rfl⟩
  rw [counted.same .egs (by decide)]
  exact hwork

theorem remoteRow_of_request {l : List Byte} (hreq : s.requestOf e n = some (w, r)) (hrow : le l 0 4 = r.row)
    (htable : le l 4 2 % 4096 = le w.cmd.block 4 2 % 4096) (htier : bits (le l 4 2) 13 12 < 3)
    (hlen : (parseTable w.desc).slotBytes (bits (le l 4 2) 13 12) ≤ l.length) :
    s.remoteRow e n l = s.rowServed e w { r with
      version := le l 6 1, tier := bits (le l 4 2) 13 12, elems := widenSlot (parseTable w.desc) (bits (le l 4 2) 13 12) l } := by
  simp only [remoteRow, hreq]
  exact if_neg (by simp only [hrow, htable]; omega)

theorem remoteRow_of_none (hreq : s.requestOf e n = none) (l : List Byte) : s.remoteRow e n l =
    if s.egs.reserved.any (fun x => x.1 == e && x.2.1 == n) then s.releaseReserved e n else s.inc32 Obj.RSP_DISCARDED 1 := by
  simp only [remoteRow, hreq]

theorem exec_rowData (hp : p ≤ 8) (hheld : s.held = false) (hm : s.inMessage p 1 1 = some m) :
    exec (.rowData p 0) s = .next ((s.unbuffer m).remoteRow (m.tag / 4096) (m.tag % 256) m.body) :=
  act_withMsg hp hheld rfl hm

/-! ### Refusals -/

/-- A command that ends leaves its engine, and its done is sent with its counts (R523, R529). -/
structure Ended (s : State) (e : Nat) (w : EgsCmd) (code : Nat) (t : State) : Prop where
  gone : ∀ x ∈ t.egs.work, ¬(x.1 = e ∧ x.2.tag = w.tag ∧ x.2.cmd.brick = w.cmd.brick)
  done : t.mortar.flight = s.mortar.flight ++ [{
    cls := .rsp, src := .egs e, dst := .brick w.cmd.brick, tag := w.tag, parity := s.mortar.parity
    body := .egsDone code w.rows.length w.remote w.missing }]

theorem egsEnd_ended (s : State) (e : Nat) (w : EgsCmd) (code : Nat) : s.Ended e w code (s.egsEnd e w code) := by
  unfold egsEnd
  extract_lets upd mine s1 gone engines s2 s3
  have dropped : s.Only (among [.num 1, .num 5, .num 11, .faults, .hbm, .egs, .shore, .mem]) s1 :=
    .foldl (.refl s) fun _ _ ht => dropFlip_only ht (.among _)
  have counted : s2.Only (among [.num 6]) s3 :=
    .ite (.ite (inc64_only (.refl _) (by decide)) (setSticky_only (.refl _) (by decide)))
      (.ite (inc64_only (.refl _) (by decide))
        (setSticky_only (setNum_only (inc32_only (.refl _) (by decide)) (by decide)) (by decide)))
  have mortar : s3.mortar = s.mortar := (counted.same .mortar (by decide)).trans (dropped.same .mortar (by decide))
  refine ⟨fun x hx hsame => ?_, by rw [send_flight, mortar]⟩
  have sent : (s3.send .rsp (.egs e) (.brick w.cmd.brick) w.tag (.egsDone code w.rows.length w.remote w.missing)).egs = s2.egs :=
    ((send_only (.refl s3) (.among _)).same .egs (by decide)).trans (counted.same .egs (by decide))
  rw [sent] at hx
  have kept : gone x = false := by simpa using (List.mem_filter.1 hx).2
  obtain ⟨he, htag, hbrick⟩ := hsame
  simp [gone, he, htag, hbrick] at kept

/-- A ROW_NAK of a status that names a fault ends the command (R622). -/
theorem remoteNak_of_fault {status : Nat} (hreq : s.requestOf e n = some (w, r)) (hok : nakOk status = true) (h5 : status ≠ 5) :
    s.Ended e w (nakCode status) (s.remoteNak e n status) := by
  have eq : s.remoteNak e n status = s.egsEnd e
      { w with rows := w.rows.map (fun x => if x.row == r.row then { x with phase := .done } else x) } (nakCode status) := by
    simp only [remoteNak, hreq, hok, h5, if_false, Bool.not_true, Bool.false_eq_true]
  obtain ⟨gone, done⟩ := s.egsEnd_ended e
    { w with rows := w.rows.map (fun x => if x.row == r.row then { x with phase := .done } else x) } (nakCode status)
  rw [eq]
  exact ⟨gone, by rw [done, List.length_map]⟩

theorem remoteNak_of_absent (hreq : s.requestOf e n = some (w, r)) : s.remoteNak e n 5 = s.rowAbsent e w r := by
  simp only [remoteNak, hreq]
  rfl

theorem remoteNak_of_reserved {status : Nat} (hreq : s.requestOf e n = some (w, r)) (hbad : nakOk status = false) :
    s.remoteNak e n status = s.inc32 Obj.RSP_DISCARDED 1 := by
  simp only [remoteNak, hreq, hbad]
  rfl

theorem remoteNak_of_none (hreq : s.requestOf e n = none) (status : Nat) : s.remoteNak e n status =
    if s.egs.reserved.any (fun x => x.1 == e && x.2.1 == n) then s.releaseReserved e n else s.inc32 Obj.RSP_DISCARDED 1 := by
  simp only [remoteNak, hreq]

/-- Only status 3 tells of an unreachable owner (R630). -/
theorem exec_rowNak (hp : p ≤ 8) (hheld : s.held = false) (hm : s.inMessage p 1 2 = some m)
    (h3 : m.status = 3 → s.requestOf (m.tag / 4096) (m.tag % 256) = none) :
    exec (.rowNak p 0) s = .next ((s.unbuffer m).remoteNak (m.tag / 4096) (m.tag % 256) m.status) := by
  refine (act_withMsg hp hheld rfl hm).trans (congrArg _ ?_)
  dsimp only
  rw [requestOf_congr (unbuffer_egs s m)]
  split
  next x hx =>
    refine if_neg fun h => ?_
    rw [h3 h] at hx
    cases hx
  next => rfl

end State

end Sys2Proof.Machine
end

section
/-!
SUPPORT. Posted records: their epoch and counts, and the flip that one begins; a flip that is tried moves slots of the free rings
alone (spec/13: R544 to R546, R562, R569 to R571, R583; spec/14: R624 to R626).
-/

namespace Sys2Proof.Machine

namespace State

variable {s t : State} {m : CoastMsg} {p : Nat}

/-! ### Trying a flip -/

/-- Of the engines, nothing but the free rings changes. -/
def FreeMoves (s t : State) : Prop := ∃ f, t.egs = { s.egs with free := f }

theorem FreeMoves.of_egs (h : t.egs = s.egs) : s.FreeMoves t := ⟨_, h⟩

theorem FreeMoves.trans {u : State} (h : s.FreeMoves t) (h' : t.FreeMoves u) : s.FreeMoves u := by
  obtain ⟨f, ht⟩ := h
  obtain ⟨g, hu⟩ := h'
  exact ⟨g, by rw [hu, ht]⟩

theorem FreeMoves.flips (h : s.FreeMoves t) : t.egs.flips = s.egs.flips := by
  obtain ⟨f, ht⟩ := h
  rw [ht]

theorem setFreeRing_moves (s : State) (table tier : Nat) (f : FreeRing) : s.FreeMoves (s.setFreeRing table tier f) := ⟨_, rfl⟩

theorem engineRead_moves (s : State) (a n : Nat) : s.FreeMoves (s.engineRead a n).2.2 :=
  .of_egs ((engineRead_only (.refl s) (.among _)).same .egs (by decide))

theorem engineWrite_moves (s : State) (a : Nat) (l : List Byte) : s.FreeMoves (s.engineWrite a l).2 :=
  .of_egs ((engineWrite_only (.refl s) (.among _)).same .egs (by decide))

theorem inc64_moves (s : State) (k n : Nat) : s.FreeMoves (s.inc64 k n) := by
  unfold inc64
  split <;> exact .of_egs rfl

theorem tableRead_moves (s : State) (a n : Nat) : s.FreeMoves (s.tableRead a n).2.2 := .of_egs (tableRead_egs ..)

theorem flipSlot_moves (s : State) (f : Flip) (e : Nat) : s.FreeMoves (s.flipSlot f e).2.2 :=
  .of_egs ((flipSlot_only (.refl s) (.among _)).same .egs (by decide))

theorem freeTake_moves (s : State) (table tier : Nat) : s.FreeMoves (s.freeTake table tier).2 := by
  unfold freeTake
  extract_lets f r
  split
  · exact engineRead_moves ..
  · exact (engineRead_moves ..).trans (setFreeRing_moves ..)

theorem freeReturn_moves (s : State) (table tier slot : Nat) (pending : Bool) :
    s.FreeMoves (s.freeReturn table tier slot pending) := (engineWrite_moves ..).trans (setFreeRing_moves ..)

theorem waitRetire_moves (s : State) (f : Flip) : s.FreeMoves (s.waitRetire f).2 := by
  show s.FreeMoves (if _ then s else _)
  split
  · exact .of_egs rfl
  · exact inc64_moves ..

theorem toSlot_moves (s : State) (f : Flip) (e tier version : Nat) (image : List Byte) (velocity : Option (Nat × List Byte)) :
    s.FreeMoves (s.toSlot f e tier version image velocity).2 := by
  unfold toSlot
  extract_lets d old ring placed taken
  split
  · exact waitRetire_moves ..
  split
  · exact .of_egs rfl
  split
  · split
    · dsimp only
      split
      · exact .of_egs rfl
      · exact inc64_moves ..
    · exact .of_egs rfl
  have moved : s.FreeMoves taken.2 := freeTake_moves ..
  split
  · exact moved
  · extract_lets w
    have written : s.FreeMoves w.2 := moved.trans (engineWrite_moves ..)
    split
    · exact written.trans (freeReturn_moves ..)
    · exact written

theorem gradFlip_moves (s : State) (f : Flip) (e : Nat) (g : List Nat) (lrScale seed : Nat) :
    s.FreeMoves (s.gradFlip f e g lrScale seed).2 := by
  unfold gradFlip
  extract_lets d r a va v num n version tier q st
  have slot : s.FreeMoves a.2.2 := flipSlot_moves ..
  have read : s.FreeMoves v.2.2 := by
    unfold v
    split
    · exact slot.trans (tableRead_moves ..)
    · exact slot
  split
  · exact slot
  split
  · exact read
  split
  · exact read.trans (.of_egs ((event_only (setSticky_only (inc32_only (.refl v.2.2) (by decide)) (by decide))
      (.of_all (l := among [.num 6, .num 11, .faults]) (by decide))).same .egs (by decide)))
  · exact read.trans (toSlot_moves ..)

theorem toAbsent_moves (s : State) (f : Flip) (e : Nat) : s.FreeMoves (s.toAbsent f e).2 := by
  unfold toAbsent
  split
  · exact waitRetire_moves ..
  split <;> exact .of_egs rfl

theorem ownerFlip_moves (s : State) (f : Flip) (e : Nat) : s.FreeMoves (s.ownerFlip f e).2 := by
  unfold ownerFlip
  extract_lets d version out a
  have ended (o : FlipOut) : s.FreeMoves (out o).2 := .of_egs rfl
  have slot : s.FreeMoves a.2.2 := flipSlot_moves ..
  split
  next g lr seed =>
    split
    · exact ended _
    split
    · exact waitRetire_moves ..
    · exact gradFlip_moves ..
  next => exact toSlot_moves ..
  next =>
    split
    · exact ended _
    · exact toAbsent_moves ..
  next =>
    split
    · exact ended _
    split
    · exact ended _
    split
    · exact waitRetire_moves ..
    split
    · exact slot
    · exact slot.trans (toSlot_moves ..)
  next =>
    split
    · exact ended _
    split
    · exact ended _
    split <;> exact slot
  next =>
    split
    · exact ended _
    split <;> exact .of_egs rfl
  next => exact ended _

theorem replicaFlip_moves (s : State) (f : Flip) (bucket : List Byte) : s.FreeMoves (s.replicaFlip f bucket).2 := by
  unfold replicaFlip
  extract_lets d base ents hit
  clear_value hit
  split
  · split
    · exact .of_egs rfl
    split
    · exact .of_egs rfl
    · exact toSlot_moves ..
  · split
    · exact .of_egs rfl
    split
    · exact .of_egs rfl
    · exact toAbsent_moves ..

theorem thenRead_moves {α : Type} {a n : Nat} {bad : Nat → State → α × State} {good : List Byte → State → α × State}
    (hbad : ∀ c t, FreeMoves t (bad c t).2) (hgood : ∀ l t, FreeMoves t (good l t).2) :
    s.FreeMoves (s.thenRead a n bad good).2 := by
  unfold thenRead
  extract_lets r
  have read : s.FreeMoves r.2.2 := tableRead_moves ..
  split
  · exact read.trans (hbad ..)
  · exact read.trans (hgood ..)

theorem flipTry_moves (s : State) (f : Flip) : s.FreeMoves (s.flipTry f).2 := by
  unfold flipTry
  extract_lets g d
  split
  · exact thenRead_moves (fun _ _ => .of_egs rfl) fun _ _ => replicaFlip_moves ..
  · refine thenRead_moves (fun _ _ => .of_egs rfl) fun l t => ?_
    split
    · exact ownerFlip_moves ..
    · exact .of_egs rfl

/-- A flip that goes on joins those that stand. -/
theorem flipBegin_flips {f g : Flip} (h : (s.flipTry f).1 = .inl g) : (s.flipBegin f).egs.flips = s.egs.flips ++ [g] := by
  unfold flipBegin
  extract_lets r
  rw [show r.1 = .inl g from h]
  exact congrArg (· ++ [g]) (s.flipTry_moves f).flips

theorem ownEntry_egs (s : State) (d : TableDesc) (row : Nat) : (s.ownEntry d row).2.egs = s.egs :=
  (ownEntry_only (.refl s) (.among _)).same .egs (by decide)

/-! ### Counts of posted records -/

/-- Records that leave the buffer of a member move its FREED (R625). -/
theorem updFreed_counts (s : State) (d n : Nat) : ((s.updFreed d n).member d).received = (s.member d).received ∧
    ((s.updFreed d n).member d).freedOut = ((s.member d).freedOut + n) % 2 ^ 32 := by
  unfold updFreed
  extract_lets x f s1
  have counts : (s1.member d).received = x.received ∧ (s1.member d).freedOut = f := by
    unfold s1
    rw [member_setMember_self]
    exact ⟨rfl, rfl⟩
  split
  · rw [sendCredit, respond_member, member_setMember_self]
    exact counts
  · exact counts

/-- The state in which a record of this chip's epoch is applied: out of its buffer, and counted (R625). -/
def recordCounted (s : State) (m : CoastMsg) : State :=
  ((s.unbuffer m).setMember m.source { s.member m.source with
    received := ((s.member m.source).received + coastFlits m.bytes) % 2 ^ 32 }).updFreed m.source (coastFlits m.bytes)

/-- RECEIVED and FREED of the sender have counted the flits of a message. -/
def Counted (s : State) (m : CoastMsg) (t : State) : Prop :=
  (t.member m.source).received = ((s.member m.source).received + coastFlits m.bytes) % 2 ^ 32 ∧
  (t.member m.source).freedOut = ((s.member m.source).freedOut + coastFlits m.bytes) % 2 ^ 32

theorem recordCounted_counted (s : State) (m : CoastMsg) : s.Counted m (s.recordCounted m) := by
  obtain ⟨received, freed⟩ := updFreed_counts ((s.unbuffer m).setMember m.source { s.member m.source with
    received := ((s.member m.source).received + coastFlits m.bytes) % 2 ^ 32 }) m.source (coastFlits m.bytes)
  rw [member_setMember_self] at received freed
  exact ⟨received, freed⟩

theorem recordCounted_only (s : State) (m : CoastMsg) : s.Only (among [.num 9, .coast, .out]) (s.recordCounted m) :=
  updFreed_only (setMember_only (unbuffer_only (.refl s) (.of_all (by decide))) (.of_all (by decide))) (.among _)

@[simp] theorem recordCounted_egs (s : State) (m : CoastMsg) : (s.recordCounted m).egs = s.egs :=
  (s.recordCounted_only m).same .egs (by decide)

theorem recordCounted_workEnable (s : State) (m : CoastMsg) :
    (s.recordCounted m).num Obj.WORK_ENABLE = s.num Obj.WORK_ENABLE :=
  (s.recordCounted_only m).same (.num 6) (by decide) _ (by decide)

theorem Counted.of_coast {u : State} (h : s.Counted m t) (hcoast : u.coast = t.coast) : s.Counted m u := by
  unfold Counted
  rw [member_congr (congrArg _ hcoast)]
  exact h

theorem posted_of_epoch (h : m.status = s.num Obj.RESET_EPOCH) (k : State → State) :
    (s.unbuffer m).posted m k = k (s.recordCounted m) := by
  simp only [posted, unbuffer_num, unbuffer_member]
  exact if_neg (not_not.2 h)

theorem posted_of_stale (h : m.status ≠ s.num Obj.RESET_EPOCH) (k : State → State) :
    (s.unbuffer m).posted m k = (s.unbuffer m).inc32 Obj.UPD_STALE 1 := by
  rw [posted, unbuffer_num]
  exact if_pos h

theorem probeIn_of_stale (h : m.status ≠ s.num Obj.RESET_EPOCH) :
    (s.unbuffer m).probeIn m = (s.unbuffer m).inc32 Obj.UPD_STALE 1 := by
  rw [probeIn, unbuffer_num]
  exact if_pos h

/-! ### Records applied -/

theorem gradRecord_counted (h : s.Counted m t) (desc : Option (List Byte)) (chip : Nat) (b : List Byte) :
    s.Counted m (t.gradRecord desc chip b) :=
  h.of_coast ((gradRecord_only (.refl t) (.among _)).same .coast (by decide))

theorem replicaRecord_counted (h : s.Counted m t) (desc : Option (List Byte)) (chip table row : Nat) (w : Work) :
    s.Counted m (t.replicaRecord desc chip table row w) :=
  h.of_coast ((replicaRecord_only (.refl t) (.among _)).same .coast (by decide))

/-- The flip of a GRAD record of a row here (R562; log entry 38). -/
def gradRecordFlip (s : State) (desc : Option (List Byte)) (chip : Nat) (b : List Byte) (a : Nat) : Flip :=
  let table := le b 0 2 % 4096
  let image := desc.getD (s.tableImage table)
  let d := parseTable image
  newFlip (engineAt a) table (le b 4 4) image (s.ruleImage d.rule) (.grad chip)
    (.grad ((u32s (b.drop 16)).take d.dim) (le b 8 4) (le b 12 4)) a

theorem gradRecord_of_work {desc : Option (List Byte)} {b : List Byte} {a : Nat}
    (howner : (s.ownEntry (parseTable (desc.getD (s.tableImage (le b 0 2 % 4096)))) (le b 4 4)).1 = .inl a)
    (hwork : s.num Obj.WORK_ENABLE = 1)
    (hrule : le (s.ruleImage (parseTable (desc.getD (s.tableImage (le b 0 2 % 4096)))).rule) 0 1 ≠ 0) (chip : Nat) :
    s.gradRecord desc chip b =
      (s.ownEntry (parseTable (desc.getD (s.tableImage (le b 0 2 % 4096)))) (le b 4 4)).2.flipBegin
        (s.gradRecordFlip desc chip b a) := by
  unfold gradRecord
  extract_lets table row image d rule x f
  rw [show x.1 = .inl a from howner]
  dsimp only
  rw [if_neg (not_not.2 hwork), if_neg hrule]
  rfl

theorem replicaRecord_of_replicated {desc : Option (List Byte)} {table : Nat} {w : Work}
    (hvalid : (parseTable (desc.getD (s.tableImage table))).valid = true) (htier : w.tierOk = true)
    (hreplicas : (parseTable (desc.getD (s.tableImage table))).replicaLog2 ≠ 0) (chip row : Nat) :
    s.replicaRecord desc chip table row w =
      s.flipBegin (newFlip (engineAt ((parseTable (desc.getD (s.tableImage table))).bucketAt table row)) table row
        (desc.getD (s.tableImage table)) [] (.replica chip) w 0) := by
  unfold replicaRecord
  extract_lets image d f
  rw [if_neg (by rw [show d.valid = true from hvalid]; decide), if_neg (by rw [htier]; decide), if_neg hreplicas]

/-! ### The commands -/

section
variable (hp : p ≤ 8) (hheld : s.held = false) (hpause : s.calPause = false)
include hp hheld hpause

theorem exec_grad (hm : s.inMessage p 2 1 = some m) : exec (.grad p 0) s =
    .next ((s.unbuffer m).posted m (fun u => u.gradRecord m.desc m.source m.body)) :=
  act_withMsg hp hheld (by rw [hpause]; rfl) hm

theorem exec_replicaPut (hm : s.inMessage p 2 2 = some m) : exec (.replicaPut p 0) s =
    .next ((s.unbuffer m).posted m (fun u => u.replicaRecord m.desc m.source (le m.body 0 2 % 4096) (le m.body 4 4)
      (.replicaPut (le m.body 2 1) (m.body.drop 8)))) :=
  act_withMsg hp hheld (by rw [hpause]; rfl) hm

theorem exec_replicaRemove (hm : s.inMessage p 2 3 = some m) : exec (.replicaRemove p 0) s =
    .next ((s.unbuffer m).posted m (fun u => u.replicaRecord m.desc m.source (le m.body 0 2 % 4096) (le m.body 4 4)
      .replicaRemove)) :=
  act_withMsg hp hheld (by rw [hpause]; rfl) hm

end

theorem exec_probe (hp : p ≤ 8) (hheld : s.held = false) (hm : s.inMessage p 2 4 = some m) :
    exec (.probe p 0) s = .next ((s.unbuffer m).probeIn m) :=
  act_withMsg hp hheld rfl hm

end State

end Sys2Proof.Machine
end

section
/-!
The messages that stand in the input buffers (spec/12: R499, R516, R517, R529; spec/14: R603, R622, R625 to R627, R632, R646).
-/

namespace Sys2Proof.Machine

namespace State

variable {s : State} {p : Nat} {m : CoastMsg}

/-- A request for a table that is not VALID is refused with status 4 and counted, and no word of external memory is read (R622; log
entry 36). -/
theorem rowReq_of_invalid (hp : p ≤ 8) (hheld : s.held = false) (hpause : s.calPause = false) (hm : s.inMessage p 0 1 = some m)
    (hinvalid : (parseTable (m.desc.getD (s.tableImage (le m.body 0 2 % 4096)))).valid = false) :
    ∃ t, exec (.rowReq p 0) s = .next t ∧ s.Answers m 2 4 [] t ∧ t.hbm = s.hbm ∧
      t.num Obj.SERVED_FOR_PEERS = (s.inc64 Obj.SERVED_FOR_PEERS 1).num Obj.SERVED_FOR_PEERS := by
  have image : (s.unbuffer m).tableImage (le m.body 0 2 % 4096) = s.tableImage (le m.body 0 2 % 4096) := by
    rw [tableImage, tableImage, unbuffer_egs]
  have served := serveRow_of_invalid (s := s.unbuffer m) (by rw [image]; exact hinvalid) (le m.body 4 4) m.source
  have requested : s.rowRequested m = (s.unbuffer m).inc64 Obj.SERVED_FOR_PEERS 1 := by rw [rowRequested, served]
  have counted : (s.unbuffer m).Only (among [.num 6]) (s.rowRequested m) := by
    rw [requested]
    exact inc64_only (.refl _) (by decide)
  have answered : (s.rowRequested m).Only (among [.num 9, .coast, .out]) ((s.rowRequested m).respond m.source 2 4 m.tag []) :=
    respond_only (.refl _) (.among _)
  refine ⟨_, (exec_rowReq hp hheld hpause hm).trans (by rw [served]; rfl), s.rowRequested_answers m 2 4 [], ?_, ?_⟩
  · exact (answered.same .hbm (by decide)).trans ((counted.same .hbm (by decide)).trans (s.unbuffer_hbm m))
  · rw [answered.same (.num 6) (by decide) _ (by decide), requested]
    exact num_inc64_congr (s.unbuffer_badObj m) (s.unbuffer_num m _)

/-- A row that can be served is answered with the octets of its slot (R514, R516). -/
theorem ServesRow.rowReq (hp : p ≤ 8) (hheld : s.held = false) (hpause : s.calPause = false) (hm : s.inMessage p 0 1 = some m)
    (hheat : s.num Obj.HEAT_ENABLE ≠ 1) {shard entry slot : Nat × List Byte × State}
    (h : (s.unbuffer m).ServesRow (parseTable (m.desc.getD (s.tableImage (le m.body 0 2 % 4096)))) (le m.body 0 2 % 4096)
      (le m.body 4 4) shard entry slot) :
    ∃ t, exec (.rowReq p 0) s = .next t ∧ s.Answers m 1 0 slot.2.1 t ∧ t.hbm.mem = s.hbm.mem := by
  have image : (s.unbuffer m).tableImage (le m.body 0 2 % 4096) = s.tableImage (le m.body 0 2 % 4096) := by
    rw [tableImage, tableImage, unbuffer_egs]
  rw [← image] at h
  have served := h.serveRow (by rwa [unbuffer_num]) m.source
  have answered : (s.rowRequested m).Only (among [.num 9, .coast, .out])
      ((s.rowRequested m).respond m.source 1 0 m.tag slot.2.1) := respond_only (.refl _) (.among _)
  have counted : slot.2.2.Only (among [.num 6]) (s.rowRequested m) := by
    rw [rowRequested, served]
    exact inc64_only (.refl _) (by decide)
  refine ⟨_, (exec_rowReq hp hheld hpause hm).trans (by rw [served]; rfl), s.rowRequested_answers m 1 0 slot.2.1, ?_⟩
  rw [answered.same .mem (by decide), counted.same .mem (by decide), h.mem, unbuffer_hbm]

/-- A record of a replica of this chip's epoch is counted; where the table keeps replicas, its flip joins those that stand. -/
theorem replicaRecord_taken {c : Instr} {w : Work} (hepoch : m.status = s.num Obj.RESET_EPOCH)
    (hexec : exec c s = .next ((s.unbuffer m).posted m
      (fun u => u.replicaRecord m.desc m.source (le m.body 0 2 % 4096) (le m.body 4 4) w))) :
    let table := le m.body 0 2 % 4096
    let image := m.desc.getD (s.tableImage table)
    let d := parseTable image
    (∃ t, exec c s = .next t ∧ s.Counted m t) ∧
    ∀ f, d.valid = true → w.tierOk = true → d.replicaLog2 ≠ 0 →
      ((s.recordCounted m).flipTry (newFlip (engineAt (d.bucketAt table (le m.body 4 4))) table (le m.body 4 4) image []
        (.replica m.source) w 0)).1 = .inl f →
      ∃ t, exec c s = .next t ∧ s.Counted m t ∧ t.egs.flips = s.egs.flips ++ [f] := by
  intro table image d
  rw [posted_of_epoch hepoch] at hexec
  have counted := replicaRecord_counted (s.recordCounted_counted m) m.desc m.source table (le m.body 4 4) w
  have same : (s.recordCounted m).tableImage table = s.tableImage table := by rw [tableImage, tableImage, recordCounted_egs]
  refine ⟨⟨_, hexec, counted⟩, fun f hvalid htier hreplicas htry => ⟨_, hexec, counted, ?_⟩⟩
  rw [replicaRecord_of_replicated (by rw [same]; exact hvalid) htier (by rw [same]; exact hreplicas), same,
    flipBegin_flips htry, recordCounted_egs]

/-- A GRAD record of this chip's epoch is counted; with work enabled, the flip of a row here joins those that stand. -/
theorem gradRecord_taken (hp : p ≤ 8) (hheld : s.held = false) (hpause : s.calPause = false)
    (hepoch : m.status = s.num Obj.RESET_EPOCH) (hm : s.inMessage p 2 1 = some m) :
    let x := (s.recordCounted m).ownEntry (parseTable (m.desc.getD (s.tableImage (le m.body 0 2 % 4096)))) (le m.body 4 4)
    (∃ t, exec (.grad p 0) s = .next t ∧ s.Counted m t) ∧
    ∀ a f, x.1 = .inl a → s.num Obj.WORK_ENABLE = 1 →
      le (s.ruleImage (parseTable (m.desc.getD (s.tableImage (le m.body 0 2 % 4096)))).rule) 0 1 ≠ 0 →
      (x.2.flipTry (s.gradRecordFlip m.desc m.source m.body a)).1 = .inl f →
      ∃ t, exec (.grad p 0) s = .next t ∧ s.Counted m t ∧ t.egs.flips = s.egs.flips ++ [f] := by
  intro x
  have run := exec_grad hp hheld hpause hm
  rw [posted_of_epoch hepoch] at run
  have counted := gradRecord_counted (s.recordCounted_counted m) m.desc m.source m.body
  have image (n : Nat) : (s.recordCounted m).tableImage n = s.tableImage n := by rw [tableImage, tableImage, recordCounted_egs]
  have rule (n : Nat) : (s.recordCounted m).ruleImage n = s.ruleImage n := by rw [ruleImage, ruleImage, recordCounted_egs]
  have flip (a : Nat) : (s.recordCounted m).gradRecordFlip m.desc m.source m.body a =
      s.gradRecordFlip m.desc m.source m.body a := by
    simp only [gradRecordFlip, image, rule]
  refine ⟨⟨_, run, counted⟩, fun a f howner hwork hrule htry => ⟨_, run, counted, ?_⟩⟩
  rw [gradRecord_of_work (by rw [image]; exact howner) (by rwa [recordCounted_workEnable]) (by rw [image, rule]; exact hrule),
    image, flip, flipBegin_flips htry, ownEntry_egs, recordCounted_egs]

end State

/-- Settles O44: a message is taken unhurt out of its buffer, and what its command then does is what the lemma about the
operation says: the choice of a transmitter that it finds empty, the row service, the command that waits for a row, and the flip
that a record begins. -/
theorem messagesAreTaken : Obligations.MessagesAreTaken := by
  intro s p m hp hheld u n told ended
  have toldOf {typ status : Nat} {body : List Byte} {t : State} (h : s.Answers m typ status body t) : told t typ status body :=
    ⟨h.here, h.waits⟩
  have request (e k : Nat) : u.requestOf e k = s.requestOf e k := State.requestOf_congr (s.unbuffer_egs m) e k
  refine ⟨?transit, ?rowReq, ?rowData, ?rowNak, ?stale, ?records⟩
  case transit =>
    intro hm
    refine ⟨fun o hroute hup hport => ⟨?_, fun hqueue hreplay hne hlen hvcd hcredit hstart => ?_⟩, fun hdown hport => ?_⟩
    · rw [State.exec_messageForward hport hheld hm, State.forward_of_up hroute hup]
    · exact ⟨_, State.exec_messageForward hport hheld hm,
        State.forward_alone hm hport hroute hup hqueue hreplay hne hlen hvcd hcredit hstart⟩
    · have run := State.exec_messageForward hport hheld hm
      obtain ⟨refused, dropped, returned⟩ := State.forward_of_down hdown
      exact ⟨fun hvc => ⟨_, run, refused hvc ▸ toldOf (State.respond_answers rfl (s.unbuffer_offRoutes m) ..)⟩,
        fun hvc => run.trans (congrArg _ (dropped hvc)), fun hvc => run.trans (congrArg _ (returned hvc))⟩
  case rowReq =>
    intro hm hpause
    refine ⟨State.exec_rowReq hp hheld hpause hm, fun hinvalid => ?_, ?_⟩
    · obtain ⟨t, run, answers, rest⟩ := State.rowReq_of_invalid hp hheld hpause hm hinvalid
      exact ⟨t, run, toldOf answers, rest⟩
    · intro table row d a b e hvalid hrow ha howner hb hlegal hpresent hof hheat l hl hheader
      have serves : u.ServesRow d table row a b l :=
        ⟨hvalid, hrow, rfl, ha, howner.trans (s.unbuffer_addr m).symm, rfl, hb, hlegal, hpresent, hof, rfl, hl, hheader⟩
      obtain ⟨t, run, answers, mem⟩ := serves.rowReq hp hheld hpause hm hheat
      exact ⟨t, run, toldOf answers, mem⟩
  case rowData =>
    intro hm
    have run := State.exec_rowData hp hheld hm
    refine ⟨?_, fun hreq hkept => ?_⟩
    · intro w r hreq hrow htable tier got htier hlen
      rw [State.remoteRow_of_request ((request ..).trans hreq) hrow htable htier hlen] at run
      refine ⟨run, fun hwait => ?_⟩
      obtain ⟨mortar, work⟩ := State.rowServed_waits (s := u) (r := got) (State.requestOf_mem ((request ..).trans hreq)) hwait
      exact ⟨_, run, mortar.trans (s.unbuffer_mortar m), work⟩
    · rw [State.remoteRow_of_none ((request ..).trans hreq), State.unbuffer_egs, hkept] at run
      exact run
  case rowNak =>
    intro hm
    refine ⟨fun w r hreq => ?_, fun hreq => ?_⟩
    · have run (h3 : m.status ≠ 3) := State.exec_rowNak hp hheld hm (fun h => absurd h h3)
      have fault {status : Nat} (h : m.status = status) (hok : State.nakOk status = true) (h3 : status ≠ 3) (h5 : status ≠ 5) :
          ∃ t, exec (.rowNak p 0) s = .next t ∧ ended t (m.tag / 4096) w (State.nakCode status) := by
        subst h
        obtain ⟨gone, done⟩ := State.remoteNak_of_fault ((request ..).trans hreq) hok h5
        rw [State.unbuffer_mortar] at done
        exact ⟨_, run h3, gone, done⟩
      refine ⟨fun h => ?_, fun h => fault h rfl (by decide) (by decide), fun h => fault h rfl (by decide) (by decide),
        fun h => fault h rfl (by decide) (by decide), fun h => ?_⟩
      · rw [run (by omega), h, State.remoteNak_of_absent ((request ..).trans hreq)]
      · have reserved : State.nakOk m.status = false := decide_eq_false (by omega)
        rw [run (by omega), State.remoteNak_of_reserved ((request ..).trans hreq) reserved]
    · rw [State.exec_rowNak hp hheld hm (fun _ => hreq), State.remoteNak_of_none ((request ..).trans hreq), State.unbuffer_egs]
  case stale =>
    intro hstale stale
    refine ⟨fun hm hpause => ?_, fun hm hpause => ?_, fun hm hpause => ?_, fun hm => ?_⟩
    · rw [State.exec_grad hp hheld hpause hm, State.posted_of_stale hstale]
    · rw [State.exec_replicaPut hp hheld hpause hm, State.posted_of_stale hstale]
    · rw [State.exec_replicaRemove hp hheld hpause hm, State.posted_of_stale hstale]
    · rw [State.exec_probe hp hheld hm, State.probeIn_of_stale hstale]
  case records =>
    intro hepoch hpause got v table row image d copies
    exact ⟨State.gradRecord_taken hp hheld hpause hepoch,
      fun hm => State.replicaRecord_taken hepoch (State.exec_replicaPut hp hheld hpause hm),
      fun hm => State.replicaRecord_taken hepoch (State.exec_replicaRemove hp hheld hpause hm)⟩

end Sys2Proof.Machine
end

section
/-!
SUPPORT. The rings of a client: what the retirement of jobs and a selection event leave of them, the jobs abandoned, and what each
command of CLIENT_COMMAND comes to (spec/16: R692, R710, R740 to R745).
-/

namespace Sys2Proof.Machine

/-- The numbers of a client stand in section 3. -/
theorem clientKey_div (c i : Nat) (hi : i < 256) : ((0x3100 + c % 256) * 256 + i) / 0x100000 = 3 := by omega

/-- Every part but the numbers of the clients, the registers and the tide. -/
def offRings (p : Part) : Bool := p ∉ [Part.num 3, .reg, .tide]

namespace State

variable {s t : State} {c : Nat}

/-! ### Ring registers -/

@[simp] theorem cReg_setCReg_self (s : State) (c a v : Nat) : (s.setCReg c a v).cReg c a = v := s.regGet_regSet_self ..

theorem cReg_setCReg_ne {a b v : Nat} (h : a ≠ b) : (s.setCReg c a v).cReg c b = s.cReg c b :=
  regGet_regSet_ne fun same => h (Nat.add_left_cancel same)

/-! ### What leaves the rings alone -/

/-- `t` has the rings of `s`: registers, numbers of the clients, halts of the LCLK cycle and fetches under way. -/
structure KeepsRings (s t : State) : Prop where
  num : ∀ k, k / 0x100000 = 3 → t.num k = s.num k
  reg : t.reg = s.reg
  tide : t.tide = s.tide
  halts : t.sched.halts = s.sched.halts
  fetch : t.sched.fetch = s.sched.fetch

namespace KeepsRings

theorem refl (s : State) : s.KeepsRings s := ⟨fun _ _ => rfl, rfl, rfl, rfl, rfl⟩

theorem trans {u : State} (h : s.KeepsRings t) (h' : t.KeepsRings u) : s.KeepsRings u :=
  ⟨fun k hk => (h'.num k hk).trans (h.num k hk), h'.reg.trans h.reg, h'.tide.trans h.tide, h'.halts.trans h.halts,
    h'.fetch.trans h.fetch⟩

theorem of_only (only : s.Only offRings t) (halts : t.sched.halts = s.sched.halts) (fetch : t.sched.fetch = s.sched.fetch) :
    s.KeepsRings t :=
  ⟨only.same (.num 3) rfl, only.same .reg rfl, only.same .tide rfl, halts, fetch⟩

theorem cReg (h : s.KeepsRings t) (c off : Nat) : t.cReg c off = s.cReg c off := by
  simp only [State.cReg, regGet, h.reg]

theorem ringState (h : s.KeepsRings t) (c : Nat) : t.ringState c = s.ringState c :=
  h.num _ (clientKey_div c _ (by decide))

theorem clientHalted (h : s.KeepsRings t) (c : Nat) : t.clientHalted c = s.clientHalted c :=
  congrArg (· == 1) (h.num _ (clientKey_div c _ (by decide)))

theorem haltedNow (h : s.KeepsRings t) (c : Nat) : t.haltedNow c = s.haltedNow c := by
  simp only [State.haltedNow, lclk, clock, h.halts, h.tide]

end KeepsRings

/-- A selection event on a free chip is noted in the scheduler, and no other field of it changes. -/
theorem eventIfFree_sched (s : State) : ∃ event, s.eventIfFree.sched = { s.sched with event := event } := by
  unfold eventIfFree selectionEvent
  split
  · split <;> exact ⟨true, rfl⟩
  · exact ⟨_, rfl⟩

theorem eventIfFree_keepsRings (s : State) : s.KeepsRings s.eventIfFree := by
  obtain ⟨event, sched⟩ := s.eventIfFree_sched
  exact .of_only (eventIfFree_only (.refl s) (.of_all (by decide +kernel))) (by rw [sched]) (by rw [sched])

@[simp] theorem eventIfFree_entries (s : State) : s.eventIfFree.sched.entries = s.sched.entries := by
  obtain ⟨event, sched⟩ := s.eventIfFree_sched
  rw [sched]

@[simp] theorem eventIfFree_jobsOf (s : State) (c : Nat) : s.eventIfFree.jobsOf c = s.jobsOf c := by
  rw [jobsOf, eventIfFree_slots, jobsOf]

/-! ### Jobs retired ABANDONED -/

theorem retireJob_keepsRings (s : State) (j : Job) : s.KeepsRings (s.retireJob j 4) := by
  rw [retireJob_abandoned]
  refine .trans ?_ (eventIfFree_keepsRings _)
  have dropped : s.Only offRings (s.dropJob j) := dropJob_only (.refl s) (.of_all (by decide +kernel))
  split
  · exact .of_only dropped rfl rfl
  · exact .of_only (addEntry_only dropped (.of_all (by decide +kernel))) rfl rfl

theorem foldl_retireJob_keepsRings (l : List Job) (s : State) : s.KeepsRings (l.foldl (fun t j => t.retireJob j 4) s) := by
  induction l generalizing s with
  | nil => exact .refl s
  | cons j l ih => exact (s.retireJob_keepsRings j).trans (ih _)

/-- Wherever an entry is put, those before it stay. -/
theorem mem_addEntry (s : State) (e k : Entry) : k ∈ (s.addEntry e).sched.entries ↔ k = e ∨ k ∈ s.sched.entries := by
  have cut (p : Entry → Bool) := List.prefix_iff_eq_append.1 (List.takeWhile_prefix (l := s.sched.entries) p)
  unfold addEntry
  extract_lets l a
  conv_rhs => rw [← cut fun k => !(k.client == e.client && ringBefore e.pos k.pos)]
  simp only [List.mem_append, List.mem_cons]
  exact or_left_comm

theorem mem_retireJob_entries (s : State) (j : Job) (e : Entry) :
    e ∈ (s.retireJob j 4).sched.entries ↔ j.maint = none ∧ e = s.entryOf j 4 0 ∨ e ∈ s.sched.entries := by
  rw [retireJob_abandoned, eventIfFree_entries]
  cases hm : j.maint with
  | none => simpa [dropJob] using mem_addEntry (s.dropJob j) (s.entryOf j 4 0) e
  | some m => simp [dropJob]

theorem mem_foldl_retireJob_entries (l : List Job) {s : State} {e : Entry} (h : e ∈ s.sched.entries) :
    e ∈ (l.foldl (fun t j => t.retireJob j 4) s).sched.entries := by
  induction l generalizing s with
  | nil => exact h
  | cons j l ih => exact ih ((s.mem_retireJob_entries j e).2 (.inr h))

/-- An entry that says of a job that it was ABANDONED. -/
def abandonedEntry (j : Job) (e : Entry) : Prop := e.client = j.client ∧ e.pos = j.pos ∧ e.outcome = 4

theorem foldl_retireJob_abandons {l : List Job} {j : Job} (s : State) (hj : j ∈ l) (hm : j.maint = none) :
    ∃ e ∈ (l.foldl (fun t j => t.retireJob j 4) s).sched.entries, abandonedEntry j e := by
  induction l generalizing s with
  | nil => cases hj
  | cons k l ih =>
    rcases List.mem_cons.1 hj with rfl | hj
    · have put := (s.mem_retireJob_entries j _).2 (.inl ⟨hm, rfl⟩)
      exact ⟨_, mem_foldl_retireJob_entries l put, rfl, rfl, rfl⟩
    · exact ih _ hj

/-- The fetch of a client dropped. -/
def dropFetch (s : State) (c : Nat) : State :=
  { s with sched := { s.sched with fetch := s.sched.fetch.filter (fun p => p.1 != c) } }

/-- With no job in a reach hold, every waiting job of the client is abandoned. -/
theorem abandonJobs_of_no_hold (h : s.sched.hold = none) :
    s.abandonJobs c = (s.jobsOf c).foldl (fun t j => t.retireJob j 4) (s.dropFetch c) := by
  simp [abandonJobs, h, dropFetch]

theorem abandonJobs_keepsRings (h : s.sched.hold = none) : (s.dropFetch c).KeepsRings (s.abandonJobs c) :=
  abandonJobs_of_no_hold h ▸ foldl_retireJob_keepsRings ..

theorem abandonJobs_fetch (h : s.sched.hold = none) : ((s.abandonJobs c).sched.fetch.any fun p => p.1 == c) = false := by
  rw [(abandonJobs_keepsRings h).fetch]
  simp [dropFetch]

theorem abandonJobs_jobsOf (h : s.sched.hold = none) : (s.abandonJobs c).jobsOf c = [] := by
  rw [abandonJobs_of_no_hold h, jobsOf, foldl_retireJob_slots, List.filter_filter, List.filter_eq_nil_iff]
  intro k hk kept
  obtain ⟨hc, others⟩ := Bool.and_eq_true_iff.1 kept
  have own := List.all_eq_true.1 others k (List.mem_filter.2 ⟨hk, hc⟩)
  simp [sameJob] at own

/-! ### The halt -/

theorem unhalt_clientHalted (h : s.haltedNow c = none) : (s.unhalt c).clientHalted c = false := by
  simp [unhalt, h, clientHalted]

@[simp] theorem unhalt_reg (s : State) (c : Nat) : (s.unhalt c).reg = s.reg := by
  unfold unhalt
  split <;> rfl

@[simp] theorem unhalt_sched (s : State) (c : Nat) : (s.unhalt c).sched = s.sched := by
  unfold unhalt
  split <;> rfl

/-- A halt of the same LCLK cycle stands (R692). -/
theorem unhalt_of_some {b : Bool} (h : s.haltedNow c = some b) : s.unhalt c = s := by simp [unhalt, h]

/-! ### The commands, accepted and refused -/

/-- ENABLE empties both rings and lifts the halt. -/
theorem cmdEnable_of_disabled (hready : s.nv.ready = true) (hstate : s.ringState c = 0) (hconfig : s.ringConfigOk c = true) :
    ∃ u : State, s.cmdEnable c = u.settle ∧ u.ringState c = 1 ∧ u.sqHead c = s.sqTail c ∧ u.cqTail c = s.cqHead c ∧
      u.clientHalted c = false := by
  unfold cmdEnable
  extract_lets s1 active sched s2
  rw [if_pos (by simp [hready, hstate, hconfig])]
  have kept := s2.eventIfFree_keepsRings
  have halted : s2.num (Obj.CLIENT_HALTED c) = 0 :=
    (num_setNum_ne (objectKey_ne_sub (by decide))).trans (num_setNum_self ..)
  have head : s2.sqHead c = s.sqTail c := (cReg_setCReg_ne (by decide)).trans (cReg_setCReg_self ..)
  exact ⟨_, rfl, (kept.ringState c).trans (num_setNum_self ..), (kept.cReg c 0x18).trans head,
    (kept.cReg c 0x20).trans (cReg_setCReg_self ..), (kept.clientHalted c).trans (by simp [clientHalted, halted])⟩

/-- STOP abandons what the client has waiting, and its fetch. -/
theorem cmdStop_of_active (hready : s.nv.ready = true) (hstate : s.ringState c = 1) (hhold : s.sched.hold = none) :
    ∃ u : State, s.cmdStop c = u.settle ∧ u.ringState c = 2 ∧ u.jobsOf c = [] ∧
      (u.sched.fetch.any fun p => p.1 == c) = false ∧
      ∀ j ∈ s.jobsOf c, j.maint = none → ∃ e ∈ u.sched.entries, abandonedEntry j e := by
  have run : s.cmdStop c = ((s.setNum (Obj.RING_STATE c) 2).abandonJobs c).settle :=
    if_pos (by simp [hready, hstate])
  have free : (s.setNum (Obj.RING_STATE c) 2).sched.hold = none := hhold
  refine ⟨_, run, ((abandonJobs_keepsRings free).ringState c).trans (num_setNum_self ..), abandonJobs_jobsOf free,
    abandonJobs_fetch free, fun j hj hm => ?_⟩
  rw [abandonJobs_of_no_hold free]
  exact foldl_retireJob_abandons _ hj hm

theorem cmdDisable_of_stopped (hready : s.nv.ready = true) (hstate : s.ringState c = 3) :
    s.cmdDisable c = s.setNum (Obj.RING_STATE c) 0 :=
  if_pos (by simp [hready, hstate])

theorem cmdResume_of_resumable (hready : s.nv.ready = true) (h : s.resumable c = true) :
    s.cmdResume c = (s.unhalt c).eventIfFree.settle :=
  if_pos (by simp [hready, h])

theorem resumable_of_haltedNow {b : Bool} (h : s.haltedNow c = some b) : s.resumable c = b := by simp [resumable, h]

theorem resumable_of_clientHalted (h : s.haltedNow c = none) : s.resumable c = s.clientHalted c := by simp [resumable, h]

/-- RESUME_FLUSH abandons what the client has waiting, empties its submission ring and lifts the halt. -/
theorem cmdResumeFlush_of_halted (hready : s.nv.ready = true) (hhalted : s.clientHalted c = true)
    (hnow : s.haltedNow c = none) (hhold : s.sched.hold = none) :
    ∃ u : State, s.cmdResumeFlush c = u.settle ∧ u.clientHalted c = false ∧ u.jobsOf c = [] ∧ u.sqHead c = s.sqTail c := by
  unfold cmdResumeFlush
  extract_lets s1 sched s2
  rw [if_pos (by simp [hready, resumable_of_clientHalted hnow, hhalted])]
  have kept := s2.eventIfFree_keepsRings
  have quiet : ((s.abandonJobs c).setCReg c 0x18 (s.sqTail c)).haltedNow c = none :=
    ((abandonJobs_keepsRings hhold).haltedNow c).trans hnow
  have jobs : s1.jobsOf c = [] := by
    rw [jobsOf, unhalt_sched]
    exact abandonJobs_jobsOf hhold
  have head : s1.sqHead c = s.sqTail c := by
    rw [sqHead, cReg, regGet, unhalt_reg]
    exact cReg_setCReg_self ..
  exact ⟨_, rfl, (kept.clientHalted c).trans (unhalt_clientHalted quiet), (eventIfFree_jobsOf ..).trans jobs,
    (kept.cReg c 0x18).trans head⟩

theorem cmdEnable_refused (h : s.ringState c ≠ 0) : s.cmdEnable c = s.cSticky c 3 := if_neg (by simp [h])

theorem cmdStop_refused (h : s.ringState c ≠ 1) : s.cmdStop c = s.cSticky c 3 := if_neg (by simp [h])

theorem cmdDisable_refused (h : s.ringState c ≠ 3) : s.cmdDisable c = s.cSticky c 3 := if_neg (by simp [h])

theorem cmdResume_refused (h : s.resumable c = false) : s.cmdResume c = s.cSticky c 3 := if_neg (by simp [h])

theorem cmdResumeFlush_refused (h : s.resumable c = false) : s.cmdResumeFlush c = s.cSticky c 3 := if_neg (by simp [h])

end State

/-- Settles O50: each command is a choice between its effect and CMD_REFUSED; what its effect does after the ring state, the halt and
the head counters are set (jobs retired, a selection event) leaves the rings as they are. -/
theorem clientCommandsFollowTheRingState : Obligations.ClientCommandsFollowTheRingState := by
  intro s c hone hlt hheld hup hready
  have next {t u : State} (cmd : t = u) : act (clientOk c) (s.live s.host.linkUp t) = .next u :=
    cmd ▸ act_live (by simp [clientOk, hone, hlt]) hheld hup
  refine ⟨fun hstate hconfig => ?_, fun hstate hhold => ?_, fun hstate => next (State.cmdDisable_of_stopped hready hstate),
    fun hhalted hnow => ?_, fun hnow => ?_, fun hhalted hnow hhold => ?_, fun h => next (State.cmdEnable_refused h),
    fun h => next (State.cmdStop_refused h), fun h => next (State.cmdDisable_refused h),
    fun h => ⟨next (State.cmdResume_refused h), next (State.cmdResumeFlush_refused h)⟩⟩
  · obtain ⟨u, cmd, effect⟩ := State.cmdEnable_of_disabled hready hstate hconfig
    exact ⟨u, next cmd, effect⟩
  · obtain ⟨u, cmd, stopping, empty, unfetched, abandoned⟩ := State.cmdStop_of_active hready hstate hhold
    refine ⟨u, next cmd, stopping, empty, unfetched, fun j hj hm => ?_⟩
    obtain ⟨e, he, client, pos, outcome⟩ := abandoned j hj hm
    have own : j.client = c := by simpa using (List.mem_filter.1 hj).2
    exact ⟨e, he, client.trans own, pos, outcome⟩
  · have kept := (s.unhalt c).eventIfFree_keepsRings
    have cmd := State.cmdResume_of_resumable hready ((State.resumable_of_clientHalted hnow).trans hhalted)
    exact ⟨_, next cmd, (kept.clientHalted c).trans (State.unhalt_clientHalted hnow), kept.reg.trans (s.unhalt_reg c),
      by rw [State.eventIfFree_slots, State.unhalt_sched]⟩
  · have cmd := State.cmdResume_of_resumable hready (State.resumable_of_haltedNow hnow)
    rw [State.unhalt_of_some hnow] at cmd
    exact ⟨_, next cmd, s.eventIfFree_keepsRings.clientHalted c, s.eventIfFree_slots⟩
  · obtain ⟨u, cmd, effect⟩ := State.cmdResumeFlush_of_halted hready hhalted hnow hhold
    exact ⟨u, next cmd, effect⟩

end Sys2Proof.Machine
end

section
/-!
SUPPORT. What leaves the queue of the management port alone (spec/18: R834): log records and their notifications, the reads and
writes of external memory, courses, the settling of the job choice, teardowns, and the power requests. `F_queue` takes a state
whose queue is `fs` and says the same of the state that F gives. Only an operation that writes the port's own state, or calls
one that does, needs a lemma of its own; the others leave the whole of that state (`Only.queue`).
-/

namespace Sys2Proof.Machine

/-- Every part but the management port's own state. -/
def offShore (p : Part) : Bool := p ∉ [Part.shore]

namespace State

variable {s t : State} {fs : List Request}

theorem Only.queue (h : s.Only offShore t) (hs : s.shore.queue = fs) : t.shore.queue = fs :=
  (congrArg Shore.queue (h.same .shore rfl)).trans hs

theorem foldl_queue {α : Type} {f : State → α → State} {l : List α}
    (hf : ∀ t x, t.shore.queue = fs → (f t x).shore.queue = fs) (h : s.shore.queue = fs) :
    (l.foldl f s).shore.queue = fs := by
  induction l generalizing s with
  | nil => exact h
  | cons x l ih => exact ih (hf s x h)

/-- A choice between two states. -/
theorem ite_queue {c : Prop} [Decidable c] (hs : s.shore.queue = fs) (ht : t.shore.queue = fs) :
    (if c then s else t).shore.queue = fs := by
  split <;> assumption

theorem setSchedule_queue {x : Sched} (h : s.shore.queue = fs) : ({ s with sched := x } : State).shore.queue = fs := h

theorem setTide_queue {x : Tide} (h : s.shore.queue = fs) : ({ s with tide := x } : State).shore.queue = fs := h

/-! ### Objects, log records and notifications -/

theorem setNum_queue {k v : Nat} (h : s.shore.queue = fs) : (s.setNum k v).shore.queue = fs := h

theorem setSticky_queue {k i : Nat} (h : s.shore.queue = fs) : (s.setSticky k i).shore.queue = fs := h

theorem inc32_queue {k n : Nat} (h : s.shore.queue = fs) : (s.inc32 k n).shore.queue = fs := ite_queue h h

theorem inc64_queue {k n : Nat} (h : s.shore.queue = fs) : (s.inc64 k n).shore.queue = fs := ite_queue h h

theorem noteNum_queue {k : Nat} (h : s.shore.queue = fs) : (s.noteNum k).shore.queue = fs := by
  unfold noteNum
  exact ite_queue h h

theorem notify_queue {e n d : Nat} (h : s.shore.queue = fs) : (s.notify e n d).shore.queue = fs := by
  unfold notify
  exact ite_queue h (ite_queue h (inc32_queue h))

theorem logNote_queue {r : LogRec} (h : s.shore.queue = fs) : (s.logNote r).shore.queue = fs := by
  unfold logNote
  exact notify_queue (Only.queue (log_only (.refl s) (.of_all rfl)) h)

theorem eventNote_queue {code source d0 d1 : Nat} (h : s.shore.queue = fs) :
    (s.eventNote code source d0 d1).shore.queue = fs := by
  unfold eventNote
  exact logNote_queue h

/-! ### External memory -/

theorem failChannel_queue {n : Nat} (h : s.shore.queue = fs) : (s.failChannel n).shore.queue = fs := by
  unfold failChannel
  extract_lets hbm s1
  exact ite_queue h (eventNote_queue (setSticky_queue (s := s1) h))

theorem retireBlock_queue {b : Nat} (h : s.shore.queue = fs) : (s.retireBlock b).shore.queue = fs := by
  unfold retireBlock
  exact ite_queue h (ite_queue (failChannel_queue h) (Only.queue (event_only (.refl _) (.of_all rfl)) (setSticky_queue h)))

theorem hbmUe_queue {a : Nat} (h : s.shore.queue = fs) : (s.hbmUe a).shore.queue = fs := by
  unfold hbmUe
  extract_lets s1 t hbm s2
  have counted : s1.shore.queue = fs := setSticky_queue (setNum_queue (setNum_queue (inc32_queue h)))
  clear_value s1
  have retired : s2.shore.queue = fs := retireBlock_queue counted
  exact ite_queue (failChannel_queue retired) retired

theorem hbmCe_queue {w : Nat} (h : s.shore.queue = fs) : (s.hbmCe w).shore.queue = fs := by
  unfold hbmCe
  extract_lets b t s0 hbm s1
  have counted : s0.shore.queue = fs := setSticky_queue (inc32_queue h)
  clear_value s0
  exact ite_queue (retireBlock_queue counted) counted

theorem readLines_queue {l : List Nat} (h : s.shore.queue = fs) : (s.readLines l).shore.queue = fs :=
  foldl_queue (fun _ _ h => hbmUe_queue h) (foldl_queue (fun _ _ h => hbmCe_queue h) h)

theorem memRead_queue {a n : Nat} (h : s.shore.queue = fs) : (s.memRead a n).2.2.shore.queue = fs := by
  unfold memRead
  extract_lets l
  split
  · exact h
  split <;> exact readLines_queue h

theorem memWrite_queue {a : Nat} {l : List Byte} (h : s.shore.queue = fs) : (s.memWrite a l).2.shore.queue = fs := by
  unfold memWrite
  extract_lets m
  split
  · exact h
  split
  · exact readLines_queue h
  · exact readLines_queue (s := s) h

theorem engineWrite_queue {a : Nat} {l : List Byte} (h : s.shore.queue = fs) :
    (s.engineWrite a l).2.shore.queue = fs := by
  unfold engineWrite
  split
  · exact h
  · exact memWrite_queue h

/-! ### Engines and courses at the end of a job -/

theorem freeReturn_queue {table tier slot : Nat} {pending : Bool} (h : s.shore.queue = fs) :
    (s.freeReturn table tier slot pending).shore.queue = fs :=
  engineWrite_queue h

theorem dropFlip_queue {f : Flip} (h : s.shore.queue = fs) : (s.dropFlip f).shore.queue = fs := by
  unfold dropFlip
  extract_lets egs s1
  split
  · exact freeReturn_queue (s := s1) h
  · exact h

theorem edgeAbandon_queue (h : s.shore.queue = fs) : s.edgeAbandon.shore.queue = fs :=
  foldl_queue (fun _ _ h => dropFlip_queue h) h

theorem setCourse_queue {c v : Nat} (h : s.shore.queue = fs) : (s.setCourse c v).shore.queue = fs := by
  unfold setCourse
  extract_lets old wall s1
  exact ite_queue h (eventNote_queue (s := s1) h)

theorem retirePending_queue {c : Nat} (h : s.shore.queue = fs) : (s.retirePending c).shore.queue = fs := by
  unfold retirePending
  split
  · exact setCourse_queue h
  · exact setCourse_queue h
  · exact h

theorem replaceCourse_queue {c : Nat} (h : s.shore.queue = fs) : (s.replaceCourse c).shore.queue = fs := by
  unfold replaceCourse
  extract_lets s1
  have replaced : s1.shore.queue = fs := setCourse_queue h
  split
  · exact replaced
  split
  · exact setCourse_queue replaced
  · exact replaced

theorem coursesApplied_queue (h : s.shore.queue = fs) : s.coursesApplied.shore.queue = fs :=
  foldl_queue (fun _ _ h => replaceCourse_queue h) h

theorem closeBooks_queue (h : s.shore.queue = fs) : s.closeBooks.shore.queue = fs := by
  unfold closeBooks
  extract_lets s1 wall mortar hbm s2
  have abandoned : s1.shore.queue = fs := edgeAbandon_queue h
  exact coursesApplied_queue (inc64_queue (s := s2) abandoned)

/-! ### The settling of the job choice -/

theorem loadCode_queue {j : Job} (h : s.shore.queue = fs) : (s.loadCode j).2.2.shore.queue = fs := by
  unfold loadCode
  extract_lets a n l
  have reads : (s.readLines l).shore.queue = fs := readLines_queue h
  split
  · exact h
  split
  · exact h
  split
  · exact reads
  · dsimp only
    exact Only.queue (digestRead_only (.refl (s.readLines l)) (.of_all rfl)) reads

theorem startLoad_queue {j : Job} (h : s.shore.queue = fs) : (s.startLoad j).shore.queue = fs := by
  unfold startLoad
  extract_lets v s1 s2 sched s3
  have empty : s1.shadowEmpty.shore.queue = fs :=
    Only.queue (shadowEmpty_only (.refl s1) (.of_all rfl)) (loadCode_queue h)
  split
  · exact inc64_queue (setNum_queue (setNum_queue empty))
  · exact Only.queue (faultUnrun_only (.refl s3) (.of_all rfl)) (setNum_queue (setNum_queue (inc32_queue empty)))

theorem predict_queue (n : Nat) (h : s.shore.queue = fs) : (predict n s).shore.queue = fs := by
  induction n generalizing s with
  | zero => exact h
  | succ n ih =>
    unfold predict
    split
    · exact h
    extract_lets s0
    have start : s0.shore.queue = fs := by
      dsimp only [s0]
      split
      · exact ite_queue (Only.queue (shadowEmpty_only (.refl s) (.of_all rfl)) h) h
      · exact h
    have next (j : Job) : (predict n (s0.startLoad j)).shore.queue = fs := ih (startLoad_queue start)
    split
    · exact start
    split
    · exact ite_queue start (next _)
    · exact next _

theorem settle_queue (h : s.shore.queue = fs) : s.settle.shore.queue = fs :=
  Only.queue (ringsFollow_only (.refl (predict 64 s.badSlots)) (.of_all rfl))
    (predict_queue 64 (Only.queue (badSlots_only (.refl s) (.of_all rfl)) h))

/-! ### Teardowns -/

theorem deviceFault_queue {code source d0 d1 : Nat} (h : s.shore.queue = fs) :
    (s.deviceFault code source d0 d1).shore.queue = fs := by
  unfold deviceFault
  extract_lets faults s1 s2
  have faulty : s2.shore.queue = fs := h
  exact logNote_queue (Only.queue (raiseGlobal_only (.refl s2) (.of_all rfl)) faulty)

theorem unbalanced_queue (h : s.shore.queue = fs) : s.unbalanced.shore.queue = fs := by
  unfold unbalanced
  extract_lets s1 mortar s2
  have counted : s1.shore.queue = fs := setNum_queue (setSticky_queue (inc32_queue h))
  exact ite_queue h (deviceFault_queue (s := s2) counted)

theorem closeTeardown_queue (h : s.shore.queue = fs) : s.closeTeardown.shore.queue = fs :=
  setNum_queue (inc64_queue (closeBooks_queue h))

theorem tearStart_queue {r : Run} {outcome code : Nat} {owed : Bool} (h : s.shore.queue = fs) :
    (s.tearStart r outcome code owed).shore.queue = fs := by
  unfold tearStart
  extract_lets s1 s2 wall sched
  have abandoned : s1.shore.queue = fs := by
    dsimp only [s1]
    split
    · exact Only.queue (maintAbandoned_only (.refl s) (.of_all rfl)) h
    · exact h
  have closing : s2.shore.queue = fs :=
    Only.queue (setSched_only (.refl s1.edgeAbandon) (.of_all rfl)) (edgeAbandon_queue abandoned)
  exact ite_queue h closing

theorem tearDown_queue {r : Run} {outcome code : Nat} {halt : Bool} (h : s.shore.queue = fs) :
    (s.tearDown r outcome code halt).shore.queue = fs :=
  tearStart_queue (ite_queue (Only.queue (haltClient_only (.refl s) (.of_all rfl)) h) h)

theorem tearEnd_queue {r : Run} {t : Teardown} {d : Nat} (h : s.shore.queue = fs) :
    (s.tearEnd r t d).shore.queue = fs := by
  unfold tearEnd
  extract_lets s1 e u sched s2 v sched' s3
  have dropped : s1.shore.queue = fs :=
    Only.queue (dropReports_only (.refl s.closeTeardown) (.of_all rfl)) (closeTeardown_queue h)
  have counted : u.shore.queue = fs := by
    dsimp only [u]
    exact inc64_queue dropped
  clear_value u
  have ended (x : Option Entry) : (s2.endRun r x).shore.queue = fs :=
    Only.queue (endRun_only (.refl s2) (.of_all rfl)) (setSchedule_queue counted)
  have torn : s3.shore.queue = fs :=
    ite_queue (ended none) (ite_queue (setSchedule_queue (ended none)) (ended (some e)))
  exact Only.queue (lullFollows_only (.refl s3.unbalanced) (.of_all rfl)) (unbalanced_queue torn)

theorem tearNow_queue {r : Run} (h : s.shore.queue = fs) : (s.tearNow r).shore.queue = fs := by
  unfold tearNow
  extract_lets s1
  have down : s1.shore.queue = fs := tearDown_queue h
  split
  · exact tearEnd_queue down
  · exact down

/-- With another schedule, SCHED_STATE 0 and the rings following. -/
theorem idle_queue {x : Sched} (h : s.shore.queue = fs) :
    (({ s with sched := x } : State).setSched 0).ringsFollow.shore.queue = fs :=
  Only.queue (ringsFollow_only (.refl (({ s with sched := x } : State).setSched 0)) (.of_all rfl))
    (Only.queue (setSched_only (.refl _) (.of_all rfl)) (setSchedule_queue h))

theorem warmStart_queue (h : s.shore.queue = fs) : s.warmStart.shore.queue = fs := by
  unfold warmStart
  extract_lets nv s1 s2 sched s3 heads bank w
  have torn : s2.shore.queue = fs := by
    dsimp only [s2]
    split
    · exact tearNow_queue (s := s1) h
    · exact h
  clear_value s2
  have owed : s3.shore.queue = fs := by
    dsimp only [s3]
    split
    · exact Only.queue (addEntry_only (.refl _) (.of_all rfl)) (setSchedule_queue torn)
    · exact torn
  clear_value s3
  have rings : heads.shore.queue = fs := by
    dsimp only [heads]
    refine foldl_queue (fun t c ht => ?_) owed
    split
    · exact ite_queue ht (Only.queue (setCReg_only (.refl t) (.of_all rfl)) ht)
    · exact ht
  clear_value heads
  have banks : ((List.range 64).foldl bank heads).shore.queue = fs :=
    foldl_queue (fun t b ht =>
      have counted : (t.scrubAccount b).shore.queue = fs := Only.queue (scrubAccount_only (.refl t) (.of_all rfl)) ht
      ite_queue counted counted) rings
  exact idle_queue (Only.queue (shadowEmpty_only (.refl _) (.of_all rfl)) banks)

/-! ### Power and self-tests -/

theorem miswire_queue {p : Nat} (h : s.shore.queue = fs) : (s.miswire p).shore.queue = fs := by
  unfold miswire
  exact eventNote_queue (setSticky_queue (setNum_queue (setNum_queue (setNum_queue h))))

theorem trainPorts_queue {ps : List Nat} (h : s.shore.queue = fs) : (s.trainPorts ps).shore.queue = fs :=
  foldl_queue (fun _ _ ht => ite_queue ht (ite_queue ht (miswire_queue ht))) h

theorem powerActive_queue (h : s.shore.queue = fs) : s.powerActive.shore.queue = fs := by
  unfold powerActive
  extract_lets u power s1 s2 tide
  have cleared : s1.shore.queue = fs := h
  clear_value s1
  have trained : (s1.scrubAccounts.trainPorts (List.range 8)).shore.queue = fs :=
    trainPorts_queue (Only.queue (scrubAccounts_only (.refl s1) (.of_all rfl)) cleared)
  have waking (u : State) (hu : u.shore.queue = fs) : u.enterWaking.shore.queue = fs :=
    Only.queue (enterWaking_only (.refl u) (.of_all rfl)) hu
  exact ite_queue (waking s1 cleared) (ite_queue (setTide_queue (waking _ trained)) cleared)

theorem powerHold_queue {a : Bool} (h : s.shore.queue = fs) : (s.powerHold a).shore.queue = fs := by
  unfold powerHold
  extract_lets d u power s1
  split
  · exact ite_queue (tearDown_queue (s := s1) h) h
  · exact Only.queue (lullFollows_only (.refl s1) (.of_all rfl)) h

theorem testRequest_queue {kind bank : Nat} (h : s.shore.queue = fs) : (s.testRequest kind bank).shore.queue = fs := by
  unfold testRequest queueTest
  extract_lets power j sched
  exact ite_queue h
    (settle_queue (Only.queue (eventIfFree_only (.refl _) (.of_all rfl)) (setSchedule_queue h)))

end State

end Sys2Proof.Machine
end

section
/-!
SUPPORT. No request that is judged changes the queue of the management port (spec/18: R811, R825 to R828, R836 to R845): what
writes of objects, lease requests and block transfers leave of it.
-/

namespace Sys2Proof.Machine

namespace State

variable {s : State} {fs : List Request}

/-! ### The commit of a value -/

theorem enableWritten_queue {g v : Nat} (h : s.shore.queue = fs) : (s.enableWritten g v).shore.queue = fs :=
  ite_queue h (ite_queue
    (settle_queue (Only.queue (enableGenerator_only (.refl s) (.of_all rfl)) h))
    (settle_queue (Only.queue (disableGenerator_only (.refl s) (.of_all rfl)) h)))

theorem clientEnableWritten_queue {c v : Nat} (h : s.shore.queue = fs) : (s.clientEnableWritten c v).shore.queue = fs :=
  settle_queue (ite_queue
    (Only.queue (eventIfFree_only (.refl (s.setNum _ _)) (.of_all rfl)) (setNum_queue h)) (setNum_queue h))

theorem fieldCountWritten_queue {t v : Nat} (h : s.shore.queue = fs) : (s.fieldCountWritten t v).shore.queue = fs := h

/-- A CTRL number written: the settling of the job choice, the field count and the PLCA mark are all that writes the port's own
state. -/
theorem ctrlWritten_queue {k v : Nat} (h : s.shore.queue = fs) : (s.ctrlWritten k v).shore.queue = fs := by
  unfold ctrlWritten
  extract_lets i j t
  have stored : t.shore.queue = fs := setNum_queue h
  clear_value t
  refine ite_queue (enableWritten_queue h) ?_
  refine ite_queue (clientEnableWritten_queue h) ?_
  refine ite_queue (settle_queue stored) ?_
  refine ite_queue (Only.queue (bankSetWritten_only (.refl s) (.of_all rfl)) h) ?_
  refine ite_queue (Only.queue (bankConfig_only (.refl s) (.of_all rfl) fun _ => rfl) h) ?_
  refine ite_queue (Only.queue (holeWritten_only (.refl s) (.of_all rfl)) h) ?_
  refine ite_queue (Only.queue (setInvStep_only (.refl t) (.of_all rfl)) stored) ?_
  refine ite_queue (fieldCountWritten_queue h) ?_
  refine ite_queue (Only.queue (functionWritten_only (.refl s) (.of_all rfl)) h) ?_
  refine ite_queue (Only.queue (polarityChanged_only (.refl t) (.of_all rfl)) stored) ?_
  refine ite_queue (ite_queue stored stored) ?_
  refine ite_queue (setTide_queue stored) ?_
  refine ite_queue (Only.queue (paramWritten_only (.refl t) (.of_all rfl)) stored) ?_
  refine ite_queue stored ?_
  refine ite_queue (Only.queue (unitsWritten_only (.refl s) (.of_all rfl)) h) ?_
  refine ite_queue (setNum_queue (Only.queue (scrubAccounts_only (.refl s) (.of_all rfl)) h)) ?_
  exact ite_queue (Only.queue (temperatures_only (.refl t) (.of_all rfl)) stored) stored

theorem commitNum_queue {k v : Nat} {r : ObjRow} (h : s.shore.queue = fs) : (s.commitNum k r v).shore.queue = fs := by
  unfold commitNum
  extract_lets t
  have cleared : t.shore.queue = fs := h
  split
  · exact setNum_queue cleared
  · exact Only.queue (forcedWritten_only (.refl t) (.of_all rfl) fun _ => rfl) cleared
  · exact setNum_queue cleared
  · exact ctrlWritten_queue (noteNum_queue cleared)

theorem commitOcts_queue {k : Nat} {l : List Byte} (h : s.shore.queue = fs) : (s.commitOcts k l).shore.queue = fs :=
  ite_queue h (ite_queue h (ite_queue h (ite_queue h (ite_queue h h))))

theorem restoreObject_queue {k : Nat} (h : s.shore.queue = fs) : (s.restoreObject k).shore.queue = fs := by
  unfold restoreObject
  split
  · exact h
  · exact ite_queue (ite_queue h h) (commitNum_queue h)

theorem restoreLive_queue (h : s.shore.queue = fs) : s.restoreLive.shore.queue = fs :=
  foldl_queue (fun _ _ h => restoreObject_queue h) h

/-! ### The lease -/

theorem setLease_queue {st mac reason : Nat} {d : Bool} (h : s.shore.queue = fs) :
    (s.setLease st mac d reason).shore.queue = fs := by
  unfold setLease
  extract_lets w shore s1
  exact notify_queue (inc32_queue h)

theorem setTimer_queue {ms : Nat} (h : s.shore.queue = fs) : (s.setTimer ms).shore.queue = fs := h

theorem leaseBack_queue {reason : Nat} (h : s.shore.queue = fs) : (s.leaseBack reason).shore.queue = fs :=
  ite_queue (setTimer_queue (setLease_queue h)) (setLease_queue h)

theorem answer_queue {α : Type} {a : α} (h : s.shore.queue = fs) : (a, s).2.shore.queue = fs := h

/-- A choice between two answers, each with its state. -/
theorem ite_answer_queue {x y : Answer × State} {c : Prop} [Decidable c] (hx : x.2.shore.queue = fs)
    (hy : y.2.shore.queue = fs) : (if c then x else y).2.shore.queue = fs := by
  split <;> assumption

variable {q : Request}

theorem leaseClaim_queue (h : s.shore.queue = fs) : (s.leaseClaim q).2.shore.queue = fs := by
  have refused (code : Nat) : (s.claimRefused code).2.shore.queue = fs := answer_queue (inc32_queue h)
  unfold leaseClaim
  split
  · exact h
  split
  · exact ite_answer_queue (answer_queue (setTimer_queue (setLease_queue h)))
      (ite_answer_queue (answer_queue (setTimer_queue h)) (refused _))
  · refine ite_answer_queue (refused _) (ite_answer_queue ?_ (ite_answer_queue h (refused _)))
    exact ite_answer_queue (answer_queue (setLease_queue h)) (refused _)

theorem leaseRenew_queue (h : s.shore.queue = fs) : (s.leaseRenew q).2.shore.queue = fs := by
  unfold leaseRenew
  split
  · exact h
  · exact ite_answer_queue (setTimer_queue h) h

theorem leaseRelease_queue (h : s.shore.queue = fs) : (s.leaseRelease q).2.shore.queue = fs := by
  unfold leaseRelease
  exact ite_answer_queue h (ite_answer_queue (answer_queue (leaseBack_queue h)) (answer_queue (setLease_queue h)))

theorem leaseDelegate_queue (h : s.shore.queue = fs) : (s.leaseDelegate q).2.shore.queue = fs := by
  unfold leaseDelegate
  exact ite_answer_queue (answer_queue (setLease_queue h)) h

theorem leaseRecall_queue (h : s.shore.queue = fs) : (s.leaseRecall q).2.shore.queue = fs := by
  unfold leaseRecall
  split
  · exact h
  · exact ite_answer_queue (answer_queue (setTimer_queue (setLease_queue h))) h

/-! ### Objects and block transfers -/

variable {k : Nat} {r : ObjRow} {cmd : State → State}

theorem readObject_queue (h : s.shore.queue = fs) : (s.readObject k r).2.shore.queue = fs := by
  unfold readObject
  split
  · exact Only.queue (storageError_only (.refl s) (.of_all rfl)) h
  split
  · refine answer_queue ?_
    split
    · exact ite_queue (setSticky_queue h) h
    · exact h
  split
  · split
    · extract_lets m
      have read : m.2.2.shore.queue = fs := memRead_queue h
      split
      · exact answer_queue (inc32_queue read)
      · exact answer_queue read
    · exact h
  · exact h

/-- A whole value written: the command of an accepted command object is all that is left to say. -/
theorem writeObject_queue {l : List Byte} (hcmd : ∀ t : State, t.shore.queue = fs → (cmd t).shore.queue = fs)
    (h : s.shore.queue = fs) : (s.writeObject k r l cmd).2.shore.queue = fs := by
  unfold writeObject
  refine ite_answer_queue (inc32_queue h) (ite_answer_queue ?command ?value)
  case command => exact ite_answer_queue h (ite_answer_queue h (ite_answer_queue h (hcmd _ h)))
  case value =>
    exact ite_answer_queue h (ite_answer_queue h (ite_answer_queue (commitOcts_queue h) (commitNum_queue h)))

theorem putTransfer_queue {x : Transfer} (h : s.shore.queue = fs) : (s.putTransfer x).shore.queue = fs := h

theorem closeTransfer_queue {src : Source} (h : s.shore.queue = fs) : (s.closeTransfer src).shore.queue = fs := h

theorem blockReadInit_queue (h : s.shore.queue = fs) : (s.blockReadInit q k r).2.shore.queue = fs := by
  unfold blockReadInit
  have read : (s.readObject k r).2.shore.queue = fs := readObject_queue h
  refine ite_answer_queue h (ite_answer_queue h ?_)
  dsimp only
  split
  · exact read
  · exact putTransfer_queue read

theorem blockWriteInit_queue (h : s.shore.queue = fs) : (s.blockWriteInit q k r).2.shore.queue = fs :=
  ite_answer_queue h (ite_answer_queue h (ite_answer_queue h (putTransfer_queue h)))

theorem blockReadSegment_queue (h : s.shore.queue = fs) : (s.blockReadSegment q).2.shore.queue = fs := by
  unfold blockReadSegment
  split
  · exact h
  · exact ite_answer_queue (putTransfer_queue h) (ite_answer_queue (putTransfer_queue h) (putTransfer_queue h))

theorem blockWriteSegment_queue (h : s.shore.queue = fs) : (s.blockWriteSegment q).2.shore.queue = fs := by
  unfold blockWriteSegment
  split
  · exact h
  · exact ite_answer_queue (putTransfer_queue h) (ite_answer_queue (putTransfer_queue h) (putTransfer_queue h))

theorem endWrite_queue {t : Transfer} (h : s.shore.queue = fs) : (s.endWrite q k r t).2.shore.queue = fs :=
  ite_answer_queue h (ite_answer_queue h (writeObject_queue (cmd := id) (fun _ h => h) h))

theorem blockEnd_queue (h : s.shore.queue = fs) : (s.blockEnd q k r).2.shore.queue = fs := by
  unfold blockEnd
  split
  · exact endWrite_queue (closeTransfer_queue h)
  · exact closeTransfer_queue h
  · exact h

/-! ### The judgement of a request -/

theorem objectRequest_queue (hcmd : ∀ t : State, t.shore.queue = fs → (cmd t).shore.queue = fs) (h : s.shore.queue = fs) :
    (s.objectRequest q r cmd).2.shore.queue = fs := by
  unfold objectRequest
  extract_lets k
  split
  · exact readObject_queue h
  · exact writeObject_queue hcmd h
  · exact blockReadInit_queue h
  · exact blockReadSegment_queue h
  · exact blockWriteInit_queue h
  · exact blockWriteSegment_queue h
  · exact blockEnd_queue h

/-- A request that is judged leaves the queue alone, if the command that it may carry does. -/
theorem judge_queue (hcmd : ∀ t : State, t.shore.queue = fs → (cmd t).shore.queue = fs) (h : s.shore.queue = fs) :
    (s.judge q cmd).2.shore.queue = fs := by
  unfold judge
  extract_lets header code
  refine ite_answer_queue h (ite_answer_queue h (ite_answer_queue ?object ?port))
  case object =>
    refine ite_answer_queue (ite_queue (closeTransfer_queue h) h) ?_
    split
    · exact objectRequest_queue hcmd h
    · exact h
  case port =>
    split
    · exact closeTransfer_queue h
    · exact leaseClaim_queue h
    · exact leaseRenew_queue h
    · exact leaseRelease_queue h
    · exact leaseDelegate_queue h
    · exact leaseRecall_queue h
    · exact h

end State

end Sys2Proof.Machine
end

section
/-!
SUPPORT. How a request is answered (spec/18: R818, R823, R829, R830, R834, R835): the octets of a response, the command of each
row, the answer that goes out, and what becomes of a duplicate and of a frame received.
-/

namespace Sys2Proof.Machine

/-! ### The response -/

/-- Every answer is an SDU with the opcode of the request raised by 80h, and its object. -/
theorem answerSdu_eq_sduOf (q : Request) (a : Answer) :
    ∃ result body, answerSdu q a = sduOf (q.opcode + 0x80) result q.index q.sub body := by
  cases a <;> exact ⟨_, _, rfl⟩

theorem answerSdu_opcode (q : Request) (a : Answer) : (answerSdu q a).take 1 = leBytes 1 (q.opcode + 0x80) := by
  obtain ⟨result, body, h⟩ := answerSdu_eq_sduOf q a
  rw [h]
  simp [sduOf, leBytes]

theorem answerSdu_object (q : Request) (a : Answer) :
    ((answerSdu q a).drop 4).take 3 = beBytes 2 q.index ++ leBytes 1 q.sub := by
  obtain ⟨result, body, h⟩ := answerSdu_eq_sduOf q a
  rw [h]
  simp [sduOf, leBytes, beBytes]

namespace State

variable {s t : State} {q : Request} {mac : Nat}

@[simp] theorem inc32_out (s : State) (k n : Nat) : (s.inc32 k n).out = s.out := by
  unfold inc32
  split <;> rfl

@[simp] theorem inc32_sched (s : State) (k n : Nat) : (s.inc32 k n).sched = s.sched := by
  unfold inc32
  split <;> rfl

@[simp] theorem sendFrame_out (s : State) (dest seq : Nat) (sdu : List Byte) :
    (s.sendFrame dest seq sdu).out = s.out ++ [.frame dest seq sdu] := by
  unfold sendFrame
  rw [inc64_out, emit]

@[simp] theorem storeResponse_out (s : State) (seq : Nat) (sdu : List Byte) : (s.storeResponse mac seq sdu).out = s.out := by
  unfold storeResponse
  split <;> rfl

theorem storeResponse_queue {fs : List Request} {seq : Nat} {sdu : List Byte} (h : s.shore.queue = fs) :
    (s.storeResponse mac seq sdu).shore.queue = fs := by
  unfold storeResponse
  split <;> exact h

/-- The counts of an abort (Table 18-12). -/
def abortCounted (s : State) (q : Request) : Answer → State
  | .aborted c => ((s.inc32 Obj.ABORTS 1).setNum Obj.LAST_ABORT c).setNum Obj.LAST_ABORT_OBJECT (q.index * 256 + q.sub)
  | _ => s

@[simp] theorem abortCounted_out (s : State) (q : Request) (a : Answer) : (s.abortCounted q a).out = s.out := by
  cases a with
  | aborted c => exact inc32_out ..
  | _ => rfl

theorem abortCounted_queue {fs : List Request} {a : Answer} (h : s.shore.queue = fs) :
    (s.abortCounted q a).shore.queue = fs := by
  cases a with
  | aborted c => exact setNum_queue (setNum_queue (inc32_queue h))
  | _ => exact h

theorem finish_port (h : q.src = .port mac) (a : Answer) : s.finish q a =
    ((s.abortCounted q a).storeResponse mac q.seq (answerSdu q a)).sendFrame mac q.seq (answerSdu q a) := by
  cases a <;> simp only [finish, h, abortCounted]

theorem finish_mailbox (h : q.src = .mailbox) (a : Answer) :
    s.finish q a = (s.abortCounted q a).mailboxReply (answerSdu q a) := by
  cases a <;> simp only [finish, h, abortCounted]

/-- The answer to a node is one frame, and it leaves the queue alone. -/
theorem replies_port (h : q.src = .port mac) (a : Answer) :
    (s.replies q a).out = s.out ++ [.frame mac q.seq (answerSdu q a)] ∧ (s.replies q a).shore.queue = s.shore.queue := by
  rw [replies, finish_port h]
  constructor
  · simp
  · exact Only.queue (sendFrame_only (.refl _) (.of_all rfl)) (storeResponse_queue (abortCounted_queue (inc64_queue rfl)))

/-- A global vector raised changes the vectors due alone. -/
theorem raiseGlobal_host (s : State) (i : Nat) : ∃ due, (s.raiseGlobal i).host = { s.host with due := due } := by
  unfold raiseGlobal raiseVector
  split
  · split <;> exact ⟨_, rfl⟩
  · exact ⟨_, rfl⟩

/-- The answer to the mailbox stands in its response area, and the mailbox is free. -/
theorem mailboxReply_answers (s : State) (sdu : List Byte) :
    (s.mailboxReply sdu).host.request = none ∧ (s.mailboxReply sdu).host.busy = false ∧
      (s.mailboxReply sdu).host.ready = true ∧
      Store.getMany zeroByte (s.mailboxReply sdu).host.mailbox 0x880 sdu.length = sdu := by
  unfold mailboxReply
  extract_lets host s1
  obtain ⟨due, hhost⟩ := (s1.regSet 0x10008 (setBit (s1.regGet 0x10008) 0 true)).raiseGlobal_host 3
  rw [hhost]
  exact ⟨rfl, rfl, rfl, Store.getMany_setMany⟩

/-! ### Requests -/

/-- A header error is the answer (Table 18-9a orders 1 to 4). -/
theorem judge_of_headerCode (h : headerCode q ≠ 0) (cmd : State → State) : s.judge q cmd = (.aborted (headerCode q), s) :=
  if_pos h

theorem heard_queue_port (h : q.src = .port mac) : (s.heard q).shore.queue = s.shore.queue.drop 1 := by
  simp only [heard, dequeue, h]
  rfl

/-- Every row that answers requests carries them out by a command that leaves the queue alone. -/
theorem exec_row (s : State) {row : Row} (hrow : row ≠ .notifyAck ∨ q.src = .mailbox) :
    ∃ cmd : State → State, exec (row.command q) s = s.answer row q cmd ∧
      ∀ (fs : List Request) (t : State), t.shore.queue = fs → (cmd t).shore.queue = fs := by
  cases row with
  | retireCourse => exact ⟨_, rfl, fun _ _ h => retirePending_queue h⟩
  | tablesApply => exact ⟨_, rfl, fun _ _ h => h⟩
  | retireBlock => exact ⟨_, rfl, fun _ _ h => retireBlock_queue h⟩
  | regionsApply => exact ⟨_, rfl, fun _ _ h => h⟩
  | embApply => exact ⟨_, rfl, fun _ _ h => h⟩
  | nvCommit => exact ⟨_, rfl, fun _ t h => Only.queue (nvCommit_only (.refl t) (.of_all rfl)) h⟩
  | eraseImages => exact ⟨_, rfl, fun _ t h => Only.queue (beginErase_only (.refl t) (.of_all rfl)) h⟩
  | restoreFactoryLive =>
    refine ⟨_, rfl, fun _ t h => ite_queue ?_ (restoreLive_queue h)⟩
    exact Only.queue (beginErase_only (.refl t.restoreLive) (.of_all rfl)) (restoreLive_queue h)
  | warmReset => exact ⟨_, rfl, fun _ _ h => warmStart_queue (setNum_queue h)⟩
  | startRelease => exact ⟨_, rfl, fun _ _ h => ite_queue h h⟩
  | powerActive => exact ⟨_, rfl, fun _ _ h => powerActive_queue h⟩
  | powerLull => exact ⟨_, rfl, fun _ t h => Only.queue (powerLull_only (.refl t) (.of_all rfl)) h⟩
  | powerHold => exact ⟨_, rfl, fun _ _ h => powerHold_queue h⟩
  | brickLogic | brickSram | selection | csaBank | sensors => exact ⟨_, rfl, fun _ _ h => testRequest_queue h⟩
  | notifyAck =>
    have hsrc : fromPort q = false := by simp [fromPort, hrow.resolve_left (fun h => h rfl)]
    refine ⟨id, ?_, fun _ _ h => h⟩
    exact if_neg (by simp [hsrc])
  | _ => exact ⟨id, rfl, fun _ _ h => h⟩

/-! ### Duplicates -/

/-- Taking a request changes the management port's own state alone, and there not what is kept of its nodes. -/
theorem dequeue_eq (s : State) (q : Request) :
    ∃ p : Shore, s.dequeue q = { s with shore := p } ∧ p.sources = s.shore.sources := by
  unfold dequeue
  split <;> exact ⟨_, rfl, rfl⟩

theorem sourceOf_congr (h : t.shore.sources = s.shore.sources) : t.sourceOf mac = s.sourceOf mac := by
  rw [sourceOf, h, sourceOf]

/-- A duplicate is taken from its queue, and is not judged (R830). -/
theorem serve_of_duplicate (hsrc : q.src = .port mac) (hotp : s.nv.otp.bad = false) (h : s.isDuplicate mac q.seq = true)
    (cmd : State → State) : s.serve q cmd = (s.dequeue q).resend mac q.seq := by
  obtain ⟨p, taken, sources⟩ := s.dequeue_eq q
  have hdup : ({ s with shore := p } : State).isDuplicate mac q.seq = true := by rwa [isDuplicate, sourceOf_congr sources]
  simp [serve, hsrc, taken, hotp, hdup]

theorem exec_duplicate (hsrc : q.src = .port mac) (hheld : s.held = false) (hwaits : s.waits q = true)
    (hotp : s.nv.otp.bad = false) (hrow : rowOfRequest q ≠ .notifyAck) (h : s.isDuplicate mac q.seq = true) :
    exec ((rowOfRequest q).command q) s = .next ((s.dequeue q).resend mac q.seq) := by
  obtain ⟨cmd, run, -⟩ := exec_row s (.inl hrow)
  rw [run, answer, live_true hheld (by simp [hwaits]), serve_of_duplicate hsrc hotp h]

theorem sendFrame_num_ne {dest seq k : Nat} {sdu : List Byte} (h : Obj.FRAMES_SENT ≠ k) :
    (s.sendFrame dest seq sdu).num k = s.num k := inc64_num_ne h

theorem sendFrame_sched (s : State) (dest seq : Nat) (sdu : List Byte) : (s.sendFrame dest seq sdu).sched = s.sched :=
  (sendFrame_only (.refl s) (.among _)).same .sched (by decide)

/-- A duplicate whose response is kept is answered with it. -/
theorem resend_of_stored {seq : Nat} {x : SourceState} {y : Nat × List Byte} (hx : s.sourceOf mac = some x)
    (hy : x.responses.find? (fun p => p.1 == seq) = some y) :
    s.resend mac seq = ((s.putSource x).inc32 Obj.DUPLICATES_RESENT 1).sendFrame mac seq y.2 := by
  simp [resend, hx, hy]

/-- A duplicate whose response is no longer kept is dropped. -/
theorem resend_of_forgotten {seq : Nat} {x : SourceState} (hx : s.sourceOf mac = some x)
    (hy : x.responses.find? (fun p => p.1 == seq) = none) :
    s.resend mac seq = (s.putSource x).inc32 Obj.DUPLICATES_DROPPED 1 := by
  simp [resend, hx, hy]

end State

/-! ### Frames -/

theorem exec_frameReceive {s : State} {f : Frame} (hport : fromPort f.request = true) (hheld : s.held = false)
    (hstep : 8 ≤ s.nv.step) : exec (.frameReceive f) s = .next (
      if !f.fcsOk then s.inc32 Obj.FCS_ERRORS 1
      else if !frameWanted s f then s.inc32 Obj.FRAMES_DISCARDED 1
      else
        let s1 := s.inc64 Obj.FRAMES_RECEIVED 1
        if 16 ≤ s1.shore.queue.length then s1.inc32 Obj.QUEUE_DROPS 1
        else { s1 with shore := { s1.shore with
          queue := s1.shore.queue ++ [{ f.request with reserved := f.request.reserved || !frameLengthOk f }] } }) :=
  act_live hport hheld (decide_eq_true hstep)

end Sys2Proof.Machine
end

section
/-!
The requests of the management port and the mailbox (spec/18: R817, R818, R823, R829, R830, R833 to R835).
-/

namespace Sys2Proof.Machine

/-- A new request is taken from its queue, judged, and answered to its source; a header error is the answer. -/
theorem newRequest_isAnswered {s : State} {q : Request} (h : s.takes q)
    (hrow : rowOfRequest q ≠ .notifyAck ∨ q.src = .mailbox) :
    ∃ t a, exec ((rowOfRequest q).command q) s = .next t ∧
      (∀ mac, q.src = .port mac → t.shore.queue = s.shore.queue.drop 1 ∧
        t.out.getLast? = some (.frame mac q.seq (answerSdu q a))) ∧
      (q.src = .mailbox → t.host.request = none ∧ t.host.busy = false ∧ t.host.ready = true ∧
        Store.getMany zeroByte t.host.mailbox 0x880 (answerSdu q a).length = answerSdu q a) ∧
      (headerCode q ≠ 0 → a = .aborted (headerCode q)) := by
  obtain ⟨cmd, run, keeps⟩ := State.exec_row s hrow
  refine ⟨_, ((s.heard q).judge q cmd).1, run.trans (State.answer_of_takes h rfl cmd), fun mac hsrc => ?port,
    fun hsrc => ?mailbox, fun hcode => ?header⟩
  case port =>
    obtain ⟨out, queue⟩ := State.replies_port (s := ((s.heard q).judge q cmd).2) hsrc ((s.heard q).judge q cmd).1
    exact ⟨queue.trans (State.judge_queue (keeps _) (State.heard_queue_port hsrc)), by rw [out]; exact List.getLast?_concat⟩
  case mailbox =>
    rw [State.replies, State.finish_mailbox hsrc]
    exact State.mailboxReply_answers ..
  case header => rw [State.judge_of_headerCode hcode]

/-- Settles O57: a new request is judged, which leaves the queue alone, and its answer goes out; a duplicate meets the response
kept for its SEQUENCE, or none; a frame received joins the queue or is counted. -/
theorem requestsAreAnsweredOnce : Obligations.RequestsAreAnsweredOnce := by
  refine ⟨fun s q h hrow => ?new, fun s q mac hsrc hheld hwaits hotp hrow hdup => ?duplicate,
    fun s f hport hheld hstep => ?frame⟩
  case new =>
    obtain ⟨t, a, run, port, mailbox, header⟩ := newRequest_isAnswered h hrow
    exact ⟨t, a, run, port, mailbox, answerSdu_opcode q a, answerSdu_object q a, header⟩
  case duplicate =>
    have run := State.exec_duplicate hsrc hheld hwaits hotp hrow hdup
    obtain ⟨p, taken, sources⟩ := s.dequeue_eq q
    rw [taken] at run
    refine ⟨fun x y hx hy => ?stored, fun x hx hy => ?forgotten⟩
    case stored =>
      rw [State.resend_of_stored ((State.sourceOf_congr sources).trans hx) hy] at run
      refine ⟨_, run, by rw [State.sendFrame_out, State.inc32_out]; rfl, ?_, ?_⟩
      · rw [State.sendFrame_sched, State.inc32_sched]
        rfl
      · rw [State.sendFrame_num_ne (by decide)]
        exact State.num_inc32_congr rfl rfl
    case forgotten =>
      rw [State.resend_of_forgotten ((State.sourceOf_congr sources).trans hx) hy] at run
      exact ⟨_, run, by rw [State.inc32_out]; rfl, by rw [State.inc32_sched]; rfl, State.num_inc32_congr rfl rfl⟩
  case frame =>
    have queue : (s.inc64 Obj.FRAMES_RECEIVED 1).shore.queue = s.shore.queue := State.inc64_queue rfl
    rw [exec_frameReceive hport hheld hstep]
    refine ⟨fun hfcs => by simp [hfcs], fun hfcs hwanted => by simp [hfcs, hwanted],
      fun hfcs hwanted hlength => ⟨fun hroom => ?joins, fun hfull => ?dropped⟩⟩
    case joins =>
      simp only [hfcs, hwanted, hlength, queue, Nat.not_le.2 hroom]
      exact ⟨_, rfl, by simp, rfl⟩
    case dropped =>
      simp only [hfcs, hwanted, queue, hfull]
      have counted := State.Only.badObj_eq (State.inc64_only (k := Obj.FRAMES_RECEIVED) (n := 1) (.refl s) rfl)
      exact ⟨_, rfl, State.inc32_queue queue, State.num_inc32_congr counted (State.inc64_num_ne (by decide))⟩

end Sys2Proof.Machine
end
